-- ==== Sys2Proof/Word.lean ====
section
/-! DEFINITION. The word types of the model: bytes and 64-bit registers (00 R6). -/

namespace Sys2Proof

/-- One byte. -/
abbrev Byte := BitVec 8

/-- The contents of one register (00 R6: every register is 64 bits wide). -/
abbrev Word := BitVec 64

end Sys2Proof
end

