-- ==== Sys2Proof/Syntax.lean ====
section
/-! DEFINITION. The commands. -/
namespace Sys2Proof

/-- Catalogue types (00 R12, and I16 of 16 R487). -/
inductive CatType where
  | u8 | u16 | u32 | u64 | i32 | f32 | bool | str | blob | i16
  deriving DecidableEq, Repr

/-- What a TRAIN frame reports of its sender (11 R312): ring identity, ring size, position, whether it faces east, engine index, stepping
byte (R2), and the eight RING_VC.SHARE fields; and the loss its receiver measured, in 0.01 dB (R313). -/
structure TrainInfo where
  ringId : Nat
  size : Nat
  pos : Nat
  east : Bool
  engine : Nat
  stepping : Nat
  shares : List Nat
  loss : Nat
  deriving DecidableEq, Repr

/-- What a frame's payload and AUX field say where the manual gives their meaning and no layout (log entry 40): the target, token and length of
a put (11 R322), credits by virtual channel (R310), the sequence number of a RETRY frame (R309), what TRAIN carries (R312), the transmit lane to
move (R304), an acknowledgement or a refusal of a transfer (R322, R323), a reduction's figures, with R where the result has it while Q is in AUX
(R325), a verdict with its lowest entry and the rank that found it (R328), and the check value of a line record (R331). A put has a number of its
sender's, which the answer to it repeats (log entry 134). -/
inductive FrameBody where
  | none
  | put (desc : List Byte) (token : Option Nat) (total number : Nat)
  | credits (l : List (Nat × Nat))
  | retry (seq : Nat)
  | train (t : TrainInfo)
  | laneMove (fibre lane : Nat)
  | ack (origin number : Nat)
  | refusal (number : Nat)
  | figures (r : Option Nat)
  | verdict (found : Option (Nat × Nat))
  | record (check : Nat)
  deriving DecidableEq, Repr

/-- Who sends a memory request: a unit of the device for its work, a vector thread, a free check unit, a core in a mode (0 U, 1 S, 2 M), or a host
through a link (12 R351, R352, R355, 17 R494). -/
inductive Requester where
  | unit | thread | freeUnit
  | core (mode : Nat)
  | port (link : Nat)
  deriving DecidableEq, Repr

/-- What the stack's cells show when a request reads them (05 R151): nothing wrong, an error corrected, an error found and not corrected in a piece
of the block, or other bytes in the piece than were written, which no correction code noticed (12 R353). -/
inductive MemErr where
  | none | corrected
  | uncorrectable (piece : Nat)
  | altered (bytes : List Byte)
  deriving DecidableEq, Repr

/-- What a memory request carries beside its address (05 R139, R148, 15 R452): the master identity, the partition whose waybill a device engine
runs, the issuing die and unit, the waybill, SEALCHK of the descriptor, the requester's kind, what the cells show, and whether the request
still holds its slot when the next command comes. -/
structure MemOp where
  master : Nat
  part : Option Nat
  die : Nat
  unit : Nat
  waybill : Nat
  sealchk : Bool
  requester : Requester
  err : MemErr
  stays : Bool
  deriving DecidableEq, Repr

/-- How a register access arrives (01 R20, 14 R404, R405): from a master on the package, through BAR0 of a link, or to the MSI-X table of BAR4. -/
inductive Route where
  | master (m : Nat)
  | bar0 (link : Nat)
  | bar4 (link : Nat)
  deriving DecidableEq, Repr

/-- A PCIe configuration request (14 R410; the registers are those of the standard and of R403): the identity, a base address register, the
command register, the MSI-X control, the status registers of Advanced Error Reporting, whose bits a write of 1 clears, and its correctable error
mask (R401), the move to D3hot, and the root's turn-off message after it, which takes the link to L2. -/
inductive CfgReq where
  | readIdentity
  | readBar (i : Nat)
  | writeBar (i value : Nat)
  | readCommand
  | writeCommand (value : Nat)
  | readMsix
  | writeMsix (enable mask : Bool)
  | readUncorrectable
  | clearUncorrectable (bits : Nat)
  | readCorrectable
  | clearCorrectable (bits : Nat)
  | readCorrectableMask
  | writeCorrectableMask (bits : Nat)
  | toD3hot
  | turnOff
  deriving DecidableEq, Repr

/-- A frame on an AVSBus (16 R476): a response that acknowledges a Voltage write or does not, and a Status that reports the transition done or
under way. -/
inductive AvsReply where
  | ack | nack | done | busy
  deriving DecidableEq, Repr

/-- What the wake detectors of HOLD see (16 R479): a private I3C transfer header with an address; the bytes of a 10BASE-T1S frame from its destination
address to its FCS; a rising edge of PEn_PERST_N, with the strap PEn_BIFUR and what the port's links will train to. -/
inductive WakeEvent where
  | i3c (addr : Nat)
  | t1s (frame : List Byte)
  | perst (port : Nat) (bifur : Bool) (train : List (Option (Nat × Nat × Bool)))
  deriving DecidableEq, Repr

/-- What a message of the Catalogue protocol carries beside its body (15 R438 to R442): the transport (1 10BASE-T1S, 2 I3C, 3 mailbox), SOURCE as
15 R444 gives it; of a 10BASE-T1S packet the IPv6 destination, the UDP port and whether it has an extension header; VER, whether every zero field of
the header and the body is zero, FRAG, LEN and MORE of each fragment as they arrived, TXID, SESSION and the TAG. -/
structure ReqHead where
  transport : Nat
  source : List Byte
  dest : List Byte
  port : Nat
  extension : Bool
  ver : Nat
  zeros : Bool
  frags : List (Nat × Nat × Bool)
  txid : Nat
  session : Nat
  tag : List Byte
  deriving DecidableEq, Repr

/-- What a Catalogue write meets (15 R434, 16 R469): whether the flash takes a persistent value, and the physical cores, as 9 n + k, that run their
identity and are not in a WFI with every interrupt masked. -/
structure WriteEnv where
  flashOk : Bool
  cores : List Nat
  deriving DecidableEq, Repr

/-- The common command codes of the I3C target port (15 R439), with the addresses and values they carry; `target` is none for the broadcast form. -/
inductive I3cCcc where
  | enec (target : Option Nat) (events : Nat)
  | disec (target : Option Nat) (events : Nat)
  | rstdaa
  | entdaa (addr : Nat)
  | setdasa (static addr : Nat)
  | setmwl (target : Option Nat) (n : Nat)
  | setmrl (target : Option Nat) (n : Nat)
  | getmwl (addr : Nat)
  | getmrl (addr : Nat)
  | getpid (addr : Nat)
  | getbcr (addr : Nat)
  | getdcr (addr : Nat)
  | getstatus (addr : Nat)
  | rstact (target : Option Nat) (action : Nat)
  deriving DecidableEq, Repr

/-- The commands of the block: one for each row of the table, in its order. A number names a unit by its identifier (04 R98), a queue as
2048 n + i, a waybill of a unit by its queue and sequence number, a die by its number d (05 R135), a ring or curvature engine, stack, link
or port by its index. -/
inductive Instr where
  /-- 00 R9. -/
  | registerWrite (route : Route) (off size data : Nat)
  /-- 00 R10. -/
  | rcRead (route : Route) (off size : Nat)
  /-- 04 R101. -/
  | dockQcfgWrite (route : Route) (queue data : Nat)
  /-- 04 R102. -/
  | doorbell (route : Route) (queue data : Nat)
  /-- 04 R103. -/
  | waybillAccept (unit : Nat)
  /-- 04 R111. -/
  | tokenWatch (unit queue seq part token : Nat)
  /-- 04 R111. -/
  | tokenNotice (unit queue seq part token : Nat)
  /-- 04 R111. -/
  | waybillStart (unit : Nat)
  /-- 04 R112. -/
  | tokenProduce (part token : Nat)
  /-- 04 R113. -/
  | tokenClear (home : Nat)
  /-- 04 R114. -/
  | waitLimitExpiry (unit : Nat)
  /-- 04 R115. -/
  | deadlineExpiry (unit : Nat)
  /-- 04 R116. -/
  | creditReturn
  /-- 04 R119. -/
  | waybillComplete (unit queue seq : Nat)
  /-- 04 R122. -/
  | abortOne (route : Route) (queue seq : Nat)
  /-- 04 R122. -/
  | abortAll (route : Route) (queue seq : Nat)
  /-- 04 R122. -/
  | abortStop (unit queue seq : Nat)
  /-- 03 R538. -/
  | mm (unit queue seq : Nat) (upsets : List (Nat × Nat))
  /-- 03 R75. -/
  | accDrain (unit : Nat)
  /-- 03 R93. -/
  | abftReplay (unit queue seq : Nat) (upsets : List (Nat × Nat))
  /-- 03 R82. -/
  | holdLimitExpiry (unit : Nat)
  /-- 03 R94. -/
  | fillerSpill (unit : Nat)
  /-- 03 R94. -/
  | spillWritebackEnd (unit : Nat)
  /-- 03 R94. -/
  | spillSlowExpiry (unit : Nat)
  /-- 11 R334. -/
  | fillerResume (unit : Nat)
  /-- 11 R335. -/
  | lendWaitExpiry (unit : Nat)
  /-- 06 R163. -/
  | load (unit queue seq : Nat)
  /-- 06 R165. -/
  | store (unit queue seq : Nat)
  /-- 06 R166. -/
  | convert (unit queue seq : Nat)
  /-- 04 R127. -/
  | threads (unit queue seq : Nat)
  /-- 04 R129. -/
  | threadInstruction (unit consist : Nat)
  /-- 04 R127. -/
  | ecall (unit consist : Nat)
  /-- 04 R130. -/
  | fnTwait (unit consist : Nat)
  /-- 04 R130. -/
  | fnTwaitWake (unit consist : Nat)
  /-- 04 R130. -/
  | fnTsig (unit consist : Nat)
  /-- 04 R130. -/
  | fnTpoll (unit consist : Nat)
  /-- 04 R130. -/
  | fnCred (unit consist : Nat)
  /-- 04 R130. -/
  | fnBscale (unit consist : Nat)
  /-- 04 R130. -/
  | fnCvt (unit consist : Nat)
  /-- 04 R130. -/
  | fnDraw (unit consist : Nat)
  /-- 06 R180. -/
  | fnSpush (unit consist : Nat)
  /-- 06 R180. -/
  | fnSpop (unit consist : Nat)
  /-- 03 R95. -/
  | fnAccrd (unit consist : Nat)
  /-- 06 R174. -/
  | sidOpen (unit queue seq : Nat)
  /-- 06 R175. -/
  | sidCarPush (unit queue seq : Nat)
  /-- 06 R176. -/
  | sidClose (unit queue seq : Nat)
  /-- 06 R177. -/
  | sidCarPop (unit queue seq : Nat)
  /-- 06 R176. -/
  | sidRelease (unit queue seq : Nat)
  /-- 06 R178. -/
  | sidBranch (unit queue seq : Nat)
  /-- 06 R177. -/
  | sidClear (unit queue seq : Nat)
  /-- 09 R252. -/
  | statfeed (unit queue seq : Nat) (upsets : List (Nat × Nat))
  /-- 09 R257. -/
  | precond (unit queue seq : Nat) (upsets : List (Nat × Nat))
  /-- 09 R264. -/
  | crvFold (unit queue seq : Nat)
  /-- 10 R289. -/
  | crvRoot (unit queue seq : Nat)
  /-- 10 R284. -/
  | crvInv (unit queue seq : Nat)
  /-- 09 R263. -/
  | timetableInstall (route : Route) (engine : Nat)
  /-- 09 R263. -/
  | timetableInstallEnd (engine : Nat)
  /-- 09 R265. -/
  | deltaPiece (engine : Nat)
  /-- 09 R266. -/
  | pieceFold (engine : Nat)
  /-- 09 R267. -/
  | feedLimitExpiry (engine : Nat)
  /-- 10 R290. -/
  | blockRefresh (unit queue seq : Nat) (stop : Option Nat)
  /-- 10 R286. -/
  | rootPublish (engine : Nat)
  /-- 08 R215. -/
  | updApply (unit queue seq : Nat)
  /-- 08 R219. -/
  | intakePiece (quartet : Nat)
  /-- 08 R220. -/
  | intakeLimitExpiry (quartet : Nat)
  /-- 08 R225. -/
  | sliceUpdate (unit queue seq slice : Nat)
  /-- 08 R238. -/
  | farwaitReturn (unit queue seq slice : Nat)
  /-- 08 R240. -/
  | updTiesum (unit queue seq : Nat)
  /-- 08 R241. -/
  | updExport (unit queue seq : Nat)
  /-- 11 R322. -/
  | ringSend (unit queue seq : Nat)
  /-- 11 R323. -/
  | ringRelay (unit queue seq : Nat)
  /-- 11 R324. -/
  | ringReduce (unit queue seq : Nat)
  /-- 11 R328. -/
  | ringDigest (unit queue seq : Nat)
  /-- 11 R331. -/
  | ringReshard (unit queue seq : Nat)
  /-- 13 R389. -/
  | ckptOpen (unit queue seq : Nat)
  /-- 13 R389. -/
  | ckptCopy (unit queue seq : Nat)
  /-- 13 R389. -/
  | ckptRestore (unit queue seq : Nat)
  /-- 13 R391. -/
  | ckptCommit (unit queue seq : Nat)
  /-- 04 R107. -/
  | nop (unit queue seq : Nat)
  /-- 04 R107. -/
  | tokclr (unit queue seq : Nat)
  /-- 04 R117. -/
  | creditGrant (unit queue seq : Nat)
  /-- 13 R378. -/
  | step (unit queue seq : Nat)
  /-- 05 R136. -/
  | stackRead (op : MemOp) (addr n : Nat)
  /-- 05 R152. -/
  | rowSpareEnd (stack bank : Nat)
  /-- 05 R153. -/
  | pcCopyEnd (stack pc : Nat)
  /-- 05 R154. -/
  | stackLost (stack : Nat)
  /-- 05 R141. -/
  | stackWrite (op : MemOp) (addr : Nat) (bytes : List Byte) (bad : Bool)
  /-- 12 R351. -/
  | blockWrite (op : MemOp) (addr : Nat) (bytes : List Byte) (bad : List Nat)
  /-- 05 R148. -/
  | ticketNotify (stack bank : Nat)
  /-- 05 R149. -/
  | hotbankDwellExpiry (stack bank : Nat)
  /-- 05 R149. -/
  | slotfullDwellExpiry (stack : Nat)
  /-- 05 R151. -/
  | patrolScrub (stack off : Nat) (err : MemErr)
  /-- 05 R143. -/
  | prefetchFetch (unit : Nat)
  /-- 05 R145. -/
  | generationCheckReturn (unit queue seq addr : Nat)
  /-- 05 R156. -/
  | farRequestIssue (link : Nat)
  /-- 05 R155. -/
  | farCompletion (link request : Nat) (data : Option (List Byte))
  /-- 07 R193. -/
  | amaxRecord (during : Bool)
  /-- 07 R196. -/
  | amaxHeldApply
  /-- 07 R200. -/
  | watchReport (during : Bool)
  /-- 07 R207. -/
  | hstepWrite (route : Route) (part value : Nat)
  /-- 11 R304. -/
  | wavelengthSpare (engine fibre lane : Nat)
  /-- 11 R303. -/
  | laserState (laser : Nat) (present alarm : Bool) (power : Nat)
  /-- 11 R312. -/
  | linkTrain (engine fibres : Nat) (lanes : List (Nat × Nat))
  /-- 11 R312. -/
  | trainRetryExpiry (engine : Nat)
  /-- 11 R314. -/
  | linkDown (engine : Nat)
  /-- 11 R314. -/
  | linkRecoveryExpiry (engine : Nat)
  /-- 11 R315. -/
  | dataFrame (engine : Nat) (bytes : List Byte) (body : FrameBody)
  /-- 11 R310. -/
  | creditFrame (engine : Nat) (bytes : List Byte) (body : FrameBody)
  /-- 11 R309. -/
  | creditFrameSend (engine : Nat)
  /-- 11 R309. -/
  | retryFrame (engine : Nat) (bytes : List Byte) (body : FrameBody)
  /-- 11 R312. -/
  | trainFrame (engine : Nat) (bytes : List Byte) (body : FrameBody)
  /-- 11 R312. -/
  | testFrame (engine : Nat) (bytes : List Byte) (body : FrameBody)
  /-- 11 R331. -/
  | epochEndFrame (engine : Nat) (bytes : List Byte) (body : FrameBody)
  /-- 11 R331. -/
  | epochBeginFrame (engine : Nat) (bytes : List Byte) (body : FrameBody)
  /-- 11 R308. -/
  | controlFrame (engine : Nat) (bytes : List Byte) (body : FrameBody)
  /-- 11 R321. -/
  | matchLimitExpiry
  /-- 11 R331. -/
  | epochWaitExpiry
  /-- 11 R316. -/
  | ringBypassWrite (route : Route) (join : Bool)
  /-- 19 R532. -/
  | couplerSense (opened : Bool)
  /-- 12 R344. -/
  | fuStart (route : Route) (die job : Nat)
  /-- 12 R345. -/
  | fuStop (route : Route) (die job : Nat)
  /-- 12 R345. -/
  | fuJobEnd (die job : Nat)
  /-- 12 R346. -/
  | fuJobError (die job : Nat) (far : Option Nat)
  /-- 12 R349. -/
  | d2dLinkFail (die other : Nat)
  /-- 13 R371. -/
  | wheelTap (die : Nat)
  /-- 13 R372. -/
  | idleWaitExpiry (die : Nat)
  /-- 13 R365. -/
  | positionMove (die tile : Nat)
  /-- 13 R366. -/
  | tileFence (route : Route) (die tile : Nat)
  /-- 13 R374. -/
  | selfTestStart (route : Route) (die data : Nat)
  /-- 13 R375. -/
  | selfTestEnd (die : Nat) (byTap : Bool) (sigL sigM : Nat)
  /-- 13 R369. -/
  | coreFail (die core : Nat)
  /-- 13 R384. -/
  | dbStepWrite (route : Route) (part data : Nat)
  /-- 13 R384. -/
  | dbReplayWrite (route : Route) (part data : Nat)
  /-- 14 R410. -/
  | configRequest (link : Nat) (req : CfgReq)
  /-- 14 R415. -/
  | dockHostRead (link off n : Nat) (err : MemErr) (stays : Bool)
  /-- 14 R415. -/
  | dockHostWrite (link off : Nat) (bytes : List Byte) (bad : Bool) (err : MemErr) (stays : Bool)
  /-- 14 R406. -/
  | functionLevelReset (link : Nat)
  /-- 14 R406. -/
  | linkHotReset (link : Nat) (train : Option (Nat × Nat × Bool))
  /-- 14 R406. -/
  | d3hotToD0 (link : Nat)
  /-- 14 R406. -/
  | perstAssert (port : Nat)
  /-- 14 R408. -/
  | ptLockRequest (route : Route)
  /-- 14 R416. -/
  | bayCommand (route : Route) (part data : Nat)
  /-- 14 R416. -/
  | bayQuery (route : Route) (part bay : Nat)
  /-- 14 R417. -/
  | bayTagInForce (part die : Nat)
  /-- 14 R417. -/
  | bayresRead (route : Route) (part : Nat)
  /-- 14 R420. -/
  | mbxDataWrite (route : Route) (channel dir word data : Nat)
  /-- 14 R421. -/
  | mbxSend (route : Route) (channel dir data : Nat)
  /-- 14 R423. -/
  | mbxAck (route : Route) (channel dir data : Nat)
  /-- 14 R423. -/
  | mbxTimeout (channel dir : Nat)
  /-- 14 R424. -/
  | mbxDomainDown (master : Nat)
  /-- 15 R445. -/
  | hello (head : ReqHead)
  /-- 15 R444. -/
  | auth (head : ReqHead) (role : Nat) (cnonce proof : List Byte)
  /-- 15 R443. -/
  | close (head : ReqHead)
  /-- 15 R433. -/
  | read (head : ReqHead) (index sub offset maxlen : Nat)
  /-- 15 R433. -/
  | write (head : ReqHead) (index sub : Nat) (type : CatType) (value : List Byte) (env : WriteEnv)
  /-- 15 R445. -/
  | describe (head : ReqHead) (index sub : Nat)
  /-- 15 R445. -/
  | list (head : ReqHead) (index sub : Nat)
  /-- 15 R451. -/
  | fwBegin (head : ReqHead) (length : Nat) (env : WriteEnv)
  /-- 15 R451. -/
  | fwData (head : ReqHead) (offset : Nat) (data : List Byte) (env : WriteEnv)
  /-- 15 R451. -/
  | fwEnd (head : ReqHead) (env : WriteEnv)
  /-- 15 R443. -/
  | sessionIdleExpiry (session : Nat)
  /-- 15 R444. -/
  | nonceExpiry (transport : Nat) (source : List Byte)
  /-- 15 R444. -/
  | lockoutExpiry
  /-- 15 R438. -/
  | neighborSolicitation (source target : List Byte) (extension : Bool)
  /-- 15 R438. -/
  | echoRequest (source target data : List Byte) (extension : Bool)
  /-- 15 R439. -/
  | i3cCcc (code : I3cCcc)
  /-- 15 R459. -/
  | unitFenceRequest (head : ReqHead) (die kind unit : Nat) (env : WriteEnv)
  /-- 15 R459. -/
  | unitFailRequest (head : ReqHead) (die kind unit : Nat) (env : WriteEnv)
  /-- 15 R458. -/
  | unitServiceRequest (head : ReqHead) (die kind unit : Nat) (env : WriteEnv)
  /-- 15 R460. -/
  | divergenceExpiry (index sub : Nat)
  /-- 15 R455. -/
  | eventNoticeCoalesce (part : Nat)
  /-- 16 R467. -/
  | deviceStateRequest (head : ReqHead) (state : Nat) (env : WriteEnv)
  /-- 16 R466. -/
  | dieStateRequest (head : ReqHead) (die state : Nat) (env : WriteEnv)
  /-- 16 R469. -/
  | handshakeReask (cores : List Nat)
  /-- 16 R470. -/
  | handshakeTimeout
  /-- 16 R476. -/
  | avsResponse (bus : Nat) (reply : AvsReply)
  /-- 16 R476. -/
  | avsResendExpiry (bus : Nat)
  /-- 16 R476. -/
  | railDoneExpiry (bus : Nat)
  /-- 16 R476. -/
  | railTelemetry (rail mv amps : Nat)
  /-- 16 R477. -/
  | bringupStageReady (die : Nat)
  /-- 16 R478. -/
  | bringupStageTimeout (die : Nat)
  /-- 16 R479. -/
  | holdWake (event : WakeEvent)
  /-- 16 R473. -/
  | dozeDwellExpiry (die domain : Nat)
  /-- 16 R482. -/
  | temperatureWarning (die : Nat) (t : Int)
  /-- 16 R482. -/
  | thermalTrip (die : Nat) (t : Int)
  /-- 16 R483. -/
  | powerOn
  /-- 16 R483. -/
  | sysRstN
  /-- 16 R483. -/
  | warmRstN
  /-- 16 R483. -/
  | resetCmdWarm (route : Route)
  /-- 16 R484. -/
  | resetCmdPartition (route : Route) (part : Nat)
  /-- 16 R485. -/
  | resetCmdDie (route : Route) (die : Nat)
  /-- 16 R483. -/
  | resetCmdTile (route : Route) (die tile : Nat)
  /-- 16 R483. -/
  | resetCmdCold (route : Route)
  /-- 19 R526. -/
  | vauxLow (mv : Nat)
  /-- 19 R526. -/
  | vddioMgtLow
  /-- 17 R498. -/
  | pmcValRead (route : Route) (die counter : Nat)
  /-- 17 R502. -/
  | counterGrant (head : ReqHead) (part : Nat) (value : List Byte) (env : WriteEnv)
  /-- 17 R502. -/
  | counterControl (head : ReqHead) (part : Nat) (value : List Byte) (env : WriteEnv)
  /-- 17 R502. -/
  | counterClear (head : ReqHead) (part : Nat) (value : List Byte) (env : WriteEnv)
  /-- 14 R402. -/
  | perstDeassert (port : Nat) (bifur : Bool) (train : List (Option (Nat × Nat × Bool)))
  /-- 19 R526. -/
  | vddioMgtReturn
  /-- 19 R523. -/
  | vddAonLoss
  /-- 19 R533. -/
  | laserModuleRestored (laser power : Nat)
  /-- 16 R482. -/
  | temperatureWarningEnd (die : Nat) (t : Int)
  /-- 10 R294. -/
  | refreshDeadlineExpiry (unit queue seq : Nat)
  /-- 13 R372. -/
  | wtdeferRetryExpiry (die : Nat)
  /-- 05 R155. -/
  | farCompletionTimeout (link request : Nat)
  deriving DecidableEq, Repr

end Sys2Proof
end

