-- ==== Sys2Proof/Machine/Bits.lean ====
section
/-! DEFINITION. Bit fields (00 R3), byte order (00 R4) and comparisons modulo 2^N (00 R5). -/

namespace Sys2Proof.Machine

/-- The stepping of this device, B0, as its identity and its TRAIN frames give it (00 R2, 11 R312, 14 R401). -/
def stepping : Nat := 0x10

/-- Field [lo + w − 1 : lo] of a register as a number (00 R3). -/
def fget (v : Word) (lo w : Nat) : Nat := v.toNat / 2 ^ lo % 2 ^ w

/-- One bit of a register. -/
def bget (v : Word) (b : Nat) : Bool := v.toNat.testBit b

/-- A register with field [lo + w − 1 : lo] set. -/
def fput (v : Word) (lo w x : Nat) : Word :=
  BitVec.ofNat 64 (v.toNat / 2 ^ (lo + w) * 2 ^ (lo + w) + x % 2 ^ w * 2 ^ lo + v.toNat % 2 ^ lo)

/-- Field of a number. -/
def nget (v lo w : Nat) : Nat := v / 2 ^ lo % 2 ^ w

/-- The number a truth value stands for. -/
def b2n (b : Bool) : Nat := if b then 1 else 0

/-- The n bytes of a number, least significant first (00 R4). -/
def leBytes (n v : Nat) : List Byte := (List.range n).map fun i => BitVec.ofNat 8 (v / 256 ^ i)

/-- The number that bytes stand for, least significant first (00 R4). -/
def ofLe : List Byte → Nat
  | [] => 0
  | b :: r => b.toNat + 256 * ofLe r

/-- n bytes from offset o of a byte list, zero beyond its end. -/
def slice (l : List Byte) (o n : Nat) : List Byte :=
  let t := (l.drop o).take n
  t ++ List.replicate (n - t.length) 0

/-- Field of n bytes at offset o, as a number. -/
def fieldAt (l : List Byte) (o n : Nat) : Nat := ofLe (slice l o n)

/-- A byte list with bytes put at offset o. -/
def splice (l : List Byte) (o : Nat) (x : List Byte) : List Byte :=
  slice l 0 o ++ x ++ l.drop (o + x.length)

/-- (c − v) mod 2^N: how far v lies behind c (00 R5). -/
def behind (N c v : Nat) : Nat := (c % 2 ^ N + 2 ^ N - v % 2 ^ N) % 2 ^ N

/-- v is older than c (00 R5). -/
def older (N v c : Nat) : Bool := let d := behind N c v; decide (1 ≤ d ∧ d ≤ 2 ^ (N - 1))

/-- v is later than c (00 R5). -/
def later (N v c : Nat) : Bool := let d := behind N c v; decide (2 ^ (N - 1) < d)

/-- A signed number from its two's complement of w bits. -/
def sext (w v : Nat) : Int := if v % 2 ^ w < 2 ^ (w - 1) then (v % 2 ^ w : Nat) else (v % 2 ^ w : Nat) - (2 ^ w : Nat)

/-- The two's complement of w bits of a signed number. -/
def tc (w : Nat) (x : Int) : Nat := (x % (2 ^ w : Nat)).toNat

/-- A count that stops at its greatest value. -/
def satAdd (w : Nat) (v x : Nat) : Nat := min (v + x) (2 ^ w - 1)

end Sys2Proof.Machine
end

