-- ==== Sys2Proof/Machine/Check.lean ====
section
/-! DEFINITION. The check unit (12 R341 to R343): a cyclic check of a byte sequence under one configuration. -/

namespace Sys2Proof.Machine

/-- A configuration of a check unit (12 R341). -/
structure CrcCfg where
  width : Nat
  poly : Nat
  init : Nat
  refin : Bool
  refout : Bool
  finv : Bool
  deriving DecidableEq, Repr

/-- The w low bits of v in reverse order. -/
def reverseBits (w v : Nat) : Nat := (List.range w).foldl (fun r i => 2 * r + v / 2 ^ i % 2) 0

/-- One shift of the register (12 R342). -/
def crcShift (w poly reg : Nat) : Nat :=
  let s := reg * 2 % 2 ^ w
  if reg / 2 ^ (w - 1) % 2 = 1 then s ^^^ poly else s

/-- One byte entered into the register (12 R342). -/
def CrcCfg.byte (c : CrcCfg) (reg : Nat) (b : Byte) : Nat :=
  let v := if c.refin then reverseBits 8 b.toNat else b.toNat
  (List.range 8).foldl (fun r _ => crcShift c.width c.poly r) (reg ^^^ (v * 2 ^ (c.width - 8)))

/-- The register after a byte sequence. -/
def CrcCfg.feed (c : CrcCfg) (reg : Nat) (l : List Byte) : Nat := l.foldl c.byte reg

/-- The result of a register (12 R342: REFOUT, then FINV). -/
def CrcCfg.finish (c : CrcCfg) (reg : Nat) : Nat :=
  let r := if c.refout then reverseBits c.width reg else reg
  if c.finv then r ^^^ (2 ^ c.width - 1) else r

/-- The check value of a byte sequence (12 R342). -/
def CrcCfg.check (c : CrcCfg) (l : List Byte) : Nat := c.finish (c.feed c.init l)

/-- The configurations of 12 R343. -/
def sealCfg : CrcCfg := ⟨32, 0x1EDC6F41, 0xFFFFFFFF, true, true, true⟩
def frameCfg : CrcCfg := ⟨32, 0x04C11DB7, 0xFFFFFFFF, true, true, true⟩
def digestCfg : CrcCfg := ⟨64, 0x42F0E1EBA9EA3693, 0xFFFFFFFFFFFFFFFF, true, true, true⟩
def mbxCfg : CrcCfg := ⟨16, 0x1021, 0xFFFF, false, false, false⟩

/-- The DIGEST check value (12 R343). -/
def digest (l : List Byte) : Nat := digestCfg.check l

/-- The seal of a block's bytes at block number k of stack n (12 R350). -/
def sealOf (n k : Nat) (bytes : List Byte) : Nat := sealCfg.check (leBytes 4 k ++ leBytes 4 n ++ bytes)

/-- What a change of a block's bytes adds to its seal: the check with INIT 0 and FINV 0 of old xor new (12 R351). -/
def sealDelta (off : Nat) (change : List Byte) : Nat :=
  let c : CrcCfg := { sealCfg with init := 0, finv := false }
  c.check (leBytes 8 0 ++ List.replicate (off % 4096) 0 ++ change ++ List.replicate (4096 - off % 4096 - change.length) 0)

end Sys2Proof.Machine
end

