-- ==== Sys2Proof/Config.lean ====
section
/-! DEFINITION. What the spec leaves to a part of the world the manual does not describe, and the free values: opaque constants, none with a body.
Each is applied to the free-value counter of the state (log entry 2), so that two uses are unrelated. -/

namespace Sys2Proof.Config

/-- What the host platform returns for a byte of host memory that the device has not read or written (05 R155). -/
opaque farByte : Nat → BitVec 8

/-- Whether the host platform has rewritten a byte of its memory since the device moved it (05 R157). -/
opaque hostRewrote : Nat → Bool

/-- The payload bytes past the data of a frame, and the AUX field, where the manual gives them no layout (11 R307, log entry 40). -/
opaque frameFill : FrameBody → Nat → BitVec 8
opaque frameAux : FrameBody → BitVec 32

/-- The level of ball PEn_BIFUR of a port before the deassertion of its PERST_N samples it again (14 R402). -/
opaque bifurStrap : Nat → Bool

/-- The optical power that the receiver of an engine measures, as its TRAIN frames carry it (11 R312). -/
opaque opticalPower : Nat → Nat

/-- Whether the completion of a far-tier read of a unit is unsuccessful, poisoned or timed out: the host platform decides (05 R155). -/
opaque farFails : Nat → Bool

/-- Whether a prefetched entry arrived later than its waybill first asked for it (05 R146). -/
opaque prefetchLate : Nat → Bool

/-- The verdict of a floating-point checksum lane between its two bounds: true for a failure (03 R91). -/
opaque laneVerdict : Nat → Bool

/-- The 32 random bytes of a device nonce (15 R444). -/
opaque nonceByte : Nat → Nat → BitVec 8

/-- The 32-byte factory key in the fuses of IO0 (15 R435). -/
opaque factoryKey : Fin 32 → BitVec 8

/-- The 32-byte key, derived from the fuses of IO0, under which role keys are wrapped in the flash (15 R435 does not say how it is derived). -/
opaque deviceKey : Fin 32 → BitVec 8

/-- The four Helnum public keys in the fuses of IO0, as points of P-384 (15 R449). -/
opaque publicKey : Nat → Nat × Nat

/-- The serial number of entry 0x1003, up to 16 bytes (15 R461: a factory value). -/
opaque serialNumber : List (BitVec 8)

/-- The default of entry 0x1010 sub 0x04 (15 R461: a factory value). -/
opaque interfaceIdentifier : BitVec 64

/-- The security counter of the fuses at power-on (15 R449). -/
opaque securityCounter : BitVec 6

/-- The revocation bits of the four public keys in the fuses (15 R449). -/
opaque revokedKeys : BitVec 4

/-- The factory set point of rail r, entry 0x2010 sub r + 1 (16 R487), as a place in its set-point range (19 R524), taken modulo the range's size. -/
opaque railSetPoint : Nat → Nat

/-- The firmware images a part leaves the factory with: slot 0 (A) and 1 (B) (15 R449). -/
opaque factoryImage : Nat → List (BitVec 8)

/-- The bytes of two spilled accumulator sets and their lane state, whose layout 03 R94 does not give. -/
opaque spillByte : Nat → BitVec 8

/-- An element of an accumulator set reloaded from a spill record whose bytes are no longer those spilled, by its place (11 R334). -/
opaque reloadedCode : Nat → Nat

/-- What a byte of a curvature engine's scratch area holds after a refresh: 10 R275 gives no place to any matrix in the area. -/
opaque scratchByte : Nat → BitVec 8

/-- An element of a pair whose refresh another master's write to the scratch area has changed (10 R276 says no more). -/
opaque scratchCode : Nat → BitVec 16

/-- Which of the lanes that store to one byte in one instruction leaves its value: a number, taken modulo their count (04 R126 states none). -/
opaque storeWinner : Nat → Nat

/-- The row of its bank that holds a piece, given as stack × 2^29 + offset / 256: 05 R137 gives the bank and not the row. -/
opaque memRow : Nat → Nat

/-- The code of a Catalogue type in the TYPE byte of a response, by its place in 00 R12 (15 R445 gives no codes). -/
opaque typeCode : Nat → BitVec 8

/-- The Helnum vendor identifier of the PCIe functions (14 R403 names it and gives no number). -/
opaque vendorId : BitVec 16

/-- How many waybills after the running one a sample of a tile counter is charged to, taken modulo 3 (17 R499: the skid is at most 2). -/
opaque skid : Nat → Nat

/-- What a clock-cycle, core, mesh or row-activation event adds to a counter in a tick (17 R493: no command or rule says when one occurs). -/
opaque tickAdds : Nat → Nat

/-- The program counter of a core's sample, and its mode: U, S or M taken modulo 3 (17 R499). -/
opaque samplePc : Nat → Nat
opaque sampleMode : Nat → Nat

/-- Flits that a die's links retried between two reads of CHK_D2D_RETRY (12 R349). -/
opaque retriedFlits : Nat → Nat

/-- A poisoned byte that fn.spop moves into local store, by its place among those moved (05 R150, 06 R180). -/
opaque poisonByte : Nat → Nat → BitVec 8

/-- The cycle (CSR 0xC00) and instret (0xC02) counters of a host-class core at a time (17 R492). -/
opaque coreCounter : Nat → Nat → Nat → Nat

/-- Whether the units of a clock domain that the model does not hold run or have stopped their clocks: timebase, die and domain (16 R473). -/
opaque domainGated : Nat → Nat → Nat → Bool

/-- The number of a new session, taken modulo 65,535 and moved on to one not in use (15 R444 gives no order). -/
opaque sessionNumber : Nat → Nat

/-- The slot that a firmware update in recovery writes, taken modulo 2 (15 R451: neither slot runs). -/
opaque updateSlot : Nat → Nat

/-- The NAME that DESCRIBE gives for a sub-index of a unit-state entry, by index × 256 + sub-index (15 R456 gives none). -/
opaque entryName : Nat → List (BitVec 8)

/-- The answers of the I3C port to GETPID (0), GETBCR (1), GETDCR (2) and GETSTATUS (3) (15 R439 names the codes and gives no values). -/
opaque i3cInfo : Nat → Nat

end Sys2Proof.Config
end

