-- ==== Sys2Proof/Machine/Maps.lean ====
section
/-! DEFINITION. Sparse tables: lists of (key, value) pairs with strictly rising keys, the one form in which the model holds
registers, memory and every collection keyed by a number. -/

namespace Sys2Proof.Machine

/-- The keys of a sparse table rise strictly. -/
def Map.sorted {α : Type} : List (Nat × α) → Bool
  | [] => true
  | [_] => true
  | a :: b :: r => decide (a.1 < b.1) && Map.sorted (b :: r)

/-- The value at a key. -/
def Map.find {α : Type} (k : Nat) : List (Nat × α) → Option α
  | [] => none
  | a :: r => if a.1 = k then some a.2 else Map.find k r

/-- The table with one value set. -/
def Map.put {α : Type} (k : Nat) (v : α) : List (Nat × α) → List (Nat × α)
  | [] => [(k, v)]
  | a :: r =>
    if k < a.1 then (k, v) :: a :: r
    else if a.1 = k then (k, v) :: r
    else a :: Map.put k v r

/-- The table with one key removed. -/
def Map.del {α : Type} (k : Nat) : List (Nat × α) → List (Nat × α)
  | [] => []
  | a :: r => if a.1 = k then r else a :: Map.del k r

/-- The table with the pairs of keys lo ≤ k < hi removed. -/
def Map.delRange {α : Type} (lo hi : Nat) (m : List (Nat × α)) : List (Nat × α) :=
  m.filter (fun a => a.1 < lo || hi ≤ a.1)

/-- A set of numbers as a strictly rising list: insertion. -/
def NSet.add (k : Nat) : List Nat → List Nat
  | [] => [k]
  | a :: r => if k < a then k :: a :: r else if a = k then a :: r else a :: NSet.add k r

/-- A set of numbers: removal. -/
def NSet.remove (k : Nat) (l : List Nat) : List Nat := l.filter (· ≠ k)

/-- The numbers lo, lo + 1, …, lo + n − 1. -/
def upto (n : Nat) (lo : Nat := 0) : List Nat := (List.range n).map (· + lo)

/-- A master identity that requests carry (01 R20 to R23): management, a host partition, a core of a die but for identity 8, an update unit, a
curvature engine, a ring engine, a checkpoint engine, or the test access port. -/
def liveMaster (m : Nat) : Bool :=
  decide (m ≤ 8 ∨ (0x10 ≤ m ∧ m ≤ 0x57 ∧ (m - 0x10) % 9 ≠ 8) ∨ (0x60 ≤ m ∧ m ≤ 0xAF) ∨ (0xC0 ≤ m ∧ m ≤ 0xDF) ∨ m = 0xF0)

end Sys2Proof.Machine
end

