-- ==== Sys2Proof/Machine/Registers.lean ====
section
/-! DEFINITION. Every register of the register tables: its block (05 R135), offset, stride, fields, access types and reset values.
The list is transcribed from the tables the docstrings of `Reg.spec` name. -/

namespace Sys2Proof.Machine

/-- The registers, under the names of their tables. -/
inductive Reg where
  | TILE_ID | TILE_POS | TILE_STATE | TILE_LEND | ACC_SET0 | ACC_SET1 | ACC_HOLD_LIMIT | ACC_STATUS | ACC_EVENT_EN 
  | ACC_ABFT_WB | ACC_ABFT_POS | ACC_ABFT_PEER | ACC_CNT_CHK | ACC_CNT_UNCHK | ACC_CNT_FAIL | ACC_LEND | DOCK_QBASE 
  | DOCK_QCFG | DOCK_QTAIL | DOCK_QHEAD | DOCK_QCOMP | DOCK_QDESC | DOCK_QDCNT | DOCK_QLIMIT | DOCK_QABORT | DOCK_QSTAT 
  | DOCK_MS_ID | DOCK_MS_SLOTS | DOCK_MS_HOTDWELL | DOCK_MS_HOTBANK | DOCK_MS_WRAPTIME | DOCK_MS_PCRET | DOCK_MS_CECNT 
  | DOCK_MS_UECNT | DOCK_MS_ERRADDR | DOCK_MS_ROWSPARE | DOCK_MS_CETHRESH | DOCK_MS_STATUS | DOCK_MS_EVENT_EN | DOCK_BAND 
  | DOCK_FARBASE | DOCK_MESHSHARE | TILE_PF_CTL | TILE_PF_FETCH | TILE_PF_USED | TILE_PF_LATE | TILE_PF_STALE | TILE_PF_UNUSED 
  | TILE_PF_MISS | DOCK_SID_BASE | DOCK_SID_SIZE | DOCK_SID_PLAN | DOCK_SID_TOP | DOCK_SID_PEAK | DOCK_SID_CNT 
  | DOCK_SID_STATUS | DOCK_SID_EVENT_EN | DOCK_SCL_HSTEP | DOCK_SCL_FILL | DOCK_SCL_REFRESH | DOCK_SCL_LAST | DOCK_SCL_STATUS 
  | DOCK_SCL_EVENT_EN | UPD_ID | UPD_STATE | UPD_POOL | UPD_INTAKE_LIMIT | UPD_FARWAIT | UPD_FARSTALL | UPD_CNT_SLICES 
  | UPD_CNT_SKIP | UPD_CNT_FROZEN | UPD_LASTFAULT | UPD_STATUS | UPD_EVENT_EN | CRV_ID | CRV_STATE | CRV_SDBASE 
  | CRV_TTBASE | CRV_TTCOUNT | CRV_TTCTL | CRV_TTERR | CRV_FEEDLIMIT | CRV_FEED | CRV_CNT_TILES | CRV_CNT_NFTILE 
  | CRV_CNT_DISCARD | CRV_CNT_FOLDWAIT | CRV_LASTFAULT | CRV_STATUS | CRV_EVENT_EN | CRV_SCRATCH | CRV_SCRSIZE 
  | CRV_ROOTRUN | CRV_ROOTLAST | CRV_CNT_PUB | CRV_CNT_PARTIAL | CRV_CNT_STALE | CRV_CNT_COLD | CRV_ROOT_STATUS 
  | CRV_ROOT_EVENT_EN | RING_ID | RING_LINKST | RING_WAVE | RING_CNT_TX | RING_CNT_RX | RING_CNT_RETRY | RING_CNT_CHKFAIL 
  | RING_CNT_FWD | RING_CNT_DROP | RING_LASTFAULT | RING_STATUS | RING_EVENT_EN | RING_CFG | RING_BYPASS | RING_LINE 
  | RING_LINEX | RING_VC | RING_EPOCHWAIT | RING_EPOCHSTAT | RING_MATCHLIMIT | RING_NOISE | RING_LASER | DOCK_LENDMAP 
  | DOCK_LEND_SPILL | DOCK_LEND_WAIT | DOCK_LEND_STATUS | CHK_FU_CFG | CHK_FU_POLY | CHK_FU_INIT | CHK_FU_ADDR 
  | CHK_FU_LEN | CHK_FU_EXPECT | CHK_FU_CTL | CHK_FU_RESULT | CHK_FU_STATUS | CHK_FU_DONE | CHK_D2D_RETRY | CHK_D2D_STATE 
  | CHK_STATUS | CHK_EVENT_EN | CHK_FAR_UNSEALED | CHK_SEAL_CNT_VER | CHK_SEAL_CNT_FAIL | CHK_SEAL_CNT_UNSEALED 
  | CHK_SEAL_CNT_RMW | CHK_SEAL_LAST | CHK_SEAL_STATUS | CHK_SEAL_EVENT_EN | CHK_VD_CUR | CHK_VD_LAST | CHK_VD_STEPS 
  | DOCK_WT_STATE | DOCK_WT_POOL | DOCK_WT_VACANT | DOCK_WT_FENCE | DOCK_WT_CORE | DOCK_SPR_STATUS | DOCK_SPR_EVENT_EN 
  | DOCK_ST_CMD | DOCK_ST_STATUS | DOCK_ST_SIGL | DOCK_ST_SIGM | DOCK_DB_BASE | DOCK_DB_STEP | DOCK_DB_CTL | DOCK_DB_RPLRES 
  | DOCK_CK_GENA | DOCK_CK_GENB | DOCK_PSPR_STATUS | DOCK_PSPR_EVENT_EN | DOCK_CK_STATE | DOCK_CK_BYTES | DOCK_CK_LAST 
  | DOCK_PT_LINK | DOCK_PT_PART | DOCK_PT_DOCK | DOCK_PT_DOCKSIZE | DOCK_PT_IRQTAB | DOCK_PT_QUEUE | DOCK_PT_TILE 
  | DOCK_PT_CORE | DOCK_PT_STACK | DOCK_PT_CRV | DOCK_PT_LOCK | DOCK_PCIE_CFG | DOCK_PCIE_LNK | DOCK_PCIE_CERR 
  | DOCK_BAYCMD | DOCK_BAYRES | DOCK_DOCKLOG | DOCK_HOST_STATUS | DOCK_HOST_EVENT_EN | MBX_BIND | MBX_CFG | MBX_DATA 
  | MBX_SEND | MBX_TXSTAT | MBX_RXHDR | MBX_ACK | PWR_MGT_FW | PWR_MGT_SESS | PWR_MGT_DIVERGE | PWR_MGT_STATUS 
  | PWR_MGT_EVENT_EN | PWR_DIE_STATE | PWR_DOM_LEVEL | PWR_DOM_STARTS | PWR_DOZE_DWELL | PWR_TEMP | PWR_TIMEBASE 
  | PWR_DEV_STATE | PWR_HS_LAST | PWR_HS_TIMEOUT | PWR_RST_FLAGS | PWR_RST_CMD | PWR_WAKE | PWR_BRINGUP | PWR_AVS_ERR 
  | PWR_STATUS | PWR_EVENT_EN | TILE_PMC_CTL | TILE_PMC_VAL | TILE_PMC_RBASE | TILE_PMC_RLIMIT | TILE_PMC_STATUS 
  | DOCK_PMC_CTL | DOCK_PMC_VAL | DOCK_PMC_RBASE | DOCK_PMC_RLIMIT | DOCK_PMC_GLOBAL | DOCK_PMC_OVF | DOCK_PMC_SAT 
  | DOCK_PMC_BAD | DOCK_PMC_CSAMPLE_PC | DOCK_PMC_CSAMPLE_INFO | DOCK_PMC_STATUS | DOCK_PMC_EVENT_EN
  deriving DecidableEq, Repr

/-- Access types of 00 R9. -/
inductive Acc where
  | rw | ro | wo | w1c | w1s | rc | lk
  deriving DecidableEq, Repr

/-- One field: lowest bit, width, access type, and the reset value where the table gives a number. -/
structure Fld where
  lo : Nat
  width : Nat
  acc : Acc
  reset : Nat := 0
  deriving DecidableEq, Repr

/-- The kinds of register block of 05 R135. -/
inductive Block where
  | die | tile | queue | crv | chk | pwr | upd | ck | seal | ring | red | pcie | mbx | mgt
  deriving DecidableEq, Repr

/-- The dies on which a register exists. -/
inductive OnDie where
  | cd | ms | io | io0 | cdio | any
  deriving DecidableEq, Repr

/-- One register: its block, the dies that hold it, its offset in the block and its two index ranges with their strides. -/
structure RegSpec where
  block : Block
  on : OnDie
  off : Nat
  n1 : Nat := 1
  s1 : Nat := 0
  n2 : Nat := 1
  s2 : Nat := 0
  fields : List Fld
  deriving DecidableEq, Repr

namespace Reg

/-- The tables of 03 R96, 04 R104, 05 R158 to R160, 06 R188, 07 R207, 08 R245, 09 R270, 10 R299, 11 R337 to R339,
12 R359 to R361, 13 R396 to R398, 14 R425 to R428, 15 R463, 16 R488, R489 and 17 R504. Reserved fields are left out: they read 0 (00 R7). -/
def spec : Reg → RegSpec
  | .TILE_ID => ⟨.tile, .cd, 0x0, 1, 0x0, 1, 0x0, [⟨0, 3, .ro, 0⟩, ⟨3, 7, .ro, 0⟩, ⟨10, 1, .ro, 0⟩]⟩
  | .TILE_POS => ⟨.tile, .cd, 0x8, 1, 0x0, 1, 0x0, [⟨0, 6, .ro, 0⟩, ⟨6, 1, .ro, 0⟩, ⟨7, 3, .ro, 0⟩, ⟨10, 1, .ro, 0⟩]⟩
  | .TILE_STATE => ⟨.tile, .cd, 0x10, 1, 0x0, 1, 0x0, [⟨0, 3, .ro, 0⟩, ⟨3, 1, .ro, 0⟩, ⟨4, 3, .ro, 0⟩]⟩
  | .TILE_LEND => ⟨.tile, .cd, 0x18, 1, 0x0, 1, 0x0, [⟨0, 1, .rw, 0⟩, ⟨1, 2, .rw, 0⟩]⟩
  | .ACC_SET0 => ⟨.tile, .cd, 0x20, 1, 0x0, 1, 0x0, [⟨0, 3, .ro, 0⟩, ⟨3, 1, .ro, 0⟩, ⟨4, 3, .ro, 0⟩, ⟨8, 16, .ro, 0⟩, ⟨32, 32, .ro, 0⟩]⟩
  | .ACC_SET1 => ⟨.tile, .cd, 0x28, 1, 0x0, 1, 0x0, [⟨0, 3, .ro, 0⟩, ⟨3, 1, .ro, 0⟩, ⟨4, 3, .ro, 0⟩, ⟨8, 16, .ro, 0⟩, ⟨32, 32, .ro, 0⟩]⟩
  | .ACC_HOLD_LIMIT => ⟨.tile, .cd, 0x30, 1, 0x0, 1, 0x0, [⟨0, 32, .rw, 0x3d090⟩]⟩
  | .ACC_STATUS => ⟨.tile, .cd, 0x38, 1, 0x0, 1, 0x0,
      [⟨0, 1, .w1c, 0⟩, ⟨1, 1, .w1c, 0⟩, ⟨2, 1, .w1c, 0⟩, ⟨3, 1, .w1c, 0⟩, ⟨4, 1, .w1c, 0⟩, ⟨5, 1, .w1c, 0⟩, ⟨6, 1, .w1c, 0⟩,
       ⟨7, 1, .w1c, 0⟩, ⟨8, 1, .w1c, 0⟩, ⟨9, 1, .w1c, 0⟩, ⟨10, 1, .w1c, 0⟩, ⟨11, 1, .w1c, 0⟩, ⟨12, 1, .w1c, 0⟩, ⟨13, 1, .w1c, 0⟩]⟩
  | .ACC_EVENT_EN => ⟨.tile, .cd, 0x40, 1, 0x0, 1, 0x0, [⟨0, 14, .rw, 0x1fff⟩]⟩
  | .ACC_ABFT_WB => ⟨.tile, .cd, 0x48, 1, 0x0, 1, 0x0, [⟨0, 14, .ro, 0⟩, ⟨16, 32, .ro, 0⟩]⟩
  | .ACC_ABFT_POS => ⟨.tile, .cd, 0x50, 1, 0x0, 1, 0x0,
      [⟨0, 32, .ro, 0⟩, ⟨32, 7, .ro, 0⟩, ⟨39, 1, .ro, 0⟩, ⟨40, 7, .ro, 0⟩, ⟨47, 1, .ro, 0⟩, ⟨48, 16, .ro, 0⟩]⟩
  | .ACC_ABFT_PEER => ⟨.tile, .cd, 0x58, 1, 0x0, 1, 0x0, [⟨0, 3, .ro, 0⟩, ⟨3, 7, .ro, 0⟩, ⟨10, 2, .ro, 0⟩]⟩
  | .ACC_CNT_CHK => ⟨.tile, .cd, 0x60, 1, 0x0, 1, 0x0, [⟨0, 48, .ro, 0⟩]⟩
  | .ACC_CNT_UNCHK => ⟨.tile, .cd, 0x68, 1, 0x0, 1, 0x0, [⟨0, 48, .ro, 0⟩]⟩
  | .ACC_CNT_FAIL => ⟨.tile, .cd, 0x70, 1, 0x0, 1, 0x0, [⟨0, 48, .ro, 0⟩]⟩
  | .ACC_LEND => ⟨.tile, .cd, 0x78, 1, 0x0, 1, 0x0, [⟨0, 2, .ro, 0⟩, ⟨3, 3, .ro, 0⟩, ⟨32, 32, .ro, 0⟩]⟩
  | .DOCK_QBASE => ⟨.queue, .cd, 0x0, 1, 0x0, 1, 0x0, [⟨12, 40, .rw, 0⟩]⟩
  | .DOCK_QCFG => ⟨.queue, .cd, 0x8, 1, 0x0, 1, 0x0,
      [⟨0, 4, .rw, 0⟩, ⟨4, 1, .rw, 0⟩, ⟨5, 1, .rw, 0⟩, ⟨6, 1, .rw, 0⟩, ⟨8, 16, .rw, 0⟩, ⟨24, 3, .ro, 0⟩, ⟨27, 1, .ro, 0⟩]⟩
  | .DOCK_QTAIL => ⟨.queue, .cd, 0x10, 1, 0x0, 1, 0x0, [⟨0, 32, .rw, 0⟩]⟩
  | .DOCK_QHEAD => ⟨.queue, .cd, 0x18, 1, 0x0, 1, 0x0, [⟨0, 32, .ro, 0⟩, ⟨32, 32, .ro, 0⟩]⟩
  | .DOCK_QCOMP => ⟨.queue, .cd, 0x20, 1, 0x0, 1, 0x0, [⟨12, 40, .rw, 0⟩]⟩
  | .DOCK_QDESC => ⟨.queue, .cd, 0x28, 1, 0x0, 1, 0x0, [⟨6, 46, .rw, 0⟩]⟩
  | .DOCK_QDCNT => ⟨.queue, .cd, 0x30, 1, 0x0, 1, 0x0, [⟨0, 24, .rw, 0⟩]⟩
  | .DOCK_QLIMIT => ⟨.queue, .cd, 0x38, 1, 0x0, 1, 0x0, [⟨0, 32, .rw, 0⟩]⟩
  | .DOCK_QABORT => ⟨.queue, .cd, 0x40, 1, 0x0, 1, 0x0, [⟨0, 1, .wo, 0⟩, ⟨16, 32, .wo, 0⟩]⟩
  | .DOCK_QSTAT => ⟨.queue, .cd, 0x48, 1, 0x0, 1, 0x0, [⟨0, 1, .ro, 0⟩, ⟨1, 3, .ro, 0⟩, ⟨4, 1, .w1c, 0⟩, ⟨6, 2, .ro, 0⟩]⟩
  | .DOCK_MS_ID => ⟨.die, .ms, 0x0, 1, 0x0, 1, 0x0, [⟨0, 5, .ro, 0⟩, ⟨5, 3, .ro, 0⟩, ⟨8, 1, .ro, 0⟩, ⟨9, 2, .ro, 0⟩]⟩
  | .DOCK_MS_SLOTS => ⟨.die, .ms, 0x8, 1, 0x0, 1, 0x0, [⟨0, 13, .ro, 0⟩, ⟨16, 13, .rc, 0⟩]⟩
  | .DOCK_MS_HOTDWELL => ⟨.die, .ms, 0x10, 1, 0x0, 1, 0x0, [⟨0, 32, .rw, 0xfa⟩]⟩
  | .DOCK_MS_HOTBANK => ⟨.die, .ms, 0x18, 1, 0x0, 1, 0x0, [⟨0, 6, .ro, 0⟩, ⟨6, 6, .ro, 0⟩, ⟨12, 1, .ro, 0⟩, ⟨16, 48, .ro, 0⟩]⟩
  | .DOCK_MS_WRAPTIME => ⟨.die, .ms, 0x20, 1, 0x0, 1, 0x0, [⟨0, 64, .ro, 0⟩]⟩
  | .DOCK_MS_PCRET => ⟨.die, .ms, 0x28, 1, 0x0, 1, 0x0, [⟨0, 6, .ro, 0⟩, ⟨6, 1, .ro, 0⟩, ⟨7, 6, .ro, 0⟩, ⟨13, 1, .ro, 0⟩, ⟨14, 1, .ro, 0⟩]⟩
  | .DOCK_MS_CECNT => ⟨.die, .ms, 0x30, 1, 0x0, 1, 0x0, [⟨0, 48, .ro, 0⟩]⟩
  | .DOCK_MS_UECNT => ⟨.die, .ms, 0x38, 1, 0x0, 1, 0x0, [⟨0, 48, .ro, 0⟩]⟩
  | .DOCK_MS_ERRADDR => ⟨.die, .ms, 0x40, 1, 0x0, 1, 0x0, [⟨0, 37, .ro, 0⟩, ⟨63, 1, .w1c, 0⟩]⟩
  | .DOCK_MS_ROWSPARE => ⟨.die, .ms, 0x48, 1, 0x0, 1, 0x0, [⟨0, 16, .ro, 0⟩, ⟨16, 16, .ro, 0x10⟩]⟩
  | .DOCK_MS_CETHRESH => ⟨.die, .ms, 0x50, 1, 0x0, 1, 0x0, [⟨0, 8, .rw, 2⟩]⟩
  | .DOCK_MS_STATUS => ⟨.die, .ms, 0x58, 1, 0x0, 1, 0x0,
      [⟨0, 1, .w1c, 0⟩, ⟨1, 1, .w1c, 0⟩, ⟨2, 1, .w1c, 0⟩, ⟨3, 1, .w1c, 0⟩, ⟨4, 1, .w1c, 0⟩, ⟨5, 1, .w1c, 0⟩]⟩
  | .DOCK_MS_EVENT_EN => ⟨.die, .ms, 0x60, 1, 0x0, 1, 0x0, [⟨0, 6, .rw, 0x3f⟩]⟩
  | .DOCK_BAND => ⟨.die, .io0, 0x100, 96, 0x8, 1, 0x0, [⟨0, 1, .lk, 0⟩]⟩
  | .DOCK_FARBASE => ⟨.die, .io0, 0x400, 8, 0x8, 1, 0x0, [⟨12, 52, .lk, 0⟩]⟩
  | .DOCK_MESHSHARE => ⟨.die, .io0, 0x440, 1, 0x0, 1, 0x0,
      [⟨0, 7, .lk, 0x40⟩, ⟨7, 7, .lk, 0⟩, ⟨14, 7, .lk, 0⟩, ⟨21, 7, .lk, 0⟩, ⟨28, 7, .lk, 0⟩, ⟨35, 7, .lk, 0⟩, ⟨42, 7, .lk, 0⟩,
       ⟨49, 7, .lk, 0⟩]⟩
  | .TILE_PF_CTL => ⟨.tile, .cd, 0x100, 1, 0x0, 1, 0x0, [⟨0, 1, .rw, 1⟩, ⟨1, 7, .rw, 0x30⟩]⟩
  | .TILE_PF_FETCH => ⟨.tile, .cd, 0x108, 1, 0x0, 1, 0x0, [⟨0, 48, .ro, 0⟩]⟩
  | .TILE_PF_USED => ⟨.tile, .cd, 0x110, 1, 0x0, 1, 0x0, [⟨0, 48, .ro, 0⟩]⟩
  | .TILE_PF_LATE => ⟨.tile, .cd, 0x118, 1, 0x0, 1, 0x0, [⟨0, 48, .ro, 0⟩]⟩
  | .TILE_PF_STALE => ⟨.tile, .cd, 0x120, 1, 0x0, 1, 0x0, [⟨0, 48, .ro, 0⟩]⟩
  | .TILE_PF_UNUSED => ⟨.tile, .cd, 0x128, 1, 0x0, 1, 0x0, [⟨0, 48, .ro, 0⟩]⟩
  | .TILE_PF_MISS => ⟨.tile, .cd, 0x130, 1, 0x0, 1, 0x0, [⟨0, 48, .ro, 0⟩]⟩
  | .DOCK_SID_BASE => ⟨.die, .cd, 0x800, 8, 0x40, 1, 0x0, [⟨12, 40, .lk, 0⟩]⟩
  | .DOCK_SID_SIZE => ⟨.die, .cd, 0x808, 8, 0x40, 1, 0x0, [⟨0, 24, .lk, 0⟩, ⟨24, 1, .rw, 0⟩]⟩
  | .DOCK_SID_PLAN => ⟨.die, .cd, 0x810, 8, 0x40, 1, 0x0, [⟨4, 48, .rw, 0⟩]⟩
  | .DOCK_SID_TOP => ⟨.die, .cd, 0x818, 8, 0x40, 1, 0x0, [⟨0, 24, .ro, 0⟩, ⟨24, 14, .ro, 0⟩, ⟨38, 1, .ro, 0⟩, ⟨39, 2, .ro, 0⟩, ⟨41, 1, .ro, 0⟩]⟩
  | .DOCK_SID_PEAK => ⟨.die, .cd, 0x820, 8, 0x40, 1, 0x0, [⟨0, 24, .rc, 0⟩]⟩
  | .DOCK_SID_CNT => ⟨.die, .cd, 0x828, 8, 0x40, 1, 0x0, [⟨0, 16, .ro, 0⟩, ⟨16, 16, .ro, 0⟩, ⟨32, 32, .ro, 0⟩]⟩
  | .DOCK_SID_STATUS => ⟨.die, .cd, 0x830, 8, 0x40, 1, 0x0,
      [⟨0, 1, .w1c, 0⟩, ⟨1, 1, .w1c, 0⟩, ⟨2, 1, .w1c, 0⟩, ⟨3, 1, .w1c, 0⟩, ⟨4, 1, .w1c, 0⟩, ⟨5, 1, .w1c, 0⟩, ⟨6, 1, .w1c, 0⟩,
       ⟨7, 1, .w1c, 0⟩, ⟨8, 1, .w1c, 0⟩]⟩
  | .DOCK_SID_EVENT_EN => ⟨.die, .cd, 0x838, 8, 0x40, 1, 0x0, [⟨0, 9, .rw, 0x1fd⟩]⟩
  | .DOCK_SCL_HSTEP => ⟨.die, .io0, 0x1000, 8, 0x40, 1, 0x0, [⟨0, 32, .rw, 0⟩]⟩
  | .DOCK_SCL_FILL => ⟨.die, .io0, 0x1008, 8, 0x40, 1, 0x0, [⟨0, 13, .ro, 0⟩, ⟨13, 1, .ro, 0⟩]⟩
  | .DOCK_SCL_REFRESH => ⟨.die, .io0, 0x1010, 8, 0x40, 1, 0x0, [⟨0, 32, .ro, 0⟩, ⟨32, 32, .ro, 0⟩]⟩
  | .DOCK_SCL_LAST => ⟨.die, .io0, 0x1018, 8, 0x40, 1, 0x0, [⟨0, 10, .ro, 0⟩, ⟨10, 3, .ro, 0⟩, ⟨16, 16, .ro, 0⟩, ⟨32, 32, .ro, 0⟩]⟩
  | .DOCK_SCL_STATUS => ⟨.die, .io0, 0x1020, 8, 0x40, 1, 0x0,
      [⟨0, 1, .w1c, 0⟩, ⟨1, 1, .w1c, 0⟩, ⟨2, 1, .w1c, 0⟩, ⟨3, 1, .w1c, 0⟩, ⟨4, 1, .w1c, 0⟩, ⟨5, 1, .w1c, 0⟩, ⟨6, 1, .w1c, 0⟩,
       ⟨7, 1, .w1c, 0⟩, ⟨8, 1, .w1c, 0⟩, ⟨9, 1, .w1c, 0⟩]⟩
  | .DOCK_SCL_EVENT_EN => ⟨.die, .io0, 0x1028, 8, 0x40, 1, 0x0, [⟨0, 10, .rw, 0x3ff⟩]⟩
  | .UPD_ID => ⟨.upd, .ms, 0x0, 1, 0x0, 1, 0x0, [⟨0, 5, .ro, 0⟩, ⟨5, 2, .ro, 0⟩, ⟨7, 1, .ro, 0⟩]⟩
  | .UPD_STATE => ⟨.upd, .ms, 0x8, 1, 0x0, 1, 0x0, [⟨0, 2, .ro, 0⟩, ⟨2, 5, .ro, 0⟩, ⟨8, 13, .ro, 0⟩]⟩
  | .UPD_POOL => ⟨.upd, .ms, 0x10, 1, 0x0, 1, 0x0, [⟨0, 11, .ro, 0⟩, ⟨16, 11, .rc, 0⟩, ⟨32, 15, .ro, 0⟩]⟩
  | .UPD_INTAKE_LIMIT => ⟨.upd, .ms, 0x18, 1, 0x0, 1, 0x0, [⟨0, 32, .rw, 0x3d090⟩]⟩
  | .UPD_FARWAIT => ⟨.upd, .ms, 0x20, 1, 0x0, 1, 0x0, [⟨0, 10, .ro, 0⟩, ⟨16, 10, .rc, 0⟩]⟩
  | .UPD_FARSTALL => ⟨.upd, .ms, 0x28, 1, 0x0, 1, 0x0, [⟨0, 48, .ro, 0⟩]⟩
  | .UPD_CNT_SLICES => ⟨.upd, .ms, 0x30, 1, 0x0, 1, 0x0, [⟨0, 48, .ro, 0⟩]⟩
  | .UPD_CNT_SKIP => ⟨.upd, .ms, 0x38, 1, 0x0, 1, 0x0, [⟨0, 48, .ro, 0⟩]⟩
  | .UPD_CNT_FROZEN => ⟨.upd, .ms, 0x40, 1, 0x0, 1, 0x0, [⟨0, 48, .ro, 0⟩]⟩
  | .UPD_LASTFAULT => ⟨.upd, .ms, 0x48, 1, 0x0, 1, 0x0, [⟨0, 10, .ro, 0⟩, ⟨16, 48, .ro, 0⟩]⟩
  | .UPD_STATUS => ⟨.upd, .ms, 0x50, 1, 0x0, 1, 0x0,
      [⟨0, 1, .w1c, 0⟩, ⟨1, 1, .w1c, 0⟩, ⟨2, 1, .w1c, 0⟩, ⟨3, 1, .w1c, 0⟩, ⟨4, 1, .w1c, 0⟩, ⟨5, 1, .w1c, 0⟩, ⟨6, 1, .w1c, 0⟩,
       ⟨7, 1, .w1c, 0⟩]⟩
  | .UPD_EVENT_EN => ⟨.upd, .ms, 0x58, 1, 0x0, 1, 0x0, [⟨0, 8, .rw, 0xff⟩]⟩
  | .CRV_ID => ⟨.crv, .cd, 0x0, 1, 0x0, 1, 0x0, [⟨0, 5, .ro, 0⟩]⟩
  | .CRV_STATE => ⟨.crv, .cd, 0x8, 1, 0x0, 1, 0x0, [⟨0, 2, .ro, 0⟩, ⟨2, 1, .ro, 0⟩, ⟨3, 3, .ro, 0⟩, ⟨6, 1, .ro, 0⟩, ⟨7, 4, .ro, 0⟩]⟩
  | .CRV_SDBASE => ⟨.crv, .cd, 0x10, 1, 0x0, 1, 0x0, [⟨7, 45, .rw, 0⟩]⟩
  | .CRV_TTBASE => ⟨.crv, .cd, 0x18, 1, 0x0, 1, 0x0, [⟨4, 48, .rw, 0⟩]⟩
  | .CRV_TTCOUNT => ⟨.crv, .cd, 0x20, 1, 0x0, 1, 0x0, [⟨0, 11, .rw, 0⟩, ⟨16, 13, .rw, 0⟩]⟩
  | .CRV_TTCTL => ⟨.crv, .cd, 0x28, 1, 0x0, 1, 0x0, [⟨0, 1, .wo, 0⟩]⟩
  | .CRV_TTERR => ⟨.crv, .cd, 0x30, 1, 0x0, 1, 0x0, [⟨0, 3, .ro, 0⟩, ⟨16, 12, .ro, 0⟩]⟩
  | .CRV_FEEDLIMIT => ⟨.crv, .cd, 0x38, 1, 0x0, 1, 0x0, [⟨0, 32, .rw, 0xbebc20⟩]⟩
  | .CRV_FEED => ⟨.crv, .cd, 0x40, 1, 0x0, 1, 0x0, [⟨0, 13, .ro, 0⟩, ⟨16, 13, .rc, 0⟩]⟩
  | .CRV_CNT_TILES => ⟨.crv, .cd, 0x48, 1, 0x0, 1, 0x0, [⟨0, 48, .ro, 0⟩]⟩
  | .CRV_CNT_NFTILE => ⟨.crv, .cd, 0x50, 1, 0x0, 1, 0x0, [⟨0, 48, .ro, 0⟩]⟩
  | .CRV_CNT_DISCARD => ⟨.crv, .cd, 0x58, 1, 0x0, 1, 0x0, [⟨0, 48, .ro, 0⟩]⟩
  | .CRV_CNT_FOLDWAIT => ⟨.crv, .cd, 0x60, 1, 0x0, 1, 0x0, [⟨0, 48, .ro, 0⟩]⟩
  | .CRV_LASTFAULT => ⟨.crv, .cd, 0x68, 1, 0x0, 1, 0x0, [⟨0, 24, .ro, 0⟩, ⟨24, 12, .ro, 0⟩, ⟨36, 1, .ro, 0⟩, ⟨40, 4, .ro, 0⟩]⟩
  | .CRV_STATUS => ⟨.crv, .cd, 0x70, 1, 0x0, 1, 0x0,
      [⟨0, 1, .w1c, 0⟩, ⟨1, 1, .w1c, 0⟩, ⟨2, 1, .w1c, 0⟩, ⟨3, 1, .w1c, 0⟩, ⟨4, 1, .w1c, 0⟩, ⟨5, 1, .w1c, 0⟩, ⟨6, 1, .w1c, 0⟩,
       ⟨7, 1, .w1c, 0⟩, ⟨8, 1, .w1c, 0⟩, ⟨9, 1, .w1c, 0⟩, ⟨10, 1, .w1c, 0⟩]⟩
  | .CRV_EVENT_EN => ⟨.crv, .cd, 0x78, 1, 0x0, 1, 0x0, [⟨0, 11, .rw, 0x7ff⟩]⟩
  | .CRV_SCRATCH => ⟨.crv, .cd, 0x80, 1, 0x0, 1, 0x0, [⟨12, 40, .rw, 0⟩]⟩
  | .CRV_SCRSIZE => ⟨.crv, .cd, 0x88, 1, 0x0, 1, 0x0, [⟨0, 32, .rw, 0⟩]⟩
  | .CRV_ROOTRUN => ⟨.crv, .cd, 0x90, 1, 0x0, 1, 0x0, [⟨0, 24, .ro, 0⟩, ⟨24, 1, .ro, 0⟩, ⟨25, 1, .ro, 0⟩, ⟨26, 1, .ro, 0⟩, ⟨32, 8, .ro, 0⟩]⟩
  | .CRV_ROOTLAST => ⟨.crv, .cd, 0x98, 1, 0x0, 1, 0x0, [⟨0, 24, .ro, 0⟩, ⟨24, 1, .ro, 0⟩, ⟨28, 4, .ro, 0⟩, ⟨32, 13, .ro, 0⟩, ⟨48, 16, .ro, 0⟩]⟩
  | .CRV_CNT_PUB => ⟨.crv, .cd, 0xA0, 1, 0x0, 1, 0x0, [⟨0, 48, .ro, 0⟩]⟩
  | .CRV_CNT_PARTIAL => ⟨.crv, .cd, 0xA8, 1, 0x0, 1, 0x0, [⟨0, 48, .ro, 0⟩]⟩
  | .CRV_CNT_STALE => ⟨.crv, .cd, 0xB0, 1, 0x0, 1, 0x0, [⟨0, 48, .ro, 0⟩]⟩
  | .CRV_CNT_COLD => ⟨.crv, .cd, 0xB8, 1, 0x0, 1, 0x0, [⟨0, 48, .ro, 0⟩]⟩
  | .CRV_ROOT_STATUS => ⟨.crv, .cd, 0xC0, 1, 0x0, 1, 0x0,
      [⟨0, 1, .w1c, 0⟩, ⟨1, 1, .w1c, 0⟩, ⟨2, 1, .w1c, 0⟩, ⟨3, 1, .w1c, 0⟩, ⟨4, 1, .w1c, 0⟩, ⟨5, 1, .w1c, 0⟩, ⟨6, 1, .w1c, 0⟩,
       ⟨7, 1, .w1c, 0⟩, ⟨8, 1, .w1c, 0⟩, ⟨9, 1, .w1c, 0⟩]⟩
  | .CRV_ROOT_EVENT_EN => ⟨.crv, .cd, 0xC8, 1, 0x0, 1, 0x0, [⟨0, 10, .rw, 0x3ff⟩]⟩
  | .RING_ID => ⟨.ring, .io, 0x0, 1, 0x0, 1, 0x0, [⟨0, 4, .ro, 0⟩, ⟨4, 1, .ro, 0⟩]⟩
  | .RING_LINKST => ⟨.ring, .io, 0x8, 1, 0x0, 1, 0x0, [⟨0, 3, .ro, 0⟩, ⟨4, 6, .ro, 0⟩, ⟨10, 3, .ro, 0⟩, ⟨16, 4, .ro, 0⟩, ⟨20, 12, .ro, 0⟩]⟩
  | .RING_WAVE => ⟨.ring, .io, 0x10, 1, 0x0, 1, 0x0,
      [⟨0, 4, .ro, 0⟩, ⟨5, 4, .ro, 0⟩, ⟨10, 4, .ro, 0⟩, ⟨15, 4, .ro, 0⟩, ⟨4, 1, .ro, 0⟩, ⟨9, 1, .ro, 0⟩, ⟨14, 1, .ro, 0⟩, ⟨19, 1, .ro, 0⟩]⟩
  | .RING_CNT_TX => ⟨.ring, .io, 0x18, 1, 0x0, 1, 0x0, [⟨0, 48, .ro, 0⟩]⟩
  | .RING_CNT_RX => ⟨.ring, .io, 0x20, 1, 0x0, 1, 0x0, [⟨0, 48, .ro, 0⟩]⟩
  | .RING_CNT_RETRY => ⟨.ring, .io, 0x28, 1, 0x0, 1, 0x0, [⟨0, 48, .ro, 0⟩]⟩
  | .RING_CNT_CHKFAIL => ⟨.ring, .io, 0x30, 1, 0x0, 1, 0x0, [⟨0, 48, .ro, 0⟩]⟩
  | .RING_CNT_FWD => ⟨.ring, .io, 0x38, 1, 0x0, 1, 0x0, [⟨0, 48, .ro, 0⟩]⟩
  | .RING_CNT_DROP => ⟨.ring, .io, 0x40, 1, 0x0, 1, 0x0, [⟨0, 48, .ro, 0⟩]⟩
  | .RING_LASTFAULT => ⟨.ring, .io, 0x48, 1, 0x0, 1, 0x0, [⟨0, 4, .ro, 0⟩, ⟨4, 2, .ro, 0⟩, ⟨8, 24, .ro, 0⟩, ⟨32, 16, .ro, 0⟩, ⟨48, 16, .ro, 0⟩]⟩
  | .RING_STATUS => ⟨.ring, .io, 0x50, 1, 0x0, 1, 0x0,
      [⟨0, 1, .w1c, 0⟩, ⟨1, 1, .w1c, 0⟩, ⟨2, 1, .w1c, 0⟩, ⟨3, 1, .w1c, 0⟩, ⟨4, 1, .w1c, 0⟩, ⟨5, 1, .w1c, 0⟩, ⟨6, 1, .w1c, 0⟩,
       ⟨7, 1, .w1c, 0⟩, ⟨8, 1, .w1c, 0⟩, ⟨9, 1, .w1c, 0⟩, ⟨10, 1, .w1c, 0⟩, ⟨11, 1, .w1c, 0⟩, ⟨12, 1, .w1c, 0⟩, ⟨13, 1, .w1c, 0⟩,
       ⟨14, 1, .w1c, 0⟩, ⟨15, 1, .w1c, 0⟩, ⟨16, 1, .w1c, 0⟩]⟩
  | .RING_EVENT_EN => ⟨.ring, .io, 0x58, 1, 0x0, 1, 0x0, [⟨0, 17, .rw, 0x1ffff⟩]⟩
  | .RING_CFG => ⟨.red, .io0, 0x0, 1, 0x0, 1, 0x0, [⟨0, 16, .lk, 0⟩, ⟨16, 6, .lk, 0⟩, ⟨22, 7, .lk, 1⟩]⟩
  | .RING_BYPASS => ⟨.red, .io0, 0x8, 1, 0x0, 1, 0x0, [⟨0, 1, .rw, 0⟩, ⟨1, 1, .ro, 0⟩, ⟨2, 1, .ro, 0⟩]⟩
  | .RING_LINE => ⟨.red, .io0, 0x10, 4, 0x8, 1, 0x0, [⟨0, 6, .lk, 1⟩, ⟨6, 7, .lk, 1⟩, ⟨13, 1, .lk, 0⟩, ⟨14, 3, .lk, 0⟩, ⟨32, 16, .lk, 0⟩]⟩
  | .RING_LINEX => ⟨.red, .io0, 0x30, 4, 0x8, 1, 0x0, [⟨0, 64, .lk, 0⟩]⟩
  | .RING_VC => ⟨.red, .io0, 0x50, 8, 0x8, 1, 0x0, [⟨0, 3, .lk, 0⟩, ⟨3, 1, .lk, 0⟩, ⟨4, 7, .lk, 8⟩]⟩
  | .RING_EPOCHWAIT => ⟨.red, .io0, 0x90, 1, 0x0, 1, 0x0, [⟨0, 32, .rw, 0x3d090⟩]⟩
  | .RING_EPOCHSTAT => ⟨.red, .io0, 0x98, 1, 0x0, 1, 0x0, [⟨0, 2, .ro, 0⟩, ⟨2, 62, .ro, 0⟩]⟩
  | .RING_MATCHLIMIT => ⟨.red, .io0, 0xA0, 1, 0x0, 1, 0x0, [⟨0, 32, .rw, 0x3d090⟩]⟩
  | .RING_NOISE => ⟨.red, .io0, 0xC0, 8, 0x8, 1, 0x0, [⟨13, 39, .rw, 0⟩]⟩
  | .RING_LASER => ⟨.red, .io0, 0x110, 8, 0x8, 1, 0x0, [⟨0, 1, .ro, 0⟩, ⟨1, 1, .ro, 0⟩, ⟨2, 1, .ro, 0⟩, ⟨16, 16, .ro, 0⟩]⟩
  | .DOCK_LENDMAP => ⟨.die, .io0, 0x1400, 1, 0x0, 1, 0x0,
      [⟨0, 8, .lk, 0⟩, ⟨8, 8, .lk, 0⟩, ⟨16, 8, .lk, 0⟩, ⟨24, 8, .lk, 0⟩, ⟨32, 8, .lk, 0⟩, ⟨40, 8, .lk, 0⟩, ⟨48, 8, .lk, 0⟩,
       ⟨56, 8, .lk, 0⟩]⟩
  | .DOCK_LEND_SPILL => ⟨.die, .io0, 0x1440, 8, 0x8, 1, 0x0, [⟨12, 40, .lk, 0⟩]⟩
  | .DOCK_LEND_WAIT => ⟨.die, .io0, 0x1480, 1, 0x0, 1, 0x0, [⟨0, 32, .rw, 0x3d090⟩]⟩
  | .DOCK_LEND_STATUS => ⟨.die, .io0, 0x1488, 1, 0x0, 1, 0x0, [⟨0, 1, .w1c, 0⟩, ⟨1, 1, .w1c, 0⟩]⟩
  | .CHK_FU_CFG => ⟨.chk, .cdio, 0x0, 8, 0x100, 1, 0x0,
      [⟨0, 7, .rw, 0x20⟩, ⟨7, 1, .rw, 1⟩, ⟨8, 1, .rw, 1⟩, ⟨9, 1, .rw, 1⟩, ⟨10, 1, .rw, 0⟩, ⟨11, 1, .rw, 0⟩, ⟨16, 8, .rw, 0⟩]⟩
  | .CHK_FU_POLY => ⟨.chk, .cdio, 0x8, 8, 0x100, 1, 0x0, [⟨0, 64, .rw, 0x1edc6f41⟩]⟩
  | .CHK_FU_INIT => ⟨.chk, .cdio, 0x10, 8, 0x100, 1, 0x0, [⟨0, 64, .rw, 0xffffffff⟩]⟩
  | .CHK_FU_ADDR => ⟨.chk, .cdio, 0x18, 8, 0x100, 1, 0x0, [⟨0, 52, .rw, 0⟩]⟩
  | .CHK_FU_LEN => ⟨.chk, .cdio, 0x20, 8, 0x100, 1, 0x0, [⟨0, 40, .rw, 0⟩]⟩
  | .CHK_FU_EXPECT => ⟨.chk, .cdio, 0x28, 8, 0x100, 1, 0x0, [⟨0, 64, .rw, 0⟩]⟩
  | .CHK_FU_CTL => ⟨.chk, .cdio, 0x30, 8, 0x100, 1, 0x0, [⟨0, 1, .wo, 0⟩, ⟨1, 1, .wo, 0⟩]⟩
  | .CHK_FU_RESULT => ⟨.chk, .cdio, 0x38, 8, 0x100, 1, 0x0, [⟨0, 64, .ro, 0⟩]⟩
  | .CHK_FU_STATUS => ⟨.chk, .cdio, 0x40, 8, 0x100, 1, 0x0, [⟨0, 2, .ro, 0⟩, ⟨2, 1, .ro, 0⟩, ⟨3, 1, .w1c, 0⟩, ⟨4, 2, .ro, 0⟩]⟩
  | .CHK_FU_DONE => ⟨.chk, .cdio, 0x48, 8, 0x100, 1, 0x0, [⟨0, 40, .ro, 0⟩]⟩
  | .CHK_D2D_RETRY => ⟨.chk, .cdio, 0x800, 1, 0x0, 1, 0x0, [⟨0, 48, .ro, 0⟩]⟩
  | .CHK_D2D_STATE => ⟨.chk, .cdio, 0x808, 1, 0x0, 1, 0x0, [⟨0, 7, .ro, 0⟩]⟩
  | .CHK_STATUS => ⟨.chk, .cdio, 0x810, 1, 0x0, 1, 0x0, [⟨0, 1, .w1c, 0⟩, ⟨1, 1, .w1c, 0⟩, ⟨2, 1, .w1c, 0⟩, ⟨3, 1, .w1c, 0⟩, ⟨4, 1, .w1c, 0⟩]⟩
  | .CHK_EVENT_EN => ⟨.chk, .cdio, 0x818, 1, 0x0, 1, 0x0, [⟨0, 5, .rw, 0xf⟩]⟩
  | .CHK_FAR_UNSEALED => ⟨.chk, .io, 0x820, 1, 0x0, 1, 0x0, [⟨0, 48, .ro, 0⟩]⟩
  | .CHK_SEAL_CNT_VER => ⟨.seal, .ms, 0x0, 1, 0x0, 1, 0x0, [⟨0, 48, .ro, 0⟩]⟩
  | .CHK_SEAL_CNT_FAIL => ⟨.seal, .ms, 0x8, 1, 0x0, 1, 0x0, [⟨0, 48, .ro, 0⟩]⟩
  | .CHK_SEAL_CNT_UNSEALED => ⟨.seal, .ms, 0x10, 1, 0x0, 1, 0x0, [⟨0, 48, .ro, 0⟩]⟩
  | .CHK_SEAL_CNT_RMW => ⟨.seal, .ms, 0x18, 1, 0x0, 1, 0x0, [⟨0, 48, .ro, 0⟩]⟩
  | .CHK_SEAL_LAST => ⟨.seal, .ms, 0x20, 1, 0x0, 1, 0x0, [⟨0, 25, .ro, 0⟩, ⟨25, 1, .ro, 0⟩, ⟨32, 8, .ro, 0⟩, ⟨63, 1, .w1c, 0⟩]⟩
  | .CHK_SEAL_STATUS => ⟨.seal, .ms, 0x28, 1, 0x0, 1, 0x0, [⟨0, 1, .w1c, 0⟩, ⟨1, 1, .w1c, 0⟩]⟩
  | .CHK_SEAL_EVENT_EN => ⟨.seal, .ms, 0x30, 1, 0x0, 1, 0x0, [⟨0, 2, .rw, 1⟩]⟩
  | .CHK_VD_CUR => ⟨.chk, .io0, 0x1000, 8, 0x40, 1, 0x0, [⟨0, 6, .ro, 0⟩, ⟨8, 5, .ro, 0⟩, ⟨32, 32, .ro, 0⟩]⟩
  | .CHK_VD_LAST => ⟨.chk, .io0, 0x1008, 8, 0x40, 1, 0x0, [⟨0, 2, .ro, 0⟩, ⟨8, 6, .ro, 0⟩, ⟨16, 5, .ro, 0⟩, ⟨32, 32, .ro, 0⟩]⟩
  | .CHK_VD_STEPS => ⟨.chk, .io0, 0x1010, 8, 0x40, 1, 0x0, [⟨0, 32, .ro, 0⟩, ⟨32, 32, .ro, 0⟩]⟩
  | .DOCK_WT_STATE => ⟨.die, .cd, 0xC00, 1, 0x0, 1, 0x0, [⟨0, 7, .ro, 0⟩, ⟨8, 3, .ro, 0⟩, ⟨16, 7, .ro, 0⟩, ⟨24, 7, .ro, 0⟩, ⟨32, 32, .ro, 0⟩]⟩
  | .DOCK_WT_POOL => ⟨.die, .cd, 0xC08, 1, 0x0, 1, 0x0, [⟨0, 3, .ro, 4⟩, ⟨8, 7, .ro, 0⟩, ⟨16, 7, .ro, 0⟩]⟩
  | .DOCK_WT_VACANT => ⟨.die, .cd, 0xC10, 1, 0x0, 1, 0x0, [⟨0, 64, .ro, 0⟩]⟩
  | .DOCK_WT_FENCE => ⟨.die, .cd, 0xC18, 1, 0x0, 1, 0x0, [⟨0, 7, .wo, 0⟩, ⟨7, 1, .wo, 0⟩]⟩
  | .DOCK_WT_CORE => ⟨.die, .cd, 0xC20, 1, 0x0, 1, 0x0, [⟨0, 9, .ro, 0xff⟩, ⟨9, 9, .ro, 0⟩, ⟨18, 4, .ro, 0xf⟩]⟩
  | .DOCK_SPR_STATUS => ⟨.die, .any, 0xC28, 1, 0x0, 1, 0x0,
      [⟨0, 1, .w1c, 0⟩, ⟨1, 1, .w1c, 0⟩, ⟨2, 1, .w1c, 0⟩, ⟨3, 1, .w1c, 0⟩, ⟨4, 1, .w1c, 0⟩, ⟨5, 1, .w1c, 0⟩, ⟨6, 1, .w1c, 0⟩,
       ⟨7, 1, .w1c, 0⟩, ⟨8, 1, .w1c, 0⟩]⟩
  | .DOCK_SPR_EVENT_EN => ⟨.die, .any, 0xC30, 1, 0x0, 1, 0x0, [⟨0, 9, .rw, 0x1ff⟩]⟩
  | .DOCK_ST_CMD => ⟨.die, .any, 0xC40, 1, 0x0, 1, 0x0, [⟨0, 4, .rw, 0⟩, ⟨4, 7, .rw, 0⟩, ⟨11, 2, .rw, 0⟩, ⟨13, 1, .wo, 0⟩]⟩
  | .DOCK_ST_STATUS => ⟨.die, .any, 0xC48, 1, 0x0, 1, 0x0, [⟨0, 2, .ro, 0⟩, ⟨2, 1, .ro, 0⟩, ⟨3, 1, .ro, 0⟩, ⟨4, 1, .ro, 0⟩]⟩
  | .DOCK_ST_SIGL => ⟨.die, .any, 0xC50, 1, 0x0, 1, 0x0, [⟨0, 64, .ro, 0⟩]⟩
  | .DOCK_ST_SIGM => ⟨.die, .any, 0xC58, 1, 0x0, 1, 0x0, [⟨0, 64, .ro, 0⟩]⟩
  | .DOCK_DB_BASE => ⟨.die, .io0, 0x1800, 8, 0x40, 1, 0x0, [⟨12, 40, .lk, 0⟩]⟩
  | .DOCK_DB_STEP => ⟨.die, .io0, 0x1808, 8, 0x40, 1, 0x0, [⟨0, 64, .rw, 0⟩]⟩
  | .DOCK_DB_CTL => ⟨.die, .io0, 0x1810, 8, 0x40, 1, 0x0, [⟨0, 1, .rw, 0⟩, ⟨7, 45, .rw, 0⟩]⟩
  | .DOCK_DB_RPLRES => ⟨.die, .io0, 0x1818, 8, 0x40, 1, 0x0, [⟨0, 9, .ro, 0⟩, ⟨16, 1, .ro, 0⟩, ⟨32, 32, .ro, 0⟩]⟩
  | .DOCK_CK_GENA => ⟨.die, .io0, 0x1820, 8, 0x40, 1, 0x0, [⟨12, 40, .lk, 0⟩]⟩
  | .DOCK_CK_GENB => ⟨.die, .io0, 0x1828, 8, 0x40, 1, 0x0, [⟨12, 40, .lk, 0⟩]⟩
  | .DOCK_PSPR_STATUS => ⟨.die, .io0, 0x1830, 8, 0x40, 1, 0x0,
      [⟨0, 1, .w1c, 0⟩, ⟨1, 1, .w1c, 0⟩, ⟨2, 1, .w1c, 0⟩, ⟨3, 1, .w1c, 0⟩, ⟨4, 1, .w1c, 0⟩, ⟨5, 1, .w1c, 0⟩, ⟨6, 1, .w1c, 0⟩,
       ⟨7, 1, .w1c, 0⟩, ⟨8, 1, .w1c, 0⟩]⟩
  | .DOCK_PSPR_EVENT_EN => ⟨.die, .io0, 0x1838, 8, 0x40, 1, 0x0, [⟨0, 9, .rw, 0x1ff⟩]⟩
  | .DOCK_CK_STATE => ⟨.ck, .ms, 0x0, 1, 0x0, 1, 0x0, [⟨0, 2, .ro, 0⟩, ⟨2, 3, .ro, 0⟩, ⟨5, 1, .ro, 0⟩, ⟨6, 3, .ro, 0⟩]⟩
  | .DOCK_CK_BYTES => ⟨.ck, .ms, 0x8, 1, 0x0, 1, 0x0, [⟨0, 48, .ro, 0⟩]⟩
  | .DOCK_CK_LAST => ⟨.ck, .ms, 0x10, 1, 0x0, 1, 0x0, [⟨0, 16, .ro, 0⟩, ⟨16, 1, .ro, 0⟩, ⟨32, 32, .ro, 0⟩]⟩
  | .DOCK_PT_LINK => ⟨.die, .io0, 0x2000, 8, 0x8, 1, 0x0, [⟨0, 3, .lk, 0⟩, ⟨3, 1, .lk, 0⟩]⟩
  | .DOCK_PT_PART => ⟨.die, .io0, 0x2040, 8, 0x40, 1, 0x0, [⟨0, 1, .lk, 0⟩, ⟨1, 3, .lk, 0⟩, ⟨4, 3, .lk, 0⟩, ⟨7, 1, .lk, 0⟩]⟩
  | .DOCK_PT_DOCK => ⟨.die, .io0, 0x2048, 8, 0x40, 1, 0x0, [⟨21, 31, .lk, 0⟩]⟩
  | .DOCK_PT_DOCKSIZE => ⟨.die, .io0, 0x2050, 8, 0x40, 1, 0x0, [⟨0, 16, .lk, 0⟩]⟩
  | .DOCK_PT_IRQTAB => ⟨.die, .io0, 0x2058, 8, 0x40, 1, 0x0, [⟨12, 40, .lk, 0⟩]⟩
  | .DOCK_PT_QUEUE => ⟨.die, .io0, 0x2240, 8, 0x8, 1, 0x0,
      [⟨0, 3, .lk, 0⟩, ⟨4, 3, .lk, 0⟩, ⟨8, 3, .lk, 0⟩, ⟨12, 3, .lk, 0⟩, ⟨16, 3, .lk, 0⟩, ⟨20, 3, .lk, 0⟩, ⟨24, 3, .lk, 0⟩, ⟨28, 3, .lk, 0⟩,
       ⟨32, 3, .lk, 0⟩, ⟨36, 3, .lk, 0⟩, ⟨40, 3, .lk, 0⟩, ⟨44, 3, .lk, 0⟩, ⟨48, 3, .lk, 0⟩, ⟨52, 3, .lk, 0⟩, ⟨56, 3, .lk, 0⟩,
       ⟨60, 3, .lk, 0⟩, ⟨3, 1, .lk, 0⟩, ⟨7, 1, .lk, 0⟩, ⟨11, 1, .lk, 0⟩, ⟨15, 1, .lk, 0⟩, ⟨19, 1, .lk, 0⟩, ⟨23, 1, .lk, 0⟩,
       ⟨27, 1, .lk, 0⟩, ⟨31, 1, .lk, 0⟩, ⟨35, 1, .lk, 0⟩, ⟨39, 1, .lk, 0⟩, ⟨43, 1, .lk, 0⟩, ⟨47, 1, .lk, 0⟩, ⟨51, 1, .lk, 0⟩,
       ⟨55, 1, .lk, 0⟩, ⟨59, 1, .lk, 0⟩, ⟨63, 1, .lk, 0⟩]⟩
  | .DOCK_PT_TILE => ⟨.die, .io0, 0x2280, 8, 0x8, 1, 0x0,
      [⟨0, 3, .lk, 0⟩, ⟨4, 3, .lk, 0⟩, ⟨8, 3, .lk, 0⟩, ⟨12, 3, .lk, 0⟩, ⟨16, 3, .lk, 0⟩, ⟨20, 3, .lk, 0⟩, ⟨24, 3, .lk, 0⟩, ⟨28, 3, .lk, 0⟩,
       ⟨3, 1, .lk, 0⟩, ⟨7, 1, .lk, 0⟩, ⟨11, 1, .lk, 0⟩, ⟨15, 1, .lk, 0⟩, ⟨19, 1, .lk, 0⟩, ⟨23, 1, .lk, 0⟩, ⟨27, 1, .lk, 0⟩,
       ⟨31, 1, .lk, 0⟩]⟩
  | .DOCK_PT_CORE => ⟨.die, .io0, 0x22C0, 8, 0x8, 1, 0x0,
      [⟨0, 3, .lk, 0⟩, ⟨4, 3, .lk, 0⟩, ⟨8, 3, .lk, 0⟩, ⟨12, 3, .lk, 0⟩, ⟨16, 3, .lk, 0⟩, ⟨20, 3, .lk, 0⟩, ⟨24, 3, .lk, 0⟩, ⟨28, 3, .lk, 0⟩,
       ⟨32, 3, .lk, 0⟩, ⟨3, 1, .lk, 0⟩, ⟨7, 1, .lk, 0⟩, ⟨11, 1, .lk, 0⟩, ⟨15, 1, .lk, 0⟩, ⟨19, 1, .lk, 0⟩, ⟨23, 1, .lk, 0⟩,
       ⟨27, 1, .lk, 0⟩, ⟨31, 1, .lk, 0⟩, ⟨35, 1, .lk, 0⟩]⟩
  | .DOCK_PT_STACK => ⟨.die, .io0, 0x2300, 2, 0x8, 1, 0x0,
      [⟨0, 3, .lk, 0⟩, ⟨4, 3, .lk, 0⟩, ⟨8, 3, .lk, 0⟩, ⟨12, 3, .lk, 0⟩, ⟨16, 3, .lk, 0⟩, ⟨20, 3, .lk, 0⟩, ⟨24, 3, .lk, 0⟩, ⟨28, 3, .lk, 0⟩,
       ⟨32, 3, .lk, 0⟩, ⟨36, 3, .lk, 0⟩, ⟨40, 3, .lk, 0⟩, ⟨44, 3, .lk, 0⟩, ⟨48, 3, .lk, 0⟩, ⟨52, 3, .lk, 0⟩, ⟨56, 3, .lk, 0⟩,
       ⟨60, 3, .lk, 0⟩, ⟨3, 1, .lk, 0⟩, ⟨7, 1, .lk, 0⟩, ⟨11, 1, .lk, 0⟩, ⟨15, 1, .lk, 0⟩, ⟨19, 1, .lk, 0⟩, ⟨23, 1, .lk, 0⟩,
       ⟨27, 1, .lk, 0⟩, ⟨31, 1, .lk, 0⟩, ⟨35, 1, .lk, 0⟩, ⟨39, 1, .lk, 0⟩, ⟨43, 1, .lk, 0⟩, ⟨47, 1, .lk, 0⟩, ⟨51, 1, .lk, 0⟩,
       ⟨55, 1, .lk, 0⟩, ⟨59, 1, .lk, 0⟩, ⟨63, 1, .lk, 0⟩]⟩
  | .DOCK_PT_CRV => ⟨.die, .io0, 0x2310, 2, 0x8, 1, 0x0,
      [⟨0, 3, .lk, 0⟩, ⟨4, 3, .lk, 0⟩, ⟨8, 3, .lk, 0⟩, ⟨12, 3, .lk, 0⟩, ⟨16, 3, .lk, 0⟩, ⟨20, 3, .lk, 0⟩, ⟨24, 3, .lk, 0⟩, ⟨28, 3, .lk, 0⟩,
       ⟨32, 3, .lk, 0⟩, ⟨36, 3, .lk, 0⟩, ⟨40, 3, .lk, 0⟩, ⟨44, 3, .lk, 0⟩, ⟨48, 3, .lk, 0⟩, ⟨52, 3, .lk, 0⟩, ⟨56, 3, .lk, 0⟩,
       ⟨60, 3, .lk, 0⟩, ⟨3, 1, .lk, 0⟩, ⟨7, 1, .lk, 0⟩, ⟨11, 1, .lk, 0⟩, ⟨15, 1, .lk, 0⟩, ⟨19, 1, .lk, 0⟩, ⟨23, 1, .lk, 0⟩,
       ⟨27, 1, .lk, 0⟩, ⟨31, 1, .lk, 0⟩, ⟨35, 1, .lk, 0⟩, ⟨39, 1, .lk, 0⟩, ⟨43, 1, .lk, 0⟩, ⟨47, 1, .lk, 0⟩, ⟨51, 1, .lk, 0⟩,
       ⟨55, 1, .lk, 0⟩, ⟨59, 1, .lk, 0⟩, ⟨63, 1, .lk, 0⟩]⟩
  | .DOCK_PT_LOCK => ⟨.die, .io0, 0x2320, 1, 0x0, 1, 0x0, [⟨0, 1, .wo, 0⟩, ⟨1, 1, .ro, 0⟩, ⟨2, 1, .ro, 0⟩, ⟨16, 16, .ro, 0⟩, ⟨32, 32, .ro, 0⟩]⟩
  | .DOCK_PCIE_CFG => ⟨.pcie, .io, 0x0, 1, 0x0, 1, 0x0, [⟨0, 1, .ro, 0⟩]⟩
  | .DOCK_PCIE_LNK => ⟨.pcie, .io, 0x8, 2, 0x8, 1, 0x0, [⟨0, 3, .ro, 0⟩, ⟨3, 5, .ro, 0⟩, ⟨8, 1, .ro, 0⟩, ⟨9, 1, .ro, 0⟩, ⟨32, 32, .ro, 0⟩]⟩
  | .DOCK_PCIE_CERR => ⟨.pcie, .io, 0x18, 2, 0x8, 1, 0x0, [⟨0, 48, .ro, 0⟩]⟩
  | .DOCK_BAYCMD => ⟨.die, .io0, 0x2800, 8, 0x40, 1, 0x0,
      [⟨0, 15, .wo, 0⟩, ⟨15, 15, .wo, 0⟩, ⟨30, 2, .wo, 0⟩, ⟨32, 2, .wo, 0⟩, ⟨34, 1, .wo, 0⟩, ⟨35, 1, .wo, 0⟩]⟩
  | .DOCK_BAYRES => ⟨.die, .io0, 0x2808, 8, 0x40, 1, 0x0,
      [⟨0, 16, .ro, 0⟩, ⟨16, 15, .ro, 0⟩, ⟨31, 1, .ro, 0⟩, ⟨32, 2, .ro, 0⟩, ⟨34, 1, .ro, 0⟩, ⟨35, 1, .ro, 0⟩]⟩
  | .DOCK_DOCKLOG => ⟨.die, .io0, 0x2810, 8, 0x40, 1, 0x0, [⟨0, 15, .ro, 0⟩, ⟨15, 1, .ro, 0⟩, ⟨16, 3, .ro, 0⟩, ⟨19, 1, .ro, 0⟩, ⟨32, 32, .ro, 0⟩]⟩
  | .DOCK_HOST_STATUS => ⟨.die, .io0, 0x2818, 8, 0x40, 1, 0x0,
      [⟨0, 1, .w1c, 0⟩, ⟨1, 1, .w1c, 0⟩, ⟨2, 1, .w1c, 0⟩, ⟨3, 1, .w1c, 0⟩, ⟨4, 1, .w1c, 0⟩, ⟨5, 1, .w1c, 0⟩, ⟨6, 1, .w1c, 0⟩,
       ⟨7, 1, .w1c, 0⟩, ⟨8, 1, .w1c, 0⟩, ⟨9, 1, .w1c, 0⟩, ⟨10, 1, .w1c, 0⟩, ⟨11, 1, .w1c, 0⟩]⟩
  | .DOCK_HOST_EVENT_EN => ⟨.die, .io0, 0x2820, 8, 0x40, 1, 0x0, [⟨0, 12, .rw, 0xfff⟩]⟩
  | .MBX_BIND => ⟨.mbx, .io0, 0x0, 256, 0x200, 1, 0x0, [⟨0, 8, .lk, 0⟩, ⟨8, 8, .lk, 0⟩, ⟨16, 3, .lk, 0⟩, ⟨19, 1, .lk, 0⟩]⟩
  | .MBX_CFG => ⟨.mbx, .io0, 0x8, 256, 0x200, 1, 0x0, [⟨0, 32, .rw, 0x3d090⟩]⟩
  | .MBX_DATA => ⟨.mbx, .io0, 0x100, 256, 0x200, 23, 0x8, [⟨0, 64, .rw, 0⟩]⟩
  | .MBX_SEND => ⟨.mbx, .io0, 0x138, 256, 0x200, 2, 0x80, [⟨0, 6, .wo, 0⟩, ⟨8, 8, .wo, 0⟩, ⟨16, 1, .wo, 0⟩, ⟨32, 16, .wo, 0⟩]⟩
  | .MBX_TXSTAT => ⟨.mbx, .io0, 0x140, 256, 0x200, 2, 0x80, [⟨0, 2, .ro, 0⟩, ⟨2, 3, .ro, 0⟩, ⟨16, 16, .ro, 0⟩, ⟨32, 32, .ro, 0⟩]⟩
  | .MBX_RXHDR => ⟨.mbx, .io0, 0x148, 256, 0x200, 2, 0x80, [⟨0, 6, .ro, 0⟩, ⟨6, 1, .ro, 0⟩, ⟨8, 8, .ro, 0⟩, ⟨16, 16, .ro, 0⟩]⟩
  | .MBX_ACK => ⟨.mbx, .io0, 0x150, 256, 0x200, 2, 0x80, [⟨0, 16, .wo, 0⟩]⟩
  | .PWR_MGT_FW => ⟨.mgt, .io0, 0x800, 1, 0x0, 1, 0x0, [⟨0, 2, .ro, 0⟩, ⟨8, 32, .ro, 0⟩, ⟨40, 6, .ro, 0⟩]⟩
  | .PWR_MGT_SESS => ⟨.mgt, .io0, 0x808, 1, 0x0, 1, 0x0, [⟨0, 4, .ro, 0⟩, ⟨8, 9, .ro, 0⟩, ⟨32, 32, .ro, 0⟩]⟩
  | .PWR_MGT_DIVERGE => ⟨.mgt, .io0, 0x810, 1, 0x0, 1, 0x0, [⟨0, 16, .ro, 0⟩, ⟨16, 8, .ro, 0⟩, ⟨24, 8, .ro, 0⟩, ⟨32, 32, .ro, 0⟩]⟩
  | .PWR_MGT_STATUS => ⟨.mgt, .io0, 0x818, 1, 0x0, 1, 0x0,
      [⟨0, 1, .w1c, 0⟩, ⟨1, 1, .w1c, 0⟩, ⟨2, 1, .w1c, 0⟩, ⟨3, 1, .w1c, 0⟩, ⟨4, 1, .w1c, 0⟩, ⟨5, 1, .w1c, 0⟩, ⟨6, 1, .w1c, 0⟩,
       ⟨7, 1, .w1c, 0⟩]⟩
  | .PWR_MGT_EVENT_EN => ⟨.mgt, .io0, 0x820, 1, 0x0, 1, 0x0, [⟨0, 8, .rw, 0xff⟩]⟩
  | .PWR_DIE_STATE => ⟨.pwr, .any, 0x0, 1, 0x0, 1, 0x0, [⟨0, 3, .ro, 0⟩, ⟨3, 3, .ro, 0⟩, ⟨6, 1, .ro, 0⟩]⟩
  | .PWR_DOM_LEVEL => ⟨.pwr, .any, 0x8, 1, 0x0, 1, 0x0,
      [⟨0, 2, .ro, 0⟩, ⟨2, 2, .ro, 0⟩, ⟨4, 2, .ro, 0⟩, ⟨6, 2, .ro, 0⟩, ⟨8, 2, .ro, 0⟩, ⟨10, 2, .ro, 0⟩, ⟨12, 2, .ro, 0⟩, ⟨14, 2, .ro, 0⟩,
       ⟨16, 2, .ro, 0⟩, ⟨18, 2, .ro, 0⟩, ⟨20, 2, .ro, 0⟩, ⟨22, 2, .ro, 0⟩, ⟨24, 2, .ro, 0⟩, ⟨26, 2, .ro, 0⟩, ⟨28, 2, .ro, 0⟩,
       ⟨30, 2, .ro, 0⟩]⟩
  | .PWR_DOM_STARTS => ⟨.pwr, .any, 0x10, 1, 0x0, 1, 0x0, [⟨0, 48, .ro, 0⟩]⟩
  | .PWR_DOZE_DWELL => ⟨.pwr, .cd, 0x18, 1, 0x0, 1, 0x0, [⟨0, 32, .rw, 0x9c4⟩]⟩
  | .PWR_TEMP => ⟨.pwr, .any, 0x20, 1, 0x0, 1, 0x0, [⟨0, 16, .ro, 0⟩, ⟨16, 16, .rc, 0⟩]⟩
  | .PWR_TIMEBASE => ⟨.mgt, .io0, 0x0, 1, 0x0, 1, 0x0, [⟨0, 64, .ro, 0⟩]⟩
  | .PWR_DEV_STATE => ⟨.mgt, .io0, 0x8, 1, 0x0, 1, 0x0, [⟨0, 3, .ro, 0⟩, ⟨3, 3, .ro, 0⟩, ⟨6, 1, .ro, 0⟩]⟩
  | .PWR_HS_LAST => ⟨.mgt, .io0, 0x10, 1, 0x0, 1, 0x0,
      [⟨0, 16, .ro, 0⟩, ⟨16, 8, .ro, 0⟩, ⟨24, 3, .ro, 0⟩, ⟨27, 1, .ro, 0⟩, ⟨28, 1, .w1c, 0⟩, ⟨32, 32, .ro, 0⟩]⟩
  | .PWR_HS_TIMEOUT => ⟨.mgt, .io0, 0x18, 1, 0x0, 1, 0x0, [⟨0, 32, .rw, 0x2625a0⟩]⟩
  | .PWR_RST_FLAGS => ⟨.mgt, .io0, 0x20, 1, 0x0, 1, 0x0,
      [⟨0, 1, .w1c, 0⟩, ⟨1, 1, .w1c, 0⟩, ⟨2, 1, .w1c, 0⟩, ⟨3, 1, .w1c, 0⟩, ⟨4, 1, .w1c, 0⟩, ⟨5, 1, .w1c, 0⟩, ⟨6, 1, .w1c, 0⟩,
       ⟨8, 8, .w1c, 0⟩, ⟨16, 1, .w1c, 0⟩, ⟨17, 1, .w1c, 0⟩, ⟨18, 6, .ro, 0⟩, ⟨24, 7, .ro, 0⟩, ⟨31, 3, .ro, 0⟩]⟩
  | .PWR_RST_CMD => ⟨.mgt, .io0, 0x28, 1, 0x0, 1, 0x0, [⟨0, 3, .wo, 0⟩, ⟨3, 3, .wo, 0⟩, ⟨6, 6, .wo, 0⟩, ⟨12, 7, .wo, 0⟩, ⟨19, 1, .wo, 0⟩]⟩
  | .PWR_WAKE => ⟨.mgt, .io0, 0x30, 1, 0x0, 1, 0x0, [⟨0, 6, .rw, 0x3f⟩, ⟨8, 6, .ro, 0⟩]⟩
  | .PWR_BRINGUP => ⟨.mgt, .io0, 0x38, 1, 0x0, 1, 0x0, [⟨0, 3, .ro, 0⟩, ⟨3, 1, .ro, 0⟩, ⟨4, 2, .ro, 0⟩, ⟨6, 6, .ro, 0⟩, ⟨12, 6, .ro, 0⟩]⟩
  | .PWR_AVS_ERR => ⟨.mgt, .io0, 0x40, 1, 0x0, 1, 0x0, [⟨0, 48, .ro, 0⟩]⟩
  | .PWR_STATUS => ⟨.mgt, .io0, 0x48, 1, 0x0, 1, 0x0,
      [⟨0, 1, .w1c, 0⟩, ⟨1, 1, .w1c, 0⟩, ⟨2, 1, .w1c, 0⟩, ⟨3, 1, .w1c, 0⟩, ⟨4, 1, .w1c, 0⟩, ⟨5, 1, .w1c, 0⟩, ⟨6, 1, .w1c, 0⟩,
       ⟨7, 1, .w1c, 0⟩, ⟨8, 1, .w1c, 0⟩]⟩
  | .PWR_EVENT_EN => ⟨.mgt, .io0, 0x50, 1, 0x0, 1, 0x0, [⟨0, 9, .rw, 0x1ff⟩]⟩
  | .TILE_PMC_CTL => ⟨.tile, .cd, 0x200, 8, 0x8, 1, 0x0,
      [⟨0, 8, .rw, 0⟩, ⟨8, 1, .rw, 0⟩, ⟨9, 1, .rw, 0⟩, ⟨10, 6, .rw, 0⟩, ⟨16, 7, .rw, 0⟩, ⟨23, 1, .rw, 0⟩, ⟨24, 8, .rw, 0⟩, ⟨32, 8, .rw, 0⟩]⟩
  | .TILE_PMC_VAL => ⟨.tile, .cd, 0x240, 8, 0x8, 1, 0x0, [⟨0, 48, .rw, 0⟩]⟩
  | .TILE_PMC_RBASE => ⟨.tile, .cd, 0x280, 1, 0x0, 1, 0x0, [⟨0, 52, .rw, 0⟩]⟩
  | .TILE_PMC_RLIMIT => ⟨.tile, .cd, 0x288, 1, 0x0, 1, 0x0, [⟨0, 52, .rw, 0⟩]⟩
  | .TILE_PMC_STATUS => ⟨.tile, .cd, 0x290, 1, 0x0, 1, 0x0, [⟨0, 8, .w1c, 0⟩, ⟨8, 8, .ro, 0⟩, ⟨32, 16, .ro, 0⟩]⟩
  | .DOCK_PMC_CTL => ⟨.die, .any, 0x4000, 64, 0x8, 1, 0x0,
      [⟨0, 8, .rw, 0⟩, ⟨8, 8, .rw, 0⟩, ⟨16, 1, .rw, 0⟩, ⟨17, 1, .rw, 0⟩, ⟨18, 6, .rw, 0⟩, ⟨24, 1, .rw, 0⟩, ⟨25, 7, .rw, 0⟩,
       ⟨32, 8, .rw, 0⟩, ⟨40, 8, .rw, 0⟩, ⟨48, 3, .rw, 0⟩, ⟨52, 3, .ro, 0⟩, ⟨55, 1, .ro, 0⟩]⟩
  | .DOCK_PMC_VAL => ⟨.die, .any, 0x4200, 64, 0x8, 1, 0x0, [⟨0, 48, .rw, 0⟩]⟩
  | .DOCK_PMC_RBASE => ⟨.die, .any, 0x4400, 4, 0x10, 1, 0x0, [⟨0, 52, .rw, 0⟩]⟩
  | .DOCK_PMC_RLIMIT => ⟨.die, .any, 0x4408, 4, 0x10, 1, 0x0, [⟨0, 52, .rw, 0⟩]⟩
  | .DOCK_PMC_GLOBAL => ⟨.die, .any, 0x4440, 1, 0x0, 1, 0x0, [⟨0, 1, .rw, 0⟩, ⟨1, 1, .rw, 0⟩]⟩
  | .DOCK_PMC_OVF => ⟨.die, .any, 0x4448, 1, 0x0, 1, 0x0, [⟨0, 64, .w1c, 0⟩]⟩
  | .DOCK_PMC_SAT => ⟨.die, .any, 0x4450, 1, 0x0, 1, 0x0, [⟨0, 64, .w1c, 0⟩]⟩
  | .DOCK_PMC_BAD => ⟨.die, .any, 0x4458, 1, 0x0, 1, 0x0, [⟨0, 64, .ro, 0⟩]⟩
  | .DOCK_PMC_CSAMPLE_PC => ⟨.die, .cd, 0x4460, 9, 0x10, 1, 0x0, [⟨0, 64, .ro, 0⟩]⟩
  | .DOCK_PMC_CSAMPLE_INFO => ⟨.die, .cd, 0x4468, 9, 0x10, 1, 0x0, [⟨0, 6, .ro, 0⟩, ⟨6, 2, .ro, 0⟩, ⟨8, 1, .w1c, 0⟩, ⟨16, 16, .ro, 0⟩]⟩
  | .DOCK_PMC_STATUS => ⟨.die, .any, 0x4500, 1, 0x0, 1, 0x0,
      [⟨0, 1, .w1c, 0⟩, ⟨1, 1, .w1c, 0⟩, ⟨2, 1, .w1c, 0⟩, ⟨3, 1, .w1c, 0⟩, ⟨4, 1, .w1c, 0⟩, ⟨5, 1, .w1c, 0⟩]⟩
  | .DOCK_PMC_EVENT_EN => ⟨.die, .any, 0x4508, 1, 0x0, 1, 0x0, [⟨0, 6, .rw, 0x3f⟩]⟩

/-- Every register. -/
def all0 : List Reg := [.TILE_ID, .TILE_POS, .TILE_STATE, .TILE_LEND, .ACC_SET0, .ACC_SET1, .ACC_HOLD_LIMIT, .ACC_STATUS, .ACC_EVENT_EN, .ACC_ABFT_WB, .ACC_ABFT_POS, .ACC_ABFT_PEER, .ACC_CNT_CHK, .ACC_CNT_UNCHK, .ACC_CNT_FAIL, .ACC_LEND, .DOCK_QBASE, .DOCK_QCFG, .DOCK_QTAIL, .DOCK_QHEAD, .DOCK_QCOMP, .DOCK_QDESC, .DOCK_QDCNT, .DOCK_QLIMIT, .DOCK_QABORT, .DOCK_QSTAT, .DOCK_MS_ID, .DOCK_MS_SLOTS, .DOCK_MS_HOTDWELL, .DOCK_MS_HOTBANK]
def all1 : List Reg := [.DOCK_MS_WRAPTIME, .DOCK_MS_PCRET, .DOCK_MS_CECNT, .DOCK_MS_UECNT, .DOCK_MS_ERRADDR, .DOCK_MS_ROWSPARE, .DOCK_MS_CETHRESH, .DOCK_MS_STATUS, .DOCK_MS_EVENT_EN, .DOCK_BAND, .DOCK_FARBASE, .DOCK_MESHSHARE, .TILE_PF_CTL, .TILE_PF_FETCH, .TILE_PF_USED, .TILE_PF_LATE, .TILE_PF_STALE, .TILE_PF_UNUSED, .TILE_PF_MISS, .DOCK_SID_BASE, .DOCK_SID_SIZE, .DOCK_SID_PLAN, .DOCK_SID_TOP, .DOCK_SID_PEAK, .DOCK_SID_CNT, .DOCK_SID_STATUS, .DOCK_SID_EVENT_EN, .DOCK_SCL_HSTEP, .DOCK_SCL_FILL, .DOCK_SCL_REFRESH]
def all2 : List Reg := [.DOCK_SCL_LAST, .DOCK_SCL_STATUS, .DOCK_SCL_EVENT_EN, .UPD_ID, .UPD_STATE, .UPD_POOL, .UPD_INTAKE_LIMIT, .UPD_FARWAIT, .UPD_FARSTALL, .UPD_CNT_SLICES, .UPD_CNT_SKIP, .UPD_CNT_FROZEN, .UPD_LASTFAULT, .UPD_STATUS, .UPD_EVENT_EN, .CRV_ID, .CRV_STATE, .CRV_SDBASE, .CRV_TTBASE, .CRV_TTCOUNT, .CRV_TTCTL, .CRV_TTERR, .CRV_FEEDLIMIT, .CRV_FEED, .CRV_CNT_TILES, .CRV_CNT_NFTILE, .CRV_CNT_DISCARD, .CRV_CNT_FOLDWAIT, .CRV_LASTFAULT, .CRV_STATUS]
def all3 : List Reg := [.CRV_EVENT_EN, .CRV_SCRATCH, .CRV_SCRSIZE, .CRV_ROOTRUN, .CRV_ROOTLAST, .CRV_CNT_PUB, .CRV_CNT_PARTIAL, .CRV_CNT_STALE, .CRV_CNT_COLD, .CRV_ROOT_STATUS, .CRV_ROOT_EVENT_EN, .RING_ID, .RING_LINKST, .RING_WAVE, .RING_CNT_TX, .RING_CNT_RX, .RING_CNT_RETRY, .RING_CNT_CHKFAIL, .RING_CNT_FWD, .RING_CNT_DROP, .RING_LASTFAULT, .RING_STATUS, .RING_EVENT_EN, .RING_CFG, .RING_BYPASS, .RING_LINE, .RING_LINEX, .RING_VC, .RING_EPOCHWAIT, .RING_EPOCHSTAT]
def all4 : List Reg := [.RING_MATCHLIMIT, .RING_NOISE, .RING_LASER, .DOCK_LENDMAP, .DOCK_LEND_SPILL, .DOCK_LEND_WAIT, .DOCK_LEND_STATUS, .CHK_FU_CFG, .CHK_FU_POLY, .CHK_FU_INIT, .CHK_FU_ADDR, .CHK_FU_LEN, .CHK_FU_EXPECT, .CHK_FU_CTL, .CHK_FU_RESULT, .CHK_FU_STATUS, .CHK_FU_DONE, .CHK_D2D_RETRY, .CHK_D2D_STATE, .CHK_STATUS, .CHK_EVENT_EN, .CHK_FAR_UNSEALED, .CHK_SEAL_CNT_VER, .CHK_SEAL_CNT_FAIL, .CHK_SEAL_CNT_UNSEALED, .CHK_SEAL_CNT_RMW, .CHK_SEAL_LAST, .CHK_SEAL_STATUS, .CHK_SEAL_EVENT_EN, .CHK_VD_CUR]
def all5 : List Reg := [.CHK_VD_LAST, .CHK_VD_STEPS, .DOCK_WT_STATE, .DOCK_WT_POOL, .DOCK_WT_VACANT, .DOCK_WT_FENCE, .DOCK_WT_CORE, .DOCK_SPR_STATUS, .DOCK_SPR_EVENT_EN, .DOCK_ST_CMD, .DOCK_ST_STATUS, .DOCK_ST_SIGL, .DOCK_ST_SIGM, .DOCK_DB_BASE, .DOCK_DB_STEP, .DOCK_DB_CTL, .DOCK_DB_RPLRES, .DOCK_CK_GENA, .DOCK_CK_GENB, .DOCK_PSPR_STATUS, .DOCK_PSPR_EVENT_EN, .DOCK_CK_STATE, .DOCK_CK_BYTES, .DOCK_CK_LAST, .DOCK_PT_LINK, .DOCK_PT_PART, .DOCK_PT_DOCK, .DOCK_PT_DOCKSIZE, .DOCK_PT_IRQTAB, .DOCK_PT_QUEUE]
def all6 : List Reg := [.DOCK_PT_TILE, .DOCK_PT_CORE, .DOCK_PT_STACK, .DOCK_PT_CRV, .DOCK_PT_LOCK, .DOCK_PCIE_CFG, .DOCK_PCIE_LNK, .DOCK_PCIE_CERR, .DOCK_BAYCMD, .DOCK_BAYRES, .DOCK_DOCKLOG, .DOCK_HOST_STATUS, .DOCK_HOST_EVENT_EN, .MBX_BIND, .MBX_CFG, .MBX_DATA, .MBX_SEND, .MBX_TXSTAT, .MBX_RXHDR, .MBX_ACK, .PWR_MGT_FW, .PWR_MGT_SESS, .PWR_MGT_DIVERGE, .PWR_MGT_STATUS, .PWR_MGT_EVENT_EN, .PWR_DIE_STATE, .PWR_DOM_LEVEL, .PWR_DOM_STARTS, .PWR_DOZE_DWELL, .PWR_TEMP]
def all7 : List Reg := [.PWR_TIMEBASE, .PWR_DEV_STATE, .PWR_HS_LAST, .PWR_HS_TIMEOUT, .PWR_RST_FLAGS, .PWR_RST_CMD, .PWR_WAKE, .PWR_BRINGUP, .PWR_AVS_ERR, .PWR_STATUS, .PWR_EVENT_EN, .TILE_PMC_CTL, .TILE_PMC_VAL, .TILE_PMC_RBASE, .TILE_PMC_RLIMIT, .TILE_PMC_STATUS, .DOCK_PMC_CTL, .DOCK_PMC_VAL, .DOCK_PMC_RBASE, .DOCK_PMC_RLIMIT, .DOCK_PMC_GLOBAL, .DOCK_PMC_OVF, .DOCK_PMC_SAT, .DOCK_PMC_BAD, .DOCK_PMC_CSAMPLE_PC, .DOCK_PMC_CSAMPLE_INFO, .DOCK_PMC_STATUS, .DOCK_PMC_EVENT_EN]
def all : List Reg := all0 ++ all1 ++ all2 ++ all3 ++ all4 ++ all5 ++ all6 ++ all7

end Reg
end Sys2Proof.Machine
end

