-- ==== Sys2Proof/Machine/Crypto.lean ====
section
/-! DEFINITION. The published functions that the manual names and does not write out, each as its standard gives it: SHA-256 and SHA-384 (FIPS 180-4),
HMAC (FIPS 198-1), ECDSA over P-384 (FIPS 186-5), and AES-256 (FIPS 197) with its key wrap (SP 800-38F), for 15 R435, R442, R444, R449 and R450. -/

namespace Sys2Proof.Machine

/-- A number of n bytes, most significant byte first, and the number that such bytes are. -/
def beBytes (n x : Nat) : List Byte := (leBytes n x).reverse
def ofBe (l : List Byte) : Nat := ofLe l.reverse

/-- A list cut into runs of n elements. -/
def runs {α : Type} (n : Nat) : Nat → List α → List (List α)
  | 0, _ => []
  | k + 1, l => if l.isEmpty then [] else l.take n :: runs n k (l.drop n)

/-- The parameters of a hash of the SHA-2 family: word bits, rounds, and the amounts of Σ0, Σ1, σ0 and σ1 (the last of a σ is a shift). -/
structure Sha where
  bits : Nat
  rounds : Nat
  big0 : Nat × Nat × Nat
  big1 : Nat × Nat × Nat
  small0 : Nat × Nat × Nat
  small1 : Nat × Nat × Nat

def Sha.s256 : Sha := ⟨32, 64, (2, 13, 22), (6, 11, 25), (7, 18, 3), (17, 19, 10)⟩
def Sha.s512 : Sha := ⟨64, 80, (28, 34, 39), (14, 18, 41), (1, 8, 7), (19, 61, 6)⟩

/-- The 80 constants of 64 bits; SHA-256 takes the upper halves of the first 64. -/
def shaK0 : List Nat :=
  [0x428A2F98D728AE22, 0x7137449123EF65CD, 0xB5C0FBCFEC4D3B2F, 0xE9B5DBA58189DBBC,
   0x3956C25BF348B538, 0x59F111F1B605D019, 0x923F82A4AF194F9B, 0xAB1C5ED5DA6D8118,
   0xD807AA98A3030242, 0x12835B0145706FBE, 0x243185BE4EE4B28C, 0x550C7DC3D5FFB4E2,
   0x72BE5D74F27B896F, 0x80DEB1FE3B1696B1, 0x9BDC06A725C71235, 0xC19BF174CF692694]
def shaK1 : List Nat :=
  [0xE49B69C19EF14AD2, 0xEFBE4786384F25E3, 0x0FC19DC68B8CD5B5, 0x240CA1CC77AC9C65,
   0x2DE92C6F592B0275, 0x4A7484AA6EA6E483, 0x5CB0A9DCBD41FBD4, 0x76F988DA831153B5,
   0x983E5152EE66DFAB, 0xA831C66D2DB43210, 0xB00327C898FB213F, 0xBF597FC7BEEF0EE4,
   0xC6E00BF33DA88FC2, 0xD5A79147930AA725, 0x06CA6351E003826F, 0x142929670A0E6E70]
def shaK2 : List Nat :=
  [0x27B70A8546D22FFC, 0x2E1B21385C26C926, 0x4D2C6DFC5AC42AED, 0x53380D139D95B3DF,
   0x650A73548BAF63DE, 0x766A0ABB3C77B2A8, 0x81C2C92E47EDAEE6, 0x92722C851482353B,
   0xA2BFE8A14CF10364, 0xA81A664BBC423001, 0xC24B8B70D0F89791, 0xC76C51A30654BE30,
   0xD192E819D6EF5218, 0xD69906245565A910, 0xF40E35855771202A, 0x106AA07032BBD1B8]
def shaK3 : List Nat :=
  [0x19A4C116B8D2D0C8, 0x1E376C085141AB53, 0x2748774CDF8EEB99, 0x34B0BCB5E19B48A8,
   0x391C0CB3C5C95A63, 0x4ED8AA4AE3418ACB, 0x5B9CCA4F7763E373, 0x682E6FF3D6B2B8A3,
   0x748F82EE5DEFB2FC, 0x78A5636F43172F60, 0x84C87814A1F0AB72, 0x8CC702081A6439EC,
   0x90BEFFFA23631E28, 0xA4506CEBDE82BDE9, 0xBEF9A3F7B2C67915, 0xC67178F2E372532B]
def shaK4 : List Nat :=
  [0xCA273ECEEA26619C, 0xD186B8C721C0C207, 0xEADA7DD6CDE0EB1E, 0xF57D4F7FEE6ED178,
   0x06F067AA72176FBA, 0x0A637DC5A2C898A6, 0x113F9804BEF90DAE, 0x1B710B35131C471B,
   0x28DB77F523047D84, 0x32CAAB7B40C72493, 0x3C9EBE0A15C9BEBC, 0x431D67C49C100D4C,
   0x4CC5D4BECB3E42B6, 0x597F299CFC657E2A, 0x5FCB6FAB3AD6FAEC, 0x6C44198C4A475817]
def shaK : List Nat := shaK0 ++ shaK1 ++ shaK2 ++ shaK3 ++ shaK4
def Sha.k (h : Sha) (i : Nat) : Nat := shaK.getD i 0 / 2 ^ (64 - h.bits)

/-- A word rotated right by n places, the functions Σ and σ, Ch and Maj. -/
def Sha.rotr (h : Sha) (n x : Nat) : Nat := x / 2 ^ n + x % 2 ^ n * 2 ^ (h.bits - n)
def Sha.sum3 (h : Sha) (r : Nat × Nat × Nat) (x : Nat) : Nat := Nat.xor (Nat.xor (h.rotr r.1 x) (h.rotr r.2.1 x)) (h.rotr r.2.2 x)
def Sha.mix3 (h : Sha) (r : Nat × Nat × Nat) (x : Nat) : Nat := Nat.xor (Nat.xor (h.rotr r.1 x) (h.rotr r.2.1 x)) (x / 2 ^ r.2.2)
def Sha.ch (h : Sha) (x y z : Nat) : Nat := Nat.xor (Nat.land x y) (Nat.land (2 ^ h.bits - 1 - x) z)
def Sha.maj (x y z : Nat) : Nat := Nat.xor (Nat.xor (Nat.land x y) (Nat.land x z)) (Nat.land y z)

/-- The message schedule, newest word first, after k more words. -/
def Sha.schedule (h : Sha) : Nat → List Nat → List Nat
  | 0, w => w
  | k + 1, w =>
    h.schedule k ((h.mix3 h.small1 (w.getD 1 0) + w.getD 6 0 + h.mix3 h.small0 (w.getD 14 0) + w.getD 15 0) % 2 ^ h.bits :: w)

/-- One round on the eight working words. -/
def Sha.round (h : Sha) (v : List Nat) (kw : Nat) : List Nat :=
  match v with
  | [a, b, c, d, e, f, g, i] =>
    let t := i + h.sum3 h.big1 e + h.ch e f g + kw
    [(t + h.sum3 h.big0 a + Sha.maj a b c) % 2 ^ h.bits, a, b, c, (d + t) % 2 ^ h.bits, e, f, g]
  | _ => v

/-- One block of sixteen words. -/
def Sha.block (h : Sha) (v : List Nat) (m : List Nat) : List Nat :=
  let w := (h.schedule (h.rounds - 16) m.reverse).reverse
  let z := w.zipIdx.foldl (fun (v : List Nat) x => h.round v (h.k x.2 + x.1)) v
  List.zipWith (fun x y => (x + y) % 2 ^ h.bits) v z

/-- The message with its padding: a one bit, zeros, and its length in bits. -/
def Sha.pad (h : Sha) (l : List Byte) : List Byte :=
  let block := 2 * h.bits
  let n := l.length + 1 + h.bits / 4
  l ++ 0x80 :: List.replicate ((block - n % block) % block) 0 ++ beBytes (h.bits / 4) (8 * l.length)

/-- The hash of a message from an initial value, as bytes. -/
def Sha.hash (h : Sha) (init : List Nat) (l : List Byte) : List Byte :=
  let padded := h.pad l
  let blocks := (runs (2 * h.bits) (padded.length / (2 * h.bits)) padded).map fun b => (runs (h.bits / 8) 16 b).map ofBe
  (blocks.foldl h.block init).flatMap (beBytes (h.bits / 8))

def sha256 (l : List Byte) : List Byte :=
  Sha.s256.hash [0x6A09E667, 0xBB67AE85, 0x3C6EF372, 0xA54FF53A, 0x510E527F, 0x9B05688C, 0x1F83D9AB, 0x5BE0CD19] l

def sha384 (l : List Byte) : List Byte :=
  (Sha.s512.hash
    [0xCBBB9D5DC1059ED8, 0x629A292A367CD507, 0x9159015A3070DD17, 0x152FECD8F70E5939,
     0x67332667FFC00B31, 0x8EB44A8768581511, 0xDB0C2E0D64F98FA7, 0x47B5481DBEFA4FA4] l).take 48

/-- HMAC-SHA-256 of a message under a key. -/
def hmac (key msg : List Byte) : List Byte :=
  let k := if 64 < key.length then sha256 key else key
  let k := k ++ List.replicate (64 - k.length) 0
  sha256 (k.map (· ^^^ 0x5C) ++ sha256 (k.map (· ^^^ 0x36) ++ msg))

/-- b to the power e modulo m, e below 2^384. -/
def powMod (m b e : Nat) : Nat := (List.range 384).foldr (fun i r => (if e.testBit i then b else 1) * (r * r % m) % m) 1

/-- The curve P-384: its field, its order, and its base point. -/
def p384p : Nat := 2 ^ 384 - 2 ^ 128 - 2 ^ 96 + 2 ^ 32 - 1
def p384n : Nat := 0xFFFFFFFFFFFFFFFFFFFFFFFFFFFFFFFFFFFFFFFFFFFFFFFFC7634D81F4372DDF581A0DB248B0A77AECEC196ACCC52973
def p384g : Nat × Nat :=
  (0xAA87CA22BE8B05378EB1C71EF320AD746E1D3B628BA79B9859F741E082542A385502F25DBF55296C3A545E3872760AB7,
   0x3617DE4A96262C6F5D9E98BF9292DC29F8F41DBD289A147CE9DA3113B5F0B8C00A60B1CE1D7E819D7A431D7C90EA0E5F)

/-- A point as X, Y and Z with x = X / Z², y = Y / Z³; Z is 0 at infinity. -/
structure EcPoint where
  x : Nat
  y : Nat
  z : Nat

/-- A point added to itself; the curve's a is −3. -/
def EcPoint.double (a : EcPoint) : EcPoint :=
  let p := p384p
  let zz := a.z * a.z % p
  let s := 4 * a.x * (a.y * a.y % p) % p
  let m := 3 * ((a.x + p - zz) % p) * (a.x + zz) % p
  let x := (m * m + 2 * (p - s)) % p
  ⟨x, (m * (s + p - x) + 8 * (p - a.y * a.y % p * (a.y * a.y % p) % p)) % p, 2 * a.y * a.z % p⟩

/-- The sum of two points. -/
def EcPoint.add (a b : EcPoint) : EcPoint :=
  let p := p384p
  if a.z = 0 then b
  else if b.z = 0 then a
  else
    let za := a.z * a.z % p
    let zb := b.z * b.z % p
    let u := a.x * zb % p
    let s := a.y * zb % p * b.z % p
    let h := (b.x * za + p - u) % p
    let r := (b.y * za % p * a.z + p - s) % p
    if h = 0 then (if r = 0 then a.double else ⟨1, 1, 0⟩)
    else
      let hh := h * h % p
      let hhh := hh * h % p
      let x := (r * r + (p - hhh) + 2 * (p - u * hh % p)) % p
      ⟨x, (r * (u * hh % p + p - x) + (p - s * hhh % p)) % p, h * a.z % p * b.z % p⟩

/-- k times a point, k below 2^384. -/
def EcPoint.times (a : EcPoint) (k : Nat) : EcPoint :=
  (List.range 384).foldr (fun i (r : EcPoint) => if k.testBit i then r.double.add a else r.double) ⟨1, 1, 0⟩

/-- The ECDSA signature (r, s) over a message verifies under a public key (FIPS 186-5 6.4.2, with SHA-384). -/
def ecdsaOk (key : Nat × Nat) (msg : List Byte) (r s : Nat) : Bool :=
  if r = 0 ∨ p384n ≤ r ∨ s = 0 ∨ p384n ≤ s then false
  else
    let w := powMod p384n s (p384n - 2)
    let e := ofBe (sha384 msg)
    let a := ((⟨p384g.1, p384g.2, 1⟩ : EcPoint).times (e * w % p384n)).add ((⟨key.1, key.2, 1⟩ : EcPoint).times (r * w % p384n))
    a.z != 0 && a.x * powMod p384p (a.z * a.z % p384p) (p384p - 2) % p384p % p384n == r

/-- The product of two elements of GF(2^8), modulo x^8 + x^4 + x^3 + x + 1. -/
def gfMul (a b : Nat) : Nat :=
  ((List.range 8).foldl (fun (s : Nat × Nat) i =>
    (if b.testBit i then Nat.xor s.1 s.2 else s.1, if s.2 < 128 then 2 * s.2 else Nat.xor (2 * s.2) 0x11B)) (0, a)).1

/-- The inverse in GF(2^8), a^254; 0 for 0. -/
def gfInv (a : Nat) : Nat := (List.range 6).foldl (fun r _ => gfMul (gfMul r r) a) a |> fun r => gfMul r r

/-- A byte rotated left. -/
def rotl8 (n x : Nat) : Nat := x * 2 ^ n % 256 + x / 2 ^ (8 - n)

/-- The S-box and its inverse (FIPS 197 5.1.1, 5.3.2). -/
def aesSub (x : Nat) : Nat :=
  let b := gfInv x
  [1, 2, 3, 4].foldl (fun r n => Nat.xor r (rotl8 n b)) (Nat.xor b 0x63)
def aesUnsub (x : Nat) : Nat := gfInv ([1, 3, 6].foldl (fun r n => Nat.xor r (rotl8 n x)) 5)

/-- The words of the expanded key of AES-256, newest first (FIPS 197 5.2). -/
def aesExpand : Nat → List (List Nat) → List (List Nat)
  | 0, w => w
  | k + 1, w =>
    let i := w.length
    let t := w.headD []
    let t := if i % 8 = 0 then
        (match (t.drop 1 ++ t.take 1).map aesSub with
          | a :: r => Nat.xor a (2 ^ (i / 8 - 1)) :: r
          | [] => [])
      else if i % 8 = 4 then t.map aesSub else t
    aesExpand k (List.zipWith Nat.xor (w.getD 7 []) t :: w)

/-- The 15 round keys of a 32-byte key. -/
def aesKeys (key : List Nat) : List (List Nat) := (runs 4 15 (aesExpand 52 (runs 4 8 key).reverse).reverse).map List.flatten

/-- The rows of a state of four columns shifted by `step` columns a row. -/
def aesShift (step : Nat) (s : List Nat) : List Nat :=
  (List.range 16).map fun i => s.getD ((i / 4 + step * (i % 4)) % 4 * 4 + i % 4) 0

/-- Each column multiplied by the circulant matrix with first row c. -/
def aesMix (c : List Nat) (s : List Nat) : List Nat :=
  (List.range 16).map fun i => (List.range 4).foldl (fun r j => Nat.xor r (gfMul (s.getD (i / 4 * 4 + j) 0) (c.getD ((j + 4 - i % 4) % 4) 0))) 0

/-- AES-256 on a block of 16 bytes (FIPS 197 5.1), and its inverse (5.3). -/
def aesEncrypt (key : List Nat) (s : List Nat) : List Nat :=
  let ks := aesKeys key
  (List.range 14).foldl (fun (s : List Nat) i =>
    let s := aesShift 1 (s.map aesSub)
    List.zipWith Nat.xor (if i < 13 then aesMix [2, 3, 1, 1] s else s) (ks.getD (i + 1) [])) (List.zipWith Nat.xor s (ks.getD 0 []))
def aesDecrypt (key : List Nat) (s : List Nat) : List Nat :=
  let ks := aesKeys key
  (List.range 14).foldr (fun i (s : List Nat) =>
    let s := List.zipWith Nat.xor s (ks.getD (i + 1) [])
    (aesShift 3 (if i < 13 then aesMix [14, 11, 13, 9] s else s)).map aesUnsub) s |> fun s => List.zipWith Nat.xor s (ks.getD 0 [])

/-- Eight bytes xor a number, most significant byte first. -/
def xorStep (a : List Nat) (t : Nat) : List Nat := List.zipWith Nat.xor a ((beBytes 8 t).map (·.toNat))

/-- The wrapping function W of SP 800-38F: the first semiblock and the others. -/
def wrapSteps (key : List Nat) (n : Nat) (s : List Nat × List (List Nat)) : List Nat × List (List Nat) :=
  (List.range n).foldl (fun (s : List Nat × List (List Nat)) t =>
    let c := aesEncrypt key (s.1 ++ s.2.headD [])
    (xorStep (c.take 8) (t + 1), s.2.drop 1 ++ [c.drop 8])) s

/-- Its inverse. -/
def unwrapSteps (key : List Nat) (n : Nat) (s : List Nat × List (List Nat)) : List Nat × List (List Nat) :=
  (List.range n).foldr (fun t (s : List Nat × List (List Nat)) =>
    let c := aesDecrypt key (xorStep s.1 (t + 1) ++ s.2.getLastD [])
    (c.take 8, c.drop 8 :: s.2.dropLast)) s

/-- AES key wrap, KW of SP 800-38F, of a value of 2 or more semiblocks. -/
def keyWrap (key value : List Byte) : List Byte :=
  let r := runs 8 (value.length / 8) (value.map (·.toNat))
  let s := wrapSteps (key.map (·.toNat)) (6 * r.length) (List.replicate 8 0xA6, r)
  (s.1 ++ s.2.flatten).map (BitVec.ofNat 8)

/-- The value of a wrapped key; none where its check fails. -/
def keyUnwrap (key wrapped : List Byte) : Option (List Byte) :=
  let l := wrapped.map (·.toNat)
  let r := runs 8 (wrapped.length / 8 - 1) (l.drop 8)
  let s := unwrapSteps (key.map (·.toNat)) (6 * r.length) (l.take 8, r)
  if s.1 = List.replicate 8 0xA6 then some (s.2.flatten.map (BitVec.ofNat 8)) else none

end Sys2Proof.Machine
end

