-- ==== Sys2Proof/Machine/Flash.lean ====
section
/-! DEFINITION. The external flash as the management subsystem uses it (15 R447): the copies of the persistent store (R448), and how role keys stand in
them (R435). -/

namespace Sys2Proof.Machine

/-- A copy of the persistent store (15 R448): its sequence number, its entries as the flash holds them, each under index × 256 + sub-index, and its
check value. -/
structure StoreCopy where
  seq : Nat
  entries : List (Nat × List Byte)
  check : Nat
  deriving DecidableEq, Repr

/-- The entry data of a copy. DESIGN CHOICE (log entry 158): 15 R448 does not say how entries are laid out in it; here each is its index, sub-index
and length before its value. -/
def entryData (l : List (Nat × List Byte)) : List Byte := l.flatMap fun e => leBytes 2 (e.1 / 256) ++ leBytes 2 (e.1 % 256) ++ leBytes 4 e.2.length ++ e.2

/-- Bytes 0 to 23 of a copy's header, and the DIGEST check value of these and of the entry data (15 R448). -/
def storeHeader (seq : Nat) (l : List (Nat × List Byte)) : List Byte := leBytes 8 seq ++ leBytes 4 (entryData l).length ++ List.replicate 12 0
def storeCheck (seq : Nat) (l : List (Nat × List Byte)) : Nat := digest (storeHeader seq l ++ entryData l)

/-- A copy is valid when its check value matches (15 R448). -/
def StoreCopy.valid (c : StoreCopy) : Bool := c.check == storeCheck c.seq c.entries

/-- A copy as it is written, and its bytes in the flash. -/
def StoreCopy.written (seq : Nat) (l : List (Nat × List Byte)) : StoreCopy := ⟨seq, l, storeCheck seq l⟩
def StoreCopy.bytes (c : StoreCopy) : List Byte := storeHeader c.seq c.entries ++ leBytes 8 c.check ++ entryData c.entries

/-- The key under which the role keys are wrapped, derived from the fuses of IO0 (15 R435). -/
def deviceKey : List Byte := List.ofFn Config.deviceKey

/-- A persistent entry as the flash holds it: the operator and maintainer keys wrapped (15 R435). -/
def toFlash (e : Nat × List Byte) : Nat × List Byte := if e.1 / 256 = 0x1030 then (e.1, keyWrap deviceKey e.2) else e

/-- A persistent entry read back from the flash; none for a key that does not unwrap. -/
def fromFlash (e : Nat × List Byte) : Option (Nat × List Byte) :=
  if e.1 / 256 = 0x1030 then (keyUnwrap deviceKey e.2).map fun k => (e.1, k) else some e

end Sys2Proof.Machine
end

