-- ==== Sys2Proof/Machine/Numbers.lean ====
section
/-! DEFINITION. Number formats, exact values, conversion and rounding, and the counter generator (02 R27 to R59), with IEEE 754 arithmetic on binary32. -/

namespace Sys2Proof.Machine

/-- An exact value: a NaN (or NaR), an infinity, or (−1)^neg × m × 2^e, with a zero that keeps its sign (02 R36). -/
inductive Num where
  | nan
  | inf (neg : Bool)
  | fin (neg : Bool) (m : Nat) (e : Int)
  deriving DecidableEq, Repr

/-- The formats of 02 R27. -/
inductive Fmt where
  | i8 | f8f | g8 | f16w | b16 | b32 | int32 | l8
  | q (m : Nat)
  | reserved
  deriving DecidableEq, Repr

/-- The format a 4-bit code names (02 R27). -/
def Fmt.ofCode (c : Nat) : Fmt :=
  match c with
  | 0 => .i8 | 1 => .f8f | 2 => .g8 | 3 => .f16w | 4 => .b16 | 5 => .b32 | 6 => .int32 | 7 => .l8
  | _ => if c < 15 then .q (c - 6) else .reserved

/-- The code of a format (02 R27). -/
def Fmt.code : Fmt → Nat
  | .i8 => 0 | .f8f => 1 | .g8 => 2 | .f16w => 3 | .b16 => 4 | .b32 => 5 | .int32 => 6 | .l8 => 7
  | .q m => m + 6 | .reserved => 15

/-- Bytes of one element (02 R27). -/
def Fmt.bytes : Fmt → Nat
  | .i8 | .f8f | .g8 | .l8 => 1
  | .f16w | .b16 => 2
  | _ => 4

/-- The formats an array operand may have (02 R27). -/
def Fmt.isOperand : Fmt → Bool
  | .i8 | .f8f | .g8 | .f16w | .b16 => true
  | _ => false

/-- The formats that a block scale may go with (02 R39). -/
def Fmt.isBlock : Fmt → Bool
  | .f8f | .g8 => true
  | _ => false

/-- Exponent bits, fraction bits and bias of the floating formats (02 R32). -/
def Fmt.layout : Fmt → Option (Nat × Nat × Nat)
  | .f8f => some (4, 3, 7)
  | .g8 => some (5, 2, 15)
  | .f16w => some (8, 7, 127)
  | .b16 => some (5, 10, 15)
  | .b32 => some (8, 23, 127)
  | _ => none

/-- The canonical NaN, or NaR, of a format (02 R29, R32). -/
def Fmt.nanCode : Fmt → Nat
  | .i8 => 0x80 | .f8f => 0x7F | .g8 => 0x7E | .f16w => 0x7FC0 | .b16 => 0x7E00 | .b32 => 0x7FC00000
  | .int32 => 0x80000000
  | _ => 0

def Num.zero : Num := .fin false 0 0

def Num.isZero : Num → Bool
  | .fin _ 0 _ => true
  | _ => false

def Num.isNan : Num → Bool
  | .nan => true
  | _ => false

def Num.isFinite : Num → Bool
  | .fin .. => true
  | _ => false

def Num.neg : Num → Num
  | .nan => .nan
  | .inf s => .inf !s
  | .fin s m e => .fin (!s) m e

def Num.abs : Num → Num
  | .nan => .nan
  | .inf _ => .inf false
  | .fin _ m e => .fin false m e

/-- A signed integer times 2^e. -/
def Num.ofInt (z : Int) (e : Int := 0) : Num := .fin (decide (z < 0)) z.natAbs e

def Num.ofNat (n : Nat) (e : Int := 0) : Num := .fin false n e

/-- 2^e. -/
def Num.pow2 (e : Int) : Num := .fin false 1 e

/-- The value times 2^k. -/
def Num.scale (v : Num) (k : Int) : Num :=
  match v with
  | .fin s m e => .fin s m (e + k)
  | v => v

/-- The exact product; zero times infinity is NaN. -/
def Num.mul : Num → Num → Num
  | .nan, _ => .nan
  | _, .nan => .nan
  | .inf s, .inf t => .inf (s != t)
  | .inf s, .fin t m _ => if m = 0 then .nan else .inf (s != t)
  | .fin s m _, .inf t => if m = 0 then .nan else .inf (s != t)
  | .fin s m e, .fin t n f => .fin (s != t) (m * n) (e + f)

/-- A signed mantissa over 2^e. -/
def signed (s : Bool) (m : Nat) : Int := if s then -(m : Int) else (m : Int)

/-- The exact sum, with the zero signs of round to nearest (an exact zero of unlike signs is +0). -/
def Num.add : Num → Num → Num
  | .nan, _ => .nan
  | _, .nan => .nan
  | .inf s, .inf t => if s = t then .inf s else .nan
  | .inf s, _ => .inf s
  | _, .inf t => .inf t
  | .fin s m e, .fin t n f =>
    let g := min e f
    let z := signed s m * (2 ^ (e - g).toNat : Nat) + signed t n * (2 ^ (f - g).toNat : Nat)
    if z = 0 then .fin (s && t && decide (m = 0 ∧ n = 0)) 0 0 else .ofInt z g

def Num.sub (a b : Num) : Num := a.add b.neg

/-- The order of two values that are not NaN. -/
def Num.lt : Num → Num → Bool
  | .nan, _ => false
  | _, .nan => false
  | .inf s, .inf t => s && !t
  | .inf s, _ => s
  | _, .inf t => !t
  | .fin s m e, .fin t n f =>
    let g := min e f
    decide (signed s m * (2 ^ (e - g).toNat : Nat) < signed t n * (2 ^ (f - g).toNat : Nat))

def Num.le (a b : Num) : Bool := !a.isNan && !b.isNan && !(b.lt a)

/-- The value of a floating code (02 R31 to R33). -/
def decodeFloat (f : Fmt) (E F bias : Nat) (code : Nat) : Num :=
  let s := decide (code / 2 ^ (E + F) % 2 = 1)
  let e := code / 2 ^ F % 2 ^ E
  let fr := code % 2 ^ F
  if f = .f8f ∧ e = 15 ∧ fr = 7 then .nan
  else if f ≠ .f8f ∧ e = 2 ^ E - 1 then (if fr = 0 then .inf s else .nan)
  else if e = 0 then .fin s fr (1 - bias - F)
  else .fin s (2 ^ F + fr) ((e : Int) - bias - F)

/-- The value of a code without its scale (02 R29, R31, R40; an L8 code as its integer). -/
def decodeCode (f : Fmt) (code : Nat) : Num :=
  match f with
  | .i8 => if code % 256 = 0x80 then .nan else .ofInt (sext 8 code)
  | .int32 => if code = 0x80000000 then .nan else .ofInt (sext 32 code)
  | .l8 => .ofInt (sext 8 code)
  | .q m => .ofInt (sext 32 code) (-(32 - m : Int))
  | .reserved => .nan
  | f =>
    match f.layout with
    | some (E, F, bias) => decodeFloat f E F bias code
    | none => .nan

/-- binary32 codes as values. -/
def f32v (code : Nat) : Num := decodeFloat .b32 8 23 127 code

/-- How a conversion rounds: to nearest-even (02 R51), or stochastically with a 16-bit draw (02 R52). -/
inductive Rnd where
  | rne
  | sr (d : Nat)
  deriving DecidableEq, Repr

/-- m × 2^e in whole steps of 2^k, rounded (02 R51, R52). -/
def steps (r : Rnd) (m : Nat) (e k : Int) : Nat :=
  if k ≤ e then m * 2 ^ (e - k).toNat
  else
    let s := (k - e).toNat
    let q := m / 2 ^ s
    let rem := m % 2 ^ s
    match r with
    | .rne => if 2 * rem > 2 ^ s ∨ (2 * rem = 2 ^ s ∧ q % 2 = 1) then q + 1 else q
    | .sr d => if rem * 65536 / 2 ^ s + d ≥ 65536 then q + 1 else q

/-- floor(log2 (m × 2^e)) for m > 0. -/
def ilog2 (m : Nat) (e : Int) : Int := (Nat.log2 m : Int) + e

/-- The code without its sign of a magnitude that is in range, for a floating target (02 R51, R52). -/
def encodeMag (F bias : Nat) (r : Rnd) (m : Nat) (e : Int) : Nat :=
  if m = 0 then 0
  else
    let x := max (ilog2 m e) (1 - bias)
    let k := x - F
    (k + F - (1 - bias)).toNat * 2 ^ F + steps r m e k

/-- The largest finite code without its sign (02 R32). -/
def maxCode (f : Fmt) (E F : Nat) : Nat := if f = .f8f then 0x7E else (2 ^ E - 1) * 2 ^ F - 1

/-- m × 2^e exceeds n × 2^g. -/
def magGt (m : Nat) (e : Int) (n : Nat) (g : Int) : Bool :=
  let h := min e g
  decide (m * 2 ^ (e - h).toNat > n * 2 ^ (g - h).toNat)

/-- The result of one conversion: the code, and whether it counts as overflow, vanish or NUM.FIXNAN (02 R46 to R48). -/
structure Cvt where
  code : Nat
  ovf : Bool := false
  van : Bool := false
  fixnan : Bool := false
  deriving DecidableEq, Repr

/-- The sign bit of a floating code. -/
def signBit (E F : Nat) (s : Bool) : Nat := if s then 2 ^ (E + F) else 0

/-- Conversion of a mapped exact value to a floating target (02 R45 to R52). -/
def toFloat (f : Fmt) (E F bias : Nat) (ovfInf : Bool) (r : Rnd) (v : Num) : Cvt :=
  match v with
  | .nan => ⟨f.nanCode, false, false, false⟩
  | .inf s => if f = .f8f then ⟨f.nanCode, false, false, false⟩ else ⟨signBit E F s + (2 ^ E - 1) * 2 ^ F, false, false, false⟩
  | .fin s m e =>
    let top := maxCode f E F
    match decodeFloat f E F bias top with
    | .fin _ n g =>
      if magGt m e n g then
        ⟨signBit E F s + (if ovfInf ∧ (f = .g8 ∨ f = .f16w) then (2 ^ E - 1) * 2 ^ F else top), true, false, false⟩
      else
        let c := encodeMag F bias r m e
        ⟨signBit E F s + c, false, m ≠ 0 && c == 0, false⟩
    | _ => ⟨f.nanCode, false, false, false⟩

/-- Conversion of a mapped exact value to any target (02 R45 to R52). -/
def convert (f : Fmt) (ovfInf : Bool) (r : Rnd) (v : Num) : Cvt :=
  match f with
  | .i8 =>
    match v with
    | .fin s m e =>
      if magGt m e 127 0 then ⟨if s then 0x81 else 0x7F, true, false, false⟩
      else
        let q := steps r m e 0
        ⟨if s then (256 - q) % 256 else q, false, m ≠ 0 && q == 0, false⟩
    | _ => ⟨0x80, false, false, false⟩
  | .l8 =>
    match v with
    | .fin s m e =>
      if magGt m e (if s then 128 else 127) 0 then ⟨if s then 0x80 else 0x7F, true, false, false⟩
      else
        let q := steps .rne m e 0
        ⟨if s then (256 - q) % 256 else q, false, m ≠ 0 && q == 0, false⟩
    | _ => ⟨0, false, false, false⟩
  | .q qm =>
    match v with
    | .nan => ⟨0, false, false, true⟩
    | .inf s => ⟨if s then 0x80000000 else 0x7FFFFFFF, false, false, true⟩
    | .fin s m e =>
      let k : Int := -(32 - qm : Int)
      if magGt m e (if s then 0x80000000 else 0x7FFFFFFF) k then ⟨if s then 0x80000000 else 0x7FFFFFFF, true, false, false⟩
      else
        let z := steps .rne m e k
        ⟨if s then (2 ^ 32 - z) % 2 ^ 32 else z, false, m ≠ 0 && z == 0, false⟩
  | .int32 =>
    match v with
    | .fin s m e => ⟨if s then (2 ^ 32 - steps .rne m e 0) % 2 ^ 32 else steps .rne m e 0, false, false, false⟩
    | _ => ⟨0x80000000, false, false, false⟩
  | .reserved => ⟨0, false, false, false⟩
  | f =>
    match f.layout with
    | some (E, F, bias) => toFloat f E F bias ovfInf r v
    | none => ⟨0, false, false, false⟩

/-- Rounding of an exact value to binary32 as IEEE 754 rounds an operation: to nearest-even, a magnitude beyond the range to infinity. -/
def f32r (v : Num) : Nat :=
  match v with
  | .nan => 0x7FC00000
  | .inf s => (if s then 0x80000000 else 0) + 0x7F800000
  | .fin s m e => (if s then 0x80000000 else 0) + min (encodeMag 23 127 .rne m e) 0x7F800000

def f32add (a b : Nat) : Nat := f32r ((f32v a).add (f32v b))
def f32sub (a b : Nat) : Nat := f32r ((f32v a).sub (f32v b))
def f32mul (a b : Nat) : Nat := f32r ((f32v a).mul (f32v b))
def f32fma (a b c : Nat) : Nat := f32r (((f32v a).mul (f32v b)).add (f32v c))
def f32neg (a : Nat) : Nat := if a / 0x80000000 % 2 = 1 then a - 0x80000000 else a + 0x80000000
def f32abs (a : Nat) : Nat := a % 0x80000000
def f32isNan (a : Nat) : Bool := (f32v a).isNan
def f32isFinite (a : Nat) : Bool := (f32v a).isFinite
def f32one : Nat := 0x3F800000

/-- A quotient with its sticky bit: enough bits that one rounding of it is the rounding of the exact quotient. -/
def Num.div : Num → Num → Num
  | .nan, _ => .nan
  | _, .nan => .nan
  | .inf _, .inf _ => .nan
  | .inf s, .fin t _ _ => .inf (s != t)
  | .fin s _ _, .inf t => .fin (s != t) 0 0
  | .fin s m e, .fin t n f =>
    if n = 0 then (if m = 0 then .nan else .inf (s != t))
    else
      let k := 80 + Nat.log2 n
      let a := m * 2 ^ k
      .fin (s != t) (2 * (a / n) + (if a % n = 0 then 0 else 1)) (e - f - k - 1)

def f32div (a b : Nat) : Nat := f32r ((f32v a).div (f32v b))

/-- Integer square root, bit by bit from bit k down. -/
def isqrtGo (n : Nat) : Nat → Nat → Nat
  | 0, r => r
  | k + 1, r => let t := r + 2 ^ k; isqrtGo n k (if t * t ≤ n then t else r)

def isqrt (n : Nat) : Nat := isqrtGo n (Nat.log2 n / 2 + 1) 0

/-- A square root with its sticky bit; of a negative number NaN, of −0 itself. -/
def Num.sqrt : Num → Num
  | .nan => .nan
  | .inf s => if s then .nan else .inf false
  | .fin s m e =>
    if m = 0 then .fin s 0 0
    else if s then .nan
    else
      let k : Int := 160 + (e % 2)
      let a := m * 2 ^ k.toNat
      let r := isqrt a
      .fin false (2 * r + (if r * r = a then 0 else 1)) ((e - k) / 2 - 1)

def f32sqrt (a : Nat) : Nat := f32r (f32v a).sqrt

/-- The generator of 02 R55. -/
def generator (K s t j : Nat) : Nat :=
  let M := 2 ^ 64
  let C := 0x9E3779B97F4A7C15
  let rotl := fun (a n : Nat) => a * 2 ^ n % M + a / 2 ^ (64 - n)
  let round := fun (xy : Nat × Nat) (n : Nat) =>
    let x := (xy.1 + xy.2 + C) % M
    (x, (rotl xy.2 n) ^^^ x)
  let xy := [16, 28, 8, 36].foldl round (K ^^^ s, (t % 65536) * 2 ^ 48 + j % 2 ^ 48)
  xy.1 ^^^ rotl xy.2 32

/-- The 16-bit draw for destination element i (02 R54). -/
def draw16 (K s t i : Nat) : Nat := generator K (s % 2 ^ 32) t (i / 4) / 2 ^ (16 * (i % 4)) % 65536

/-- The block scale 2^(E − 127) as an exponent (02 R37). -/
def e8exp (E : Nat) : Int := (E : Int) - 127

/-- A code's value under a block scale (02 R37): a zero block decodes to +0, a NaN block to NaN. -/
def decodeBlock (f : Fmt) (E code : Nat) : Num :=
  if E = 0 then .zero else if E = 255 then .nan else (decodeCode f code).scale (e8exp E)

/-- ulp(w) of an F16w weight as a power of two (02 R41). -/
def ulpExp (w : Nat) : Int := let e := w / 128 % 256; if e = 0 then -133 else (e : Int) - 134

end Sys2Proof.Machine
end

