-- ==== Sys2Proof/Machine/Supplies.lean ====
section
/-! DEFINITION. The rails' set points (16 R475, R487, 19 R524). -/

namespace Sys2Proof.Machine

/-- The set-point range of a rail, in mV (19 R524). -/
def railRange (r : Nat) : Nat × Nat :=
  if r < 16 then (700, 850)
  else if r < 24 then (420, 500)
  else if r < 32 then (1050, 1150)
  else if r < 36 then (750, 880)
  else (1150, 1260)

/-- The factory value of a rail's set point, in mV: some value of its set-point range (19 R524). -/
def factorySetPoint (r : Nat) : Nat := (railRange r).1 + Config.railSetPoint r % ((railRange r).2 + 1 - (railRange r).1)

end Sys2Proof.Machine
end

