-- ==== Sys2Proof/Machine/State.lean ====
section
/-! DEFINITION. The state of the block: plain data, everything the spec gives the machine, and the queue of waiting commands. -/

namespace Sys2Proof.Machine

/-- Why the machine stops. No command of the table stops it: the manual names a consequence for every case (00 Wording),
so no meaning raises this fault; it is kept for a command that a later reading might have to stop. Safe: a stop proves nothing false. -/
inductive Fault where
  /-- Raised by nothing. Safe. -/
  | none
  deriving DecidableEq, Repr

/-- Why a command has no meaning. -/
inductive Refusal where
  /-- Raised by an arm of `exec` whose command has no meaning yet. Safe: nothing is claimed of it. -/
  | notModelled (mnemonic : String)
  deriving DecidableEq, Repr

/-- What the last access or request returned to its sender (log entry 4). -/
inductive Resp where
  | none
  | ok
  /-- Error response (00 R6, R8, 14 R411), or an Unsupported Request on a link (14 R405). -/
  | error
  | value (w : Word)
  | bytes (data : List Byte) (poisoned : Bool)
  /-- Configuration Request Retry Status (14 R410). -/
  | retry
  /-- The request waits for a slot or a bank place and holds a ticket (05 R148), or for an earlier bay command (14 R417). -/
  | held
  /-- An ICMPv6 message sent back: its type and what follows it (15 R438). -/
  | message (m : List Byte)
  /-- A response of the Catalogue protocol (15 R441, R442): status, session, body, the TAG where there is one, and the messages that carry it. -/
  | reply (status session : Nat) (body tag : List Byte) (messages : List (List Byte))
  deriving DecidableEq, Repr

/-- One event record (15 R452). -/
structure EventRec where
  code : Nat
  source : Nat
  part : Option Nat
  seq : Nat
  time : Nat
  waybill : Nat
  deriving DecidableEq, Repr

/-- The event ring of a partition beyond its bytes in memory (15 R455). -/
structure RingSt where
  seq : Nat := 0
  lastSignal : Option Nat := none
  pending : Bool := false
  deriving DecidableEq, Repr

/-- One MSI-X vector of a function (14 R413, R403 BAR4). -/
structure Vec where
  addr : Nat := 0
  data : Nat := 0
  masked : Bool := true
  pending : Bool := false
  deriving DecidableEq, Repr

/-- A PCIe link and its function beyond its registers (14 R400 to R406, R410): L2, the Disabled state, and the standard's configuration bits
that the model uses: MSI-X enable, MSI-X function mask, and the command and base address registers as written. -/
structure LinkSt where
  l2 : Bool := false
  disabled : Bool := false
  msixOn : Bool := false
  msixMask : Bool := false
  command : Nat := 0
  /-- Advanced Error Reporting (14 R401, R405): the uncorrectable and the correctable error status, and the correctable error mask, as the standard
  numbers their bits (log entry 151). -/
  aerUncor : Nat := 0
  aerCor : Nat := 0
  aerMask : Nat := 0xE000
  bars : List (Nat × Nat) := []
  deriving DecidableEq, Repr

/-- The verdict accumulators of a partition's step (12 R356): counts, and flags that no count gives. -/
structure Verdict where
  tilesChk : Nat := 0
  tilesUnchk : Nat := 0
  abft : Nat := 0
  replayFail : Nat := 0
  sealVer : Nat := 0
  sealFail : Nat := 0
  unsealedReads : Nat := 0
  digCmp : Nat := 0
  digFail : Nat := 0
  poison : Nat := 0
  replayed : Bool := false
  unsealed : Bool := false
  sealBad : Bool := false
  digest : Bool := false
  epoch : Bool := false
  lost : Bool := false
  late : Bool := false
  deriving DecidableEq, Repr

/-- The accumulators of a partition's step that its Daybook record is formed from (13 R379, R380, R382, R383). -/
structure StepAcc where
  streamdig : Nat := 0
  wbcount : Nat := 0
  statedig : Nat := 0
  slices : Nat := 0
  refreshed : Nat := 0
  partials : Nat := 0
  stale : Nat := 0
  digest : Bool := false
  invalid : Bool := false
  /-- Waybills with one of the outcomes of 13 R383 that depend on time, and the events of that list. -/
  timedCount : Nat := 0
  timedEvents : Nat := 0
  nonfinite : Bool := false
  trapped : Bool := false
  spared : Bool := false
  ckpt : Bool := false
  histfill : Bool := false
  drops : Nat := 0
  tstart : Nat := 0
  deriving DecidableEq, Repr

/-- A signal that left the device: an MSI-X message on a link, an in-band interrupt on I3C, or an interrupt input of a master. -/
inductive Signal where
  | msix (link vector : Nat)
  | inband (cls : Nat)
  | mailbox (master channel : Nat)
  | checkUnit (master : Nat)
  /-- Counter overflow at a physical core of a die: its interrupt 13 (17 R499). -/
  | coreOverflow (die core : Nat)
  deriving DecidableEq, Repr

/-- An occurrence of an event (17 R493, R494): its source, what it adds, its privilege class (0 U, 1 S, 2 M, 3 OWNER, 4 FILLER, 5 MGMT, 6 NONE),
its identity, the partition it is for, its device address where the event has one, and the waybill it belongs to. -/
structure Occur where
  die : Nat
  unit : Nat
  event : Nat
  adds : Nat
  cls : Nat := 3
  identity : Option Nat := none
  part : Option Nat := none
  addr : Option Nat := none
  waybill : Nat := 0
  deriving DecidableEq, Repr

/-- A source of an event or of a request: die and unit number within it (15 R452). -/
structure Src where
  die : Nat
  unit : Nat
  deriving DecidableEq, Repr

/-- A 4 KiB block that a waybill of a unit has begun to write (12 R351): the waybill, the block as the generations are keyed, who writes it, the
address of the block, the ranges of its bytes not yet written, and its writes so far, each with its offset in the block and its bytes' poison. -/
structure Cover where
  waybill : Nat
  block : Nat
  part : Nat
  src : Src
  master : Nat
  cls : Nat
  addr : Nat
  left : List (Nat × Nat) := [(0, 4096)]
  parts : List (Nat × List (Byte × Bool)) := []
  deriving DecidableEq, Repr

/-- What every family uses: the timebase, the register file, the Catalogue, the stacks, the event records and the interrupts. -/
structure Base where
  /-- The timebase in ticks of 40 ns (16 R474), modulo 2^64. -/
  time : Nat
  /-- The counter of free values: the model's own (log entry 2). -/
  free : Nat
  /-- Registers that differ from their reset value, keyed by control-space address (05 R135). -/
  regs : List (Nat × Word)
  /-- The values in effect of TILE_LEND and TILE_PF_CTL where a write waits for the tile's idle boundary, keyed as registers (03 R96, 05 R160). -/
  waitIdle : List (Nat × Word)
  /-- Catalogue values that differ from their default, keyed by index × 256 + sub-index (15 R431). -/
  catVals : List (Nat × List Byte)
  /-- Stack bytes that are not 0x00, keyed by stack × 2^37 + stack offset (05 R136; log entry 1). -/
  mem : List Host.Cell
  /-- Poisoned 256-byte pieces of the stacks, keyed by stack × 2^29 + offset / 256 (05 R150, R151). -/
  poison : List Nat
  /-- Write generations that are not 0, keyed by stack × 2^25 + offset / 4096 (05 R141). -/
  gens : List (Nat × Nat)
  /-- The blocks whose SEALED bit is set, keyed as the generations, each with its stored seal xor the seal of its present bytes
  (12 R350; by the linearity of R351 this difference is what writes keep, log entry 5). -/
  seals : List (Nat × Nat)
  /-- Host bytes the device knows: written by it or returned to it, keyed by host address (05 R155). -/
  far : List Host.Cell
  /-- The blocks that a waybill is writing, until it has written them whole (12 R351). -/
  covers : List Cover
  /-- The links (14 R400). -/
  links : List (Nat × LinkSt)
  /-- The verdict accumulators of the partitions (12 R356). -/
  verdicts : List (Nat × Verdict)
  /-- The step accumulators of the partitions (13 R378). -/
  steps : List (Nat × StepAcc)
  /-- The values in force of the Catalogue entries that take effect at a step boundary (02 R64, 07 R206, 08 R211, 09 R260), where they differ
  from the default. -/
  inForce : List (Nat × List Byte)
  /-- The partitions whose current step does not run in verified mode (12 R355). -/
  unverified : List Nat
  /-- The device log, newest record first, at most 4,096 (15 R454). -/
  log : List EventRec
  logNext : Nat
  /-- The event rings of the partitions (15 R455). -/
  rings : List (Nat × RingSt)
  /-- MSI-X vectors that differ from their reset value, keyed by link × 2048 + vector (14 R413). -/
  vectors : List (Nat × Vec)
  /-- The dynamic address of the I3C port, in-band interrupts enabled by ENEC, and the time of the last one (15 R439). -/
  i3cAddr : Option Nat
  inbandOn : Bool
  inbandLast : Option Nat
  /-- Signals sent, newest first: what the outside world sees (log entry 4). -/
  sent : List Signal
  /-- The dies whose PWR_TEMP.PEAK holds a reading since it was last cleared (00 R10). -/
  peaks : List Nat
  /-- What the last access returned. -/
  resp : Resp
  /-- Occurrences that the counters have not counted yet, newest first; none between commands (17 R493). -/
  occurs : List Occur
  deriving DecidableEq, Repr

/-- How far a waybill in an intake window has come: accepted and not started; running; ended with its record not yet issued; its record
issued and its tokens not all produced (04 R103, R111, R119, R123). -/
inductive Phase where
  | accepted | running | ended | issued
  deriving DecidableEq, Repr

/-- Conversion counts of one watch slot and format, on their way to the watch table (07 R199). -/
structure Counts where
  slot : Nat
  fmt : Nat
  elems : Nat := 0
  ovf : Nat := 0
  van : Nat := 0
  gelems : Nat := 0
  gnz : Nat := 0
  deriving DecidableEq, Repr

/-- A waybill in a unit's intake window (04 R103 to R123). -/
structure Wb where
  /-- Queue and sequence number (04 R102). -/
  queue : Nat
  seq : Nat
  /-- The 64 bytes as accepted (04 R105), and the four descriptors read with it (04 R108). -/
  bytes : List Byte
  descs : List (List Byte)
  /-- Partition of the queue (04 R110), and whether the queue is a FILLER queue (04 R100). -/
  part : Nat
  filler : Bool
  /-- Timebase at acceptance and at the start (04 R114). -/
  acceptTime : Nat
  startTime : Nat := 0
  phase : Phase := .accepted
  /-- Bit k: the notice for WAITk has been received (04 R111). -/
  notices : Nat := 0
  /-- TOK.STARVE has been raised (04 R114). -/
  starved : Bool := false
  /-- Named by an abort while running (04 R122). -/
  aborting : Bool := false
  /-- What the completion record will hold (04 R119). -/
  status : Nat := 1
  flags : Nat := 0
  segments : Nat := 0
  ovf : Nat := 0
  van : Nat := 0
  posA : Nat := 0
  posB : Nat := 0
  event : Nat := 0
  /-- The values of entries 0x7001 and 0x7004 it runs under, and the job seed and the curvature ceiling of its step (02 R64, 09 R260). -/
  trapOn : Bool := false
  nfOn : Bool := false
  seed : Nat := 0
  ceil : Nat := 2
  /-- The lowest non-finite position so far (02 R60). -/
  nf : Option (Nat × Nat) := none
  /-- The tile that ran it, as bytes 10 and 11 of the record give it (04 R119). -/
  tile : Nat := 0
  /-- The step number it started in (02 R56), and its number in the step's order (13 R379). -/
  step : Nat := 0
  /-- Credits spent, by port (04 R116), and bytes sent, by port (04 R118). -/
  spent : List (Nat × Nat) := []
  sent : List (Nat × Nat) := []
  /-- Units of work begun and finished: output tiles, slices, blocks, frames. -/
  next : Nat := 0
  done : Nat := 0
  /-- Working numbers of its operation, named where it is defined. -/
  aux : List Nat := []
  /-- Watch counts gathered for its report (07 R199). -/
  counts : List Counts := []
  /-- Events raised once for the waybill (02 R60, 07 R199 and the like), by code. -/
  raised : List Nat := []
  /-- Whether it has started, and its place in the order of starts (06 R176, R178). -/
  began : Bool := false
  startNo : Nat := 0
  /-- Bit k: PRODk is produced (06 R178). -/
  prodMask : Nat := 3
  /-- Aborted by a BRANCH, not by a DOCK_QABORT write (13 R383). -/
  byBranch : Bool := false
  /-- Tokens not yet sent to their homes (04 R112). -/
  tokens : List Nat := []
  /-- Its tile FAILED: it waits to be run whole on another (15 R459). -/
  handed : Bool := false
  deriving DecidableEq, Repr

/-- A unit that takes waybills (04 R98, R103, R116): its intake window in acceptance order, the queue it accepted from last, and its credits. -/
structure UnitSt where
  window : List Wb := []
  lastQueue : Option Nat := none
  /-- Allotment and balance by port identifier (04 R116). -/
  allot : List (Nat × Nat) := []
  balance : List (Nat × Nat) := []
  /-- Credits granted on this unit's own ports (04 R117). -/
  granted : List (Nat × Nat) := []
  deriving DecidableEq, Repr

/-- A message on its way to or from a token home (04 R111 to R113). -/
inductive TokMsg where
  /-- Unit, queue and sequence of the watcher; partition and token. -/
  | watch (unit queue seq part token : Nat)
  | notice (unit queue seq part token : Nat)
  /-- A production of a ring engine or a thread, and whether a filler's. -/
  | produce (part token : Nat) (filler : Bool)
  /-- Tokens first to first + count of one home, and whether a filler clears them. -/
  | clear (part first count home : Nat) (filler : Bool)
  deriving DecidableEq, Repr

/-- Queues, tokens and credits (04). -/
structure Engine where
  /-- Units with anything in them, by unit identifier (04 R98). -/
  units : List (Nat × UnitSt) := []
  /-- The enabled queues (04 R100). -/
  queuesOn : List Nat := []
  /-- Ranges of sequence numbers that an abort named before they were accepted: first, count, and whether a BRANCH named them (04 R122). -/
  aborts : List (Nat × List (Nat × Nat × Bool)) := []
  /-- The tokens present, keyed by partition × 2^24 + token (04 R110). -/
  tokens : List Nat := []
  /-- Who watches an absent token: unit, queue, sequence, keyed as tokens are (04 R111). -/
  watchers : List (Nat × List (Nat × Nat × Nat)) := []
  /-- Messages in flight, oldest first. -/
  flying : List TokMsg := []
  /-- Starts so far. -/
  starts : Nat := 0
  /-- Waybills that have completed without having started, by queue: their sequence numbers (06 R178). -/
  unstarted : List (Nat × List Nat) := []
  /-- Credits on their way back: spender, port, count (04 R116). -/
  returns : List (Nat × Nat × Nat) := []
  deriving DecidableEq, Repr

/-- The contents of an accumulator set for one output tile, row-major over its rows and columns, with the lane's sums (03 R71, R84 to R91). -/
structure AccTile where
  rows : Nat := 0
  cols : Nat := 0
  /-- 32-bit codes of the accumulating set: INT32 or binary32. -/
  a : List Nat := []
  /-- binary32 codes of the side set, for a long product. -/
  b : List Nat := []
  /-- Elements saturated under 03 R84. -/
  sat : List Nat := []
  /-- The lane's signed and absolute sums by column and by row: of the segment, and of the product. -/
  colL : List Num := []
  rowL : List Num := []
  colM : List Num := []
  rowM : List Num := []
  segColL : List Num := []
  segRowL : List Num := []
  /-- The segment under way, and the first one before it whose sums were wrong: its number, and the lowest failing column and row (03 R90). -/
  seg : Nat := 0
  segBad : Option (Nat × Option Nat × Option Nat) := none
  deriving DecidableEq, Repr

/-- A product in progress or held on a tile position: a chain, or a chain of one (03 R79 to R89). -/
structure Job where
  /-- Partition and chain identifier; none for a chain of one. -/
  part : Nat
  chain : Option Nat
  /-- Members in chain order: queue and sequence. -/
  members : List (Nat × Nat)
  /-- The set named by the waybill, or none for AUTO; and the sets in use. -/
  named : Option Nat
  sets : List Nat
  pre : Bool
  /-- The declared term count n of 03 R83, and product terms of the members that have ended. -/
  decl : Nat
  terms : Nat := 0
  int : Bool
  long : Bool
  /-- Accumulators by output tile. -/
  accs : List (Nat × AccTile) := []
  /-- When the set became HELD (03 R82). -/
  heldSince : Option Nat := none
  /-- A lane check failed, or management reported the tile FAILED: the job waits for its replay (03 R93, 15 R459). -/
  failed : Bool := false
  /-- Stopped by a FAILED request: its replay does not change the verdict (15 R459). -/
  moved : Bool := false
  deriving DecidableEq, Repr

/-- A prefetch entry of a tile (05 R143 to R146). -/
structure PfEntry where
  addr : Nat
  queue : Nat
  seq : Nat
  time : Nat
  gen : Nat
  far : Bool
  /-- 0 not checked, 1 check sent, 2 passed, 3 read; 4 for a block read from memory without an entry. -/
  check : Nat := 0
  data : List (Byte × Bool)
  deriving DecidableEq, Repr

/-- One consist's thread: its pc, registers and counts (04 R124 to R131). -/
structure Thread where
  pc : Nat
  ended : Bool := false
  faulted : Bool := false
  x : List (Nat × Nat) := []
  f : List (Nat × Nat) := []
  fcsr : Nat := 0
  stream : Nat := 0
  idxhi : Nat := 0
  cvscale : Nat := 0
  ovf : Nat := 0
  van : Nat := 0
  deriving DecidableEq, Repr

/-- A consist of a tile's THREADS waybill: its threads, and the fn.twait it is held at: tokens not yet present and the time it began. -/
structure Consist where
  threads : List Thread
  waiting : Option (List Nat × Nat) := none
  deriving DecidableEq, Repr

/-- A lent tile (03 R94, 11 R333 to R335): the spill in progress or the filler spilled. -/
structure LendSt where
  /-- The filler waybill that runs or is spilled, and its partition. -/
  queue : Nat
  seq : Nat
  borrower : Nat
  /-- Time of step 1 of the spill, while its write-back has not ended; SPILLSLOW raised. -/
  spillStart : Option Nat := none
  slow : Bool := false
  /-- Spilled since, and LENDWAIT raised. -/
  spilled : Option Nat := none
  waitRaised : Bool := false
  /-- While its record is being reloaded: since when it had been spilled (11 R334). -/
  reload : Option Nat := none
  /-- The free-value counter from which the spilled bytes were taken. -/
  bytes : Nat := 0
  deriving DecidableEq, Repr

/-- What the tiles hold beyond their registers (03, 04, 05): keyed by tile position unit, or by physical tile code die + 8 m for what
belongs to the tile itself. -/
structure Tiles where
  /-- Local-store bytes that are not 0x00, keyed by tile code × 2^22 + offset (03 R66; log entry 3). -/
  store : List Host.Cell := []
  jobs : List (Nat × List Job) := []
  /-- Output tiles accumulated and waiting for the drain, oldest first: set, output tile, queue and sequence (03 R75). -/
  drains : List (Nat × List (Nat × Nat × Nat × Nat)) := []
  /-- Sets that a long product has taken while it waits for the other: set, queue and sequence (03 R89). -/
  claims : List (Nat × List (Nat × Nat × Nat)) := []
  prefetch : List (Nat × List PfEntry) := []
  /-- The consists of the running THREADS waybill, by position unit. -/
  consists : List (Nat × List Consist) := []
  lends : List (Nat × LendSt) := []
  deriving DecidableEq, Repr

/-- A maximum on its way to a history cell (07 R193). -/
structure AmaxMsg where
  part : Nat
  entry : Nat
  channel : Nat
  value : Nat
  queue : Nat
  seq : Nat
  /-- H + 1 of the refresh that holds it, for one that is held (07 R196). -/
  row : Nat := 0
  deriving DecidableEq, Repr

/-- A count report on its way to the watch table (07 R199). -/
structure WatchMsg where
  part : Nat
  counts : Counts
  queue : Nat
  seq : Nat
  deriving DecidableEq, Repr

/-- The scale history and watch (07): messages in flight, and what a STEP in progress holds back. -/
structure Scale where
  amax : List AmaxMsg := []
  watch : List WatchMsg := []
  /-- Maxima that reached a cell during its entry's refresh (07 R196), counts that reached a record during its evaluation (R200), HSTEP writes that
  arrived during STEP processing (R207), and the partitions and entries that raised SCL.LATE in the step. -/
  heldAmax : List AmaxMsg := []
  heldWatch : List WatchMsg := []
  heldHstep : List (Nat × Nat) := []
  lateRaised : List (Nat × Nat) := []
  deriving DecidableEq, Repr

/-- A frame of a Siding segment (06 R170 to R180). -/
structure Frame where
  index : Nat
  full : Nat
  keep : Nat
  tarea : Nat
  below : Nat
  dropped : Bool
  recomp : Bool
  closed : Bool
  cursor : Nat
  step : Nat
  cars : Nat
  opened : Nat
  closedAt : Nat
  deriving DecidableEq, Repr

/-- The Siding controllers (06): the frames of each segment, bottom first, keyed by die × 8 + partition. -/
structure Siding where
  frames : List (Nat × List Frame) := []
  deriving DecidableEq, Repr

/-- A piece of gradient for 64 consecutive weights (08 R219). -/
structure GradPiece where
  /-- Device address of the first weight, partition, step tag, and who spent its credits. -/
  addr : Nat
  part : Nat
  tag : Nat
  spender : Nat
  data : List Nat
  time : Nat := 0
  unmatched : Bool := false
  deriving DecidableEq, Repr

/-- A slice whose gradient waits for far-tier state (08 R238). -/
structure FarSlice where
  queue : Nat
  seq : Nat
  slice : Nat
  grad : List Nat
  returned : Bool := false
  deriving DecidableEq, Repr

/-- Gradient intake and the update units (08). -/
structure Update where
  /-- Elements of a delivery that do not yet make a whole piece: waybill number × 2^40 + element, and its code. -/
  partials : List (Nat × Nat) := []
  /-- Pieces on their way to a pool, oldest first. -/
  flying : List GradPiece := []
  /-- Pieces held by the pool of a quartet. -/
  pools : List (Nat × List GradPiece) := []
  /-- Pieces freed of which no whole credit has been returned yet, keyed by quartet × 2^16 + spender (08 R219). -/
  freed : List (Nat × Nat) := []
  /-- Slices in the far-wait slots of a unit. -/
  farWait : List (Nat × List FarSlice) := []
  /-- Slices that a started update waybill has finished, each with its norms 0 and 1, by waybill number (08 R226). -/
  norms : List (Nat × List (Nat × Nat × Nat)) := []
  deriving DecidableEq, Repr

/-- A delta piece (09 R254). -/
structure DeltaPiece where
  engine : Nat
  part : Nat
  block : Nat
  side : Nat
  tri : Nat
  len : Nat
  tag : Nat
  spender : Nat
  data : List Nat
  deriving DecidableEq, Repr

/-- The fold of a block for the partition's current step (09 R264 to R267): the descriptor, the CRV_FOLD that opened it, the tiles handled as
side × 4096 + triangle index, and whether it has closed. -/
structure FoldSt where
  sd : Nat
  opener : Option (Nat × Nat) := none
  tiles : List Nat := []
  closed : Bool := false
  deriving DecidableEq, Repr

/-- A refresh whose pair is computed and waits for the HOLD of the other pair (10 R286): its waybill, its entry, its result and the pair. -/
structure PendingPair where
  queue : Nat
  seq : Nat
  entry : Nat
  /-- 1 PUBLISHED or 2 PARTIAL, and the cause. -/
  result : Nat
  cause : Nat
  iters : Nat
  cold : Bool
  colds : Nat
  resid : Nat
  el : Nat
  er : Nat
  /-- The deadline had passed before the wait began (10 R294), and a first test of HOLD has found the pair in use. -/
  late : Bool
  waited : Bool := false
  /-- The write generations of the scratch area, block by block, when the pair was computed: another master's write there changes it (10 R276). -/
  gens : List Nat := []
  xl : List Nat
  xr : List Nat
  deriving DecidableEq, Repr

/-- One curvature engine beyond its registers (09, 10). -/
structure CrvSt where
  /-- The installed descriptors and timetable entries (09 R263). -/
  sd : List (List Byte) := []
  tt : List (List Byte) := []
  /-- An installation in progress: the fault it found, as KIND and INDEX, or what it read. -/
  installing : Option (Option (Nat × Nat) × List (List Byte) × List (List Byte)) := none
  held : List DeltaPiece := []
  folds : List FoldSt := []
  /-- Refreshes concluded, as block number and step (10 R290). -/
  concluded : List (Nat × Nat) := []
  /-- Events of 09 R265 and R266 raised since the last CRV_FOLD started, by code. -/
  raised : List Nat := []
  refresh : Option PendingPair := none
  deriving DecidableEq, Repr

/-- The curvature engines beyond their registers (09, 10). -/
structure Curv where
  /-- Delta pieces on their way, oldest first. -/
  flying : List DeltaPiece := []
  engines : List (Nat × CrvSt) := []
  deriving DecidableEq, Repr

/-- A frame that the device sends (11 R307): its fields, and what its payload says (log entry 40). -/
structure OutFrame where
  type : Nat
  vc : Nat := 0
  line : Nat := 0
  /-- The sender of a frame that is forwarded; none for this device's own. -/
  src : Option Nat := none
  dst : Nat := 0
  epoch : Nat := 0
  tag : Nat := 0
  kind : Nat := 0
  offset : Nat := 0
  step : Nat := 0
  origin : Nat := 0
  aux : Nat := 0
  payload : List Byte := []
  body : FrameBody := .none
  /-- The ring waybill whose frame it is, by queue and sequence number. -/
  owner : Option (Nat × Nat) := none
  /-- The engine on which a forwarded frame came: its credits there go back when it leaves (11 R310). -/
  via : Option Nat := none
  deriving DecidableEq, Repr

/-- The link state of an optical engine beyond its registers (11 R309 to R314). -/
structure RingEng where
  /-- Frames waiting for credits or for room in the retry buffer, and frames sent and not acknowledged with their sequence numbers. -/
  queue : List OutFrame := []
  sent : List (Nat × OutFrame) := []
  txSeq : Nat := 0
  /-- Sequence number of the next frame to receive, and whether frames are discarded until a retry ends. -/
  rxSeq : Nat := 0
  retrying : Bool := false
  fails : Nat := 0
  /-- Credits to send on each virtual channel, and credits to give back, in 256-byte units. -/
  credits : List Nat := [0, 0, 0, 0, 0, 0, 0, 0]
  owed : List Nat := [0, 0, 0, 0, 0, 0, 0, 0]
  /-- When the link left service, while it has not come back. -/
  downSince : Option Nat := none
  /-- When training failed last; the link tries again 100 ms later. RING.TRAIN raised since the last SERVICE. -/
  trainFailed : Option Nat := none
  trainRaised : Bool := false
  /-- TRAIN frames of this attempt received and sent, good TEST frames received, and TEST frames sent. -/
  trains : Nat := 0
  trainsOut : Nat := 0
  tests : Nat := 0
  testsOut : Nat := 0
  /-- When step 1 of training began, while the link locks (11 R312). -/
  lockSince : Option Nat := none
  /-- The hop count of the last SERVICE. -/
  lastHops : Option Nat := none
  /-- A good frame has been received since the sequence began: ACKV (11 R307). -/
  heard : Bool := false
  /-- Lanes that the transmitter has moved to lane 8, by fibre (11 R304). -/
  txWave : List (Nat × Nat) := []
  /-- The bytes of the frames last put on the transmit fibres (11 R306 to R308). -/
  wire : List (List Byte) := []
  deriving DecidableEq, Repr

/-- A ring waybill that runs (11 R320 to R331). -/
structure RingOp where
  unit : Nat
  queue : Nat
  seq : Nat
  opcode : Nat
  part : Nat
  line : Nat
  vc : Nat
  tag : Nat
  step : Nat
  epoch : Nat
  /-- Members of the line by rank, this device's rank, and whether the last rank reaches rank 0 eastward. -/
  members : List Nat
  rank : Nat
  wrapEast : Bool
  /-- Frames sent so far east and west, for the spread (R321). -/
  sentE : Nat := 0
  sentW : Nat := 0
  /-- Byte ranges received: kind, origin, offset and length. -/
  got : List (Nat × Nat × Nat × Nat) := []
  /-- Result codes by element (rank S − 1 of a reduction), or the bytes of a digest list. -/
  data : List (Nat × Nat) := []
  /-- The positions whose blocks the east neighbour of a relay has acknowledged (11 R323). -/
  acks : List Nat := []
  figQ : Option Nat := none
  figR : Option Nat := none
  figSent : Bool := false
  /-- A partial beyond its elements was dropped: it waits until it is aborted (11 R324). -/
  stuck : Bool := false
  /-- Findings of a digest comparison: entries compared, mismatches, lowest; and the verdict of the line. -/
  compared : Option (Nat × Nat × Option Nat) := none
  lineFound : Option (Option (Nat × Nat)) := none
  /-- When a reshard began to wait. -/
  waitStart : Option Nat := none
  deriving DecidableEq, Repr

/-- A frame held at its receiver (11 R321, R331): the engine, its fields, and since when. -/
structure HeldFrame where
  engine : Nat
  src : Nat
  frame : OutFrame
  time : Nat
  raised : Bool := false
  deriving DecidableEq, Repr

/-- A put that comes in or has come in (11 R322, R314): sender, its number, line, tag, step and partition, the descriptor, token and length, and the
ranges received. -/
structure PutIn where
  src : Nat
  number : Nat
  line : Nat
  tag : Nat
  step : Nat
  part : Nat
  desc : List Byte
  token : Option Nat
  total : Nat
  refused : Bool
  got : List (Nat × Nat) := []
  deriving DecidableEq, Repr

/-- A noise group's accumulators (11 R325, R326): the sums in units of 2^−149. -/
structure NoiseGroup where
  sumQ : Nat := 0
  sumR : Nat := 0
  count : Nat := 0
  size : Nat := 0
  elems : Nat := 0
  nonfinite : Bool := false
  mixed : Bool := false
  late : Bool := false
  deriving DecidableEq, Repr

/-- The optical ring beyond its registers (11). -/
structure Ring where
  engines : List (Nat × RingEng) := []
  ops : List RingOp := []
  held : List HeldFrame := []
  puts : List PutIn := []
  /-- Transfers of the current step whose waybills were aborted or have completed: line, tag and step. -/
  ended : List (Nat × Nat × Nat) := []
  /-- Noise accumulators, keyed by partition × 256 + group. -/
  noise : List (Nat × NoiseGroup) := []
  /-- EPOCH_END frames received: line, epoch, sender, engine and virtual channel. -/
  ends : List (Nat × Nat × Nat × Nat × Nat) := []
  /-- EPOCH_BEGIN frames received for an epoch not installed yet: line, epoch and check value; the check value of each line's installed record;
  and the lines whose record differs from a neighbour's. -/
  begins : List (Nat × Nat × Nat) := []
  records : List (Nat × Nat) := []
  badLayout : List Nat := []
  /-- Engines that management has taken out of service (15 R459). -/
  outs : List Nat := []
  deriving DecidableEq, Repr

/-- The wheel-tap of a compute die (13 R371 to R373): when its last tap ended, moved on by every pause; when it was paused; when the idle wait of
a tap began; and when a withdrawn tap is tried again. -/
structure TapSt where
  ended : Nat := 0
  paused : Option Nat := none
  waitFrom : Option Nat := none
  retryAt : Option Nat := none
  deriving DecidableEq, Repr

/-- A self-test that runs (13 R371, R374): the unit, the tests as DOCK_ST_CMD.TEST gives them, whether the wheel-tap runs it, and the tile's state
before it. -/
structure TestRun where
  die : Nat
  kind : Nat
  index : Nat
  tests : Nat
  tap : Bool
  prior : Nat
  deriving DecidableEq, Repr

/-- Spares (13): the wheel-taps, the self-tests that run, and the tiles, by tile code, that are fenced and still hold a position. -/
structure Spare where
  taps : List (Nat × TapSt) := []
  tests : List TestRun := []
  /-- Tiles that are fenced and wait to leave their position, by tile code; those of them that failed a self-test, to be retired (13 R366, R368); and
  those that the data path fences on its own (15 R458). -/
  fencing : List Nat := []
  retiring : List Nat := []
  own : List Nat := []
  deriving DecidableEq, Repr

/-- What STEP processing has taken from the accumulators when it closed them (13 R378): the step's accumulators, its verdict and its noise
groups, and the queue and sequence of the STEP waybill; and what it read of the Daybook's reference record. -/
structure StepRun where
  unit : Nat
  queue : Nat
  seq : Nat
  acc : StepAcc
  verdict : Verdict
  noise : List (Nat × NoiseGroup)
  /-- In replay mode, the reference record: its address, its bytes, and whether its read was poisoned (13 R386). -/
  ref : Option (Nat × List Byte × Bool) := none
  deriving DecidableEq, Repr

/-- The part of the device that runs waybills. -/
structure Work where
  base : Base
  eng : Engine := {}
  tiles : Tiles := {}
  scale : Scale := {}
  sid : Siding := {}
  upd : Update := {}
  curv : Curv := {}
  ring : Ring := {}
  spare : Spare := {}
  /-- STEP waybills in processing, by partition (13 R377, R378). -/
  stepping : List (Nat × StepRun) := []
  deriving DecidableEq, Repr

/-- A memory request of at most one piece, or a block write (05 R137, 12 R351). -/
inductive MemJob where
  | read (addr len : Nat)
  | write (addr : Nat) (data : List Byte) (bad : Bool)
  /-- 4,096 bytes, and the pieces of it that carry poison. -/
  | block (addr : Nat) (data : List Byte) (bad : List Nat)
  deriving DecidableEq, Repr

/-- A request that holds a ticket: in the order of a bank, or of the slot pool (05 R148). -/
structure Waiting where
  order : Option Nat
  op : MemOp
  job : MemJob
  deriving DecidableEq, Repr

/-- A memory-side die beyond its registers (05 R148 to R153). A bank is named by pseudo-channel × 64 + bank. -/
structure MemDie where
  /-- The bank of each request that holds a slot, oldest first. -/
  held : List Nat := []
  /-- Requests that hold tickets, oldest ticket first. -/
  waiting : List Waiting := []
  /-- Row replacements in progress: bank and start. -/
  sparing : List (Nat × Nat) := []
  /-- Corrected errors of rows, keyed by row; spare rows used, by bank; rows that met an uncorrectable error: pseudo-channel, row and time. -/
  rowErrs : List (Nat × Nat) := []
  rowUsed : List (Nat × Nat) := []
  badRows : List (Nat × Nat × Nat) := []
  /-- Pseudo-channels being copied. -/
  copying : List Nat := []
  /-- When each hot bank became hot, and the banks and the slot pool in an episode that was reported. -/
  hotSince : List (Nat × Nat) := []
  hotSeen : List Nat := []
  fullSince : Option Nat := none
  fullSeen : Bool := false
  /-- Episodes of a full slot pool so far, which no register shows (05 R149). -/
  fulls : Nat := 0
  deriving DecidableEq, Repr

/-- A far-tier request at the I/O die of its link (05 R155, R156): the partition, the offset in its slice, and a write's bytes with their poison. -/
structure FarReq where
  part : Nat
  offset : Nat
  len : Nat
  data : Option (List (Byte × Bool))
  op : MemOp
  deriving DecidableEq, Repr

/-- The far-tier requests of a link: those that wait, in arrival order, and the reads sent and not completed. -/
structure FarLink where
  waiting : List FarReq := []
  out : List FarReq := []
  deriving DecidableEq, Repr

/-- Memory requests in progress (05 R148 to R156). -/
structure MemSys where
  dies : List (Nat × MemDie) := []
  links : List (Nat × FarLink) := []
  deriving DecidableEq, Repr

/-- The bays of a partition's Dock (14 R414 to R418). A tag in force on I/O die n is listed under n × 2^16 + bay where it differs from `base`. -/
structure BaySt where
  base : Nat := 0
  tags : List (Nat × Nat) := []
  /-- Commands that wait, in arrival order, as DOCK_BAYCMD takes them; the one that runs, and the I/O dies on which it is in force. -/
  waiting : List Nat := []
  running : Option (Nat × List Nat) := none
  /-- Reads of DOCK_BAYRES that are held: the commands ahead of each, and the part of the register it reads (0 all of it, 1 the lower half, 2 the
  upper). -/
  readers : List (Nat × Nat) := []
  deriving DecidableEq, Repr

/-- The pins of a PCIe port (14 R402, 19 R521, R522): PERST_N high on its land, the bifurcation strap as last seen, and what its links train to when
they may: rate, width and FLIT mode. -/
structure PortPins where
  perstHigh : Bool := false
  bifur : Option Bool := none
  train : List (Option (Nat × Nat × Bool)) := []
  deriving DecidableEq, Repr

/-- A doorbell write of a link that waits for the link's earlier writes (14 R412): the offset in BAR0, the size and the data. -/
structure LateWrite where
  link : Nat
  off : Nat
  size : Nat
  data : Nat
  deriving DecidableEq, Repr

/-- Host ports and mailboxes beyond their registers (14). -/
structure Dock where
  bays : List (Nat × BaySt) := []
  pins : List (Nat × PortPins) := []
  /-- When the pending message of a direction was sent, keyed by channel × 2 + direction (14 R423). -/
  sentAt : List (Nat × Nat) := []
  /-- Doorbell writes that wait for their links' earlier writes, in arrival order (14 R412). -/
  late : List LateWrite := []
  /-- A lock request whose checks passed waits for parked dies to return (16 R468). -/
  lockWaits : Bool := false
  deriving DecidableEq, Repr

/-- A session (15 R442 to R444). -/
structure Session where
  id : Nat
  role : Nat
  transport : Nat
  source : List Byte
  key : List Byte
  /-- The last request answered, and its answer: status, body and TAG. -/
  txid : Option Nat := none
  answer : Nat × List Byte × List Byte := (0, [], [])
  time : Nat
  deriving DecidableEq, Repr

/-- A device nonce kept for a source (15 R444). -/
structure Nonce where
  transport : Nat
  source : List Byte
  value : List Byte
  time : Nat
  deriving DecidableEq, Repr

/-- A message of the Catalogue protocol (15 R441): OP, TXID, SESSION, MORE, FRAG and its fragment body. -/
structure ProtoMsg where
  op : Nat
  txid : Nat
  session : Nat
  more : Bool
  frag : Nat
  body : List Byte
  deriving DecidableEq, Repr

/-- A firmware update (15 R451): its session, slot, length and data so far. -/
structure FwUpdate where
  session : Nat
  slot : Nat
  length : Nat
  data : List Byte := []
  deriving DecidableEq, Repr

/-- The management subsystem beyond its registers (15). -/
structure Mgt where
  /-- The management core runs its firmware, or recovery (15 R450). -/
  up : Bool := false
  recovery : Bool := false
  sessions : List Session := []
  nonces : List Nonce := []
  /-- Times of failed authentications of the last 60 s, and when a lockout began. -/
  failures : List Nat := []
  lockout : Option Nat := none
  /-- The two copies of the persistent store, which list the entries that differ from their default, and which is used (15 R448). -/
  store0 : Option StoreCopy := some (StoreCopy.written 0 [])
  store1 : Option StoreCopy := none
  storeUsed : Nat := 0
  /-- The firmware slots of the flash (15 R447). -/
  slotA : List Byte
  slotB : List Byte
  update : Option FwUpdate := none
  /-- Mailbox channels on which a response is being sent: the messages of it that are not sent yet (15 R440). -/
  outbox : List (Nat × List (List Byte)) := []
  /-- Mailbox channels on which fragments of a request have been taken: what they make up so far (15 R440, R441). -/
  inbox : List (Nat × ProtoMsg) := []
  /-- I3C: the limits of SETMWL and SETMRL (15 R439). -/
  i3cMwl : Nat := 256
  i3cMrl : Nat := 256
  /-- Pairs of requested and effective sub-indexes that disagree, keyed by the requested sub-index: since when, and whether the episode was raised
  (15 R460). -/
  diverge : List (Nat × Nat × Bool) := []
  /-- Requested sub-indexes, as index × 256 + sub-index, of units with a FAILED or FENCED request not yet in effect (15 R459). -/
  requests : List Nat := []
  deriving DecidableEq, Repr

/-- A rail request on an AVSBus (16 R476): the rail, on or off, failures so far, the phase (0 the Voltage write is sent, 1 it will be sent again,
2 the Status is read), and when the phase began. -/
structure RailReq where
  rail : Nat
  on : Bool
  /-- The voltage asked for, in mV (16 R487); 0 where the rail is to go off. -/
  mv : Nat := 0
  fails : Nat := 0
  phase : Nat := 0
  time : Nat := 0
  /-- When the request became the current one of its bus. -/
  began : Nat := 0
  deriving DecidableEq, Repr

/-- An entry handshake (16 R469): the state asked for, when it began, the compute dies to park, the number of blocks that have granted, when
the block that answered DELAY was asked last, and the physical cores, as 9 n + k, that run their identity and are not in a masked WFI. -/
structure Handshake where
  target : Nat
  start : Nat
  dies : List Nat
  granted : Nat := 0
  askedAt : Nat := 0
  cores : List Nat := []
  deriving DecidableEq, Repr

/-- A reset that waits for the rails to be released (16 R471). -/
inductive ResetKind where
  | cold (cause : Nat)
  | warm (cause : Nat)
  | part (p : Nat)
  | die (d : Nat)
  | tile (n m : Nat)
  /-- The partition reset of a link event, which HOST.LINKRESET follows (14 R406). -/
  | link (L : Nat)
  deriving DecidableEq, Repr

/-- The power controller beyond its registers (16, 19). -/
structure Pwr where
  /-- Stages that each die has completed, 4 for a die in service (16 R477), when its stage began, and whether bring-up runs, with its kind:
  0 cold, 1 leaving HOLD, 2 leaving PARK. -/
  stage : List (Nat × Nat) := []
  since : List (Nat × Nat) := []
  bring : Option Nat := none
  /-- Bring-up stopped, until a cold reset (16 R478); its record has not been reported. -/
  stopped : Bool := false
  unreported : Bool := false
  /-- Compute dies that are parked, and those on their way into and out of PARK. -/
  parked : List Nat := []
  parking : List Nat := []
  leaving : List Nat := []
  /-- The data path is in service: bring-up has brought every die through its logic stage, and neither HOLD nor OFF has begun since. -/
  ready : Bool := false
  /-- The flag of PWR_RST_FLAGS that the warm reset at the end of a HOLD exit sets (16 R480, R483). -/
  exitBit : Nat := 5
  /-- Memory-side dies whose memory stage runs again after their reset, each with the time it began (16 R485). -/
  retrain : List (Nat × Nat) := []
  /-- Rails that are on, the voltage in mV that each was last set to, and the request queues of the four buses, the current request first. -/
  rails : List Nat := []
  volts : List (Nat × Nat) := []
  buses : List (Nat × List RailReq) := []
  /-- The device state in effect, the compute dies in DOZE, and the device state that the entry or return under way brings the device to. -/
  effective : Nat := 0
  dozing : List Nat := []
  aim : Option Nat := none
  /-- The handshake, and the transition past its point of no return: its target. -/
  hs : Option Handshake := none
  trans : Option Nat := none
  /-- The releases of the I/O rails have been requested (16 R471). -/
  ioOff : Bool := false
  /-- Requests that arrived during a transition, in order (16 R467): the die, or 44 for the device, and the cores that its sender found running;
  the resets that wait for its rails (R471), oldest first; the wake source latched. -/
  again : List (Nat × List Nat) := []
  resets : List ResetKind := []
  wake : Option Nat := none
  /-- The retention copy (16 R471): LK registers, and the I3C dynamic address. -/
  retention : Option (List (Nat × Word) × Option Nat) := none
  /-- Thermal episodes by die, and a trip to report after the wake (16 R482). -/
  hot : List Nat := []
  tripped : Bool := false
  /-- Since when each tile domain has been gated, and the tile domains with their PLL off (16 R473), by die × 8 + domain. -/
  gated : List (Nat × Nat) := []
  doze : List Nat := []
  /-- Pins: IORDY, FAULT_N low, SYS_OFF_N low, VAUX and VDDIO_MGT out of range, VDD_AON out of range, SYS_RST_N low (19 R521 to R526). -/
  iordy : Bool := false
  fault : Bool := false
  sysOff : Bool := false
  vauxLow : Bool := false
  ioLow : Bool := false
  dead : Bool := false
  deriving DecidableEq, Repr

/-- Performance counters beyond their registers (17 R498, R499). -/
structure Pmc where
  /-- Upper counters latched for the next read, keyed by die × 64 + counter. -/
  latched : List (Nat × Nat) := []
  /-- When each tile raised PMC.SAMPLE and PMC.SAMPLELOST last, by tile code (17 R499). -/
  sampled : List (Nat × Nat) := []
  lost : List (Nat × Nat) := []
  deriving DecidableEq, Repr

/-- The whole device but for the commands that wait. -/
structure Device where
  work : Work
  mem : MemSys := {}
  dock : Dock := {}
  mgt : Mgt
  pwr : Pwr := {}
  pmc : Pmc := {}
  deriving DecidableEq, Repr

/-- The machine: the commands that wait, first in first out, and the device. -/
structure State where
  pending : List Instr
  dev : Device
  deriving DecidableEq, Repr

/-- The rails of the I/O dies in the order in which bring-up asks for them (16 R475, R477). -/
def ioRails : List Nat := [32, 33, 34, 35, 36, 37, 38, 39]

/-- The data path after cold reset (00 R11, 16 R483): registers and Catalogue entries are at their reset values and defaults, and memory lists
nothing (log entry 1). -/
def Base.initial : Base :=
  { time := 0
    free := 0
    regs := []
    waitIdle := []
    catVals := []
    mem := []
    poison := []
    gens := []
    seals := []
    far := []
    covers := []
    links := []
    verdicts := []
    steps := []
    inForce := []
    unverified := []
    log := []
    logNext := 0
    rings := []
    vectors := []
    i3cAddr := none
    inbandOn := false
    inbandLast := none
    sent := []
    peaks := []
    resp := .none
    occurs := [] }

/-- Bring-up from the rail stage: the first request of AVSBus 3, which serves every I/O rail, is under way (16 R475 to R477). -/
def Pwr.initial : Pwr :=
  { bring := some 0
    buses := [(3, ioRails.map fun r => { rail := r, on := true, mv := factorySetPoint r })] }

/-- The management subsystem of a part from the factory: its images, and a persistent store that holds every default (log entry 70). -/
def Mgt.initial : Mgt := { slotA := Config.factoryImage 0, slotB := Config.factoryImage 1 }

/-- The device right after the cold reset of power-on: bring-up begins (16 R477, R483). -/
def Device.initial : Device := { work := { base := Base.initial }, mgt := Mgt.initial, pwr := Pwr.initial }

/-- The machine right after reset: nothing waits, and the device is in the cold reset of power-on. -/
def State.reset : State := { pending := [], dev := Device.initial }

end Sys2Proof.Machine
end

