-- ==== Sys2Proof/Machine/RegFile.lean ====
section
/-! DEFINITION. The register file: addresses (05 R135), reset values (00 R11), and reading and writing a register's stored contents. -/

namespace Sys2Proof.Machine

/-- Die numbers d of 05 R135. -/
def cd (n : Nat) : Nat := n
def ms (n : Nat) : Nat := 8 + n
def io (n : Nat) : Nat := 40 + n

/-- The first address of control space (05 R134). -/
def controlBase : Nat := 0x8000_0000_0000

/-- A register of the device: its name, die, unit in the die (tile, queue, engine) and the two indexes of its table. -/
structure RegAt where
  reg : Reg
  die : Nat
  unit : Nat := 0
  i : Nat := 0
  j : Nat := 0
  deriving DecidableEq, Repr

/-- Offset of a block in its die's control space (05 R135). -/
def blockOffset (b : Block) (unit : Nat) : Nat :=
  match b with
  | .die => 0
  | .tile => 0x10_0000 + 0x1000 * unit
  | .queue => 0x20_0000 + 0x80 * unit
  | .crv => 0x30_0000 + 0x1_0000 * unit
  | .chk => 0x40_0000
  | .pwr => 0x50_0000
  | .upd => 0x10_0000
  | .ck => 0x20_0000
  | .seal => 0x30_0000
  | .ring => 0x10_0000 + 0x1_0000 * unit
  | .red => 0x20_0000
  | .pcie => 0x30_0000
  | .mbx => 0x80_0000
  | .mgt => 0x90_0000

/-- The control-space address of a register. -/
def regAddr (r : Reg) (die : Nat) (unit : Nat := 0) (i : Nat := 0) (j : Nat := 0) : Nat :=
  controlBase + die * 0x1000_0000 + blockOffset r.spec.block unit + r.spec.off + r.spec.s1 * i + r.spec.s2 * j

/-- The block that holds an offset of a die's control space, the unit, and the offset inside the block (05 R135). -/
def blockAt (die off : Nat) : Option (Block × Nat × Nat) :=
  if die < 8 then
    if off < 0x10_0000 then some (.die, 0, off)
    else if off < 0x14_4000 then some (.tile, (off - 0x10_0000) / 0x1000, off % 0x1000)
    else if 0x20_0000 ≤ off ∧ off < 0x24_0000 then some (.queue, (off - 0x20_0000) / 0x80, off % 0x80)
    else if 0x30_0000 ≤ off ∧ off < 0x34_0000 then some (.crv, (off - 0x30_0000) / 0x1_0000, off % 0x1_0000)
    else if 0x40_0000 ≤ off ∧ off < 0x50_0000 then some (.chk, 0, off - 0x40_0000)
    else if 0x50_0000 ≤ off ∧ off < 0x60_0000 then some (.pwr, 0, off - 0x50_0000)
    else none
  else if die < 40 then
    if off < 0x10_0000 then some (.die, 0, off)
    else if off < 0x20_0000 then some (.upd, 0, off - 0x10_0000)
    else if off < 0x30_0000 then some (.ck, 0, off - 0x20_0000)
    else if off < 0x40_0000 then some (.seal, 0, off - 0x30_0000)
    else if 0x50_0000 ≤ off ∧ off < 0x60_0000 then some (.pwr, 0, off - 0x50_0000)
    else none
  else if die < 44 then
    if off < 0x10_0000 then some (.die, 0, off)
    else if off < 0x14_0000 then some (.ring, (off - 0x10_0000) / 0x1_0000, off % 0x1_0000)
    else if 0x20_0000 ≤ off ∧ off < 0x30_0000 then some (.red, 0, off - 0x20_0000)
    else if 0x30_0000 ≤ off ∧ off < 0x40_0000 then some (.pcie, 0, off - 0x30_0000)
    else if 0x40_0000 ≤ off ∧ off < 0x50_0000 then some (.chk, 0, off - 0x40_0000)
    else if 0x50_0000 ≤ off ∧ off < 0x60_0000 then some (.pwr, 0, off - 0x50_0000)
    else if die = 40 ∧ 0x80_0000 ≤ off ∧ off < 0x90_0000 then some (.mbx, 0, off - 0x80_0000)
    else if die = 40 ∧ 0x90_0000 ≤ off ∧ off < 0xA0_0000 then some (.mgt, 0, off - 0x90_0000)
    else none
  else none

/-- A register exists on a die. -/
def OnDie.has (o : OnDie) (die : Nat) : Bool :=
  match o with
  | .cd => die < 8
  | .ms => 8 ≤ die && die < 40
  | .io => 40 ≤ die && die < 44
  | .io0 => die == 40
  | .cdio => die < 8 || (40 ≤ die && die < 44)
  | .any => die < 44

/-- An instance exists: the limits that depend on the die (12 R359, 17 R491, R504) or on the layout of a mailbox channel (14 R428). -/
def instanceOk (r : Reg) (die i j : Nat) : Bool :=
  match r with
  | .DOCK_PMC_CTL | .DOCK_PMC_VAL => die < 8 || i < 16
  | .MBX_DATA => j % 16 < 7
  | .CHK_FU_CFG | .CHK_FU_POLY | .CHK_FU_INIT | .CHK_FU_ADDR | .CHK_FU_LEN | .CHK_FU_EXPECT | .CHK_FU_CTL
  | .CHK_FU_RESULT | .CHK_FU_STATUS | .CHK_FU_DONE => die < 8 || i < 4
  | _ => true

/-- The indexes of a register whose words begin at an offset of its block. -/
def RegSpec.index (sp : RegSpec) (off : Nat) : Option (Nat × Nat) :=
  if off < sp.off then none
  else
    let r := off - sp.off
    let i := if sp.s1 = 0 then 0 else r / sp.s1
    let q := if sp.s1 = 0 then r else r % sp.s1
    let j := if sp.s2 = 0 then 0 else q / sp.s2
    let z := if sp.s2 = 0 then q else q % sp.s2
    if z = 0 ∧ i < sp.n1 ∧ j < sp.n2 then some (i, j) else none

/-- What an address of control space names: nothing (outside every block), an unoccupied offset, or a register (00 R8). -/
inductive RegPlace where
  | outside
  | hole
  | reg (r : RegAt)
  deriving DecidableEq, Repr

/-- The register of a block at an 8-byte aligned offset. -/
def findReg (b : Block) (die unit off : Nat) : List Reg → Option RegAt
  | [] => none
  | r :: rest =>
    if r.spec.block = b ∧ r.spec.on.has die then
      match r.spec.index off with
      | some (i, j) => if instanceOk r die i j then some ⟨r, die, unit, i, j⟩ else findReg b die unit off rest
      | none => findReg b die unit off rest
    else findReg b die unit off rest

/-- The place an address of control space names (00 R8, 05 R135). -/
def placeOf (addr : Nat) : RegPlace :=
  if addr < controlBase then .outside
  else
    let d := (addr - controlBase) / 0x1000_0000
    match blockAt d ((addr - controlBase) % 0x1000_0000) with
    | none => .outside
    | some (b, u, off) =>
      match findReg b d u (off / 8 * 8) Reg.all with
      | some r => .reg r
      | none => .hole

/-- A tile has the preload path (03 R68). -/
def preloadTile (m : Nat) : Bool := (m % 8 == 0 && m < 64) || m ≥ 64 && m < 68

/-- The reset value a register's table gives as numbers. -/
def Reg.resetFields (fs : List Fld) : Word := fs.foldl (fun v f => fput v f.lo f.width f.reset) 0

/-- The value of a register after cold reset (00 R11). -/
def Reg.reset (r : Reg) (die unit : Nat) : Word :=
  match r with
  | .TILE_ID => BitVec.ofNat 64 (die + unit * 8 + b2n (preloadTile unit) * 1024)
  | .TILE_POS =>
    if unit < 64 then BitVec.ofNat 64 (unit + 64 + unit / 8 * 128 + b2n (unit % 8 == 0) * 1024) else 0
  | .TILE_STATE => if unit < 64 then 0 else 1
  | .DOCK_MS_ID => BitVec.ofNat 64 (die - 8)
  | .UPD_ID => BitVec.ofNat 64 ((die - 8) + (die - 8) % 4 * 32 + b2n ((die - 8) % 4 == 0) * 128)
  | .CRV_ID => BitVec.ofNat 64 (4 * die + unit)
  | .RING_ID => BitVec.ofNat 64 (4 * (die - 40) + unit + (if die < 42 then 0 else 16))
  | .PWR_RST_FLAGS => 1
  | .DOCK_PCIE_CFG => BitVec.ofNat 64 (b2n (Config.bifurStrap (die - 40)))
  | .PWR_MGT_FW => fput 0 40 6 Config.securityCounter.toNat
  | _ => Reg.resetFields r.spec.fields

/-- The stored contents of a register. -/
def Base.rd (b : Base) (r : Reg) (die : Nat) (unit : Nat := 0) (i : Nat := 0) (j : Nat := 0) : Word :=
  (Map.find (regAddr r die unit i j) b.regs).getD (r.reset die unit)

/-- The state with a register's contents set: the file lists a register only while it differs from its reset value. -/
def Base.wr (b : Base) (v : Word) (r : Reg) (die : Nat) (unit : Nat := 0) (i : Nat := 0) (j : Nat := 0) : Base :=
  { b with
    regs :=
      if v = r.reset die unit then Map.del (regAddr r die unit i j) b.regs
      else Map.put (regAddr r die unit i j) v b.regs }

/-- A field of a register. -/
def Base.rf (b : Base) (lo w : Nat) (r : Reg) (die : Nat) (unit : Nat := 0) (i : Nat := 0) (j : Nat := 0) : Nat :=
  fget (b.rd r die unit i j) lo w

/-- The value of TILE_LEND or TILE_PF_CTL in effect: a write waits for the tile's idle boundary (03 R96, 05 R160). -/
def Base.eff (b : Base) (lo w : Nat) (r : Reg) (n m : Nat) : Nat :=
  fget ((Map.find (regAddr r n m) b.waitIdle).getD (b.rd r n m)) lo w

/-- The state with a field of a register set. -/
def Base.wf (b : Base) (lo w x : Nat) (r : Reg) (die : Nat) (unit : Nat := 0) (i : Nat := 0) (j : Nat := 0) : Base :=
  b.wr (fput (b.rd r die unit i j) lo w x) r die unit i j

/-- A count field of a register raised by x, stopping at its greatest value. -/
def Base.countSat (b : Base) (x lo w : Nat) (r : Reg) (die : Nat) (unit : Nat := 0) (i : Nat := 0) (j : Nat := 0) : Base :=
  b.wf lo w (satAdd w (b.rf lo w r die unit i j) x) r die unit i j

/-- The state with a register back at its reset value. -/
def Base.regReset (b : Base) (r : Reg) (die : Nat) (unit : Nat := 0) (i : Nat := 0) (j : Nat := 0) : Base :=
  b.wr (r.reset die unit) r die unit i j

end Sys2Proof.Machine
end

