-- ==== Sys2Proof/Machine/Catalogue.lean ====
section
/-! DEFINITION. The Catalogue: its entries (15 R431, R461, R462 and the tables of the other chapters), their defaults and their stored values. -/

namespace Sys2Proof.Machine

/-- How an entry's default is given (15 R461): a number, bytes, or a factory value. -/
inductive CatDefault where
  | num (n : Nat)
  | bytes (l : List Byte)
  | serial | ifId | rail | signature
  deriving DecidableEq, Repr

/-- Catalogue types (00 R12); I16 is used by 16 R487. -/
inductive CatAcc where
  | ro | rw | wo
  deriving DecidableEq, Repr

/-- One row of a Catalogue table. `len` is the value's length in bytes, or its greatest length for a STR. -/
structure CatDef where
  index : Nat
  lo : Nat
  hi : Nat
  name : String
  type : CatType
  acc : CatAcc
  role : Nat
  persist : Bool
  len : Nat
  perPart : Bool
  default : CatDefault
  deriving DecidableEq, Repr

/-- The entries of the tables, in index order. -/
def catDefs0 : List CatDef := [
  ⟨0x4001, 1, 8, "Verified mode", .bool, .rw, 2, false, 1, true, .num 0x01⟩,
  ⟨0x4002, 1, 8, "Verdict record address", .u64, .rw, 1, false, 8, true, .num 0x0000000000000000⟩,
  ⟨0x4010, 1, 8, "Wheel-tap enable", .bool, .rw, 2, false, 1, false, .num 0x01⟩,
  ⟨0x4011, 1, 8, "Wheel-tap period", .u32, .rw, 2, false, 4, false, .num 0x00000258⟩,
  ⟨0x4012, 1, 8, "Idle wait", .u32, .rw, 2, false, 4, false, .num 0x000003E8⟩,
  ⟨0x4020, 1, 12, "Expected signatures", .u64, .ro, 0, false, 8, false, .signature⟩,
  ⟨0x7001, 1, 8, "NaN trap enable", .bool, .rw, 1, false, 1, true, .num 0x00⟩,
  ⟨0x7002, 1, 8, "Trap record address", .u64, .rw, 1, false, 8, true, .num 0x0000000000000000⟩,
  ⟨0x7003, 1, 8, "Job seed", .u64, .rw, 1, false, 8, true, .num 0x0000000000000000⟩,
  ⟨0x7004, 1, 8, "Non-finite event enable", .bool, .rw, 1, false, 1, true, .num 0x01⟩,
  ⟨0x7005, 1, 8, "Lost traps", .u32, .ro, 0, false, 4, true, .num 0x00000000⟩,
  ⟨0x7010, 1, 8, "History table address", .u64, .rw, 1, false, 8, true, .num 0x0000000000000000⟩,
  ⟨0x7011, 1, 8, "History entry count", .u16, .rw, 1, false, 2, true, .num 0x0000⟩,
  ⟨0x7012, 1, 8, "Watch table address", .u64, .rw, 1, false, 8, true, .num 0x0000000000000000⟩,
  ⟨0x7013, 1, 8, "Overflow share limit", .u32, .rw, 1, false, 4, true, .num 0x00010000⟩,
  ⟨0x7014, 1, 8, "Vanish share limit", .u32, .rw, 1, false, 4, true, .num 0x10000000⟩,
  ⟨0x7015, 1, 8, "Silent share threshold", .u32, .rw, 1, false, 4, true, .num 0x00100000⟩,
  ⟨0x7016, 1, 8, "Silent step count", .u16, .rw, 1, false, 2, true, .num 0x0100⟩,
  ⟨0x7017, 1, 8, "Silent watch enable", .bool, .rw, 2, false, 1, true, .num 0x01⟩,
  ⟨0x7020, 1, 8, "Group table address", .u64, .rw, 1, false, 8, true, .num 0x0000000000000000⟩,
  ⟨0x7021, 1, 8, "Group count", .u16, .rw, 1, false, 2, true, .num 0x0000⟩,
  ⟨0x7030, 1, 8, "Curvature mode ceiling", .u8, .rw, 1, false, 1, true, .num 0x02⟩]
def catDefs1 : List CatDef := [
  ⟨0x1000, 1, 1, "Vendor", .str, .ro, 0, false, 16, false, .bytes [0x48, 0x65, 0x6C, 0x6E, 0x75, 0x6D]⟩,
  ⟨0x1001, 1, 1, "Part", .str, .ro, 0, false, 16, false, .bytes [0x46, 0x4E, 0x39, 0x36, 0x33, 0x32]⟩,
  ⟨0x1002, 1, 1, "Stepping", .u8, .ro, 0, false, 1, false, .num 0x10⟩,
  ⟨0x1003, 1, 1, "Serial number", .str, .ro, 0, false, 16, false, .serial⟩,
  ⟨0x1004, 1, 1, "Firmware version", .u32, .ro, 0, false, 4, false, .num 0⟩,
  ⟨0x1004, 2, 2, "Security counter", .u8, .ro, 0, false, 1, false, .num 0⟩,
  ⟨0x1004, 3, 3, "Running slot", .u8, .ro, 0, false, 1, false, .num 0⟩,
  ⟨0x1005, 1, 1, "Next slot", .u8, .ro, 0, true, 1, false, .num 0x00⟩,
  ⟨0x1006, 1, 2, "Slot versions", .u32, .ro, 0, false, 4, false, .num 0⟩,
  ⟨0x1010, 1, 1, "10BASE-T1S enable", .bool, .rw, 2, true, 1, false, .num 0x01⟩,
  ⟨0x1010, 2, 2, "PLCA node ID", .u8, .rw, 2, true, 1, false, .num 0xFF⟩,
  ⟨0x1010, 3, 3, "PLCA node count", .u8, .rw, 2, true, 1, false, .num 0x08⟩,
  ⟨0x1010, 4, 4, "Interface identifier", .u64, .rw, 2, true, 8, false, .ifId⟩,
  ⟨0x1010, 5, 5, "UDP port", .u16, .rw, 2, true, 2, false, .num 0xC1E0⟩,
  ⟨0x1011, 1, 1, "I3C enable", .bool, .rw, 2, true, 1, false, .num 0x01⟩,
  ⟨0x1011, 2, 2, "I3C static address", .u8, .rw, 2, true, 1, false, .num 0x32⟩,
  ⟨0x3001, 1, 1, "Partition plan", .blob, .rw, 2, true, 4096, false, .num 0⟩,
  ⟨0x3002, 1, 1, "Plan lock", .bool, .rw, 2, true, 1, false, .num 0x00⟩,
  ⟨0x3003, 1, 1, "Lock state", .u64, .ro, 0, false, 8, false, .num 0x0000000000000000⟩,
  ⟨0x4030, 1, 8, "Retired tiles", .blob, .rw, 2, true, 9, false, .num 0⟩,
  ⟨0x4031, 1, 1, "Fenced stacks", .u32, .rw, 2, true, 4, false, .num 0x00000000⟩,
  ⟨0x4032, 1, 1, "Lost cores", .blob, .rw, 2, true, 9, false, .num 0⟩]
def catDefs2 : List CatDef := [
  ⟨0x1020, 1, 1, "Idle time", .u16, .rw, 2, false, 2, false, .num 0x003C⟩,
  ⟨0x1020, 2, 2, "Sessions open", .u8, .ro, 0, false, 1, false, .num 0x00⟩,
  ⟨0x1021, 1, 1, "Failed authentications", .u32, .ro, 0, false, 4, false, .num 0x00000000⟩,
  ⟨0x1030, 1, 1, "Operator key", .blob, .wo, 2, true, 32, false, .num 0⟩,
  ⟨0x1030, 2, 2, "Maintainer key", .blob, .wo, 3, true, 32, false, .num 0⟩,
  ⟨0x1030, 3, 3, "Key state", .u8, .ro, 0, false, 1, false, .num 0x00⟩,
  ⟨0x1040, 1, 8, "Event ring address", .u64, .rw, 1, false, 8, true, .num 0x0000000000000000⟩,
  ⟨0x1041, 1, 8, "Event ring size", .u32, .rw, 1, false, 4, true, .num 0x00000400⟩,
  ⟨0x1042, 1, 8, "Notice mask", .u32, .rw, 1, false, 4, true, .num 0x0001FFFE⟩,
  ⟨0x1043, 1, 1, "I3C notice mask", .u32, .rw, 2, false, 4, false, .num 0x00000000⟩,
  ⟨0x1050, 1, 1, "Log next", .u64, .ro, 0, false, 8, false, .num 0x0000000000000000⟩,
  ⟨0x1051, 1, 1, "Log cursor", .u64, .rw, 1, false, 8, false, .num 0x0000000000000000⟩,
  ⟨0x1052, 1, 1, "Log record", .blob, .ro, 0, false, 32, false, .num 0⟩,
  ⟨0x2001, 1, 1, "Requested device state", .u8, .rw, 2, false, 1, false, .num 0x00⟩,
  ⟨0x2001, 2, 2, "Effective device state", .u8, .ro, 0, false, 1, false, .num 0x00⟩,
  ⟨0x2003, 1, 1, "Handshake result", .u64, .ro, 0, false, 8, false, .num 0x0000000000000000⟩,
  ⟨0x2004, 1, 1, "Wake enable", .u8, .rw, 2, true, 1, false, .num 0x3F⟩,
  ⟨0x2005, 1, 1, "Reset flags", .u64, .ro, 0, false, 8, false, .num 0x0000000000000000⟩,
  ⟨0x2006, 1, 1, "Reset command", .u64, .wo, 2, false, 8, false, .num 0⟩,
  ⟨0x2010, 1, 40, "Rail set point", .u16, .rw, 3, true, 2, false, .rail⟩,
  ⟨0x2011, 1, 40, "Rail reading", .u32, .ro, 0, false, 4, false, .num 0x00000000⟩,
  ⟨0x2012, 1, 1, "Warning temperature", .u16, .rw, 2, false, 2, false, .num 0x03B6⟩]
def catDefs3 : List CatDef := [
  ⟨0x2013, 1, 44, "Die temperature", .i16, .ro, 0, false, 2, false, .num 0x0000⟩,
  ⟨0x5001, 1, 8, "Counter grant", .blob, .rw, 2, false, 352, true, .num 0⟩,
  ⟨0x5002, 1, 8, "Counter control", .blob, .wo, 1, false, 16, true, .num 0⟩,
  ⟨0x5003, 1, 8, "Counter clear", .blob, .wo, 1, false, 2, true, .num 0⟩]
def catDefs : List CatDef := catDefs0 ++ catDefs1 ++ catDefs2 ++ catDefs3

/-- The key of an entry's sub-index. -/
def catKey (index sub : Nat) : Nat := index * 256 + sub

/-- The row of an entry's sub-index among the tables. -/
def catRow (index sub : Nat) : Option CatDef :=
  catDefs.find? fun d => d.index == index && decide (d.lo ≤ sub ∧ sub ≤ d.hi)

/-- The units of a state entry: number of units, or none where k is reserved (15 R456). -/
def stateUnits (die k : Nat) : Option Nat :=
  if die ≥ 44 then none
  else if k = 0 then some 1
  else if die < 8 then (if k = 1 then some 68 else if k = 2 then some 4 else if k = 3 then some 9 else none)
  else if die < 40 then (if k ≤ 3 then some 1 else none)
  else if k = 1 then some 4 else none

/-- An entry of the unit states (15 R456): die, k and the number of units. -/
def stateEntry (index : Nat) : Option (Nat × Nat × Nat) :=
  if 0x6000 ≤ index ∧ index < 0x62C0 then
    match stateUnits ((index - 0x6000) / 16) ((index - 0x6000) % 16) with
    | some u => some ((index - 0x6000) / 16, (index - 0x6000) % 16, u)
    | none => none
  else none

/-- The signatures of stepping B0, entry 0x4020 (13 R376). -/
def signatures : List Nat :=
  [0x3B710C9EA4552D08, 0xC4E277190B38F56A, 0x91D53A604EC7B21F, 0x07AFE2849D136C5B, 0xE8B245D716F0A93C, 0x7C069B1ED35A48F2,
   0x5E08D4A31C6F92B7, 0x2A916F0CE74D3815, 0xB3601F8E5A29C4D0, 0x6DC408B1F37E2A96, 0x4F17B9C28065DE3A, 0xD8A32674C1BF0E59]

/-- The default of an entry of the tables. -/
def CatDef.defaultBytes (d : CatDef) (sub : Nat) : List Byte :=
  match d.default with
  | .num n => if d.index = 0x1030 ∧ sub ≤ 2 then [] else leBytes d.len n
  | .bytes l => l
  | .serial => Config.serialNumber
  | .ifId => leBytes 8 Config.interfaceIdentifier.toNat
  | .rail => leBytes 2 (factorySetPoint (sub - 1))
  | .signature => leBytes 8 (signatures.getD (sub - 1) 0)

/-- The default of any entry: the tables, and the unit states, which start in SERVICE, or SPARE for a spare tile or core (15 R456, R457). -/
def catDefault (index sub : Nat) : List Byte :=
  match catRow index sub with
  | some d => d.defaultBytes sub
  | none => [0]

/-- The stored value of an entry. -/
def Base.cat (b : Base) (index sub : Nat) : List Byte := (Map.find (catKey index sub) b.catVals).getD (catDefault index sub)

/-- The stored value of an entry as a number. -/
def Base.catNum (b : Base) (index sub : Nat) : Nat := ofLe (b.cat index sub)

/-- The value in force of an entry that takes effect at the partition's step boundary (02 R64, 07 R206, 08 R211, 09 R260). -/
def Base.now (b : Base) (index p : Nat) : Nat := ofLe ((Map.find (catKey index (p + 1)) b.inForce).getD (catDefault index (p + 1)))

/-- The entries that take effect at a step boundary, beside entry 0x4001. -/
def stepEntries : List Nat := [0x7003, 0x7010, 0x7011, 0x7012, 0x7013, 0x7014, 0x7015, 0x7016, 0x7017, 0x7020, 0x7021, 0x7030]

/-- Step boundary of partition p: the held Catalogue writes apply (13 R378). -/
def Base.boundary (b : Base) (p : Nat) : Base :=
  { b with
    inForce := stepEntries.foldl (fun m i =>
      let v := b.cat i (p + 1)
      if v = catDefault i (p + 1) then Map.del (catKey i (p + 1)) m else Map.put (catKey i (p + 1)) v m) b.inForce
    unverified := if b.catNum 0x4001 (p + 1) = 0 then NSet.add p b.unverified else NSet.remove p b.unverified }

/-- The state with an entry's value stored. -/
def Base.catPut (b : Base) (index sub : Nat) (v : List Byte) : Base :=
  { b with
    catVals := if v = catDefault index sub then Map.del (catKey index sub) b.catVals else Map.put (catKey index sub) v b.catVals }

/-- The state with a number stored in an entry of n bytes. -/
def Base.catSet (b : Base) (index sub n v : Nat) : Base := b.catPut index sub (leBytes n v)

/-- The data path takes unit u of an entry of die d out of service on its own: a FAILED that was requested of it becomes FENCED (15 R458). -/
def Base.wantsFence (b : Base) (d k u : Nat) : Base :=
  if b.catNum (0x6000 + 16 * d + k) (2 * u + 1) = 2 then b.catSet (0x6000 + 16 * d + k) (2 * u + 1) 1 1 else b

end Sys2Proof.Machine
end

