-- ==== Sys2Proof/Machine/Partition.lean ====
section
/-! DEFINITION. The partition table (14 R407 to R411), the address map (05 R134 to R139) and the mesh routes (01 R18). -/

namespace Sys2Proof.Machine

/-- Partition p has VALID set (14 R407). -/
def Base.partValid (b : Base) (p : Nat) : Bool := p < 8 && bget (b.rd .DOCK_PT_PART 40 0 p) 0

/-- The partition a 4-bit binding field names: BOUND set and the partition VALID (14 R407). -/
def Base.bound (b : Base) (field : Nat) : Option Nat :=
  if field / 8 % 2 = 1 ∧ b.partValid (field % 8) then some (field % 8) else none

/-- The partition of link L (14 R425). -/
def Base.partOfLink (b : Base) (L : Nat) : Option Nat := if L < 8 then b.bound (b.rf 0 4 .DOCK_PT_LINK 40 0 L) else none

/-- The partition of queue q (14 R407). -/
def Base.partOfQueue (b : Base) (q : Nat) : Option Nat :=
  if q < 16384 then b.bound (b.rf (4 * (q / 128 % 16)) 4 .DOCK_PT_QUEUE 40 0 (q / 2048)) else none

/-- The partition of tile position pos of CDn (14 R407). -/
def Base.partOfPos (b : Base) (n pos : Nat) : Option Nat :=
  if n < 8 ∧ pos < 64 then b.bound (b.rf (4 * (pos / 8)) 4 .DOCK_PT_TILE 40 0 n) else none

/-- The partition of the host-class core identity 0x10 + 9n + k (14 R407). -/
def Base.partOfCore (b : Base) (n k : Nat) : Option Nat :=
  if n < 8 ∧ k < 8 then b.bound (b.rf (4 * k) 4 .DOCK_PT_CORE 40 0 n) else none

/-- The partition of stack MSn, its update unit and its checkpoint engine (14 R407). -/
def Base.partOfStack (b : Base) (n : Nat) : Option Nat :=
  if n < 32 then b.bound (b.rf (4 * (n % 16)) 4 .DOCK_PT_STACK 40 0 (n / 16)) else none

/-- The partition of curvature engine 4n + j (14 R407). -/
def Base.partOfCrv (b : Base) (e : Nat) : Option Nat :=
  if e < 32 then b.bound (b.rf (4 * (e % 16)) 4 .DOCK_PT_CRV 40 0 (e / 16)) else none

/-- The partition-table lock is set (14 R408). -/
def Base.locked (b : Base) : Bool := bget (b.rd .DOCK_PT_LOCK 40) 1

/-- The position a tile holds (03 R96 TILE_POS). -/
def Base.posOfTile (b : Base) (n m : Nat) : Option Nat :=
  let v := b.rd .TILE_POS n m
  if bget v 6 then some (fget v 0 6) else none

/-- The tile that holds position pos of CDn (03 R67). -/
def Base.tileOfPos (b : Base) (n pos : Nat) : Option Nat :=
  (List.range 68).find? fun m => b.posOfTile n m == some pos

/-- The partition of the position that a tile holds (14 R411). -/
def Base.partOfTile (b : Base) (n m : Nat) : Option Nat :=
  match b.posOfTile n m with
  | some pos => b.partOfPos n pos
  | none => none

/-- Who sends a request: the management controller and the test access port reach everything; any other master belongs to a partition or
to none (01 R20, 14 R411). -/
inductive Who where
  | management
  | part (p : Nat)
  | nobody
  deriving DecidableEq, Repr

/-- The class of a master identity (01 R20, R23). -/
def Base.whoIs (b : Base) (master : Nat) : Who :=
  if master = 0x00 ∨ master = 0xF0 then .management
  else if 1 ≤ master ∧ master ≤ 8 then (if b.partValid (master - 1) then .part (master - 1) else .nobody)
  else if 0x10 ≤ master ∧ master ≤ 0x57 then
    match b.partOfCore ((master - 0x10) / 9) ((master - 0x10) % 9) with
    | some p => .part p
    | none => .nobody
  else .nobody

/-- Where a device physical address leads (05 R134, R136, R155). -/
inductive Place where
  | stack (st off : Nat)
  | far (p x : Nat)
  | control
  | unmapped
  deriving DecidableEq, Repr

/-- The decoding of a device physical address (05 R134, R136). -/
def Base.place (b : Base) (a : Nat) : Place :=
  if a < 0x0300_0000_0000 then
    let band := a / 2 ^ 35
    let o := a % 2 ^ 35
    if bget (b.rd .DOCK_BAND 40 0 band) 0 then
      let k := o / 4096
      .stack (k % 32) (band * 2 ^ 30 + k / 32 * 4096 + o % 4096)
    else
      let k := o % 2 ^ 32 / 4096
      .stack (4 * (o / 2 ^ 32) + k % 4) (band * 2 ^ 30 + k / 4 * 4096 + o % 4096)
  else if 0x4000_0000_0000 ≤ a ∧ a < 0x8000_0000_0000 then
    .far ((a - 0x4000_0000_0000) / 2 ^ 43) ((a - 0x4000_0000_0000) % 2 ^ 43)
  else if controlBase ≤ a ∧ a < 0x8002_C000_0000 then .control
  else .unmapped

/-- The device address of an offset of a stack: the inverse of `place` (05 R136). -/
def Base.stackAddr (b : Base) (st off : Nat) : Nat :=
  let band := off / 2 ^ 30
  let k := off % 2 ^ 30 / 4096
  if bget (b.rd .DOCK_BAND 40 0 band) 0 then band * 2 ^ 35 + (k * 32 + st) * 4096 + off % 4096
  else band * 2 ^ 35 + st / 4 * 2 ^ 32 + (k * 4 + st % 4) * 4096 + off % 4096

/-- The partition that holds all of the stacks given, if one does. -/
def Base.sameStacks (b : Base) (l : List Nat) : Option Nat :=
  match l with
  | [] => none
  | n :: r =>
    match b.partOfStack n with
    | none => none
    | some p => if r.all (fun m => b.partOfStack m == some p) then some p else none

/-- The partition that a stack address belongs to (05 R138), or the far-tier slice's partition when it has a link (05 R155). -/
def Base.ownerOf (b : Base) (a : Nat) : Option Nat :=
  match b.place a with
  | .stack _ _ =>
    if bget (b.rd .DOCK_BAND 40 0 (a / 2 ^ 35)) 0 then b.sameStacks (List.range 32)
    else b.sameStacks (upto 4 (4 * (a % 2 ^ 35 / 2 ^ 32)))
  | .far p _ => if b.partValid p && bget (b.rd .DOCK_PT_PART 40 0 p) 7 then some p else none
  | _ => none

/-- All of [a, a + n) is stack memory bound to partition p (05 R138). -/
def Base.runOwned (b : Base) (p a n : Nat) : Bool :=
  decide (0 < n) && decide (a + n ≤ 0x0300_0000_0000) &&
    (List.range ((a + n - 1) / 2 ^ 32 - a / 2 ^ 32 + 1)).all fun k =>
      b.ownerOf (if k = 0 then a else (a / 2 ^ 32 + k) * 2 ^ 32) == some p

/-- All of [a, a + n) is memory the partition may name: stack memory bound to it, or its own far-tier slice (05 R138, R155). -/
def Base.memOwned (b : Base) (p a n : Nat) : Bool :=
  b.runOwned p a n ||
    (decide (0 < n) && (match b.place a, b.place (a + n - 1) with
      | .far q _, .far q' _ => q == p && q' == p && b.ownerOf a == some p
      | _, _ => false))

/-- The compute die next to a die of the package (01 R17). -/
def nearCompute (d : Nat) : Nat :=
  if d < 8 then d else if d < 40 then (d - 8) / 4
  else if d = 40 then 0 else if d = 41 then 4 else if d = 42 then 3 else 7

/-- A compute die's link in a direction has failed: 0 west, 1 east, 2 the other row (12 R349, R359). -/
def Base.meshDown (b : Base) (n dir : Nat) : Bool := bget (b.rd .CHK_D2D_STATE n) dir

/-- The mesh route from one compute die to another meets a failed link: along the row to the target's column, then along it (01 R18). -/
def Base.meshBroken (b : Base) (x y : Nat) : Bool :=
  let r := x / 4
  let row := if y % 4 ≥ x % 4
    then (List.range (y % 4 - x % 4)).any fun k => b.meshDown (4 * r + x % 4 + k) 1 || b.meshDown (4 * r + x % 4 + k + 1) 0
    else (List.range (x % 4 - y % 4)).any fun k => b.meshDown (4 * r + x % 4 - k) 0 || b.meshDown (4 * r + x % 4 - k - 1) 1
  row || (x / 4 != y / 4 && (b.meshDown (4 * r + y % 4) 2 || b.meshDown y 2))

/-- Lending is possible: there is more than one valid partition (18 R514). -/
def Base.lendingOn (b : Base) : Bool := decide (2 ≤ (List.range 8).countP b.partValid)

/-- The link between a die that is no compute die and its compute die has failed (12 R359). -/
def Base.edgeBroken (b : Base) (d : Nat) : Bool :=
  if d < 8 then false
  else if d < 40 then bget (b.rd .CHK_D2D_STATE (nearCompute d)) (3 + (d - 8) % 4)
  else bget (b.rd .CHK_D2D_STATE d) 0 ||
    (if d = 40 ∨ d = 41 then b.meshDown (nearCompute d) 0 else b.meshDown (nearCompute d) 1)

/-- A request from one die to another is refused by a failed link (12 R349). -/
def Base.routeBroken (b : Base) (src dst : Nat) : Bool :=
  src != dst && (b.edgeBroken src || b.edgeBroken dst || b.meshBroken (nearCompute src) (nearCompute dst))

end Sys2Proof.Machine
end

