-- ==== Sys2Proof/Machine/Flags.lean ====
section
/-! DEFINITION. Events and status flags: raising an event (15 R452 to R455), its notice (14 R413), and the status bits that gate it. -/

namespace Sys2Proof.Machine

/-- The logic unit of a die (15 R452). -/
def logic (d : Nat) : Src := ⟨d, if d < 8 then 81 else if d < 40 then 0 else 7⟩

/-- IO0's logic unit, which also stands for the management subsystem and the always-on domain. -/
def io0 : Src := ⟨40, 7⟩

/-- The check units of a die: unit 6 of an I/O die; those of a compute die belong to its logic unit (15 R452). The verdicts stand in the block of
IO0's (12 R361). -/
def checkUnits (d : Nat) : Src := ⟨d, if d < 40 then 81 else 6⟩

def Src.code (s : Src) : Nat := s.die + 64 * s.unit

/-- Ticks in 1 µs, 1 ms and 1 s (00 Numbers). -/
def usTicks (n : Nat) : Nat := 25 * n
def msTicks (n : Nat) : Nat := 25_000 * n
def sTicks (n : Nat) : Nat := 25_000_000 * n

/-- Link L beyond its registers. -/
def Base.link (b : Base) (L : Nat) : LinkSt := (Map.find L b.links).getD {}

def Base.setLink (b : Base) (L : Nat) (l : LinkSt) : Base :=
  { b with links := if l = {} then Map.del L b.links else Map.put L l b.links }

/-- The link is in L0 or L1 with its function in D0 (14 R413, R424). -/
def Base.linkUp (b : Base) (L : Nat) : Bool :=
  let v := b.rd .DOCK_PCIE_LNK (40 + L / 2) 0 (L % 2)
  fget v 0 3 != 0 && !bget v 9 && !(b.link L).l2 && !(b.link L).disabled

/-- One MSI-X message on a link (14 R413): pending when the vector or the function is masked, discarded when the link or function is down. -/
def Base.msix (b : Base) (L vector : Nat) : Base :=
  if b.linkUp L then
    let v := (Map.find (L * 2048 + vector) b.vectors).getD {}
    if v.masked || (b.link L).msixMask then
      { b with vectors := Map.put (L * 2048 + vector) { v with pending := true } b.vectors }
    else if (b.link L).msixOn then { b with sent := .msix L vector :: b.sent }
    else b
  else b

/-- Pending messages of a link that nothing masks any more are sent, as PCIe requires (14 R413). -/
def Base.msixFlush (b : Base) (L : Nat) : Base :=
  if (b.link L).msixMask || !(b.link L).msixOn then b
  else b.vectors.foldl (fun (b : Base) (e : Nat × Vec) =>
    if e.1 / 2048 = L ∧ e.2.pending ∧ !e.2.masked then
      (({ b with vectors := Map.put e.1 { e.2 with pending := false } b.vectors } : Base).msix L (e.1 % 2048))
    else b) b

/-- An MSI-X message of partition p on its interrupt link (14 R413). -/
def Base.msixPart (b : Base) (p vector : Nat) : Base := b.msix (b.rf 1 3 .DOCK_PT_PART 40 0 p) vector

/-- The ring of partition p. -/
def Base.ring (b : Base) (p : Nat) : RingSt := (Map.find p b.rings).getD {}

/-- Bytes of an event record (15 R452) with a ring's own SEQ. -/
def EventRec.encode (r : EventRec) (seq : Nat) : List Byte :=
  leBytes 2 r.code ++ leBytes 2 r.source ++
    leBytes 1 (match r.part with | some p => p % 8 + 8 | none => 0) ++ leBytes 3 0 ++
    leBytes 8 seq ++ leBytes 8 r.time ++ leBytes 8 r.waybill

/-- Key of a byte of a stack in the memory table. -/
def memKey (st off : Nat) : Nat := st * 2 ^ 37 + off

/-- A run of bytes put over the cells of a memory from key k: the cells it covers go, and its bytes that are not the unlisted byte stand. -/
def Memory.put (m : List Host.Cell) (k : Nat) (bytes : List Byte) : List Host.Cell :=
  m.takeWhile (fun c => c.1 < k)
    ++ ((bytes.zipIdx k).filter (fun c => c.1 ≠ 0)).map (fun c => (c.2, c.1))
    ++ m.dropWhile (fun c => c.1 < k + bytes.length)

/-- What an unlisted address of a stack reads as (log entry 1). -/
def Memory.unlisted : Byte := 0

/-- The canonical form of memory: keys strictly rising, no entry equal to the unlisted byte. -/
def Memory.wf (m : List Host.Cell) : Bool := Map.sorted m && m.all (fun c => c.2 ≠ Memory.unlisted)

/-- One byte. -/
def Memory.get (m : List Host.Cell) (k : Nat) : Byte := (Map.find k m).getD Memory.unlisted

/-- n bytes from key k on. -/
def Memory.run (m : List Host.Cell) (k n : Nat) : List Byte :=
  let cs := (m.dropWhile (fun c => c.1 < k)).takeWhile (fun c => c.1 < k + n)
  let rec go (cs : List Host.Cell) (k : Nat) : Nat → List Byte
    | 0 => []
    | n + 1 =>
      match cs with
      | [] => Memory.unlisted :: go [] (k + 1) n
      | c :: r => if c.1 = k then c.2 :: go r (k + 1) n else Memory.unlisted :: go cs (k + 1) n
  go cs k n

/-- The generation of a block raised by n, with the wrap of 05 R142. -/
def Base.addGen (b : Base) (st off n : Nat) : Base :=
  let k := st * 2 ^ 25 + off / 4096
  let g := (Map.find k b.gens).getD 0
  let g' := (g + n) % 65536
  let b := { b with gens := if g' = 0 then Map.del k b.gens else Map.put k g' b.gens }
  if g + n ≥ 65536 then b.wr (BitVec.ofNat 64 b.time) .DOCK_MS_WRAPTIME (ms st) else b

/-- Key of a piece in the poison set. -/
def pieceKey (st off : Nat) : Nat := st * 2 ^ 29 + off / 256

/-- A piece of a stack is marked poisoned. -/
def Base.poisoned (b : Base) (st off : Nat) : Bool := b.poison.contains (pieceKey st off)

/-- Some piece of the block is marked poisoned. -/
def Base.blockPoisoned (b : Base) (st off : Nat) : Bool :=
  (List.range 16).any fun i => b.poisoned st (off / 4096 * 4096 + 256 * i)

/-- A piece write at the memory-side die: bytes, poison, generation and seal (05 R141, R150, R151, 12 R351).
`off` to `off + bytes.length` lies inside one 256-byte piece; `bad` marks data that carries poison. -/
def Base.pieceWrite (b : Base) (st off : Nat) (bytes : List Byte) (bad : Bool) : Base :=
  let whole := decide (bytes.length = 256)
  let k := pieceKey st off
  let poison := if bad then NSet.add k b.poison else if whole then NSet.remove k b.poison else b.poison
  let blk := st * 2 ^ 25 + off / 4096
  let sealed := (Map.find blk b.seals).isSome
  let b := if sealed then b.countSat 1 0 48 .CHK_SEAL_CNT_RMW (ms st) else b
  let b := { b with mem := Memory.put b.mem (memKey st off) bytes, poison := poison }
  let b := { b with
    seals :=
      if b.blockPoisoned st off then Map.del blk b.seals
      else if sealed then b.seals
      else Map.put blk 0 b.seals }
  b.addGen st off 1

/-- The verdict accumulators of a partition changed (12 R356). -/
def Base.verdict (b : Base) (p : Nat) : Verdict := (Map.find p b.verdicts).getD {}

def Base.setVerdict (b : Base) (p : Nat) (f : Verdict → Verdict) : Base :=
  { b with verdicts := Map.put p (f (b.verdict p)) b.verdicts }

/-- A single-copy atomic record written by a die into memory it has checked to be partition p's (15 R455). A failed link drops it (12 R349). -/
def Base.recordWrite (b : Base) (die p a : Nat) (bytes : List Byte) : Base :=
  match b.place a with
  | .stack st off => if b.routeBroken die (ms st) then b.setVerdict p fun v => { v with lost := true } else b.pieceWrite st off bytes false
  | _ => b

/-- The record of an attributed event in its partition's ring, written by the die that raised it, and the notice (15 R455). -/
def Base.ringRecord (b : Base) (die p : Nat) (r : EventRec) : Base :=
  let a := b.catNum 0x1040 (p + 1)
  let size := b.catNum 0x1041 (p + 1)
  if a ≠ 0 ∧ b.runOwned p a (32 * size) then
    let g := b.ring p
    let b := b.recordWrite die p (a + 32 * (g.seq % size)) (r.encode g.seq)
    let g := { g with seq := g.seq + 1 }
    if (b.catNum 0x1042 (p + 1)).testBit (r.code / 256) then
      let early := match g.lastSignal with
        | some t => decide (b.time < t + usTicks 1)
        | none => false
      if early then { b with rings := Map.put p { g with pending := true } b.rings }
      else ({ b with rings := Map.put p { g with lastSignal := some b.time } b.rings }).msixPart p 2032
    else { b with rings := Map.put p g b.rings }
  else b

/-- Raising an event (15 R452 to R455): the device log, the in-band interrupt (15 R439), and the partition's ring. -/
def Base.raise (b : Base) (code : Nat) (src : Src) (part : Option Nat := none) (waybill : Nat := 0) : Base :=
  let r : EventRec := ⟨code, src.code, part, b.logNext, b.time, waybill⟩
  let b := { b with log := (r :: b.log).take 4096, logNext := b.logNext + 1 }
  let due := match b.inbandLast with
    | some t => decide (t + msTicks 1 ≤ b.time)
    | none => true
  let b := if b.inbandOn && b.i3cAddr.isSome && b.catNum 0x1011 1 == 1 && due && (b.catNum 0x1043 1).testBit (code / 256)
    then { b with sent := .inband (code / 256) :: b.sent, inbandLast := some b.time } else b
  match part with
  | some p => b.ringRecord src.die p r
  | none => b

/-- A status bit set by its event, which is raised if its enable bit is set or it cannot be masked (03 R96 and the like). -/
def Base.flag (b : Base) (st en : Reg) (bit : Nat) (always : Bool) (code die : Nat) (unit i : Nat) (src : Src)
    (part : Option Nat) (waybill : Nat := 0) : Base :=
  let b := b.wf bit 1 1 st die unit i
  if always || bget (b.rd en die unit i) bit then b.raise code src part waybill else b

/-- A fresh index for a free value (log entry 2). -/
def Base.fresh (b : Base) : Nat × Base := (b.free, { b with free := b.free + 1 })

/-- The step accumulators of a partition changed (13 R378). -/
def Base.stepAcc (b : Base) (p : Nat) : StepAcc := (Map.find p b.steps).getD {}

def Base.setStep (b : Base) (p : Nat) (f : StepAcc → StepAcc) : Base :=
  { b with steps := Map.put p (f (b.stepAcc p)) b.steps }

/-- One of the outcomes that depend on time happened in the step (13 R382, R383). -/
def Base.timedHit (b : Base) (p : Nat) : Base := b.setStep p fun a => { a with timedEvents := a.timedEvents + 1 }

/-- The same, for a report that may belong to no partition. -/
def Base.report (b : Base) (p : Option Nat) (f : Verdict → Verdict) : Base :=
  match p with
  | some p => b.setVerdict p f
  | none => b

/-- The step that partition p is in (13 R377). -/
def Base.stepOf (b : Base) (p : Nat) : Nat := (b.rd .DOCK_DB_STEP 40 0 p).toNat

/-- A report of a waybill's, late where the step in which the waybill started has been closed (12 R356). -/
def Base.reportAs (b : Base) (late : Bool) (p : Option Nat) (f : Verdict → Verdict) : Base :=
  b.report p fun v => { f v with late := (f v).late || late }

/-- A report of waybill x to the verdict of its partition. -/
def Base.reportOf (b : Base) (x : Wb) (f : Verdict → Verdict) : Base := b.reportAs (x.step != b.stepOf x.part) (some x.part) f

/-- An event of class MEM on a memory-side die (05 R158): the bit of DOCK_MS_STATUS and the event, STACKLOST always. -/
def Base.msEvent (b : Base) (n bit code : Nat) : Base :=
  b.flag .DOCK_MS_STATUS .DOCK_MS_EVENT_EN bit (bit == 5) code (ms n) 0 0 (logic (ms n)) (b.partOfStack n)

/-- An event of class ACC or a lane event on a tile (03 R96). -/
def Base.accEvent (b : Base) (n m bit code : Nat) (part : Option Nat) (wb : Nat := 0) : Base :=
  b.flag .ACC_STATUS .ACC_EVENT_EN bit false code (cd n) m 0 ⟨cd n, m⟩ part wb

/-- An event of class SID on a compute die for partition p (06 R188); SID.NOFRAME is a tile's (06 R189). -/
def Base.sidEvent (b : Base) (n p bit code : Nat) (wb : Nat := 0) (src : Src := logic (cd n)) : Base :=
  b.flag .DOCK_SID_STATUS .DOCK_SID_EVENT_EN bit false code (cd n) 0 p src (some p) wb

/-- An event of class SCL for partition p; SILENT and NOWATCH cannot be masked (07 R207). -/
def Base.sclEvent (b : Base) (p bit code : Nat) (src : Src) (wb : Nat := 0) : Base :=
  b.flag .DOCK_SCL_STATUS .DOCK_SCL_EVENT_EN bit (bit == 0 || bit == 8) code 40 0 p src (some p) wb

/-- An event of an update unit; POISON always (08 R245). -/
def Base.updEvent (b : Base) (n bit code : Nat) (wb : Nat := 0) : Base :=
  b.flag .UPD_STATUS .UPD_EVENT_EN bit (bit == 5) code (ms n) 0 0 ⟨ms n, 1⟩ (b.partOfStack n) wb

/-- An event of a curvature engine, CRV_STATUS; FEEDMISS always (09 R270). -/
def Base.crvEvent (b : Base) (e bit code : Nat) (wb : Nat := 0) : Base :=
  b.flag .CRV_STATUS .CRV_EVENT_EN bit (bit == 9) code (cd (e / 4)) (e % 4) 0 ⟨cd (e / 4), 68 + e % 4⟩ (b.partOfCrv e) wb

/-- An event of a curvature engine, CRV_ROOT_STATUS; REPLAY always (10 R299). -/
def Base.rootEvent (b : Base) (e bit code : Nat) (wb : Nat := 0) : Base :=
  b.flag .CRV_ROOT_STATUS .CRV_ROOT_EVENT_EN bit (bit == 9) code (cd (e / 4)) (e % 4) 0 ⟨cd (e / 4), 68 + e % 4⟩ (b.partOfCrv e) wb

/-- An event of ring engine IOn.Ek, engine 4n + k; LINKFAIL and EPOCH always (11 R337). -/
def Base.ringEvent (b : Base) (e bit code : Nat) (part : Option Nat) (wb : Nat := 0) : Base :=
  b.flag .RING_STATUS .RING_EVENT_EN bit (bit == 3 || bit == 8) code (io (e / 4)) (e % 4) 0 ⟨io (e / 4), e % 4⟩ part wb

/-- An event of a die's check-unit block; D2D always (12 R359). -/
def Base.chkEvent (b : Base) (die bit code : Nat) (src : Src) (part : Option Nat) : Base :=
  b.flag .CHK_STATUS .CHK_EVENT_EN bit (bit == 3) code die 0 0 src part

/-- An event of a stack's seal check unit; SEAL always (12 R360). -/
def Base.sealEvent (b : Base) (n bit code : Nat) : Base :=
  b.flag .CHK_SEAL_STATUS .CHK_SEAL_EVENT_EN bit (bit == 0) code (ms n) 0 0 ⟨ms n, 3⟩ (b.partOfStack n)

/-- An event of class SPR on a die; FENCE's RETIRE, NOSPARE, CORELOST, UNITLOST and STFAIL always (13 R396). -/
def Base.sprEvent (b : Base) (die bit code : Nat) (src : Src) (part : Option Nat) : Base :=
  b.flag .DOCK_SPR_STATUS .DOCK_SPR_EVENT_EN bit ([2, 3, 5, 6, 8].contains bit) code die 0 0 src part

/-- An event of class SPR of a partition; REPLAYDIFF, CKDIGEST and CKPOISON always (13 R397). -/
def Base.psprEvent (b : Base) (p bit code : Nat) (src : Src) (wb : Nat := 0) : Base :=
  b.flag .DOCK_PSPR_STATUS .DOCK_PSPR_EVENT_EN bit ([3, 7, 8].contains bit) code 40 0 p src (some p) wb

/-- An event of class HOST of a partition; DOCKOWN and LINKRESET always (14 R427). -/
def Base.hostEvent (b : Base) (p bit code : Nat) (src : Src) : Base :=
  b.flag .DOCK_HOST_STATUS .DOCK_HOST_EVENT_EN bit (bit == 1 || bit == 10) code 40 0 p src (some p)

/-- An event of class MGT; DIVERGE, FWINVALID, FWRECOVERY and PSTORE always (15 R463). -/
def Base.mgtEvent (b : Base) (bit code : Nat) : Base :=
  b.flag .PWR_MGT_STATUS .PWR_MGT_EVENT_EN bit ([0, 3, 4, 6].contains bit) code 40 0 0 io0 none

/-- An event of class PWR; RAILACK, BRINGUP and TRIP always (16 R489). -/
def Base.pwrEvent (b : Base) (bit code : Nat) (src : Src := io0) (part : Option Nat := none) : Base :=
  b.flag .PWR_STATUS .PWR_EVENT_EN bit ([2, 3, 8].contains bit) code 40 0 0 src part

/-- An event of class PMC on a die (17 R504). -/
def Base.pmcEvent (b : Base) (die bit code : Nat) (src : Src) (part : Option Nat) : Base :=
  b.flag .DOCK_PMC_STATUS .DOCK_PMC_EVENT_EN bit false code die 0 0 src part

end Sys2Proof.Machine
end

