-- ==== Sys2Proof/Machine/Operands.lean ====
section
/-! DEFINITION. Operand forms: unit and port identifiers (04 R98), the fields of a waybill (04 R105, R106), tensor descriptors (04 R108, R109) in
memory, local-store, stage and intake form (06 R162, 08 R218, 09 R247), and what each class of event does when a unit raises it. -/

namespace Sys2Proof.Machine

/-- The kinds of unit (04 R98). -/
inductive UnitKind where
  | tile | crv | upd | ring | ckpt
  deriving DecidableEq, Repr

/-- Kind, index and port of a port identifier; none where it is invalid (04 R98). -/
def portOf (id : Nat) : Option (UnitKind × Nat × Nat) :=
  let idx := id / 8 % 512
  let port := id % 8
  match id / 4096 with
  | 1 => if port = 0 then some (.tile, idx, 0) else none
  | 2 => if idx < 32 ∧ port = 0 then some (.crv, idx, 0) else none
  | 3 => if idx < 32 ∧ port = 0 then some (.upd, idx, 0) else none
  | 4 => if idx < 16 then some (.ring, idx, port) else none
  | 5 => if idx < 32 ∧ port = 0 then some (.ckpt, idx, 0) else none
  | _ => none

/-- Kind and index of a unit identifier. -/
def unitOf (id : Nat) : Option (UnitKind × Nat) :=
  match portOf id with
  | some (k, i, _) => if id % 8 = 0 then some (k, i) else none
  | none => none

/-- Kind of a unit identifier. -/
def kindOf (id : Nat) : Option UnitKind := (unitOf id).map (·.1)

def tileUnit (n pos : Nat) : Nat := 0x1000 + 8 * (64 * n + pos)
def crvUnit (e : Nat) : Nat := 0x2000 + 8 * e
def updUnit (n : Nat) : Nat := 0x3000 + 8 * n
def ringUnit (e : Nat) : Nat := 0x4000 + 8 * e
def ckptUnit (n : Nat) : Nat := 0x5000 + 8 * n

/-- Waybills an intake window holds (04 R103). -/
def UnitKind.window : UnitKind → Nat
  | .tile => 4 | .crv => 8 | .upd => 16 | .ring => 16 | .ckpt => 4

/-- The partition a unit belongs to; a ring engine belongs to none (04 R100, 11 R319). -/
def Base.partOfUnit (b : Base) (id : Nat) : Option Nat :=
  match unitOf (id / 8 * 8) with
  | some (.tile, i) => b.partOfPos (i / 64) (i % 64)
  | some (.crv, i) => b.partOfCrv i
  | some (.upd, i) => b.partOfStack i
  | some (.ckpt, i) => b.partOfStack i
  | _ => none

/-- The unit belongs to the partition, or is a ring engine, which serves every valid partition (04 R100, 11 R319). -/
def Base.unitServes (b : Base) (id p : Nat) : Bool :=
  match unitOf (id / 8 * 8) with
  | some (.ring, _) => b.partValid p
  | some _ => b.partOfUnit id == some p
  | none => false

/-- The source of a unit's events (15 R452): for a tile position, the tile that holds it. -/
def Base.unitSrc (b : Base) (id : Nat) : Src :=
  match unitOf id with
  | some (.tile, i) =>
    match b.tileOfPos (i / 64) (i % 64) with
    | some m => ⟨cd (i / 64), m⟩
    | none => logic (cd (i / 64))
  | some (.crv, i) => ⟨cd (i / 4), 68 + i % 4⟩
  | some (.upd, i) => ⟨ms i, 1⟩
  | some (.ring, i) => ⟨io (i / 4), i % 4⟩
  | some (.ckpt, i) => ⟨ms i, 2⟩
  | none => io0

/-- The event with a code, raised by a unit for partition p: the status bit of its class, and the record. -/
def Base.unitEvent (b : Base) (id p wb code : Nat) : Base :=
  let src := b.unitSrc id
  let low := code % 256 - 1
  match unitOf id, code / 256 with
  | some (.tile, _), 2 => b.accEvent src.die src.unit low code (some p) wb
  | some (.tile, i), 5 => b.sidEvent (i / 64) p low code wb
  | _, 6 => b.sclEvent p low code src wb
  | some (.upd, n), 7 => b.updEvent n (code % 256 - 2) code wb
  | some (.crv, e), 8 => b.crvEvent e (if low < 3 then low else low - 1) code wb
  | some (.crv, e), 9 => b.rootEvent e low code wb
  | some (.ring, e), 10 => b.ringEvent e low code (some p) wb
  | some (.tile, _), 10 => (b.wf (low - 0x10) 1 1 .DOCK_LEND_STATUS 40).raise code src (some p) wb
  | some (.upd, n), 1 => if code = 0x0109 then b.updEvent n 7 code wb else b.raise code src (some p) wb
  | some (.crv, e), 1 => if code = 0x010A then b.crvEvent e 10 code wb else b.raise code src (some p) wb
  | some (.ring, e), 1 => if code = 0x010B then b.ringEvent e 16 code (some p) wb else b.raise code src (some p) wb
  | _, 12 => if code ≥ 0x0C0A then b.psprEvent p (code - 0x0C0A) code src wb else b.sprEvent src.die low code src (some p)
  | _, _ => b.raise code src (some p) wb

/-- The waybill number of a trap record's bytes 0 to 7 (02 R62). -/
def waybillNumber (queue seq : Nat) : Nat := queue + seq % 2 ^ 32 * 2 ^ 16

def Wb.number (w : Wb) : Nat := waybillNumber w.queue w.seq

/-- Fields of a waybill (04 R105). -/
def Wb.field (w : Wb) (o n : Nat) : Nat := fieldAt w.bytes o n
def Wb.opcode (w : Wb) : Nat := w.field 0 1
def Wb.flagBits (w : Wb) : Nat := w.field 1 1
def Wb.keep (w : Wb) : Bool := w.flagBits.testBit 0
def Wb.cont (w : Wb) : Bool := w.flagBits.testBit 1
def Wb.preload (w : Wb) : Bool := w.flagBits.testBit 2
def Wb.hasDeadline (w : Wb) : Bool := w.flagBits.testBit 3
def Wb.irq (w : Wb) : Bool := w.flagBits.testBit 4
def Wb.accset (w : Wb) : Nat := w.flagBits / 64
def Wb.chain (w : Wb) : Nat := w.field 2 2
def Wb.nwait (w : Wb) : Nat := w.field 4 1 % 8
def Wb.nprod (w : Wb) : Nat := w.field 4 1 / 8 % 4
def Wb.ncred (w : Wb) : Nat := w.field 4 1 / 32 % 4
def Wb.oparg (w : Wb) : Nat := w.field 6 2
def Wb.arg (w : Wb) : Nat := w.field 36 4
def Wb.deadline (w : Wb) : Nat := w.field 56 8
def Wb.wait (w : Wb) (k : Nat) : Nat := w.field (8 + 3 * k) 3
def Wb.prod (w : Wb) (k : Nat) : Nat := w.field (20 + 3 * k) 3
def Wb.waits (w : Wb) : List Nat := (List.range w.nwait).map w.wait
def Wb.prods (w : Wb) : List Nat := (List.range w.nprod).map w.prod
/-- The first NCRED credit demands: port and credits. -/
def Wb.creds (w : Wb) : List (Nat × Nat) := (List.range w.ncred).map fun k => (w.field (28 + 4 * k) 2, w.field (30 + 4 * k) 2)
/-- The descriptor index of DESCk, and its zero byte. -/
def Wb.descIndex (w : Wb) (k : Nat) : Nat := w.field (40 + 4 * k) 3

/-- The demands by port, two entries that name one port added together. -/
def sumByPort (l : List (Nat × Nat)) : List (Nat × Nat) :=
  l.foldl (fun m c => Map.put c.1 ((Map.find c.1 m).getD 0 + c.2) m) []

def Wb.demand (w : Wb) (port : Nat) : Nat := (Map.find port (sumByPort w.creds)).getD 0

/-- The field faults of 04 R106 that hold for every opcode. -/
def Wb.badFields (w : Wb) (kind : UnitKind) : Bool :=
  w.flagBits.testBit 5 || w.field 4 1 ≥ 128 || w.field 5 1 != 0 || w.field 26 2 != 0
    || (List.range 4).any (fun k => w.field (43 + 4 * k) 1 != 0)
    || decide (4 < w.nwait) || decide (2 < w.nprod) || decide (2 < w.ncred)
    || (List.range 4).any (fun k => w.nwait ≤ k && w.wait k != 0)
    || (List.range 2).any (fun k => w.nprod ≤ k && w.prod k != 0)
    || (List.range 2).any (fun k => w.ncred ≤ k && w.field (28 + 4 * k) 4 != 0)
    || w.accset == 3
    || (kind != .tile && (w.keep || w.cont || w.preload || w.accset != 0))

/-- A waybill that waits on a token it produces (04 R106). -/
def Wb.selfWait (w : Wb) : Bool := w.prods.any w.waits.contains

/-- A tensor descriptor (04 R108). -/
structure Desc where
  base : Nat := 0
  fmt : Nat := 0
  blk : Nat := 0
  grad : Bool := false
  sr : Bool := false
  ovfInf : Bool := false
  sealchk : Bool := false
  rank : Nat := 1
  chaxis : Nat := 0
  stream : Nat := 0
  d0 : Nat := 1
  d1 : Nat := 1
  d2 : Nat := 1
  d3 : Nat := 1
  s1 : Nat := 0
  s2 : Nat := 0
  s3 : Nat := 0
  scale : Nat := 0
  /-- Bytes 44–47 and 56–63 as stored. -/
  w44 : Nat := 0
  w56 : Nat := 0
  /-- The zero fields outside those words are zero. -/
  zeros : Bool := true
  deriving DecidableEq, Repr

/-- A descriptor read from its 64 bytes (04 R108). -/
def Desc.parse (l : List Byte) : Desc :=
  let f := fieldAt l 8 2
  { base := fieldAt l 0 8 % 2 ^ 52, fmt := f % 16, blk := f / 16 % 4, grad := f.testBit 6, sr := f.testBit 7, ovfInf := f.testBit 8,
    sealchk := f.testBit 9, rank := f / 1024 % 4 + 1, chaxis := f / 4096 % 4, stream := fieldAt l 10 2,
    d0 := fieldAt l 16 4, d1 := fieldAt l 20 4, d2 := fieldAt l 24 4, d3 := fieldAt l 28 4,
    s1 := fieldAt l 32 4, s2 := fieldAt l 36 4, s3 := fieldAt l 40 4, scale := fieldAt l 48 8 % 2 ^ 52,
    w44 := fieldAt l 44 4, w56 := fieldAt l 56 8,
    zeros := fieldAt l 0 8 < 2 ^ 52 && fieldAt l 12 4 == 0 && f < 2 ^ 14 && fieldAt l 48 8 < 2 ^ 52 }

/-- The k-th descriptor of a waybill, where it names one. -/
def Wb.desc (w : Wb) (k : Nat) : Option Desc :=
  match w.descs[k]? with
  | some [] => none
  | some l => some (Desc.parse l)
  | none => none

/-- The descriptors a waybill names. -/
def Wb.namedDescs (w : Wb) : List Desc := (List.range 4).filterMap w.desc

/-- BASE[51:48]: 0xF local-store form (06 R162), 0xE intake form (08 R218), 0xD stage form (09 R247). -/
def Desc.form (d : Desc) : Nat := d.base / 2 ^ 48
def Desc.isLocal (d : Desc) : Bool := d.form == 15
def Desc.isIntake (d : Desc) : Bool := d.form == 14
def Desc.isStage (d : Desc) : Bool := d.form == 13
/-- The address bits below the form. -/
def Desc.addr (d : Desc) : Nat := d.base % 2 ^ 48
def Desc.format (d : Desc) : Fmt := Fmt.ofCode d.fmt
def Desc.ebytes (d : Desc) : Nat := d.format.bytes
def Desc.count (d : Desc) : Nat := d.d0 * d.d1 * d.d2 * d.d3
def Desc.dims (d : Desc) : List Nat := [d.d0, d.d1, d.d2, d.d3]
def Desc.dim (d : Desc) (k : Nat) : Nat := d.dims.getD k 1
/-- Elements of a scale block (02 R38). -/
def Desc.block (d : Desc) : Nat := 16 * 2 ^ d.blk
/-- Block-scaled under 02 R38, outside stage form. -/
def Desc.blocked (d : Desc) : Bool := d.format.isBlock && (d.scale != 0 || d.isStage)
/-- The rounding of a destination (02 R50). -/
def Desc.stochastic (d : Desc) : Bool := d.grad || d.sr
/-- The tensor is dense (08 R215). -/
def Desc.dense (d : Desc) : Bool :=
  let b := d.ebytes
  (d.rank < 2 || d.s1 == d.d0 * b) && (d.rank < 3 || d.s2 == d.d0 * d.d1 * b) && (d.rank < 4 || d.s3 == d.d0 * d.d1 * d.d2 * b)

/-- One past the last byte of the elements, from BASE. -/
def Desc.extent (d : Desc) : Nat := d.d0 * d.ebytes + (d.d1 - 1) * d.s1 + (d.d2 - 1) * d.s2 + (d.d3 - 1) * d.s3

/-- Offset of row (i1, i2, i3) from BASE. -/
def Desc.rowOff (d : Desc) (i1 i2 i3 : Nat) : Nat := i1 * d.s1 + i2 * d.s2 + i3 * d.s3

/-- Blocks of a row (02 R38). -/
def Desc.rowBlocks (d : Desc) : Nat := (d.d0 + d.block - 1) / d.block

/-- Bytes of the scale array or vector (02 R38, 07 R190). -/
def Desc.scaleBytes (d : Desc) : Nat :=
  if d.scale = 0 then 0
  else if d.format = .i8 then 8 * d.dim d.chaxis
  else if d.format.isBlock then d.rowBlocks * d.d1 * d.d2 * d.d3
  else 0

/-- The faults of 04 R109 that a descriptor has by itself, with those of 06 R162 for its form and 07 R190 for its scale vector.
`lend` gives the lend region of a filler waybill. -/
def Desc.bad (d : Desc) (kind : UnitKind) (lend : Option (Nat × Nat)) : Bool :=
  if d.isStage then false
  else
    !d.zeros || d.w44 != 0 || d.w56 != 0
      || d.d0 == 0 || d.d1 == 0 || d.d2 == 0 || d.d3 == 0
      || (d.rank ≤ 1 && d.d1 != 1) || (d.rank ≤ 2 && d.d2 != 1) || (d.rank ≤ 3 && d.d3 != 1)
      || decide (d.count ≥ 2 ^ 50) || decide (d.chaxis ≥ d.rank)
      || (d.isLocal && (kind != .tile || d.base / 2 ^ 22 % 2 ^ 26 != 0 || decide (d.base % 2 ^ 22 + d.extent > 2 ^ 22)
          || (match lend with
              | some (lo, hi) => decide (d.base % 2 ^ 22 < lo ∨ d.base % 2 ^ 22 + d.extent > hi)
              | none => false)))
      || (d.scale / 2 ^ 48 == 15 && (kind != .tile || d.scale / 2 ^ 22 % 2 ^ 26 != 0 || decide (d.scale % 2 ^ 22 + d.scaleBytes > 2 ^ 22)
          || (match lend with
              | some (lo, hi) => decide (d.scale % 2 ^ 22 < lo ∨ d.scale % 2 ^ 22 + d.scaleBytes > hi)
              | none => false)))
      || (d.format == .i8 && d.scale % 8 != 0)

/-- The format faults of 02 R28 that a descriptor has by itself. -/
def Desc.badFormat (d : Desc) : Bool :=
  d.fmt == 15
    || (d.blk != 0 && !(d.format.isBlock && (d.scale != 0 || d.isStage)))
    || (d.ovfInf && !(d.format == .g8 || d.format == .f16w))
    || ((d.grad || d.sr) && (d.fmt == 6 || 7 ≤ d.fmt))

/-- A reserved stream (02 R57). -/
def Desc.badStream (d : Desc) : Bool := d.stream ≥ 0xF000

/-- Row-major index of an element. -/
def Desc.index (d : Desc) (i0 i1 i2 i3 : Nat) : Nat := ((i3 * d.d2 + i2) * d.d1 + i1) * d.d0 + i0

/-- The coordinates of an element by its row-major index. -/
def Desc.coords (d : Desc) (i : Nat) : Nat × Nat × Nat × Nat :=
  (i % d.d0, i / d.d0 % d.d1, i / (d.d0 * d.d1) % d.d2, i / (d.d0 * d.d1 * d.d2))

/-- The channel of an element of an I8 tensor (07 R190). -/
def Desc.channel (d : Desc) (i0 i1 i2 i3 : Nat) : Nat := [i0, i1, i2, i3].getD d.chaxis 0

end Sys2Proof.Machine
end

