-- ==== Sys2Proof/Machine/Ops.lean ====
section
/-! DEFINITION. The named operations over memory: reads and writes by a unit, a host or the management controller (05 R134 to R155, 12 R350 to R354). -/

namespace Sys2Proof.Machine

/-- Who makes a memory request, and how it is to be read. -/
structure MemReq where
  /-- The class of the master (05 R139). -/
  who : Who
  /-- The unit that issues it (15 R452). -/
  src : Src
  /-- The master identity, for the seal log (12 R360). -/
  master : Nat := 0
  /-- The waybill it belongs to, as bytes 0 to 7 of the trap record, or 0. -/
  waybill : Nat := 0
  /-- The reading descriptor has SEALCHK set (12 R352). -/
  sealchk : Bool := false
  /-- The read is one that verified mode verifies (12 R352, R355). -/
  byUnit : Bool := true
  /-- The read is of optimiser state: in the far tier it can never be sealed (12 R354, 18 R514). -/
  state : Bool := false
  /-- The reader consumes what it reads, so that poison enters the verdict (12 R356). -/
  consumes : Bool := true
  /-- The request is a unit's for a waybill: blocks that the waybill writes whole are block writes (12 R351). -/
  inWaybill : Bool := false
  /-- It is for a waybill whose step is closed: its reports are late (12 R356). -/
  late : Bool := false
  /-- The privilege class of the work: 0 to 2 a core's mode, 3 OWNER, 4 FILLER, 6 NONE (17 R494). -/
  cls : Nat := 3
  deriving DecidableEq, Repr

/-- The partition of a request. -/
def MemReq.part (rq : MemReq) : Option Nat :=
  match rq.who with
  | .part p => some p
  | _ => none

/-- The master identity of partition p's tiles and controllers (01 R20, R22). -/
def hostMaster (p : Nat) : Nat := 1 + p

/-- The master identity of a unit that works for partition p (01 R20, R22). -/
def unitMaster (p : Nat) (src : Src) : Nat :=
  if src.die < 8 ∧ 68 ≤ src.unit ∧ src.unit < 72 then 0x80 + 4 * src.die + (src.unit - 68)
  else if 8 ≤ src.die ∧ src.die < 40 ∧ src.unit = 1 then 0x60 + (src.die - 8)
  else if 8 ≤ src.die ∧ src.die < 40 ∧ src.unit = 2 then 0xC0 + (src.die - 8)
  else if 40 ≤ src.die ∧ src.unit < 4 then 0xA0 + 4 * (src.die - 40) + src.unit
  else hostMaster p

/-- A request of a unit for partition p; `cls` is its privilege class (17 R494). -/
def unitReq (p : Nat) (src : Src) (waybill : Nat := 0) (sealchk : Bool := false) (cls : Nat := 3) : MemReq :=
  { who := .part p, src := src, master := unitMaster p src, waybill := waybill, sealchk := sealchk, cls := cls }

/-- An occurrence is noted for the counters (17 R493). -/
def Base.note (b : Base) (o : Occur) : Base := if o.adds = 0 then b else { b with occurs := o :: b.occurs }

/-- The class and identity under which a request's occurrences count (17 R494). An identity that no request carries matches no filter (01 R21, R23). -/
def MemReq.class (rq : MemReq) : Nat := if rq.who = .management ∧ rq.cls ≠ 6 then 5 else rq.cls
def MemReq.identity (rq : MemReq) : Option Nat := if rq.class = 6 || !liveMaster rq.master then none else some rq.master

/-- An occurrence of a request's work at a unit of a die, at an address. -/
def Base.noteReq (b : Base) (rq : MemReq) (die unit event adds a : Nat) : Base :=
  b.note { die := die, unit := unit, event := event, adds := adds, cls := rq.class, identity := rq.identity, part := rq.part, addr := some a,
           waybill := rq.waybill }

/-- An occurrence of a request's work at its own unit, without an address. -/
def Base.noteWork (b : Base) (rq : MemReq) (event adds : Nat) : Base :=
  b.note { die := rq.src.die, unit := rq.src.unit, event := event, adds := adds, cls := rq.class, identity := rq.identity, part := rq.part,
           addr := none, waybill := rq.waybill }

/-- Bytes read or written by a tile: events 0x0A and 0x0B (17 R493). -/
def Base.noteTile (b : Base) (rq : MemReq) (event n a : Nat) : Base :=
  if rq.src.die < 8 ∧ rq.src.unit < 68 then b.noteReq rq rq.src.die rq.src.unit event n a else b

/-- A step of partition p runs in verified mode (12 R355). -/
def Base.verifiedMode (b : Base) (p : Nat) : Bool := !b.unverified.contains p

/-- The request is served at address a (05 R139, R155). -/
def Base.served (b : Base) (rq : MemReq) (a : Nat) : Bool :=
  match b.place a with
  | .stack _ _ => (match rq.who with
    | .management => true
    | .part p => b.ownerOf a == some p
    | .nobody => false)
  | .far _ _ => (match b.ownerOf a, rq.who with
    | some _, .management => true
    | some q, .part p => q == p
    | _, _ => false)
  | _ => false

/-- A stack is fenced (05 R154). -/
def Base.stackFenced (b : Base) (n : Nat) : Bool := b.rf 9 2 .DOCK_MS_ID (ms n) == 2

/-- The link that carries partition p's far tier (05 R155). -/
def Base.farLink (b : Base) (p : Nat) : Nat := b.rf 4 3 .DOCK_PT_PART 40 0 p

/-- The host address of offset x of partition p's slice (05 R155). -/
def Base.hostAddr (b : Base) (p x : Nat) : Nat := (b.rf 12 52 .DOCK_FARBASE 40 0 p) * 4096 + x

/-- The request is refused: MEM.UNMAPPED by the requesting unit, or MEM.UNBOUND by the die that holds the target (05 R134, R139). -/
def Base.refuseMem (b : Base) (rq : MemReq) (a : Nat) : Base :=
  match b.place a with
  | .stack st _ => b.raise 0x0402 (logic (ms st)) rq.part rq.waybill
  | .far p _ => b.raise 0x0402 (if b.partValid p then ⟨io (b.farLink p / 2), 7⟩ else io0) rq.part rq.waybill
  | .control => b
  | .unmapped => b.raise 0x0401 rq.src rq.part rq.waybill

/-- Poison that a unit consumes enters its partition's verdict (12 R356). -/
def Base.consumePoison (b : Base) (rq : MemReq) : Base :=
  if rq.consumes then b.reportAs rq.late rq.part fun v => { v with poison := v.poison + 1 } else b

/-- Something unsealed was read for a step of its partition that runs in verified mode (12 R354). -/
def Base.markUnsealed (b : Base) (rq : MemReq) : Base :=
  match rq.part with
  | some p => if b.verifiedMode p then b.reportAs rq.late (some p) fun v => { v with unsealed := true } else b
  | none => b

/-- The seal check of one verified read of a block (12 R352 to R354); true where the block's seal does not match. -/
def Base.sealCheck (b : Base) (rq : MemReq) (st off a : Nat) : Base × Bool :=
  let verify := rq.sealchk || (rq.byUnit && (match rq.part with | some p => b.verifiedMode p | none => false))
  if verify then
    let holder := b.partOfStack st
    let b := b.noteReq rq (ms st) 0 0x56 1 a
    let b := (b.countSat 1 0 48 .CHK_SEAL_CNT_VER (ms st)).reportAs (rq.late && holder == rq.part) holder fun v => { v with sealVer := v.sealVer + 1 }
    match Map.find (st * 2 ^ 25 + off / 4096) b.seals with
    | none =>
      let b := b.countSat 1 0 48 .CHK_SEAL_CNT_UNSEALED (ms st)
      let b := b.sealEvent st 1 0x0B03
      let b := b.reportAs rq.late rq.part fun v => { v with unsealedReads := v.unsealedReads + 1 }
      (b.markUnsealed rq, false)
    | some d =>
      if d = 0 then (b, false)
      else
        let b := b.countSat 1 0 48 .CHK_SEAL_CNT_FAIL (ms st)
        let b := b.wr (BitVec.ofNat 64 (off / 4096 % 2 ^ 25 + rq.master * 2 ^ 32 + 2 ^ 63)) .CHK_SEAL_LAST (ms st)
        let b := b.sealEvent st 0 0x0B02
        (b.reportAs (rq.late && holder == rq.part) holder fun v => { v with sealFail := v.sealFail + 1, sealBad := true }, true)
  else (b, false)

/-- n poisoned bytes: what a refused or failed read returns. -/
def poisonBytes (n : Nat) : List (Byte × Bool) := List.replicate n (0, true)

/-- The bytes of host memory that a far-tier read returns: those that the device moved and the host has not rewritten since, and for the others what
the host platform holds; all poisoned where its completion fails, which the host platform decides (05 R155, R157). -/
def Base.farBytes (b : Base) (h n : Nat) : Base × List (Byte × Bool) :=
  let free := b.free
  ({ b with free := free + n + 1 },
    (List.range n).map fun i =>
      ((match Map.find (h + i) b.far with
        | some v => if Config.hostRewrote (free + i) then Config.farByte (free + i) else v
        | none => Config.farByte (free + i)), Config.farFails (free + n)))

/-- A SEALCHK read of far-tier memory counts as unsealed; a read of optimiser state there leaves a verified step UNVERIFIED at best (12 R354). -/
def Base.farUnsealed (b : Base) (rq : MemReq) (p L : Nat) : Base :=
  if rq.sealchk then
    let b := b.countSat 1 0 48 .CHK_FAR_UNSEALED (io (L / 2))
    let b := b.chkEvent (io (L / 2)) 4 0x0B03 (checkUnits (io (L / 2))) (some p)
    let b := b.reportAs rq.late rq.part fun v => { v with unsealedReads := v.unsealedReads + 1 }
    b.markUnsealed rq
  else if rq.state then b.markUnsealed rq
  else b

/-- A far-tier read failed (05 R155). -/
def Base.farError (b : Base) (rq : MemReq) (p L : Nat) : Base := b.raise 0x0409 ⟨io (L / 2), 5⟩ (some p) rq.waybill

/-- Bytes read from a stack for a waybill, with what it has itself written of them and not sent on yet (12 R351). -/
def Base.ownWrites (b : Base) (rq : MemReq) (st off : Nat) (l : List (Byte × Bool)) : List (Byte × Bool) :=
  match (if rq.inWaybill then b.covers else []).find? fun c => c.waybill == rq.waybill && c.block == st * 2 ^ 25 + off / 4096 with
  | none => l
  | some c => c.parts.foldl (fun l p => l.zipIdx.map fun x =>
      let o := off % 4096 + x.2
      if p.1 ≤ o ∧ o < p.1 + p.2.length then p.2.getD (o - p.1) x.1 else x.1) l

/-- One request: a read inside one 256-byte piece. `bad` says that its block failed its seal check. -/
def Base.pieceRead (b : Base) (rq : MemReq) (a n : Nat) (bad : Bool) : Base × List (Byte × Bool) :=
  if b.served rq a then
    match b.place a with
    | .stack st off =>
      if b.routeBroken rq.src.die (ms st) then
        ((b.reportAs rq.late rq.part fun v => { v with lost := true }).consumePoison rq, poisonBytes n)
      else if b.stackFenced st then (b.consumePoison rq, poisonBytes n)
      else
        let b := (b.noteReq rq (ms st) 0 0x50 n a).noteTile rq 0x0A n a
        let l := b.ownWrites rq st off
          (if bad || b.poisoned st off then poisonBytes n else (Memory.run b.mem (memKey st off) n).map fun x => (x, false))
        (if l.any (·.2) then b.consumePoison rq else b, l)
    | .far p x =>
      let L := b.farLink p
      if b.routeBroken rq.src.die (io (L / 2)) then
        ((b.reportAs rq.late rq.part fun v => { v with lost := true }).consumePoison rq, poisonBytes n)
      else
        let b := b.farUnsealed rq p L
        let (b, l) := b.farBytes (b.hostAddr p x) n
        let b := (b.noteReq rq (io (L / 2)) 5 0x72 1 a).noteTile rq 0x0A n a
        if l.any (·.2) then ((b.farError rq p L).consumePoison rq, l) else (b, l)
    | _ => (b, poisonBytes n)
  else ((b.refuseMem rq a).consumePoison rq, poisonBytes n)

/-- The pieces of a read that lie in one 4 KiB block, in address order. -/
def Base.piecesRead (rq : MemReq) (bad : Bool) : Nat → Base → Nat → Nat → Base × List (Byte × Bool)
  | 0, b, _, _ => (b, [])
  | k + 1, b, a, n =>
    if n = 0 then (b, [])
    else
      let m := min n (256 - a % 256)
      let (b, l) := b.pieceRead rq a m bad
      let (b, r) := Base.piecesRead rq bad k b (a + m) (n - m)
      (b, l ++ r)

/-- A read of n bytes from address a, block by block: each block verified once where R352 asks, each piece poisoned on its own. -/
def Base.blocksRead (rq : MemReq) : Nat → Base → Nat → Nat → Base × List (Byte × Bool)
  | 0, b, _, _ => (b, [])
  | k + 1, b, a, n =>
    if n = 0 then (b, [])
    else
      let m := min n (4096 - a % 4096)
      let (b, bad) := (match b.place a with
        | .stack st off => if b.served rq a && !b.routeBroken rq.src.die (ms st) && !b.stackFenced st
            then b.sealCheck rq st off a else (b, false)
        | _ => (b, false))
      let (b, l) := Base.piecesRead rq bad 17 b a m
      let (b, r) := Base.blocksRead rq k b (a + m) (n - m)
      (b, l ++ r)

/-- A read of n bytes from a device physical address, each byte with its poison (05 R134, R150). -/
def Base.read (b : Base) (rq : MemReq) (a n : Nat) : Base × List (Byte × Bool) := Base.blocksRead rq (n / 4096 + 2) b a n

/-- The bytes of a read, and whether any of them was poisoned. -/
def Base.readBytes (b : Base) (rq : MemReq) (a n : Nat) : Base × List Byte × Bool :=
  let (b, l) := b.read rq a n
  (b, l.map (·.1), l.any (·.2))

/-- Bytes stored into host memory by a posted write, with EP where they carry poison: what a poisoned write leaves is the host's (05 R155). -/
def Base.farWrite (b : Base) (h : Nat) (l : List (Byte × Bool)) : Base :=
  { b with
    far := (l.zipIdx h).foldl (fun (m : List Host.Cell) (c : (Byte × Bool) × Nat) => if c.1.2 then Map.del c.2 m else Map.put c.2 c.1.1 m) b.far }

/-- One request: a write inside one 256-byte piece (05 R134, R139, R141, R154). -/
def Base.pieceStore (b : Base) (rq : MemReq) (a : Nat) (l : List (Byte × Bool)) : Base :=
  if b.served rq a then
    match b.place a with
    | .stack st off =>
      if b.routeBroken rq.src.die (ms st) then b.reportAs rq.late rq.part fun v => { v with lost := true }
      else if b.stackFenced st then b
      else
        let b := (b.noteReq rq (ms st) 0 0x51 l.length a).noteTile rq 0x0B l.length a
        b.pieceWrite st off (l.map (·.1)) (l.any (·.2))
    | .far p x =>
      if b.routeBroken rq.src.die (io (b.farLink p / 2)) then b.reportAs rq.late rq.part fun v => { v with lost := true }
      else
        let b := (b.noteReq rq (io (b.farLink p / 2)) 5 0x71 l.length a).noteTile rq 0x0B l.length a
        b.farWrite (b.hostAddr p x) l
    | _ => b
  else b.refuseMem rq a

/-- A block write: 16 requests applied as one, with a seal computed from the bytes written (12 R351). -/
def Base.blockStore (b : Base) (st off : Nat) (l : List (Byte × Bool)) : Base :=
  let blk := st * 2 ^ 25 + off / 4096
  let pieces := (List.range 16).map fun i => (pieceKey st (off + 256 * i), ((l.drop (256 * i)).take 256).any (·.2))
  let poison := pieces.foldl (fun (s : List Nat) (c : Nat × Bool) => if c.2 then NSet.add c.1 s else NSet.remove c.1 s) b.poison
  let b := { b with
    mem := Memory.put b.mem (memKey st off) (l.map Prod.fst), poison := poison,
    seals := if pieces.any (fun c => c.2) then Map.del blk b.seals else Map.put blk 0 b.seals }
  b.addGen st off 16

/-- What is left of a block's ranges when bytes lo to hi − 1 are written. -/
def cutRange (lo hi : Nat) (l : List (Nat × Nat)) : List (Nat × Nat) :=
  (l.flatMap fun r => [(r.1, min r.2 lo), (max r.1 hi, r.2)]).filter fun r => decide (r.1 < r.2)

/-- The request of the writes that a cover keeps. -/
def Cover.req (c : Cover) : MemReq := { who := .part c.part, src := c.src, master := c.master, waybill := c.waybill, cls := c.cls }

/-- The place of a cover's block: stack, and offset in it. -/
def Cover.stack (c : Cover) : Nat := c.block / 2 ^ 25
def Cover.off (c : Cover) : Nat := c.block % 2 ^ 25 * 4096

/-- Bytes put over others from an offset on. -/
def overlay (l : List (Byte × Bool)) (part : Nat × List (Byte × Bool)) : List (Byte × Bool) :=
  l.take part.1 ++ part.2 ++ l.drop (part.1 + part.2.length)

/-- A block write arrives whole (12 R351): its 16 requests counted, and applied as one. -/
def Base.blockArrives (b : Base) (rq : MemReq) (st off a : Nat) (l : List (Byte × Bool)) : Base :=
  let b := (List.range 16).foldl (fun (b : Base) i =>
    (b.noteReq rq (ms st) 0 0x51 256 (a + 256 * i)).noteTile rq 0x0B 256 (a + 256 * i)) b
  b.blockStore st off l

/-- The writes of a block that its waybill has not written whole, applied one at a time, each a write of the piece it covers (12 R351). -/
def Base.coverFlush (b : Base) (c : Cover) : Base :=
  if b.stackFenced c.stack then b
  else c.parts.foldl (fun (b : Base) p =>
    let b := (b.noteReq c.req (ms c.stack) 0 0x51 p.2.length (c.addr + p.1)).noteTile c.req 0x0B p.2.length (c.addr + p.1)
    b.pieceWrite c.stack (c.off + p.1) (p.2.map (·.1)) (p.2.any (·.2))) b

/-- A write by a waybill joins those of its block that wait; the block that it completes is applied as one block write (12 R351). -/
def Base.coverWrite (b : Base) (rq : MemReq) (p st off a : Nat) (l : List (Byte × Bool)) : Base :=
  let block := st * 2 ^ 25 + off / 4096
  let mine := fun (c : Cover) => c.waybill == rq.waybill && c.block == block
  let c := (b.covers.find? mine).getD
    { waybill := rq.waybill, block := block, part := p, src := rq.src, master := rq.master, cls := rq.cls, addr := a / 4096 * 4096 }
  let c := { c with left := cutRange (off % 4096) (off % 4096 + l.length) c.left, parts := c.parts ++ [(off % 4096, l)] }
  let rest := { b with covers := b.covers.filter fun c => !mine c }
  if c.left.isEmpty then rest.blockArrives rq st c.off c.addr (c.parts.foldl overlay (List.replicate 4096 (0, false)))
  else { rest with covers := rest.covers ++ [c] }

/-- A block that a waybill writes whole in one transfer: what it had begun of it before is superseded (12 R351). -/
def Base.coverWhole (b : Base) (rq : MemReq) (st off a : Nat) (l : List (Byte × Bool)) : Base :=
  let block := st * 2 ^ 25 + off / 4096
  let b := if rq.inWaybill ∧ b.covers ≠ [] then { b with covers := b.covers.filter fun c => !(c.waybill == rq.waybill && c.block == block) } else b
  b.blockArrives rq st off a l

/-- A write inside one piece by a unit that sends whole blocks as block writes (12 R351). -/
def Base.unitStore (b : Base) (rq : MemReq) (a : Nat) (l : List (Byte × Bool)) : Base :=
  match b.place a, rq.part with
  | .stack st off, some p =>
    if b.served rq a && !b.routeBroken rq.src.die (ms st) && !b.stackFenced st then b.coverWrite rq p st off a l else b.pieceStore rq a l
  | _, _ => b.pieceStore rq a l

/-- A waybill's writes so far are visible: it ends, or hands on what it has written. What it has begun of a block is written in part (12 R351). -/
def Base.uncover (b : Base) (waybill : Nat) : Base :=
  if b.covers = [] then b
  else
    let l := b.covers.filter fun c => c.waybill == waybill
    l.foldl Base.coverFlush { b with covers := b.covers.filter fun c => c.waybill != waybill }

/-- Every write that waits of the waybills of partition p is applied: its reset ends them (12 R351, 16 R484). -/
def Base.uncoverPart (b : Base) (p : Nat) : Base :=
  ((b.covers.filter fun c => c.part == p).map (·.waybill)).eraseDups.foldl Base.uncover b

/-- A write of bytes from address a on: whole aligned blocks as block writes where the writer sends them so, the rest piece by piece. -/
def Base.storeGo (rq : MemReq) (blocks : Bool) : Nat → Base → Nat → List (Byte × Bool) → Base
  | 0, b, _, _ => b
  | k + 1, b, a, l =>
    match l with
    | [] => b
    | _ :: _ =>
      if blocks ∧ a % 4096 = 0 ∧ 4096 ≤ l.length ∧ b.served rq a = true then
        match b.place a with
        | .stack st off =>
          let b := if b.routeBroken rq.src.die (ms st) then b.reportAs rq.late rq.part fun v => { v with lost := true }
            else if b.stackFenced st then b
            else
              b.coverWhole rq st off a (l.take 4096)
          Base.storeGo rq blocks k b (a + 4096) (l.drop 4096)
        | _ =>
          let m := 256 - a % 256
          Base.storeGo rq blocks k (b.pieceStore rq a (l.take m)) (a + m) (l.drop m)
      else
        let m := 256 - a % 256
        let b := if blocks && rq.inWaybill then b.unitStore rq a (l.take m) else b.pieceStore rq a (l.take m)
        Base.storeGo rq blocks k b (a + m) (l.drop m)

/-- A write of bytes with their poison by a unit; `blocks` is false for vector threads and the PCIe ports (12 R351). -/
def Base.store (b : Base) (rq : MemReq) (a : Nat) (l : List (Byte × Bool)) (blocks : Bool := true) : Base :=
  Base.storeGo rq blocks (l.length / 256 + 2) b a l

/-- A write of good bytes. -/
def Base.storeBytes (b : Base) (rq : MemReq) (a : Nat) (l : List Byte) (blocks : Bool := true) : Base :=
  b.store rq a (l.map fun x => (x, false)) blocks

/-- A little-endian number read from memory; none where poisoned. -/
def Base.readNum (b : Base) (rq : MemReq) (a n : Nat) : Base × Option Nat :=
  let (b, l, bad) := b.readBytes rq a n
  (b, if bad then none else some (ofLe l))

end Sys2Proof.Machine
end

