-- ==== Sys2Proof/Machine/Tensors.lean ====
section
/-! DEFINITION. Tensors as a unit reads and writes them: local store and memory, prefetched blocks (05 R143 to R146), poison (05 R150), exact
values (02 R44), scales (02 R37, R38, 07 R190, R198), and conversion of an output (02 R43 to R53, R60). -/

namespace Sys2Proof.Machine

/-- Who reads or writes: the unit, its physical place, and the waybill it works for. -/
structure Cx where
  unit : Nat
  src : Src
  part : Nat
  queue : Nat
  seq : Nat
  /-- Its operand reads go through the tile's prefetch buffer. -/
  pf : Bool := false
  /-- The waybill is a filler's. -/
  filler : Bool := false
  /-- The reads are of optimiser state (12 R354). -/
  state : Bool := false
  /-- Its writes are a waybill's of this device: the blocks that it writes whole are block writes (12 R351). -/
  whole : Bool := true
  /-- The step in which the waybill started is closed: what it reports is late (12 R356). -/
  late : Bool := false
  deriving DecidableEq, Repr

/-- The context of a waybill of a unit. -/
def Base.cx (b : Base) (id : Nat) (w : Wb) (pf : Bool := false) : Cx := ⟨id, b.unitSrc id, w.part, w.queue, w.seq, pf, w.filler, false, true, w.step != b.stepOf w.part⟩

def Cx.number (c : Cx) : Nat := waybillNumber c.queue c.seq

/-- The memory request of a context. -/
def Cx.req (c : Cx) (sealchk : Bool := false) : MemReq :=
  { unitReq c.part c.src c.number sealchk (if c.filler then 4 else 3) with inWaybill := c.whole, state := c.state, late := c.late }

/-- The memory request of a context for what belongs to no output of the waybill: its record, and what others read while it runs. -/
def Cx.ownReq (c : Cx) : MemReq := { c.req with inWaybill := false }

/-- A tile by its die and number: the low ten bits of TILE_ID (03 R96). -/
def tileCode (n m : Nat) : Nat := n % 8 + 8 * m

/-- The tile of a context. -/
def Cx.tile (c : Cx) : Nat := tileCode c.src.die c.src.unit

/-- n bytes of a tile's local store (03 R66). -/
def Tiles.localRead (t : Tiles) (tile off n : Nat) : List Byte := Memory.run t.store (tile * 2 ^ 22 + off) n

def Tiles.localWrite (t : Tiles) (tile off : Nat) (l : List Byte) : Tiles :=
  { t with store := Memory.put t.store (tile * 2 ^ 22 + off) l }

/-- The prefetch entries of a position. -/
def Tiles.pf (t : Tiles) (id : Nat) : List PfEntry := (Map.find id t.prefetch).getD []

def Tiles.setPf (t : Tiles) (id : Nat) (l : List PfEntry) : Tiles :=
  { t with prefetch := if l.isEmpty then Map.del id t.prefetch else Map.put id l t.prefetch }

/-- A prefetch count of a tile (05 R160). -/
def Base.pfCount (b : Base) (s : Src) (r : Reg) (x : Nat := 1) : Base := b.countSat x 0 48 r s.die s.unit

/-- The event of a prefetch count (17 R493). -/
def pfEvent (r : Reg) : Nat :=
  match r with
  | .TILE_PF_FETCH => 0x0C
  | .TILE_PF_USED => 0x0D
  | .TILE_PF_LATE => 0x0E
  | .TILE_PF_STALE => 0x0F
  | .TILE_PF_UNUSED => 0x10
  | _ => 0x11

/-- A prefetch count for the block at an address. -/
def Base.pfSeen (b : Base) (c : Cx) (r : Reg) (a : Nat) : Base := (b.pfCount c.src r).noteReq c.req c.src.die c.src.unit (pfEvent r) 1 a

/-- The 256-byte pieces of n bytes from address a that hold poison. -/
def poisonPieces (a : Nat) (l : List (Byte × Bool)) : Nat := ((l.zipIdx.filter (·.1.2)).map fun c => (a + c.2) / 256).eraseDups.length

/-- A prefetch entry is read for the first time: USED, and LATE where it arrived after its waybill asked for it, which only the timing of the
device decides: a free value (05 R146). -/
def Base.entryUsed (b : Base) (c : Cx) (blk : Nat) : Base :=
  let b := b.pfSeen c .TILE_PF_USED blk
  let (k, b) := b.fresh
  if Config.prefetchLate k then b.pfSeen c .TILE_PF_LATE blk else b

/-- A read inside one 4 KiB block by a tile: from its prefetch entry, once the entry's check has passed, or from memory. Each block counts once
for a waybill, as USED or as MISS (05 R146); poison that a prefetch brought is consumed when it is read (12 R356). -/
def Work.blockRead (w : Work) (c : Cx) (sealchk : Bool) (a n : Nat) : Work × List (Byte × Bool) :=
  let blk := a / 4096 * 4096
  let l := w.tiles.pf c.unit
  let mine := fun (e : PfEntry) => e.addr == blk && e.queue == c.queue && e.seq == c.seq
  match l.find? (fun e => mine e && decide (2 ≤ e.check ∧ e.check ≤ 3)) with
  | some e =>
    let out := (e.data.drop (a - blk)).take n
    let b := (List.range (poisonPieces a out)).foldl (fun (b : Base) _ => b.consumePoison c.req) w.base
    if e.check = 2 then
      ({ w with base := b.entryUsed c blk,
                tiles := w.tiles.setPf c.unit (l.map fun x => if mine x && x.check == 2 then { x with check := 3 } else x) }, out)
    else ({ w with base := b }, out)
  | none =>
    let w := if l.any (fun e => mine e && e.check == 4) then w else
      { w with
        base := w.base.pfSeen c .TILE_PF_MISS blk
        tiles := w.tiles.setPf c.unit (l ++ [⟨blk, c.queue, c.seq, w.base.time, 0, false, 4, []⟩]) }
    let (b, l) := w.base.read (c.req sealchk) a n
    ({ w with base := b }, l)

def Work.blocksRead (c : Cx) (sealchk : Bool) : Nat → Work → Nat → Nat → Work × List (Byte × Bool)
  | 0, w, _, _ => (w, [])
  | k + 1, w, a, n =>
    if n = 0 then (w, [])
    else
      let m := min n (4096 - a % 4096)
      let (w, l) := w.blockRead c sealchk a m
      let (w, r) := Work.blocksRead c sealchk k w (a + m) (n - m)
      (w, l ++ r)

/-- A memory read of a context. -/
def Work.memRead (w : Work) (c : Cx) (sealchk : Bool) (a n : Nat) : Work × List (Byte × Bool) :=
  if c.pf then Work.blocksRead c sealchk (n / 4096 + 2) w a n
  else
    let (b, l) := w.base.read (c.req sealchk) a n
    ({ w with base := b }, l)

/-- A read at a 52-bit address field: local store in local-store form, memory otherwise (06 R162). -/
def Work.fieldRead (w : Work) (c : Cx) (sealchk : Bool) (a n : Nat) : Work × List (Byte × Bool) :=
  if a / 2 ^ 48 = 15 then (w, (w.tiles.localRead c.tile (a % 2 ^ 22) n).map fun x => (x, false))
  else w.memRead c sealchk a n

/-- A write at such an address. -/
def Work.fieldWrite (w : Work) (c : Cx) (a : Nat) (l : List Byte) : Work :=
  if a / 2 ^ 48 = 15 then { w with tiles := w.tiles.localWrite c.tile (a % 2 ^ 22) l }
  else { w with base := w.base.storeBytes (c.req) a l }

/-- Bytes cut into elements of k bytes, each with its poison (05 R150). -/
def elements (k : Nat) : Nat → List (Byte × Bool) → List (Nat × Bool)
  | 0, _ => []
  | n + 1, l => (ofLe ((l.take k).map (·.1)), (l.take k).any (·.2)) :: elements k n (l.drop k)

/-- n binary32 codes from an address; poisoned ones are NaN (05 R150). -/
def Base.readF32 (b : Base) (rq : MemReq) (a n : Nat) : Base × List Nat :=
  let (b, l) := b.read rq a (4 * n)
  (b, (elements 4 n l).map fun x => if x.2 then 0x7FC00000 else x.1)

/-- What a poisoned element becomes (05 R150). -/
def Fmt.poison : Fmt → Nat
  | .q _ => 0
  | .l8 => 0
  | f => f.nanCode

def Fmt.poisonValue : Fmt → Num
  | .q _ | .l8 => .zero
  | _ => .nan

/-- The codes of n elements of row (i1, i2, i3) from element lo. -/
def Work.rowCodes (w : Work) (c : Cx) (d : Desc) (i1 i2 i3 lo n : Nat) : Work × List (Nat × Bool) :=
  let k := d.ebytes
  let (w, l) := w.fieldRead c d.sealchk (d.base + d.rowOff i1 i2 i3 + lo * k) (n * k)
  (w, (elements k n l).map fun x => if x.2 then (d.format.poison, true) else x)

/-- The E8 bytes of the blocks of a row from block lo (02 R38); poisoned ones read 0xFF. -/
def Work.rowScales (w : Work) (c : Cx) (d : Desc) (i1 i2 i3 lo n : Nat) : Work × List Nat :=
  let (w, l) := w.fieldRead c d.sealchk (d.scale + ((i3 * d.d2 + i2) * d.d1 + i1) * d.rowBlocks + lo) n
  (w, l.map fun x => if x.2 then 255 else x.1.toNat)

/-- A binary32 code that NUM.SCALENF rejects (02 R65). -/
def badScale (code : Nat) : Bool := let e := code / 2 ^ 23 % 256; e == 0 || e == 255

/-- The scale pair of channel k (02 R29, 07 R190): none where NUM.SCALENF applies. -/
def Work.scalePair (w : Work) (c : Cx) (d : Desc) (k : Nat) : Work × Option (Nat × Nat) :=
  if d.scale = 0 then (w, some (f32one, f32one))
  else
    let (w, l) := w.fieldRead c d.sealchk (d.scale + 8 * k) 8
    match elements 4 2 l with
    | [s, r] => (w, if s.2 || r.2 || badScale s.1 || badScale r.1 then none else some (s.1, r.1))
    | _ => (w, none)

/-- The pairs of n channels from channel lo. -/
def Work.scalePairs (c : Cx) (d : Desc) : Nat → Work → Nat → Work × List (Option (Nat × Nat))
  | 0, w, _ => (w, [])
  | n + 1, w, lo =>
    let (w, p) := w.scalePair c d lo
    let (w, r) := Work.scalePairs c d n w (lo + 1)
    (w, p :: r)

/-- Values of n elements of a row from element lo, without the channel scale of I8 (02 R44): block scales applied, a poisoned element NaN, or 0 where its
format has none (05 R150). -/
def Work.rowValues (w : Work) (c : Cx) (d : Desc) (i1 i2 i3 lo n : Nat) : Work × List Num :=
  let (w, l) := w.rowCodes c d i1 i2 i3 lo n
  if d.blocked then
    let b0 := lo / d.block
    let (w, es) := w.rowScales c d i1 i2 i3 b0 ((lo + n + d.block - 1) / d.block - b0)
    (w, l.zipIdx.map fun x =>
      let E := es.getD ((lo + x.2) / d.block - b0) 255
      if E = 0 then .zero else if x.1.2 then .nan else decodeBlock d.format E x.1.1)
  else (w, l.map fun x => if x.2 then d.format.poisonValue else decodeCode d.format x.1)

/-- The event raised once for a waybill, which also fills EVENT if it is the first (02 R60, 04 R119). -/
def Base.once (b : Base) (id : Nat) (q : Wb) (code : Nat) : Base × Wb :=
  if q.raised.contains code then (b, q)
  else (b.unitEvent id q.part q.number code, { q with raised := code :: q.raised, event := if q.event = 0 then code else q.event })

/-- An event of a waybill, raised at each occurrence. -/
def Base.each (b : Base) (id : Nat) (q : Wb) (code : Nat) : Base × Wb :=
  (b.unitEvent id q.part q.number code, { q with event := if q.event = 0 then code else q.event })

/-- The step number of partition p (13 R377), and the job seed in force (02 R56, R64). -/
def Base.seedOf (b : Base) (p : Nat) : Nat := b.now 0x7003 p

/-- The E8 of a block from the exact values of its elements (07 R198). -/
def chooseE8 (f : Fmt) (vals : List Num) : Nat :=
  if vals.any Num.isNan then 255
  else
    let top := vals.foldl (fun (m : Num) v => if v.isFinite && m.lt v.abs then v.abs else m) Num.zero
    match top with
    | .fin _ m e =>
      if m = 0 then 0
      else
        let L := ilog2 m e
        let k := L - (if f = .g8 then 15 else 8) + (if 4 * m ≤ 7 * 2 ^ Nat.log2 m then 0 else 1)
        (max 1 (min 254 (127 + k))).toNat
    | _ => 0

/-- One converted element: its code, its counts, whether it is non-finite, and what a trap would record (02 R46 to R48, R60, R62). -/
structure OutElem where
  code : Nat
  ovf : Bool := false
  van : Bool := false
  nonfin : Bool := false
  kind : Nat := 0
  nz : Bool := true
  fixnan : Bool := false
  deriving DecidableEq, Repr

/-- Conversion of one exact value (02 R43 to R52). `E` is the block's scale; `rc` the channel's r_c, `some none` where NUM.SCALENF applies. -/
def outElem (f : Fmt) (ovfInf : Bool) (r : Rnd) (E : Option Nat) (rc : Option (Option Nat)) (v : Num) : OutElem :=
  if rc = some none then { code := f.nanCode, nonfin := true, kind := 2 }
  else if E = some 255 then { code := f.nanCode, nonfin := true, kind := 3 }
  else
    let m := match E, rc with
      | some E, _ => v.scale (127 - (E : Int))
      | none, some (some r) => v.mul (f32v r)
      | _, _ => v
    let c := convert f ovfInf r m
    let d := decodeCode f c.code
    { code := c.code, ovf := c.ovf, van := c.van, nonfin := !d.isFinite,
      kind := if d.isNan then (if f = .i8 ∨ f = .int32 then 2 else 1) else 0,
      nz := !d.isZero, fixnan := c.fixnan }

/-- The rounding of the element with index i (02 R50, R54). -/
def Desc.rnd (d : Desc) (K s i : Nat) : Rnd := if d.stochastic then .sr (draw16 K s d.stream i) else .rne

/-- Conversion of part of a destination row, from element lo, blocks whole (02 R43, R50, 07 R198). `rcs` gives r_c by position in the row part. -/
def convertRow (d : Desc) (K s index lo : Nat) (rcs : Option (List (Option Nat))) (vals : List Num) : List OutElem × List Nat :=
  let es := if d.blocked then
      (List.range ((lo + vals.length + d.block - 1) / d.block - lo / d.block)).map fun k =>
        let first := if k = 0 then 0 else (lo / d.block + k) * d.block - lo
        chooseE8 d.format ((vals.drop first).take ((lo / d.block + k + 1) * d.block - lo - first))
    else []
  (vals.zipIdx.map fun x =>
    outElem d.format d.ovfInf (d.rnd K s (index + x.2))
      (if d.blocked then es[(lo + x.2) / d.block - lo / d.block]? else none)
      (rcs.map fun l => l.getD x.2 none) x.1, es)

/-- Part of a destination row written, with the scales of its blocks. -/
def Work.rowWrite (w : Work) (c : Cx) (d : Desc) (i1 i2 i3 lo : Nat) (codes : List Nat) (es : List Nat) : Work :=
  let w := w.fieldWrite c (d.base + d.rowOff i1 i2 i3 + lo * d.ebytes) (codes.flatMap fun x => leBytes d.ebytes x)
  if es.isEmpty then w
  else w.fieldWrite c (d.scale + ((i3 * d.d2 + i2) * d.d1 + i1) * d.rowBlocks + lo / d.block) (es.map fun e => BitVec.ofNat 8 e)

/-- Formats counted by the watch (07 R199). -/
def Fmt.watched : Fmt → Bool
  | .i8 | .f8f | .g8 | .f16w | .b16 => true
  | _ => false

/-- Counts of converted elements added to a waybill's report for a slot and format (07 R199). -/
def Wb.addCounts (q : Wb) (c : Counts) : Wb :=
  let rec go : List Counts → List Counts
    | [] => [c]
    | x :: r => if x.slot = c.slot ∧ x.fmt = c.fmt then
        { x with elems := x.elems + c.elems, ovf := x.ovf + c.ovf, van := x.van + c.van, gelems := x.gelems + c.gelems, gnz := x.gnz + c.gnz } :: r
      else x :: go r
  { q with counts := go q.counts }

/-- The counts of a converted run under a destination's stream and format. -/
def countsOf (slot fmt : Nat) (grad : Bool) (l : List OutElem) : Counts :=
  { slot := slot, fmt := fmt, elems := l.length, ovf := l.countP (·.ovf), van := l.countP (·.van),
    gelems := if grad then l.length else 0, gnz := if grad then l.countP (·.nz) else 0 }

/-- Saturating 32-bit counts of a completion record (04 R119). -/
def Wb.addLosses (q : Wb) (l : List OutElem) : Wb :=
  { q with ovf := satAdd 32 q.ovf (l.countP (·.ovf)), van := satAdd 32 q.van (l.countP (·.van)) }

/-- The lower of two positions (02 R60). -/
def lowerPos (a : Option (Nat × Nat)) (b : Nat × Nat) : Option (Nat × Nat) :=
  match a with
  | none => some b
  | some x => if b.1 < x.1 ∨ (b.1 = x.1 ∧ b.2 < x.2) then some b else some x

/-- A non-finite element of an output found: NONFINITE, its position, and NUM.NONFINITE once where entry 0x7004 asks (02 R60). -/
def Base.nonFinite (b : Base) (id : Nat) (q : Wb) (pos : Nat × Nat) : Base × Wb :=
  let q := { q with flags := q.flags ||| 1, nf := lowerPos q.nf pos }
  if q.nfOn then b.once id q 0x0105 else (b, q)

end Sys2Proof.Machine
end

