-- ==== Sys2Proof/Machine/Scales.lean ====
section
/-! DEFINITION. The scale history and watch tables: entries, cells, records, and the atomic operations of the memory-side dies on them (07). -/

namespace Sys2Proof.Machine

/-- A request of the memory-side die that serves address a for partition p: no unit's read, so not verified (12 R352). -/
def Base.dieReq (b : Base) (p a : Nat) : MemReq :=
  { who := .part p, master := hostMaster p, byUnit := false, consumes := false,
    src := match b.place a with
      | .stack st _ => logic (ms st)
      | _ => io0 }

/-- A number read and a number written by the die that holds it. -/
def Base.dieRead (b : Base) (p a n : Nat) : Base × Option Nat := b.readNum (b.dieReq p a) a n
def Base.dieWrite (b : Base) (p a n v : Nat) : Base := b.storeBytes (b.dieReq p a) a (leBytes n v) false

/-- A history entry (07 R191). -/
structure HistEntry where
  vec : Nat
  cells : Nat
  ch : Nat
  len : Nat
  track : Bool
  margin : Nat
  fill : Nat
  zeros : Bool
  deriving DecidableEq, Repr

def HistEntry.parse (l : List Byte) : HistEntry :=
  { vec := fieldAt l 0 8 % 2 ^ 52, cells := fieldAt l 8 8 % 2 ^ 52, ch := fieldAt l 16 4 % 2 ^ 24, len := fieldAt l 20 1 % 128,
    track := fieldAt l 20 1 ≥ 128, margin := fieldAt l 21 1 % 8, fill := fieldAt l 22 2,
    zeros := fieldAt l 0 8 < 2 ^ 52 && fieldAt l 8 8 < 2 ^ 52 && fieldAt l 16 4 < 2 ^ 24 && fieldAt l 21 1 < 8 && fieldAt l 24 8 == 0 }

/-- History length: 0 stands for 16 (07 R191). -/
def HistEntry.L (h : HistEntry) : Nat := if h.len = 0 then 16 else h.len

def Base.histAddr (b : Base) (p h : Nat) : Nat := b.now 0x7010 p + 32 * h

/-- Entry h of partition p as memory holds it; none where poisoned. -/
def Base.histEntry (b : Base) (p h : Nat) : Base × Option HistEntry :=
  let a := b.histAddr p h
  let (b, l, bad) := b.readBytes (b.dieReq p a) a 32
  (b, if bad then none else some (HistEntry.parse l))

/-- The partition's history step (07 R193, R207). -/
def Base.hstep (b : Base) (p : Nat) : Nat := b.rf 0 32 .DOCK_SCL_HSTEP 40 0 p

/-- An atomic maximum applied to a row of a cell (07 R193). -/
def Base.amaxApply (b : Base) (p h c v row : Nat) : Base :=
  let (b, e) := b.histEntry p h
  match e with
  | none => b
  | some e =>
    let a := e.cells + 256 * c + 4 * (row % e.L)
    let (b, x) := b.dieRead p a 4
    match x with
    | none => b
    | some x => if x < v then b.dieWrite p a 4 v else b

/-- A count report added to a watch slot record (07 R200). -/
def Base.watchApply (b : Base) (p : Nat) (c : Counts) : Base :=
  let t := b.now 0x7012 p
  if t = 0 then b
  else
    let add := fun (b : Base) (k x : Nat) =>
      if x = 0 then b
      else
        let a := t + 256 * c.slot + 48 * c.fmt + 8 * k
        let (b, v) := b.dieRead p a 8
        match v with
        | none => b
        | some v => b.dieWrite p a 8 (v + x)
    add (add (add (add (add b 0 c.elems) 1 c.ovf) 2 c.van) 3 c.gelems) 4 c.gnz

/-- Everything a waybill sent to the history and the watch is applied before its record is visible (07 R193, R199). -/
def Work.flushReports (w : Work) (q seq : Nat) : Work :=
  let mineA := fun (m : AmaxMsg) => m.queue == q && m.seq == seq
  let mineW := fun (m : WatchMsg) => m.queue == q && m.seq == seq
  let b := (w.scale.amax.filter mineA).foldl (fun (b : Base) m => b.amaxApply m.part m.entry m.channel m.value (b.hstep m.part)) w.base
  let b := (w.scale.watch.filter mineW).foldl (fun (b : Base) m => b.watchApply m.part m.counts) b
  { w with
    base := b
    scale := { w.scale with amax := w.scale.amax.filter (fun m => !mineA m), watch := w.scale.watch.filter (fun m => !mineW m) } }

/-- The STEP of partition p being processed. -/
def Work.stepRun? (w : Work) (p : Nat) : Option StepRun := Map.find p w.stepping

/-- STEP processing of partition p is over: the counts that reached the watch during the evaluation are applied, and count for the next step
(07 R200). -/
def Work.stepOver (w : Work) (p : Nat) : Work :=
  { w with
    base := (w.scale.heldWatch.filter fun m => m.part == p).foldl (fun (b : Base) m => b.watchApply p m.counts) w.base
    scale := { w.scale with heldWatch := w.scale.heldWatch.filter fun m => m.part != p }
    stepping := Map.del p w.stepping }

/-- A STEP that its unit loses in processing: the processing ends there, and with it what it had closed (13 R377, log entry 157). -/
def Work.stepDrop (w : Work) (x : Wb) : Work :=
  match w.stepRun? x.part with
  | some run => if x.opcode = 0xF3 ∧ run.queue = x.queue ∧ run.seq = x.seq then w.stepOver x.part else w
  | none => w

/-- The reports of a waybill that ends are sent (07 R199). -/
def Work.sendCounts (w : Work) (x : Wb) : Work :=
  { w with scale := { w.scale with watch := w.scale.watch ++ x.counts.map fun c => ⟨x.part, c, x.queue, x.seq⟩ } }

/-- Checks of the history entry that an MM or CONVERT names, in the order of 04 R537 step 7: SCL.HISTBAD, then SCL.NOHIST (07 R192, R204).
`ch` is the output's DIM[CHAXIS], `vec` the output's SCALE where it is I8. -/
def Base.histCheck (b : Base) (p h ch : Nat) (vec : Option Nat) : Base × Option Nat :=
  if h = 0 then (b, none)
  else if h ≥ b.now 0x7011 p then (b, some 0x0605)
  else
    let (b, e) := b.histEntry p h
    match e with
    | none => (b, some 0x0605)
    | some e =>
      if !e.track || !e.zeros || decide (65 ≤ e.len) || e.ch != ch || (match vec with | some v => v == 0 || e.vec != v | none => false)
      then (b, some 0x0605)
      else if vec.isSome && decide (e.fill < e.L) then (b, some 0x0604)
      else (b, none)

/-- The magnitude rounded upward to binary32 (07 R193). -/
def f32up (v : Num) : Nat :=
  match v with
  | .fin _ m e =>
    let c := f32r (.fin false m e)
    if (f32v c).lt (.fin false m e) then c + 1 else c
  | _ => 0

/-- The largest finite magnitude by channel gathered from values (07 R193). -/
def gatherMax (tab : List (Nat × Nat)) (c : Nat) (v : Num) : List (Nat × Nat) :=
  if v.isFinite then Map.put c (max ((Map.find c tab).getD 0) (f32up v.abs)) tab else tab

/-- Maxima of a waybill sent to entry h (07 R193). -/
def Work.sendMaxima (w : Work) (p h q seq : Nat) (tab : List (Nat × Nat)) : Work :=
  if h = 0 then w
  else { w with scale := { w.scale with amax := w.scale.amax ++ tab.map fun c => { part := p, entry := h, channel := c.1, value := c.2, queue := q, seq := seq } } }

end Sys2Proof.Machine
end

