-- ==== Sys2Proof/Machine/Queues.lean ====
section
/-! DEFINITION. Queues, intake windows, completion records, tokens and credits (04 R98 to R123): the operations that the waybill commands share. -/

namespace Sys2Proof.Machine

/-- Registers of queue q live on die q[13:11] at local number q[10:0] (04 R99). -/
def Base.qrf (b : Base) (q lo w : Nat) (r : Reg) : Nat := b.rf lo w r (cd (q / 2048)) (q % 2048)
def Base.qwf (b : Base) (q lo w x : Nat) (r : Reg) : Base := b.wf lo w x r (cd (q / 2048)) (q % 2048)

/-- The source of a queue's own events (04 R133). -/
def queueSrc (q : Nat) : Src := logic (cd (q / 2048))

def Base.qSize (b : Base) (q : Nat) : Nat := 2 ^ (b.qrf q 0 4 .DOCK_QCFG + 6)
def Base.qEnabled (b : Base) (q : Nat) : Bool := b.qrf q 4 1 .DOCK_QCFG == 1
def Base.qFiller (b : Base) (q : Nat) : Bool := b.qrf q 6 1 .DOCK_QCFG == 1
def Base.qUnit (b : Base) (q : Nat) : Nat := b.qrf q 8 16 .DOCK_QCFG
def Base.qTail (b : Base) (q : Nat) : Nat := b.qrf q 0 32 .DOCK_QTAIL
def Base.qHead (b : Base) (q : Nat) : Nat := b.qrf q 0 32 .DOCK_QHEAD
def Base.qStopped (b : Base) (q : Nat) : Bool := b.qrf q 0 1 .DOCK_QSTAT == 1

/-- Acceptance of a queue stopped with a reason (04 R104 QSTAT). -/
def Base.qStop (b : Base) (q reason : Nat) : Base := (b.qwf q 0 1 1 .DOCK_QSTAT).qwf q 1 3 reason .DOCK_QSTAT

/-- A unit of the engine. -/
def Engine.unit (e : Engine) (id : Nat) : UnitSt := (Map.find id e.units).getD {}

def Engine.setUnit (e : Engine) (id : Nat) (u : UnitSt) : Engine :=
  { e with units := if u = {} then Map.del id e.units else Map.put id u e.units }

def Work.unit (w : Work) (id : Nat) : UnitSt := w.eng.unit id
def Work.setUnit (w : Work) (id : Nat) (u : UnitSt) : Work := { w with eng := w.eng.setUnit id u }

/-- A waybill of a window. -/
def Work.wb? (w : Work) (id q seq : Nat) : Option Wb := (w.unit id).window.find? fun x => x.queue == q && x.seq == seq

/-- A waybill that its FAILED tile has handed over, and that waits for another tile (15 R459). -/
def Work.handedOver (w : Work) (id q seq : Nat) : Bool := (w.wb? id q seq).any (·.handed)

/-- A waybill of a window replaced. -/
def Work.setWb (w : Work) (id : Nat) (x : Wb) : Work :=
  let u := w.unit id
  w.setUnit id { u with window := u.window.map fun y => if y.queue = x.queue ∧ y.seq = x.seq then x else y }

/-- A waybill out of its window. -/
def Work.dropWb (w : Work) (id : Nat) (x : Wb) : Work :=
  let u := w.unit id
  w.setUnit id { u with window := u.window.filter fun y => !(y.queue == x.queue && y.seq == x.seq) }

/-- The bytes of a waybill that its digest value covers, and the value (13 R379). -/
def Wb.digestValue (x : Wb) : Nat :=
  let masked := x.bytes.zipIdx.map fun c =>
    if 56 ≤ c.2 then (0 : Byte)
    else if c.2 = 1 then BitVec.ofNat 8 (c.1.toNat % 8 + c.1.toNat / 32 * 32)
    else if c.2 = 6 ∧ (x.opcode = 0x21 ∨ x.opcode = 0x22) then BitVec.ofNat 8 (c.1.toNat / 4 * 4)
    else c.1
  digest masked

/-- The statuses that produce tokens (04 R120, R121). -/
def isDone (status : Nat) : Bool := decide (1 ≤ status ∧ status ≤ 5)

/-- Bytes 10 and 11 of a record: the physical tile, or the unit identifier (04 R119). -/
def Wb.unitField (x : Wb) (id : Nat) : Nat :=
  match unitOf id with
  | some (.tile, _) => x.tile % 1024
  | _ => id

/-- POS_A and POS_B of a completion record (04 R119): an ABORTED waybill counts, a THREAD_FAULT names its thread, and a NONFINITE one names its
lowest non-finite element; otherwise both are 0. -/
def Wb.position (x : Wb) : Nat × Nat :=
  if x.status = 0x11 then (x.posA, 0)
  else if x.status = 0x15 then (x.posA, x.posB)
  else x.nf.getD (0, 0)

/-- The 32 bytes of a completion record (04 R119). -/
def Wb.record (x : Wb) (id time : Nat) : List Byte :=
  leBytes 4 x.seq ++ leBytes 2 x.queue ++ leBytes 1 x.status ++ leBytes 1 x.flags ++ leBytes 2 x.segments ++ leBytes 2 (x.unitField id)
    ++ leBytes 4 x.ovf ++ leBytes 4 x.van ++ leBytes 4 x.position.1 ++ leBytes 2 x.position.2 ++ leBytes 2 x.event ++ leBytes 4 time

/-- Address of the completion slot of a sequence number (04 R119). -/
def Base.qSlot (b : Base) (q seq : Nat) : Nat := b.qrf q 12 40 .DOCK_QCOMP * 4096 + 32 * (seq % b.qSize q)

/-- The interrupt of a queue: the vector at IRQTAB + 2q (14 R413). -/
def Base.queueIrq (b : Base) (p q : Nat) (src : Src) : Base :=
  let tab := (b.rd .DOCK_PT_IRQTAB 40 0 p).toNat % 2 ^ 52
  if tab = 0 then b
  else
    let (b, v) := b.readNum { unitReq p src with consumes := false } (tab + 2 * q) 2
    match v with
    | none => b.hostEvent p 11 0x0D0E ⟨io (b.rf 1 3 .DOCK_PT_PART 40 0 p / 2), 5⟩
    | some v => if v < 2032 then b.msixPart p v else b

/-- Credits given back to a balance, never beyond the allotment (04 R116, R118). -/
def UnitSt.giveBack (u : UnitSt) (port n : Nat) : UnitSt :=
  let all := (Map.find port u.allot).getD 0
  { u with balance := Map.put port (min all ((Map.find port u.balance).getD 0 + n)) u.balance }

/-- Demanded credits that the waybill did not use (04 R118): the demand less the bytes sent, in units of 4 KiB. -/
def Wb.unused (x : Wb) : List (Nat × Nat) :=
  x.spent.map fun c => (c.1, c.2 - ((Map.find c.1 x.sent).getD 0 + 4095) / 4096)

/-- The reports of a waybill's digest value and outcome to its partition's step (13 R379, R383). A STEP that was processed has reported its value
to the step it closed (log entry 63). -/
def Base.stepReport (b : Base) (x : Wb) : Base :=
  if x.opcode = 0xF3 ∧ isDone x.status then b
  else
  let hit := [0x12, 0x05, 0x16].contains x.status || (x.status == 0x11 && !x.byBranch)
  b.setStep x.part fun a =>
    { a with
      streamdig := (a.streamdig + x.digestValue) % 2 ^ 64
      wbcount := a.wbcount + 1
      nonfinite := a.nonfinite || x.flags % 2 == 1
      trapped := a.trapped || x.status == 0x13
      ckpt := a.ckpt || (x.opcode == 0x81 && isDone x.status)
      timedCount := a.timedCount + b2n hit }

/-- The context of a waybill of a tile position, for its prefetch counts. -/
def Work.unusedCx (w : Work) (id q seq : Nat) : Option Cx := (w.wb? id q seq).map fun x => w.base.cx id x

/-- Prefetch entries of a position are freed; those never read count as unused (05 R146, 17 R493). -/
def Work.freeEntries (w : Work) (id : Nat) (gone : PfEntry → Bool) : Work :=
  let l := w.tiles.pf id
  { w with
    base := (l.filter fun e => gone e && decide (e.check < 3)).foldl
      (fun (b : Base) e => (w.unusedCx id e.queue e.seq).elim b (fun c => b.pfSeen c .TILE_PF_UNUSED e.addr)) w.base
    tiles := w.tiles.setPf id (l.filter fun e => !gone e) }

/-- The prefetch entries of a waybill are freed (05 R146). -/
def Work.freePrefetch (w : Work) (id q seq : Nat) : Work := w.freeEntries id fun e => e.queue == q && e.seq == seq

/-- A waybill whose record is issued, with the tokens it has to produce (04 R112, R121). -/
def Wb.issued (x : Wb) : Wb :=
  { x with
    tokens := if isDone x.status then (x.prods.zipIdx.filter fun c => x.prodMask.testBit c.2).map (·.1) else [], phase := .issued }

/-- The counts of a tile's waybill that ends: events 0x05, 0x13 and 0x14 (17 R493). -/
def Base.noteEnd (b : Base) (id : Nat) (rq : MemReq) (x : Wb) : Base :=
  match unitOf id with
  | some (.tile, _) => ((b.noteWork rq 0x05 1).noteWork rq 0x13 x.ovf).noteWork rq 0x14 x.van
  | _ => b

/-- The completion record is written into its slot, behind all that the waybill wrote, and with it DONE, the interrupt, STOPERR and the report to the
step (04 R119, 12 R351, 13 R379). -/
def Base.recordOut (b : Base) (id : Nat) (x : Wb) : Base :=
  let rq := (b.cx id x).ownReq
  let b := (b.uncover x.number).storeBytes rq (b.qSlot x.queue x.seq) (x.record id b.time)
  let b := b.qwf x.queue 32 32 (b.qrf x.queue 32 32 .DOCK_QHEAD + 1) .DOCK_QHEAD
  let b := b.noteEnd id rq x
  let b := if x.irq then b.queueIrq x.part x.queue (b.unitSrc id) else b
  let b := if b.qrf x.queue 5 1 .DOCK_QCFG = 1 ∧ !isDone x.status then b.qStop x.queue 2 else b
  b.stepReport x

/-- A waybill that completes without having started is remembered: a later abort finds that it never did (06 R178). -/
def Engine.noteUnstarted (e : Engine) (x : Wb) : Engine :=
  if x.began then e else { e with unstarted := Map.put x.queue (NSet.add x.seq ((Map.find x.queue e.unstarted).getD [])) e.unstarted }

/-- A waybill whose record is issued gets its unused credits back (04 R118) and waits to produce its tokens, or leaves the window. -/
def Work.afterRecord (w : Work) (id : Nat) (x : Wb) : Work :=
  let w := ({ w with eng := w.eng.noteUnstarted x } : Work).setUnit id (x.unused.foldl (fun (u : UnitSt) c => u.giveBack c.1 c.2) (w.unit id))
  if x.tokens.isEmpty then w.dropWb id x else w.setWb id x

/-- The completion record of a waybill is written, and what comes with it: its reports, DONE, the interrupt, STOPERR, unused credits (04 R112,
R118, R119, 07 R193, R199, 13 R379). The waybill is then `issued` until its tokens are produced; one without tokens leaves the window. -/
def Work.issue (w : Work) (id : Nat) (x : Wb) : Work :=
  let w := if w.tiles.pf id = [] then w else w.freePrefetch id x.queue x.seq
  let w := (w.sendCounts x.issued).flushReports x.queue x.seq
  { w with base := w.base.recordOut id x.issued }.afterRecord id x.issued

/-- A waybill ends with a status: its record is written by WAYBILL_COMPLETE. -/
def Wb.endWith (x : Wb) (status : Nat) : Wb := { x with phase := .ended, status := status }

/-- A waybill is rejected with an event (04 R106, R133). -/
def Work.reject (w : Work) (id : Nat) (x : Wb) (code : Nat) : Work :=
  let (b, x) := w.base.each id x code
  { w with base := b }.setWb id (x.endWith 0x10)

/-- Key of a token (04 R110). -/
def tokenKey (p t : Nat) : Nat := p * 2 ^ 24 + t % 2 ^ 24
/-- The home of a token (04 R110). -/
def tokenHome (t : Nat) : Nat := t % 8

def Engine.present (e : Engine) (p t : Nat) : Bool := e.tokens.contains (tokenKey p t)

/-- A token marked present at its home: its watchers are notified; one present already raises TOK.DUP (04 R111, R112). -/
def Work.produce (w : Work) (p t : Nat) : Work :=
  if w.eng.present p t then
    { w with base := w.base.raise 0x0304 (logic (cd (tokenHome t))) (some p) }
  else
    let ws := (Map.find (tokenKey p t) w.eng.watchers).getD []
    { w with eng := { w.eng with
        tokens := NSet.add (tokenKey p t) w.eng.tokens
        watchers := Map.del (tokenKey p t) w.eng.watchers
        flying := w.eng.flying ++ ws.map fun x => .notice x.1 x.2.1 x.2.2 p t } }

/-- The first issued waybill of a partition that still has to produce a token loses it from its list, and leaves its window with the last one. -/
def Engine.produced (e : Engine) (p t : Nat) : List (Nat × UnitSt) → Engine
  | [] => e
  | u :: r =>
    match u.2.window.find? (fun x => x.phase == .issued && x.part == p && x.tokens.contains t) with
    | none => e.produced p t r
    | some x =>
      let left := x.tokens.erase t
      e.setUnit u.1 { u.2 with
        window := if left.isEmpty then u.2.window.filter (fun y => !(y.queue == x.queue && y.seq == x.seq))
          else u.2.window.map fun y => if y.queue = x.queue ∧ y.seq = x.seq then { y with tokens := left } else y }

/-- A consumer frees space: credits start back to the unit that spent them (04 R116). -/
def Work.returnCredits (w : Work) (spender port n : Nat) : Work :=
  if n = 0 then w else { w with eng := { w.eng with returns := w.eng.returns ++ [(spender, port, n)] } }

/-- Bytes that a waybill sends to a port are noted against its demand (04 R118). -/
def Wb.sends (x : Wb) (port n : Nat) : Wb := { x with sent := Map.put port ((Map.find port x.sent).getD 0 + n) x.sent }

/-- DOCK_QCFG written (04 R100, R101). -/
def Work.qcfgWrite (w : Work) (q : Nat) (data : Word) : Work :=
  let b := w.base
  let die := cd (q / 2048)
  let old := b.rd .DOCK_QCFG die (q % 2048)
  let keepRO := fun (v : Word) => fput v 24 40 (fget old 24 40)
  let bind := fun (b : Base) => b.raise 0x030C (queueSrc q) (b.partOfQueue q)
  if bget old 4 then
    let held := fget data 0 4 != fget old 0 4 || fget data 6 1 != fget old 6 1 || fget data 8 16 != fget old 8 16
    let v := keepRO (fput (fput (fput (fput old 4 1 (fget data 4 1)) 5 1 (fget data 5 1)) 7 1 (fget data 7 1)) 4 1 (fget data 4 1))
    let b := b.wr v .DOCK_QCFG die (q % 2048)
    let b := if held then bind b else b
    { w with base := b, eng := { w.eng with queuesOn := if bget data 4 then w.eng.queuesOn else NSet.remove q w.eng.queuesOn } }
  else if bget data 4 then
    let unit := fget data 8 16
    let filler := bget data 6
    let ok := match b.partOfQueue q with
      | none => false
      | some p =>
        (b.unitServes unit p && unit % 8 == 0
          || (filler && b.lendingOn && (match unitOf unit with
            | some (.tile, i) =>
              (match b.tileOfPos (i / 64) (i % 64) with
                | some m => b.eff 0 1 .TILE_LEND (cd (i / 64)) m == 1
                | none => false)
            | _ => false)))
          && decide (fget data 0 4 ≤ 10)
          && decide ((w.eng.queuesOn.countP fun k => b.qUnit k == unit) < 64)
    if ok then
      let b := b.wr (keepRO data) .DOCK_QCFG die (q % 2048)
      let b := b.qwf q 0 64 (b.qTail q) .DOCK_QHEAD
      let b := b.qwf q 0 4 0 .DOCK_QSTAT
      let e := w.eng
      { w with base := b, eng := { e with queuesOn := NSet.add q e.queuesOn, aborts := Map.del q e.aborts, unstarted := Map.del q e.unstarted } }
    else { w with base := bind (b.wr (fput (keepRO data) 4 1 0) .DOCK_QCFG die (q % 2048)) }
  else { w with base := b.wr (keepRO data) .DOCK_QCFG die (q % 2048) }

/-- DOCK_QTAIL written by a permitted master (04 R102): a TAIL beyond the ring stops the queue whatever its state. -/
def Work.doorbell (w : Work) (q : Nat) (data : Word) : Work :=
  let b := w.base.wr data .DOCK_QTAIL (cd (q / 2048)) (q % 2048)
  if decide ((b.qTail q + 2 ^ 32 - b.qHead q) % 2 ^ 32 > b.qSize q)
  then { w with base := (b.qStop q 1).raise 0x030B (queueSrc q) (b.partOfQueue q) }
  else { w with base := b }

end Sys2Proof.Machine
end

