-- ==== Sys2Proof/Machine/Products.lean ====
section
/-! DEFINITION. Products on the array: accumulation of an output tile in its fixed order, long products, and the checksum lane (03 R70 to R91). -/

namespace Sys2Proof.Machine

/-- One accumulator element: the accumulating set, the side set, and saturation (03 R84 to R88). -/
structure El where
  a : Nat
  b : Nat := 0
  sat : Bool := false
  deriving DecidableEq, Repr

/-- INT32 NaR (02 R30). -/
def intNaR : Nat := 0x80000000

/-- One exact integer product added, with saturation (03 R84). DESIGN CHOICE (log entry 128): an element that has saturated keeps its saturated value
when a NaR operand meets it later; 03 R84 holds it there for the rest of the product, 02 R30 makes an element that meets NaR a NaR. -/
def El.addInt (e : El) (p : Num) : El :=
  if e.sat then e
  else if e.a = intNaR then e
  else
    match p with
    | .fin s m x =>
      let z := sext 32 e.a + signed s m * (2 ^ x.toNat : Nat)
      if z > 0x7FFFFFFF then { e with a := 0x7FFFFFFF, sat := true }
      else if z < -0x7FFFFFFF then { e with a := 0x80000001, sat := true }
      else { e with a := tc 32 z }
    | _ => { e with a := intNaR }

/-- The fold of a segment into the side set (03 R85). -/
def El.fold (e : El) : El :=
  if e.sat then e
  else if e.a = intNaR then { e with a := 0, b := 0x7FC00000 }
  else { e with a := 0, b := f32r ((f32v e.b).add (.ofInt (sext 32 e.a))) }

/-- One exact product added in binary32 (03 R71), compensated for a long product (03 R88). -/
def El.addFloat (long : Bool) (e : El) (p : Num) : El :=
  let s := (f32v e.a).add p
  let t := f32r s
  if long && f32isFinite t then { e with a := t, b := f32r ((f32v e.b).add (s.sub (f32v t))) }
  else { e with a := t }

/-- The drained result: an INT32 code in normal integer mode, else a binary32 code (03 R84 to R88). -/
def El.result (int long : Bool) (e : El) : Nat :=
  if !long then e.a
  else if int then
    if e.a = intNaR then 0x7FC00000
    else f32r ((f32v e.b).add (.ofInt (sext 32 e.a)))
  else if f32isFinite e.a then f32r ((f32v e.a).add (f32v e.b))
  else e.a

/-- The value that a drain takes from an element: a saturated one is its saturated value, exact (03 R84), another the drained result. -/
def El.value (int long : Bool) (e : El) : Num := if int && (!long || e.sat) then decodeCode .int32 e.a else f32v (e.result int long)

/-- The products of a row of A and a row of the stored B added in the order of the terms (03 R71). -/
def El.run (int long : Bool) (e : El) : List Num → List Num → El
  | a :: ra, b :: rb => (if int then e.addInt (a.mul b) else e.addFloat long (a.mul b)).run int long ra rb
  | _, _ => e

/-- Sum of exact values. -/
def sumNum (l : List Num) : Num := l.foldl Num.add Num.zero

/-- Element-wise sums of rows of K values. -/
def colSums (K : Nat) (rows : List (List Num)) : List Num :=
  rows.foldl (fun s r => (s.zip r).map fun c => c.1.add c.2) (List.replicate K Num.zero)

def dot (x y : List Num) : Num := (x.zip y).foldl (fun s c => s.add (c.1.mul c.2)) Num.zero

/-- Lane sums of a run of terms: by column, by row, and the absolute ones (03 R90, R91). -/
def laneSums (K : Nat) (A B : List (List Num)) : List Num × List Num × List Num × List Num :=
  let absA := A.map fun r => r.map Num.abs
  let absB := B.map fun r => r.map Num.abs
  let sa := colSums K A
  let sb := colSums K B
  let ma := colSums K absA
  let mb := colSums K absB
  (B.map fun r => dot sa r, A.map fun r => dot r sb, absB.map fun r => dot ma r, absA.map fun r => dot r mb)

def addLists (x y : List Num) : List Num :=
  if x.isEmpty then y else (x.zip y).map fun c => c.1.add c.2

/-- The elements of an accumulator. -/
def AccTile.els (t : AccTile) : List El :=
  t.a.zipIdx.map fun c => { a := c.1, b := t.b.getD c.2 0, sat := t.sat.contains c.2 }

def AccTile.setEls (t : AccTile) (long : Bool) (l : List El) : AccTile :=
  { t with a := l.map (·.a), b := if long then l.map (·.b) else [], sat := (l.zipIdx.filter (·.1.sat)).map (·.2) }

/-- An accumulator before its first term: cleared, or holding the preload, whose sums seed the lane (03 R78). -/
def AccTile.start (rows cols : Nat) (int : Bool) (pre : Option (List Nat)) : AccTile :=
  match pre with
  | none => { rows := rows, cols := cols, a := List.replicate (rows * cols) 0 }
  | some l =>
    let v := l.map fun c => if int then decodeCode .int32 c else f32v c
    let at_ := fun (i j : Nat) => v.getD (i * cols + j) .zero
    let byCol := fun (f : Num → Num) => (List.range cols).map fun j => sumNum ((List.range rows).map fun i => f (at_ i j))
    let byRow := fun (f : Num → Num) => (List.range rows).map fun i => sumNum ((List.range cols).map fun j => f (at_ i j))
    { rows := rows, cols := cols, a := l, colL := byCol id, rowL := byRow id, colM := byCol Num.abs, rowM := byRow Num.abs,
      segColL := byCol id, segRowL := byRow id }

/-- Terms of one segment of a segmented product (03 R85). -/
def segTerms : Nat := 131072

/-- The sums of an accumulator's columns and of its rows, from the values of its elements. -/
def AccTile.sums (t : AccTile) (v : List Num) : List Num × List Num :=
  let at_ := fun (i j : Nat) => v.getD (i * t.cols + j) .zero
  ((List.range t.cols).map fun j => sumNum ((List.range t.rows).map fun i => at_ i j),
   (List.range t.rows).map fun i => sumNum ((List.range t.cols).map fun j => at_ i j))

/-- The lowest place at which two lists of exact sums differ. -/
def firstOff (x y : List Num) : Option Nat := ((x.zip y).zipIdx.find? fun c => !(c.1.1.sub c.1.2).isZero).map (·.2)

/-- The exact check of a segment of a segmented product: the lowest failing column and row (03 R90). -/
def AccTile.segCheck (t : AccTile) : Option Nat × Option Nat :=
  let s := t.sums (t.a.map fun c => decodeCode .int32 c)
  (firstOff s.1 t.segColL, firstOff s.2 t.segRowL)

/-- What is kept of the segments once the segment under way is checked: the first that failed. -/
def AccTile.segEnded (t : AccTile) : Option (Nat × Option Nat × Option Nat) :=
  match t.segBad, t.segCheck with
  | none, (none, none) => none
  | none, (c, r) => some (t.seg, c, r)
  | some x, _ => some x

/-- The segment that a failing lane names: the one that failed, or the last (03 R90, R96). -/
def AccTile.badSegment (t : AccTile) : Nat := match t.segBad with | some x => x.1 | none => t.seg

/-- A run of terms that crosses no segment boundary, its first term numbered g; at a boundary the segment before is checked and folded first. -/
def AccTile.chunk (int long : Bool) (g : Nat) (t : AccTile) (A B : List (List Num)) : AccTile :=
  let fold := int && long && decide (0 < g ∧ g % segTerms = 0)
  let els := t.els.map fun e => if fold then e.fold else e
  let rows := A.flatMap fun ra => B.map fun rb => (ra, rb)
  let els := (els.zip rows).map fun c => c.1.run int long c.2.1 c.2.2
  let K := (A.head?.getD []).length
  let (cl, rl, cm, rm) := laneSums K A B
  { t.setEls long els with
    colL := addLists t.colL cl, rowL := addLists t.rowL rl, colM := addLists t.colM cm, rowM := addLists t.rowM rm
    segColL := if fold then cl else addLists t.segColL cl, segRowL := if fold then rl else addLists t.segRowL rl
    seg := if fold then t.seg + 1 else t.seg, segBad := if fold then t.segEnded else t.segBad }

/-- All the terms of one waybill, numbered from g, cut at segment boundaries. -/
def AccTile.terms (int long : Bool) : Nat → Nat → AccTile → List (List Num) → List (List Num) → AccTile
  | 0, _, t, _, _ => t
  | fuel + 1, g, t, A, B =>
    let K := (A.head?.getD []).length
    if K = 0 then t
    else
      let n := if int && long then min K (segTerms - g % segTerms) else K
      let t := t.chunk int long g (A.map (·.take n)) (B.map (·.take n))
      AccTile.terms int long fuel (g + n) t (A.map (·.drop n)) (B.map (·.drop n))

/-- A fault of the array: the 32-bit codes of elements changed. -/
def AccTile.upset (t : AccTile) (ups : List (Nat × Nat)) : AccTile :=
  { t with a := t.a.zipIdx.map fun c => match Map.find c.2 ups with | some x => (c.1 ^^^ x) % 2 ^ 32 | none => c.1 }

/-- The lane's outcome for one output tile: not checked (03 R92), or the lowest failing column and row. -/
inductive Lane where
  | unchecked
  | checked (col row : Option Nat)
  deriving DecidableEq, Repr

/-- |x − y| ≤ f × m, all exact. -/
def within (x y f m : Num) : Bool := ((x.sub y).abs).le (f.mul m)

/-- One sum on the float path: passes, fails, or may do either, in which case the free value decides (03 R91). -/
def laneTest (x y beta m : Num) (free : Nat) : Nat × Bool :=
  if within x y beta m then (free, false)
  else if !within x y (beta.add (.pow2 (-19))) m then (free, true)
  else (free + 1, Config.laneVerdict free)

/-- The lowest index whose test fails. -/
def firstFail (beta : Num) : Nat → Nat → List Num → List Num → List Num → Nat × Option Nat
  | free, i, x :: xs, y :: ys, m :: ms =>
    let (free, bad) := laneTest x y beta m free
    let (free', r) := firstFail beta free (i + 1) xs ys ms
    (free', if bad then some i else r)
  | free, _, _, _, _ => (free, none)

/-- The checksum lane's verdict on a drained output tile (03 R90 to R92). `n` is the declared term count, `S` the segments. -/
def AccTile.lane (t : AccTile) (int long : Bool) (n S free : Nat) : Nat × Lane :=
  let vals := t.els.map (El.value int long)
  if !t.sat.isEmpty || vals.any (fun v => !v.isFinite) then (free, .unchecked)
  else
    let (cols, rows) := t.sums vals
    if int && !long then (free, .checked (firstOff cols t.colL) (firstOff rows t.rowL))
    else if int then
      let f := (Num.ofNat S (-24)).add (.pow2 (-20))
      let fold := fun (x y m : List Num) => ((x.zip (y.zip m)).zipIdx.find? fun c => !within c.1.1 c.1.2.1 f c.1.2.2).map (·.2)
      match t.segEnded with
      | some (_, c, r) => (free, .checked c r)
      | none => (free, .checked (fold cols t.colL t.colM) (fold rows t.rowL t.rowM))
    else
      let beta := if long then (Num.pow2 (-23)).add (.ofNat n (-48)) else .ofNat n (-24)
      let (free, c) := firstFail beta free 0 cols t.colL t.colM
      let (free, r) := firstFail beta free 0 rows t.rowL t.rowM
      (free, .checked c r)

end Sys2Proof.Machine
end

