-- ==== Sys2Proof/Machine/Outputs.lean ====
section
/-! DEFINITION. The output stage: the exact source value of a drained element, and its writing in memory, local-store, intake and stage form
(02 R44, R49, R60 to R63, 08 R218, 09 R247 to R250). -/

namespace Sys2Proof.Machine

/-- What a drain does to a waybill: the trap found in an output tile, as Kind, row and column (02 R61, R62). -/
abbrev TrapAt := Option (Nat × Nat × Nat)

/-- Elements of a delivery handed to the intake path; whole pieces of 64 set out for their pool (08 R218, R219). -/
def Work.deliver (w : Work) (id : Nat) (x : Wb) (d : Desc) (e0 : Nat) (codes : List Nat) : Work :=
  let key := x.number * 2 ^ 40
  let parts := codes.zipIdx.foldl (fun m c => Map.put (key + e0 + c.2) c.1 m) w.upd.partials
  let ks := (List.range ((e0 + codes.length + 63) / 64 - e0 / 64)).map (· + e0 / 64)
  ks.foldl (fun (w : Work) k =>
    let got := (List.range 64).filterMap fun i => Map.find (key + 64 * k + i) w.upd.partials
    if got.length = 64 then
      { w with upd := { w.upd with
          partials := Map.delRange (key + 64 * k) (key + 64 * k + 64) w.upd.partials
          flying := w.upd.flying ++ [{ addr := d.addr + 128 * k, part := x.part, tag := x.step % 65536, spender := id, data := got }] } }
    else w) { w with upd := { w.upd with partials := parts } }

/-- Port 0 of the head of the quartet that an intake-form descriptor delivers to (08 R218). -/
def Base.intakePort (b : Base) (d : Desc) : Nat :=
  match b.place d.addr with
  | .stack st _ => updUnit (st / 4 * 4)
  | _ => 0

/-- The areas of a stage (09 R249): offsets of GC scales, GR, GR scales, H and T. -/
structure Stage where
  gcs : Nat
  gr : Nat
  grs : Nat
  h : Nat
  t : Nat
  size : Nat

def Desc.stage (d : Desc) : Stage :=
  let E := d.d0 * d.d1
  let a := (E / d.block + 4095) / 4096 * 4096
  { gcs := E, gr := E + a, grs := 2 * E + a, h := 2 * E + 2 * a, t := 4 * E + 2 * a, size := 6 * E + 2 * a }

/-- Element index of (r, c) of the block (09 R247): W is STRIDE1, r₀ STRIDE2, c₀ STRIDE3. -/
def Desc.stageIndex (d : Desc) (r c : Nat) : Nat := (d.s2 + r) * d.s1 + d.s3 + c

/-- One copy of a drained tile in a stage: elements as (row, column, value) in the order given, with the stream offset and format. -/
def stageElem (d : Desc) (K s : Nat) (f : Fmt) (dt : Nat) (E : Option Nat) (r c : Nat) (v : Num) : OutElem :=
  outElem f (d.ovfInf && (f == .g8 || f == .f16w)) (.sr (draw16 K s (d.stream + dt) (d.stageIndex r c))) E none v

/-- Bookkeeping of converted elements of one output tile: losses, watch counts, NONFINITE (02 R48, R60, 07 R199). `pos` numbers the tile. -/
def Work.account (w : Work) (id : Nat) (x : Wb) (slot : Nat) (f : Fmt) (grad : Bool) (pos : Nat) (l : List (Nat × OutElem)) : Work × Wb :=
  let es := l.map (·.2)
  let x := x.addLosses es
  let x := if f.watched then x.addCounts (countsOf slot f.code grad es) else x
  match (l.filter fun c => c.2.nonfin).foldl (fun (m : Option Nat) c => some (match m with | some k => min k c.1 | none => c.1)) none with
  | none => (w, x)
  | some e =>
    let (b, x) := w.base.nonFinite id x (pos, e)
    ({ w with base := b }, x)

/-- The trap of an output tile: the lowest element that holds a NaN or NaR, where the trap is on (02 R61, R62). `width` is the row width used to
number elements; `r0`, `c0` the tile's first row and column. DESIGN CHOICE (log entry 131): of a tensor with DIM2 or DIM3 above 1 the record's Row is
the row within its matrix; R62 does not say whether it counts the rows of the matrices before. -/
def trapOf (on : Bool) (width r0 c0 : Nat) (l : List (Nat × OutElem)) : TrapAt :=
  if !on then none
  else
    match (l.filter fun c => c.2.kind != 0).foldl
        (fun (m : Option (Nat × Nat)) c => match m with
          | some k => some (if c.1 < k.1 then (c.1, c.2.kind) else k)
          | none => some (c.1, c.2.kind)) none with
    | none => none
    | some (e, k) => some (k, r0 + e / width, c0 + e % width)

/-- The lower of two traps of one tile. -/
def lowerTrap (a b : TrapAt) : TrapAt :=
  match a, b with
  | none, b => b
  | a, none => a
  | some x, some y => if y.2.1 < x.2.1 ∨ (y.2.1 = x.2.1 ∧ y.2.2 < x.2.2) then some y else some x

/-- An output tile of exact values written into the three copies of a stage (09 R250). -/
def Work.stageWrite (w : Work) (id : Nat) (c : Cx) (x : Wb) (d : Desc) (pos r0 c0 rows cols : Nat) (vals : List Num) : Work × Wb × TrapAt :=
  let K := x.seed
  let s := x.step
  let B := d.block
  let n := d.d0
  let st := d.stage
  let at_ := fun (i j : Nat) => vals.getD (i * cols + j) .zero
  let ec := (List.range rows).map fun i => (List.range (cols / B)).map fun k => chooseE8 .g8 ((List.range B).map fun j => at_ i (k * B + j))
  let er := (List.range (rows / B)).map fun k => (List.range cols).map fun j => chooseE8 .g8 ((List.range B).map fun i => at_ (k * B + i) j)
  let ix := (List.range rows).flatMap fun i => (List.range cols).map fun j => (i, j)
  let gc := ix.map fun p => (p.1 * 128 + p.2, stageElem d K s .g8 0 (some ((ec.getD p.1 []).getD (p.2 / B) 0)) (r0 + p.1) (c0 + p.2) (at_ p.1 p.2))
  let gr := ix.map fun p => (p.1 * 128 + p.2, stageElem d K s .g8 1 (some ((er.getD (p.1 / B) []).getD p.2 0)) (r0 + p.1) (c0 + p.2) (at_ p.1 p.2))
  let h := ix.map fun p => (p.1 * 128 + p.2, stageElem d K s .f16w 2 none (r0 + p.1) (c0 + p.2) (at_ p.1 p.2))
  let rowOf := fun (l : List (Nat × OutElem)) (k i : Nat) => ((l.drop (i * cols)).take cols).flatMap fun q => leBytes k q.2.code
  let w := (List.range rows).foldl (fun (w : Work) i =>
    let w := w.fieldWrite c (d.addr + (r0 + i) * n + c0) (rowOf gc 1 i)
    let w := w.fieldWrite c (d.addr + st.gcs + ((r0 + i) * n + c0) / B) ((ec.getD i []).map fun e => BitVec.ofNat 8 e)
    let w := w.fieldWrite c (d.addr + st.gr + (r0 + i) * n + c0) (rowOf gr 1 i)
    w.fieldWrite c (d.addr + st.h + 2 * ((r0 + i) * n + c0)) (rowOf h 2 i)) w
  let w := (List.range (rows / B)).foldl (fun (w : Work) k =>
    w.fieldWrite c (d.addr + st.grs + (r0 / B + k) * n + c0) ((er.getD k []).map fun e => BitVec.ofNat 8 e)) w
  let slot := d.stream / 64
  let (w, x) := w.account id x slot .g8 true pos gc
  let (w, x) := w.account id x slot .g8 true pos gr
  let (w, x) := w.account id x slot .f16w true pos h
  (w, x, lowerTrap (trapOf x.trapOn 128 r0 c0 gc) (lowerTrap (trapOf x.trapOn 128 r0 c0 gr) (trapOf x.trapOn 128 r0 c0 h)))

/-- The reciprocal scales of an I8 destination, by position along a row from column c0; none where the target is not I8 (02 R45). -/
def Work.rowRcs (w : Work) (c : Cx) (d : Desc) (i1 i2 i3 c0 cols : Nat) : Work × Option (List (Option Nat)) :=
  if d.format ≠ .i8 then (w, none)
  else if d.chaxis = 0 then
    let (w, l) := Work.scalePairs c d cols w c0
    (w, some (l.map fun p => p.map (·.2)))
  else
    let (w, p) := w.scalePair c d (d.channel c0 i1 i2 i3)
    (w, some (List.replicate cols (p.map (·.2))))

/-- One row of an output tile converted and written. `index` is the element index of 02 R54 of its first element; `raw` copies INT32 codes unchanged (02 R49). -/
def Work.outRow (w : Work) (id : Nat) (c : Cx) (x : Wb) (d : Desc) (raw : Bool) (index i1 i2 i3 c0 : Nat) (vals : List Num) (codes : List Nat) :
    Work × Wb × List OutElem :=
  if raw then
    let es := codes.map fun k => ({ code := k, nonfin := k == intNaR, kind := if k = intNaR then 2 else 0 } : OutElem)
    (w.rowWrite c d i1 i2 i3 c0 codes [], x, es)
  else
    let (w, rcs) := w.rowRcs c d i1 i2 i3 c0 vals.length
    let (es, e8) := convertRow d x.seed x.step index c0 rcs vals
    let (b, x) := if (match rcs with | some l => l.any Option.isNone | none => false) then w.base.once id x 0x010C else (w.base, x)
    let w := { w with base := b }
    let out := es.map (·.code)
    if d.isIntake then ((w.deliver id x d index out), x.sends (w.base.intakePort d) (4 * out.length), es)
    else (w.rowWrite c d i1 i2 i3 c0 out e8, x, es)

/-- The rows of an output tile, from row i. -/
def Work.outRows (id : Nat) (c : Cx) (d : Desc) (raw : Bool) (index : Nat → Nat) (i2 i3 c0 cols r0 : Nat) (vals : List Num) (codes : List Nat) :
    Nat → Nat → Work → Wb → Work × Wb × List (Nat × OutElem)
  | 0, _, w, x => (w, x, [])
  | k + 1, i, w, x =>
    let (w, x, es) := w.outRow id c x d raw (index (r0 + i)) (r0 + i) i2 i3 c0 ((vals.drop (i * cols)).take cols) ((codes.drop (i * cols)).take cols)
    let (w, x, r) := Work.outRows id c d raw index i2 i3 c0 cols r0 vals codes k (i + 1) w x
    (w, x, es.zipIdx.map (fun e => (i * 128 + e.2, e.1)) ++ r)

/-- An output tile written to its destination, with its counts, NONFINITE and the trap it shows (02 R43 to R63, 07 R193). `hist` is the entry
that records its maxima; `index` gives the element index of column c0 by row. -/
def Work.outTile (w : Work) (id : Nat) (c : Cx) (x : Wb) (d : Desc) (index : Nat → Nat) (hist pos i2 i3 r0 c0 rows cols : Nat) (raw : Bool) (vals : List Num)
    (codes : List Nat) : Work × Wb × TrapAt :=
  if d.isStage then w.stageWrite id c x d pos r0 c0 rows cols vals
  else
    let (w, x, es) := Work.outRows id c d raw index i2 i3 c0 cols r0 vals codes rows 0 w x
    let (w, x) := w.account id x (d.stream / 64) d.format d.grad pos es
    let tab := if hist = 0 then [] else vals.zipIdx.foldl
      (fun m v => gatherMax m (d.channel (c0 + v.2 % cols) (r0 + v.2 / cols) i2 i3) v.1) []
    (w.sendMaxima x.part hist x.queue x.seq tab, x, trapOf x.trapOn 128 r0 c0 es)

/-- The trap taken: the record, or NUM.TRAPLOST and the count of entry 0x7005 (02 R61 to R63). -/
def Base.takeTrap (b : Base) (id : Nat) (x : Wb) (t : Nat × Nat × Nat) : Base × Wb :=
  let a := b.catNum 0x7002 (x.part + 1)
  let armed := a % 32 = 0 ∧ b.runOwned x.part a 32 = true
  let (b, kind) := if armed then b.dieRead x.part (a + 11) 1 else (b, some 1)
  if armed ∧ kind = some 0 then
    let rec_ := leBytes 8 x.number ++ leBytes 2 (x.tile % 1024) ++ leBytes 1 x.opcode ++ leBytes 1 t.1 ++ leBytes 4 0 ++ leBytes 4 t.2.1
      ++ leBytes 4 t.2.2 ++ leBytes 8 b.time
    (b.recordWrite (b.unitSrc id).die x.part a rec_).once id x 0x0106
  else (b.catSet 0x7005 (x.part + 1) 4 (satAdd 32 (b.catNum 0x7005 (x.part + 1)) 1)).once id x 0x0107

end Sys2Proof.Machine
end

