-- ==== Sys2Proof/Machine/Tile.lean ====
section
/-! DEFINITION. Matrix tiles: accumulator sets, chains, the MM waybill from start to drain, lane failures and replay, the hold limit, and lending
(03 R66 to R97, R538). -/

namespace Sys2Proof.Machine

/-- The tile that holds a position unit: die and tile number. -/
def Base.tileOf (b : Base) (id : Nat) : Option (Nat × Nat) :=
  match unitOf id with
  | some (.tile, i) => (b.tileOfPos (i / 64) (i % 64)).map fun m => (i / 64, m)
  | _ => none

/-- The register of an accumulator set. -/
def setReg (k : Nat) : Reg := if k = 0 then .ACC_SET0 else .ACC_SET1

/-- States of an accumulator set (03 R72). -/
def sFREE : Nat := 0
def sPRELOAD : Nat := 1
def sACCUM : Nat := 2
def sHELD : Nat := 3
def sDRAIN : Nat := 4
def sSIDE : Nat := 5
def sLENT : Nat := 6
def sSPILL : Nat := 7

/-- State of set k of the tile that holds a position. -/
def Base.setState (b : Base) (id k : Nat) : Nat :=
  match b.tileOf id with
  | some (n, m) => b.rf 0 3 (setReg k) (cd n) m
  | none => sFREE

/-- A set's register written: state, LONG, partition, chain and terms (03 R96). -/
def Base.setPut (b : Base) (id k state : Nat) (long : Bool) (part chain terms : Nat) : Base :=
  match b.tileOf id with
  | some (n, m) =>
    b.wr (BitVec.ofNat 64 (state + b2n long * 8 + part % 8 * 16
      + (if state = sACCUM ∨ state = sHELD then chain % 65536 * 256 else 0) + min terms 0xFFFFFFFF * 2 ^ 32)) (setReg k) (cd n) m
  | none => b

/-- Only the state field changed. -/
def Base.setTo (b : Base) (id k state : Nat) : Base :=
  match b.tileOf id with
  | some (n, m) => if state = sFREE then b.wr 0 (setReg k) (cd n) m else b.wf 0 3 state (setReg k) (cd n) m
  | none => b

def Base.setsTo (b : Base) (id state : Nat) (l : List Nat) : Base := l.foldl (fun b k => b.setTo id k state) b

/-- Jobs of a position. -/
def Work.jobs (w : Work) (id : Nat) : List Job := (Map.find id w.tiles.jobs).getD []

def Work.setJobs (w : Work) (id : Nat) (l : List Job) : Work :=
  { w with tiles := { w.tiles with jobs := if l.isEmpty then Map.del id w.tiles.jobs else Map.put id l w.tiles.jobs } }

/-- The job whose last member is a waybill. -/
def Work.jobOf (w : Work) (id q seq : Nat) : Option Job := (w.jobs id).find? fun j => j.members.getLast? == some (q, seq)

/-- The job that a waybill belongs to. -/
def Work.jobWith (w : Work) (id q seq : Nat) : Option Job := (w.jobs id).find? fun j => j.members.contains (q, seq)

def Work.chainOf (w : Work) (id p chain : Nat) : Option Job := (w.jobs id).find? fun j => j.part == p && j.chain == some chain

/-- A job is known by its members' first. -/
def Job.same (j k : Job) : Bool := j.members.head? == k.members.head?

def Work.setJob (w : Work) (id : Nat) (j : Job) : Work := w.setJobs id ((w.jobs id).map fun k => if k.same j then j else k)
def Work.dropJob (w : Work) (id : Nat) (j : Job) : Work := w.setJobs id ((w.jobs id).filter fun k => !k.same j)

def Work.drains (w : Work) (id : Nat) : List (Nat × Nat × Nat × Nat) := (Map.find id w.tiles.drains).getD []
def Work.setDrains (w : Work) (id : Nat) (l : List (Nat × Nat × Nat × Nat)) : Work :=
  { w with tiles := { w.tiles with drains := if l.isEmpty then Map.del id w.tiles.drains else Map.put id l w.tiles.drains } }

def Work.claimsOf (w : Work) (id : Nat) : List (Nat × Nat × Nat) := (Map.find id w.tiles.claims).getD []
def Work.setClaims (w : Work) (id : Nat) (l : List (Nat × Nat × Nat)) : Work :=
  { w with tiles := { w.tiles with claims := if l.isEmpty then Map.del id w.tiles.claims else Map.put id l w.tiles.claims } }

/-- The claims of a waybill end: it has its sets. -/
def Work.unclaim (w : Work) (id : Nat) (x : Wb) : Work :=
  w.setClaims id ((w.claimsOf id).filter fun c => !(c.2.1 == x.queue && c.2.2 == x.seq))

/-- The output tiles of an MM (03 R70, R538): rows and columns of tiles of one matrix, and matrices. -/
structure Geo where
  M : Nat
  K : Nat
  N : Nat
  tr : Nat
  tc : Nat
  nb : Nat

def mmGeo (a b : Desc) : Geo :=
  { M := a.d1, K := a.d0, N := b.d1, tr := (a.d1 + 127) / 128, tc := (b.d1 + 127) / 128, nb := a.d2 * a.d3 }

def Geo.tiles (g : Geo) : Nat := g.tr * g.tc * g.nb

/-- Matrix, first row, rows, first column and columns of output tile t. -/
def Geo.tile (g : Geo) (t : Nat) : Nat × Nat × Nat × Nat × Nat :=
  let per := g.tr * g.tc
  let r := t % per / g.tc * 128
  let c := t % g.tc * 128
  (t / per, r, min 128 (g.M - r), c, min 128 (g.N - c))

def Wb.geo (x : Wb) : Geo :=
  match x.desc 0, x.desc 1 with
  | some a, some b => mmGeo a b
  | _, _ => { M := 0, K := 0, N := 0, tr := 0, tc := 0, nb := 0 }

/-- The integer path: both operands are I8 (02 R27). -/
def Wb.intPath (x : Wb) : Bool := match x.desc 0 with | some a => a.format == .i8 | none => false

/-- Declared term count n, the preload included (03 R83). -/
def Wb.declared (x : Wb) : Nat := (if x.keep && !x.cont then x.arg else x.geo.K) + b2n x.preload

/-- A long product (03 R83). -/
def longProduct (int : Bool) (decl pre : Nat) : Bool := if int then decide (decl - pre > 131072) else decide (decl > 1048576)

/-- What a start attempt answers: it waits, it is rejected with an event, or it starts. -/
inductive StartRes where
  | wait (w : Work)
  | reject (code : Nat)
  | start (w : Work)

/-- Sets that waybill (q, seq) may take now: FREE and not claimed by another. -/
def Work.freeSets (w : Work) (id q seq : Nat) : List Nat :=
  [0, 1].filter fun k => w.base.setState id k == sFREE && !(w.claimsOf id).any fun c => c.1 == k && !(c.2.1 == q && c.2.2 == seq)

/-- A filler holds the tile (03 R94). -/
def Work.lent (w : Work) (id : Nat) : Bool := w.base.setState id 0 == sLENT || w.base.setState id 0 == sSPILL

/-- Accepted waybills of the unit's window before x that are members of its chain and have not started: any, or those that open one (03 R80). -/
def Work.chainBefore (w : Work) (id : Nat) (x : Wb) (opener : Bool) : Bool :=
  ((w.unit id).window.takeWhile fun y => !(y.queue == x.queue && y.seq == x.seq)).any fun y =>
    y.part == x.part && y.opcode == 1 && y.chain == x.chain && y.phase == .accepted && (if opener then y.keep && !y.cont else y.keep || y.cont)

/-- Start of an MM on its tile: which sets it takes, what makes it wait, what rejects it (03 R73, R74, R76, R80 to R83, R86, R89, R94). `full` says
that the tile runs two waybills that use sets already (04 R111). DESIGN CHOICE (log entry 123): a KEEP that opens a chain whose identifier is still
in use by a chain of its partition on the tile waits until that chain has ended; the manual gives no outcome for it. DESIGN CHOICE (log entry 154): a
CONTINUE that names the SIDE set of its own long chain names a set that holds its chain, and is accepted; R80 does not say whether SIDE holds it. -/
def Work.mmStart (w : Work) (id : Nat) (x : Wb) (full : Bool) : StartRes :=
  let g := x.geo
  let b := w.base
  let int := x.intPath
  let rawInt := match x.desc 2 with | some o => o.fmt == 6 && !o.isStage | none => false
  let preFault := match b.tileOf id with
    | some (n, m) => if x.preload then
        (if !(bget (b.rd .TILE_POS n m) 10 && bget (b.rd .TILE_ID n m) 10) then some 0x0202 else if x.cont then some 0x0201 else none)
      else none
    | none => none
  match preFault with
  | some e => .reject e
  | none =>
    if x.cont then
      match w.chainOf id x.part x.chain with
      | none => if w.chainBefore id x false then .wait w else .reject 0x0206
      | some j =>
        let first := match j.members.head? with | some m => w.wb? id m.1 m.2 | none => none
        let differs := match first with
          | some f => (match f.desc 0, x.desc 0, f.desc 2, x.desc 2 with
            | some fa, some xa, some fo, some xo => fa.fmt != xa.fmt || fo.fmt != xo.fmt || fo.dims != xo.dims
            | _, _, _, _ => false)
          | none => false
        if w.chainBefore id x true then .wait w
        else if x.accset ≠ 0 ∧ !j.sets.contains (x.accset - 1) then .reject 0x0201
        else if differs then .reject 0x0201
        else if w.chainBefore id x false then .wait w
        else if j.members.length ≥ 64 ∨ j.terms + g.K > min (j.decl - b2n j.pre) (2 ^ 28) then .reject 0x0207
        else if j.long && j.int && !x.keep && rawInt then .reject 0x0201
        else if j.failed || j.heldSince.isNone then .wait w
        else
          let b := match j.sets.head? with
            | some k => b.setPut id k sACCUM j.long x.part x.chain (b2n j.pre + j.terms)
            | none => b
          .start ({ w with base := b }.setJob id { j with members := j.members ++ [(x.queue, x.seq)], heldSince := none })
    else if decide (g.K > 2 ^ 28) || x.keep && decide (g.K > x.arg) then .reject 0x0207
    else
      let waits := full || x.keep && (w.chainOf id x.part x.chain).isSome
      let long := longProduct int x.declared (b2n x.preload)
      let job : Job :=
        { part := x.part, chain := if x.keep then some x.chain else none, members := [(x.queue, x.seq)],
          named := if x.accset = 0 then none else some (x.accset - 1), sets := [], pre := x.preload, decl := x.declared, int := int, long := long }
      let begin := fun (w : Work) (sets : List Nat) (st : Nat) =>
        let b := sets.zipIdx.foldl (fun (b : Base) c =>
          b.setPut id c.1 (if st = sLENT then sLENT else if c.2 = 0 then st else sSIDE) long x.part (if x.keep then x.chain else 0) 0) w.base
        ({ w with base := b }.unclaim id x).setJobs id
          (w.jobs id ++ [{ job with sets := sets }])
      if x.filler then
        if b.setState id 0 = sFREE ∧ b.setState id 1 = sFREE ∧ (w.jobs id).isEmpty ∧ (w.claimsOf id).isEmpty ∧ !waits
        then .start (begin w [0, 1] sLENT) else .wait w
      else
        let free := w.freeSets id x.queue x.seq
        let st := if x.preload then sPRELOAD else sACCUM
        match job.named with
        | some k =>
          if b.setState id k = sLENT ∨ b.setState id k = sSPILL then .wait w
          else if b.setState id k ≠ sFREE then .reject 0x0201
          else if waits || !free.contains k then .wait w
          else if long then
            (if free.length = 2 then .start (begin w [k, 1 - k] st)
             else .wait (w.setClaims id ((w.claimsOf id).filter (fun c => c.1 != k) ++ [(k, x.queue, x.seq)])))
          else .start (begin w [k] st)
        | none =>
          match (if waits then [] else free) with
          | [] => .wait w
          | k :: r =>
            if long then
              (if r.isEmpty then .wait (w.setClaims id ((w.claimsOf id).filter (fun c => c.1 != k) ++ [(k, x.queue, x.seq)]))
               else .start (begin w [0, 1] st))
            else .start (begin w [k] st)

/-- Rows r0 to r0 + n − 1 of an operand as values, without channel scales. -/
def Work.operandRows (c : Cx) (d : Desc) (i2 i3 r0 : Nat) : Nat → Work → Work × List (List Num)
  | 0, w => (w, [])
  | n + 1, w =>
    let (w, l) := w.rowValues c d r0 i2 i3 0 d.d0
    let (w, r) := Work.operandRows c d i2 i3 (r0 + 1) n w
    (w, l :: r)

/-- Rows of a preload tensor as 32-bit codes, part of each row (03 R77). -/
def Work.preloadRows (c : Cx) (d : Desc) (i2 i3 c0 cols r0 : Nat) : Nat → Work → Work × List Nat
  | 0, w => (w, [])
  | n + 1, w =>
    let (w, l) := w.rowCodes c d r0 i2 i3 c0 cols
    let (w, r) := Work.preloadRows c d i2 i3 c0 cols (r0 + 1) n w
    (w, l.map (·.1) ++ r)

/-- One output tile of one member of a job accumulated. -/
def Work.accumulate (w : Work) (c : Cx) (j : Job) (x : Wb) (t : Nat) (prior : Option AccTile) (ups : List (Nat × Nat)) (from_ : Nat) :
    Work × AccTile :=
  let g := x.geo
  let (m, r0, rows, c0, cols) := g.tile t
  match x.desc 0, x.desc 1 with
  | some a, some bd =>
    let i2 := m % a.d2
    let i3 := m / a.d2
    let (w, acc) := match prior with
      | some p => (w, p)
      | none =>
        if x.preload then
          match x.desc 3 with
          | some d =>
            let p := Work.preloadRows c d i2 i3 c0 cols r0 rows w
            (p.1, AccTile.start rows cols j.int (some p.2))
          | none => (w, AccTile.start rows cols j.int none)
        else (w, AccTile.start rows cols j.int none)
    let (w, A) := Work.operandRows c a i2 i3 r0 rows w
    let (w, B) := Work.operandRows c bd i2 i3 c0 cols w
    (w, (AccTile.terms j.int j.long (g.K / segTerms + 2) from_ acc A B).upset ups)
  | _, _ => (w, {})

/-- The scales of the two operands' channels at the rows and columns of an output tile: one for a folded or unscaled operand (07 R190). -/
def Work.sideScales (w : Work) (c : Cx) (d : Desc) (i2 i3 lo n : Nat) : Work × List (Option Nat) :=
  if d.format ≠ .i8 then (w, List.replicate n (some f32one))
  else if d.chaxis = 1 then
    let (w, l) := Work.scalePairs c d n w lo
    (w, l.map fun p => p.map (·.1))
  else if d.chaxis = 0 then (w, List.replicate n (some f32one))
  else
    let (w, p) := w.scalePair c d (if d.chaxis = 2 then i2 else i3)
    (w, List.replicate n (p.map (·.1)))

/-- Segments of a segmented product, by its declared terms; 0 for another (03 R83, R85). -/
def Job.segments (j : Job) : Nat := if j.int && j.long then (j.decl - b2n j.pre + segTerms - 1) / segTerms else 0

/-- What the records of a product's members say of its arithmetic mode (03 R85, R88): each member is part of the one product. -/
def Job.mark (j : Job) (x : Wb) : Wb :=
  if j.long then (if j.int then { x with flags := x.flags ||| 4, segments := j.segments } else { x with flags := x.flags ||| 8 }) else x

/-- One output tile of a job drained to the output of a member: converted and written, its lane verdict formed (03 R75, R90 to R92). Answers the
trap and the lane's outcome. DESIGN CHOICE (log entry 124): a raw INT32 drain applies no scale but reads the scale pairs of its operands all the
same, so a pair that is no positive finite number raises NUM.SCALENF there too, without making a NaR; 02 R65 says neither. -/
def Work.drainTile (w : Work) (id : Nat) (c : Cx) (j : Job) (x : Wb) (t : Nat) (acc : AccTile) : Work × Wb × TrapAt × Lane :=
  let g := x.geo
  let (m, r0, rows, c0, cols) := g.tile t
  match x.desc 0, x.desc 1, x.desc 2 with
  | some a, some bd, some o =>
    let i2 := m % a.d2
    let i3 := m / a.d2
    let (free, lane) := acc.lane j.int j.long j.decl j.segments w.base.free
    let w := { w with base := { w.base with free := free } }
    let codes := acc.els.map (El.result j.int j.long)
    let (w, sr) := if j.int then w.sideScales c a i2 i3 r0 rows else (w, [])
    let (w, sc) := if j.int then w.sideScales c bd i2 i3 c0 cols else (w, [])
    let vals := (acc.els.map (El.value j.int j.long)).zipIdx.map fun k =>
      if j.int then
        match sr.getD (k.2 / cols) none, sc.getD (k.2 % cols) none with
        | some p, some q => (k.1.mul (f32v p)).mul (f32v q)
        | _, _ => .nan
      else k.1
    let (b, x) := if sr.contains none || sc.contains none then w.base.once id x 0x010C else (w.base, x)
    let (b, x) := if acc.sat.isEmpty then (b, x) else b.once id { x with flags := x.flags ||| 2 } 0x0204
    let x := if lane = .unchecked then { x with flags := x.flags ||| 16 } else x
    let (w, x, trap) := { w with base := b }.outTile id c x o (fun r => o.index c0 r i2 i3) (x.oparg % 4096) t i2 i3 r0 c0 rows cols (o.fmt == 6 && !o.isStage) vals codes
    (w, x, trap, lane)
  | _, _, _ => (w, x, none, .unchecked)

/-- The verdict of the lane on one output tile: counts, and for a failure CHK.ABFT and the registers of 03 R93, R96. `first` says that this is the
tile's first check and no replay: only that one counts in the step's ABFT (12 R356). -/
def Base.laneReport (b : Base) (n m : Nat) (x : Wb) (t seg : Nat) (l : Lane) (first : Bool) : Base × Wb × Bool :=
  let b := b.noteWork (unitReq x.part ⟨cd n, m⟩ x.number false (if x.filler then 4 else 3)) 0x04 1
  match l with
  | .unchecked => ((b.countSat 1 0 48 .ACC_CNT_UNCHK (cd n) m).reportOf x (fun v => { v with tilesUnchk := v.tilesUnchk + 1 }), x, false)
  | .checked none none => ((b.countSat 1 0 48 .ACC_CNT_CHK (cd n) m).reportOf x (fun v => { v with tilesChk := v.tilesChk + 1 }), x, false)
  | .checked col row =>
    let b := b.countSat 1 0 48 .ACC_CNT_FAIL (cd n) m
    let b := b.wf 13 1 1 .ACC_STATUS (cd n) m
    let b := b.wr (BitVec.ofNat 64 x.number) .ACC_ABFT_WB (cd n) m
    let b := b.wr (BitVec.ofNat 64 (t % 2 ^ 32 + (match col with | some k => k * 2 ^ 32 + 2 ^ 39 | none => 0)
      + (match row with | some k => k * 2 ^ 40 + 2 ^ 47 | none => 0) + seg % 65536 * 2 ^ 48)) .ACC_ABFT_POS (cd n) m
    let b := b.raise 0x0B01 ⟨cd n, m⟩ (some x.part) x.number
    let b := if first then b.reportOf x fun v => { v with abft := v.abft + 1 } else b
    (b, { x with event := if x.event = 0 then 0x0B01 else x.event }, true)

/-- The sets that a running member uses: those its product holds, or those it may take now (03 R73, R74, R89). -/
def Work.mmSets (w : Work) (id : Nat) (x : Wb) (j : Job) : List Nat :=
  let free := w.freeSets id x.queue x.seq
  if j.sets ≠ [] then j.sets
  else if j.long then (if free.length = 2 then (match j.named with | some k => [k, 1 - k] | none => [0, 1]) else [])
  else match j.named with
    | some k => if free.contains k then [k] else []
    | none => free.take 1

/-- A long product that holds no set claims its first one once that is FREE, and waits with it until the other is (03 R89). -/
def Work.mmClaim (w : Work) (id : Nat) (x : Wb) (j : Job) : Work :=
  let free := w.freeSets id x.queue x.seq
  let first := match j.named with
    | some k => free.find? (· == k)
    | none => free.head?
  match first with
  | some k =>
    if j.long && j.sets.isEmpty && (w.claimsOf id).all fun c => !(c.2.1 == x.queue && c.2.2 == x.seq)
    then w.setClaims id (w.claimsOf id ++ [(k, x.queue, x.seq)]) else w
  | none => w

/-- What the registers of a product's sets show: set k its state, the others of a long product SIDE; a filler's sets stay LENT (03 R73, R94, R96). -/
def Work.mmShow (w : Work) (id : Nat) (sets : List Nat) (k state : Nat) (j : Job) (x : Wb) : Work :=
  if x.filler then w
  else
    let b := w.base.setPut id k state j.long x.part (j.chain.getD 0) (b2n j.pre + j.terms + x.geo.K)
    { w with base := (sets.filter (· != k)).foldl (fun (b : Base) i => b.setPut id i sSIDE j.long x.part 0 0) b }

/-- A member's output tile is accumulated: the product goes on with acc in it, held, on its way to its drain, or still accumulating (03 R72, R79 to
R81). k is its set. -/
def Work.mmNext (w : Work) (id : Nat) (x : Wb) (j : Job) (sets : List Nat) (k : Nat) (acc : AccTile) : Work :=
  let t := x.next
  let last := decide (t + 1 = x.geo.tiles)
  let accs := Map.put t acc j.accs
  let y := { x with next := t + 1 }
  if j.chain.isSome then
    if !last then ((w.setJob id { j with accs := accs, sets := sets }).mmShow id sets k sACCUM j x).setWb id y
    else if x.keep then
      ((w.setJob id { j with accs := accs, sets := sets, terms := j.terms + x.geo.K, heldSince := some w.base.time }).mmShow id sets k sHELD j x).setWb id y
    else
      (((w.setJob id { j with accs := accs, sets := sets, terms := j.terms + x.geo.K }).setDrains id
        (w.drains id ++ (List.range x.geo.tiles).map fun t => (k, t, x.queue, x.seq))).mmShow id sets k sDRAIN j x).setWb id y
  else
    (((w.setJob id { j with
        accs := accs
        sets := if x.filler then sets else []
        terms := if last then j.terms + x.geo.K else j.terms }).setDrains id
      (w.drains id ++ [(k, t, x.queue, x.seq)])).mmShow id sets k sDRAIN j x).setWb id y

/-- One output tile of a running MM accumulated (03 R70, R78, R79). -/
def Work.mm (w : Work) (id q seq : Nat) (ups : List (Nat × Nat)) : Work :=
  match w.wb? id q seq, w.jobOf id q seq with
  | some x, some j =>
    if x.phase = .running ∧ x.opcode = 1 ∧ !x.aborting ∧ !j.moved ∧ x.next < x.geo.tiles then
      match w.mmSets id x j with
      | [] => w.mmClaim id x j
      | k :: r =>
        let w := w.unclaim id x
        let (w1, acc) := w.accumulate (w.base.cx id x true) j x x.next (Map.find x.next j.accs) ups j.terms
        w1.mmNext id x j (k :: r) k acc
    else w
  | _, _ => w

/-- The sets that a drain from set k of a product occupies: both for a long one (03 R89). -/
def Job.spread (j : Job) (k : Nat) : List Nat := if j.long then [0, 1] else [k]

/-- The lending of a position. -/
def Work.lending (w : Work) (id : Nat) : Option LendSt := Map.find id w.tiles.lends
def Work.setLending (w : Work) (id : Nat) (l : Option LendSt) : Work :=
  { w with tiles := { w.tiles with lends := match l with | some l => Map.put id l w.tiles.lends | none => Map.del id w.tiles.lends } }

/-- PHASE of ACC_LEND (03 R96). -/
def Base.lendPhase (b : Base) (id phase : Nat) : Base :=
  match b.tileOf id with
  | some (n, m) => b.wf 0 2 phase .ACC_LEND (cd n) m
  | none => b

/-- The lending to waybill (q, seq), if it is that of the position, ends: its sets, where it holds them, return to FREE (03 R94, 18 R507). -/
def Work.lendOver (w : Work) (id q seq : Nat) : Work :=
  match w.lending id with
  | some l =>
    if l.queue = q ∧ l.seq = seq then
      let b := if w.lent id ∧ l.spilled.isNone then w.base.setsTo id sFREE [0, 1] else w.base
      ({ w with base := b.lendPhase id 0 }).setLending id none
    else w
  | none => w

/-- A failed product holds nothing while it waits for its replay; a filler's tile is lent no more (03 R93, 18 R507). -/
def Work.parkJob (w : Work) (id : Nat) (j : Job) : Work :=
  let w := j.members.foldl (fun (w : Work) m => w.lendOver id m.1 m.2) w
  { w with base := w.base.setsTo id sFREE j.sets }.setJob id { j with sets := [] }

/-- A job has delivered its result, or failed: its sets return to FREE and its members end with one status, in chain order (03 R81, 04 R121). -/
def Work.endJob (w : Work) (id : Nat) (j : Job) (status : Nat) : Work :=
  let w := j.members.foldl (fun (w : Work) m =>
    match w.wb? id m.1 m.2 with
    | some x => w.setWb id ((j.mark x).endWith status)
    | none => w) w
  { w with base := w.base.setsTo id sFREE j.sets }.dropJob id j

/-- An output tile has left its accumulator: its set returns to FREE once no output tile of it is left to drain (03 R75). -/
def Work.drainFreed (w : Work) (id k : Nat) (rest : List (Nat × Nat × Nat × Nat)) (j : Job) (x : Wb) : Work :=
  let b := if x.filler || rest.any (fun d => d.1 == k) then w.base else w.base.setsTo id sFREE (j.spread k)
  ({ w with base := b }.setJob id j).setWb id x

/-- A drained output tile trapped: its record is made, the output tiles of its waybill that wait are not drained, and its product ends TRAPPED
(02 R61). DESIGN CHOICE (log entry 155): a waybill with an output tile whose lane check failed that traps at an output tile ends TRAPPED, and is not
replayed; 02 R61 and 03 R93 give no order between the two. -/
def Work.drainTrapped (w : Work) (id : Nat) (rest : List (Nat × Nat × Nat × Nat)) (x : Wb) (j : Job) (tr : Nat × Nat × Nat) : Work :=
  let (b, y) := w.base.takeTrap id x tr
  let mine := fun (d : Nat × Nat × Nat × Nat) => d.2.2.1 == x.queue && d.2.2.2 == x.seq
  let b := if x.filler then b else b.setsTo id sFREE ((rest.filter mine).flatMap fun d => j.spread d.1)
  (({ w with base := b }.setWb id y).setDrains id (rest.filter fun d => !mine d)).endJob id j 0x13

/-- The oldest drain of a tile: one output tile converted and written, its set returned (03 R75, R90 to R93, 02 R61). With the last one the product
ends: DONE, or DONE_ORPHAN where the hold limit made it drain (03 R82); or it waits for its replay. One that an abort has named is at its boundary,
and drains no further (04 R122). -/
def Work.accDrain (w : Work) (id : Nat) : Work :=
  match w.drains id with
  | [] => w
  | (k, t, q, seq) :: rest =>
    match w.wb? id q seq, w.jobOf id q seq, w.base.tileOf id with
    | some x, some j, some (n, m) =>
      match (if x.aborting then none else Map.find t j.accs) with
      | none => if x.aborting then w else w.setDrains id rest
      | some acc =>
        let (w, x, trap, lane) := w.drainTile id (w.base.cx id x) j x t acc
        let (b, x, bad) := w.base.laneReport n m x t acc.badSegment lane true
        let x := { x with done := x.done + 1 }
        let j := { j with accs := Map.del t j.accs, failed := j.failed || bad }
        let w := ({ w with base := b }.setDrains id rest).drainFreed id k rest j x
        match trap with
        | some tr => w.drainTrapped id rest x j tr
        | none =>
          if x.done = x.geo.tiles then
            if j.failed then w.parkJob id j else w.endJob id j (if x.aux = [5] then 0x05 else 0x01)
          else w
    | _, _, _ => w.setDrains id rest

/-- A chain or waybill replayed whole by another tile, output tile by output tile (03 R93), up to the output tile that traps (02 R61). Answers
whether a check failed, and the trap. -/
def Work.replayTiles (id : Nat) (n m : Nat) (j : Job) (ups : List (Nat × Nat)) : Nat → Nat → Work → Wb → Work × Wb × Bool × TrapAt
  | 0, _, w, x => (w, x, false, none)
  | k + 1, t, w, x =>
    let c : Cx := { w.base.cx id x with pf := false }
    let (w, acc, _) := j.members.foldl (fun (s : Work × Option AccTile × Nat) mem =>
      match (if mem = (x.queue, x.seq) then some x else s.1.wb? id mem.1 mem.2) with
      | some y =>
        let (w, a) := s.1.accumulate (s.1.base.cx id y) j y t s.2.1 [] s.2.2
        (w, some a, s.2.2 + y.geo.K)
      | none => s) (w, none, 0)
    let acc := (acc.getD {}).upset ups
    let (w, x, trap, lane) := w.drainTile id c j x t acc
    let (b, x, bad) := w.base.laneReport n m x t acc.badSegment lane false
    match trap with
    | some _ => ({ w with base := b }, x, bad, trap)
    | none =>
      let (w, x, r, trap) := Work.replayTiles id n m j [] k (t + 1) { w with base := b } x
      (w, x, bad || r, trap)

/-- How a replay ends (02 R61, 03 R93, 12 R356): ACC_ABFT_PEER and the verdict say whether it matched, the trap of a replay that matched is taken, and
the members end with the status. `done` is the status of a replay that neither failed nor trapped. Answers the tile to be fenced. -/
def Work.replayEnd (w : Work) (id n m k : Nat) (j : Job) (x : Wb) (bad : Bool) (trap : TrapAt) (done : Nat) : Work × Option (Nat × Nat) :=
  let b := w.base.wr (BitVec.ofNat 64 (n + k * 8 + (if bad then 2 else 1) * 1024)) .ACC_ABFT_PEER (cd n) m
  let b := if j.moved && !bad then b
    else b.reportOf x fun v =>
      if bad then { v with replayFail := v.replayFail + j.members.length } else { v with replayed := true }
  let x := { x with flags := x.flags ||| 64, tile := tileCode n k }
  let (b, x) := match trap with
    | some tr => if bad then (b, x) else b.takeTrap id x tr
    | none => (b, x)
  (({ w with base := b }.setWb id x).endJob id j (if bad then 0x14 else if trap.isSome then 0x13 else done), if bad then some (n, m) else none)

/-- A waybill as its replay begins: the first run's counts, NONFINITE and position are cleared, since the replay is the run whose outcome stands.
DESIGN CHOICE (log entry 125): 02 R60 says that NONFINITE is never cleared during a waybill and 03 R93 that the replay's completion stands as the
waybill's own. -/
def Wb.replayed (x : Wb) : Wb := { x with ovf := 0, van := 0, counts := [], nf := none, flags := x.flags / 2 * 2 }

/-- A product has been HELD longer than a limit. -/
def Job.heldPast (j : Job) (limit now : Nat) : Bool :=
  match j.heldSince with
  | some t => decide (t + limit < now)
  | none => false

/-- A held product goes to its drain, behind the drains that the tile has already, to the output of its last KEEP member; its chain is no more
(03 R75, R82). -/
def Work.orphanDrain (w : Work) (id : Nat) (j : Job) (x : Wb) : Work :=
  let k := j.sets.headD 0
  let w := (w.setJob id { j with chain := none, heldSince := none }).setDrains id (w.drains id ++ j.accs.map fun a => (k, a.1, x.queue, x.seq))
  { w with base := w.base.setPut id k sDRAIN j.long x.part 0 (b2n j.pre + j.terms) }.setWb id { x with aux := [5] }

/-- HOLD_LIMIT_EXPIRY (03 R82): a HELD set past ACC_HOLD_LIMIT is drained to the output of the last KEEP member; its chain will complete DONE_ORPHAN. -/
def Work.holdExpiry (w : Work) (id : Nat) : Work :=
  match w.base.tileOf id with
  | none => w
  | some (n, m) =>
    match (w.jobs id).find? fun j => j.heldPast (w.base.rf 0 32 .ACC_HOLD_LIMIT (cd n) m) w.base.time with
    | none => w
    | some j =>
      match j.members.getLast? with
      | none => w
      | some mem =>
        match w.wb? id mem.1 mem.2 with
        | none => w
        | some x =>
          { w with base := w.base.accEvent n m 4 0x0205 (some x.part) x.number }.orphanDrain id j
            { x with event := if x.event = 0 then 0x0205 else x.event }

/-- A job ended by an abort or with its unit: its sets are drained without output, its members complete with one status (04 R121, R122). -/
def Work.abortJob (w : Work) (id : Nat) (j : Job) (status : Nat) : Work :=
  let mine := fun (d : Nat × Nat × Nat × Nat) => j.members.contains (d.2.2.1, d.2.2.2)
  let b := if w.base.setState id 0 = sLENT then w.base else w.base.setsTo id sFREE (((w.drains id).filter mine).flatMap fun d => j.spread d.1)
  let w := { w with base := b }.setDrains id ((w.drains id).filter fun d => !mine d)
  let w := j.members.foldl (fun (w : Work) m =>
    match w.wb? id m.1 m.2 with
    | some x => w.setWb id { x with posA := x.done }
    | none => w) w
  w.endJob id j status

end Sys2Proof.Machine
end

