-- ==== Sys2Proof/Machine/Movers.lean ====
section
/-! DEFINITION. LOAD, STORE and CONVERT (06 R162 to R166, 07 R192, R193). -/

namespace Sys2Proof.Machine

/-- Output tiles of a tensor: rows and columns of tiles, and matrices (02 R60). -/
def Desc.geo (d : Desc) : Geo :=
  { M := d.d1, K := 0, N := d.d0, tr := (d.d1 + 127) / 128, tc := (d.d0 + 127) / 128, nb := d.d2 * d.d3 }

/-- Exact values of n elements of a row of a source, the channel scale of I8 applied (02 R44). -/
def Work.sourceRow (w : Work) (id : Nat) (c : Cx) (x : Wb) (d : Desc) (i1 i2 i3 lo n : Nat) : Work × Wb × List Num :=
  let (w, l) := w.rowValues c d i1 i2 i3 lo n
  if d.format ≠ .i8 ∨ d.scale = 0 then (w, x, l)
  else
    let (w, ps) := if d.chaxis = 0 then Work.scalePairs c d n w lo
      else ((w.scalePair c d (d.channel lo i1 i2 i3)).1, List.replicate n (w.scalePair c d (d.channel lo i1 i2 i3)).2)
    let (b, x) := if ps.contains none then w.base.once id x 0x010C else (w.base, x)
    ({ w with base := b }, x, (l.zip ps).map fun c => match c.2 with | some p => c.1.mul (f32v p.1) | none => .nan)

/-- Rows of a source window: n rows from row r, m columns from column lo. -/
def Work.sourceRows (id : Nat) (c : Cx) (d : Desc) (i2 i3 lo m : Nat) : Nat → Nat → Work → Wb → Work × Wb × List (List Num)
  | 0, _, w, x => (w, x, [])
  | n + 1, r, w, x =>
    let (w, x, l) := w.sourceRow id c x d r i2 i3 lo m
    let (w, x, ls) := Work.sourceRows id c d i2 i3 lo m n (r + 1) w x
    (w, x, l :: ls)

/-- Rows turned into columns. -/
def transposeRows (m : Nat) (rows : List (List Num)) : List (List Num) :=
  (List.range m).map fun j => rows.map fun r => r.getD j .zero

/-- The window of a LOAD or STORE (06 R163): first column, TRANSPOSE, first row. -/
def Wb.winCol (x : Wb) : Nat := x.oparg % 16384 * 128
def Wb.transpose (x : Wb) : Bool := x.oparg.testBit 14
def Wb.winRow (x : Wb) : Nat := x.arg

/-- A LOAD that copies its window unchanged (06 R163). -/
def copyLoad (s d : Desc) (tr : Bool) : Bool :=
  s.fmt == d.fmt && s.blk == d.blk && (s.scale == 0) == (d.scale == 0) && !tr

/-- Bytes of elements with poison written as 05 R150 gives for the destination's format. -/
def unpoison (d : Desc) (l : List (Nat × Bool)) : List Byte :=
  l.flatMap fun c => leBytes d.ebytes (if c.2 then d.format.poison else c.1)

/-- The channels of an I8 tensor that a window covers: first and count (06 R163, R165). -/
def windowChannels (d : Desc) (row col d0 d1 : Nat) : Nat × Nat :=
  if d.chaxis = 0 then (col, d0) else if d.chaxis = 1 then (row, d1) else (0, d.dim d.chaxis)

/-- n bytes copied from one address field to another, poison turned into 0xFF bytes for scale arrays, or into canonical NaNs for pairs. -/
def Work.copyScales (w : Work) (c : Cx) (s d : Desc) (from_ to_ n : Nat) (pairs : Bool) : Work :=
  let (w, l) := w.fieldRead c s.sealchk from_ n
  let bytes := if pairs then (elements 4 (n / 4) l).flatMap fun e => leBytes 4 (if e.2 then 0x7FC00000 else e.1)
    else l.map fun e => if e.2 then 0xFF else e.1
  if d.scale = 0 then w else w.fieldWrite c to_ bytes

/-- The scales of a window copied (06 R163, R165): `load` copies from the window of s, a STORE into the window of d. -/
def Work.moveScales (w : Work) (c : Cx) (s d : Desc) (load : Bool) (row col : Nat) : Work :=
  let big := if load then s else d
  let small := if load then d else s
  if s.scale = 0 then w
  else if s.format = .i8 then
    let (lo, n) := windowChannels big row col small.d0 small.d1
    if load then w.copyScales c s d (s.scale + 8 * lo) d.scale (8 * n) true
    else w.copyScales c s d s.scale (d.scale + 8 * lo) (8 * n) true
  else if s.format.isBlock then
    (List.range (small.d2 * small.d3)).foldl (fun (w : Work) m =>
      (List.range small.d1).foldl (fun (w : Work) r =>
        let i2 := m % small.d2
        let i3 := m / small.d2
        let bigA := big.scale + ((i3 * big.d2 + i2) * big.d1 + row + r) * big.rowBlocks + col / big.block
        let smallA := small.scale + ((i3 * small.d2 + i2) * small.d1 + r) * small.rowBlocks
        if load then w.copyScales c s d bigA smallA small.rowBlocks false else w.copyScales c s d smallA bigA small.rowBlocks false) w) w
  else w

/-- A poisoned element of a Qm.n tensor that a copy reads becomes 0 and raises NUM.FIXNAN, once for the waybill (02 R65, 05 R150). -/
def Work.copyFixnan (w : Work) (id : Nat) (x : Wb) (d : Desc) (bad : Bool) : Work × Wb :=
  match d.format, bad with
  | .q _, true =>
    let (b, x) := w.base.once id x 0x0108
    ({ w with base := b }, x)
  | _, _ => (w, x)

/-- Every row of a window copied unchanged. Answers whether a row that a LOAD read held poison. -/
def Work.copyRows (w : Work) (c : Cx) (s d : Desc) (load : Bool) (row col : Nat) : Work × Bool :=
  let small := if load then d else s
  (List.range (small.d2 * small.d3)).foldl (fun (a : Work × Bool) m =>
    (List.range small.d1).foldl (fun (a : Work × Bool) r =>
      let i2 := m % small.d2
      let i3 := m / small.d2
      if load then
        let (w, l) := a.1.rowCodes c s (row + r) i2 i3 col small.d0
        (w.fieldWrite c (d.base + d.rowOff r i2 i3) (unpoison d l), a.2 || l.any (·.2))
      else
        let (w, l) := a.1.fieldRead c false (s.base + s.rowOff r i2 i3) (small.d0 * s.ebytes)
        (w.fieldWrite c (d.base + d.rowOff (row + r) i2 i3 + col * d.ebytes) (l.map (·.1)), a.2)) a) (w, false)

/-- The NONFINITE of a window copied unchanged is that of what it writes (02 R60): a copy is no conversion and sets none. -/
def Work.finish (w : Work) (id : Nat) (x : Wb) (status : Nat := 1) : Work := w.setWb id (x.endWith status)

/-- Output tiles of a conversion, in order, until one traps (02 R61). `src` gives a tile's exact values. -/
def Work.convertTiles (id : Nat) (c : Cx) (d : Desc) (hist : Nat) (index : Nat → Nat → Nat → Nat → Nat)
    (src : Nat → Nat → Nat → Nat → Nat → Nat → Work → Wb → Work × Wb × List Num) : Nat → Nat → Work → Wb → Work × Wb
  | 0, _, w, x => (w, x.endWith 1)
  | k + 1, t, w, x =>
    let (m, r0, rows, c0, cols) := d.geo.tile t
    let i2 := m % d.d2
    let i3 := m / d.d2
    let (w, x, vals) := src i2 i3 r0 rows c0 cols w x
    let (w, x, trap) := w.outTile id c x d (fun r => index c0 r i2 i3) hist t i2 i3 r0 c0 rows cols false vals []
    let x := { x with done := x.done + 1 }
    match trap with
    | some tr =>
      let (b, x) := w.base.takeTrap id x tr
      ({ w with base := b }, x.endWith 0x13)
    | none => Work.convertTiles id c d hist index src k (t + 1) w x

/-- Row-major index in the source of an element of a converting LOAD's output (02 R55, 06 R164). -/
def loadIndex (s : Desc) (x : Wb) (c0 r i2 i3 : Nat) : Nat :=
  if x.transpose then ((i3 * s.d2 + i2) * s.d0 + x.winCol + r) * s.d1 + x.winRow + c0
  else ((i3 * s.d2 + i2) * s.d1 + x.winRow + r) * s.d0 + x.winCol + c0

/-- The exact values of an output tile of a converting LOAD: its window of the source, transposed where TRANSPOSE asks (06 R163, R164). -/
def loadSource (id : Nat) (c : Cx) (s : Desc) (x0 : Wb) (i2 i3 r0 rows c0 cols : Nat) (w : Work) (x : Wb) : Work × Wb × List Num :=
  if x0.transpose then
    let (w, x, l) := Work.sourceRows id c s i2 i3 (x0.winCol + r0) rows cols (x0.winRow + c0) w x
    (w, x, (transposeRows rows l).flatten)
  else
    let (w, x, l) := Work.sourceRows id c s i2 i3 (x0.winCol + c0) cols rows (x0.winRow + r0) w x
    (w, x, l.flatten)

/-- LOAD (06 R163, R164). -/
def Work.load (w : Work) (id q seq : Nat) : Work :=
  match w.wb? id q seq with
  | some x =>
    match x.desc 0, x.desc 1 with
    | some s, some d =>
      if x.phase = .running ∧ x.opcode = 2 ∧ !x.aborting then
        let c := w.base.cx id x true
        if copyLoad s d x.transpose then
          let (w, bad) := w.copyRows c s d true x.winRow x.winCol
          let (w, x) := w.copyFixnan id x d bad
          (w.moveScales c s d true x.winRow x.winCol).finish id x
        else
          let (w, x) := Work.convertTiles id (w.base.cx id x) d 0 (loadIndex s x) (loadSource id c s x) d.geo.tiles 0 w x
          w.setWb id x
      else w
    | _, _ => w
  | none => w

/-- STORE (06 R165). -/
def Work.storeWb (w : Work) (id q seq : Nat) : Work :=
  match w.wb? id q seq with
  | some x =>
    match x.desc 0, x.desc 1 with
    | some s, some d =>
      if x.phase = .running ∧ x.opcode = 3 ∧ !x.aborting then
        let c := w.base.cx id x
        ((w.copyRows c s d false x.winRow x.winCol).1.moveScales c s d false x.winRow x.winCol).finish id x
      else w
    | _, _ => w
  | none => w

/-- CONVERT's operand bits (07 R192). -/
def Wb.hist (x : Wb) : Nat := x.oparg % 4096
def Wb.amaxOnly (x : Wb) : Bool := x.oparg.testBit 12
def Wb.foldOn (x : Wb) : Bool := x.oparg.testBit 13
def Wb.foldAxis (x : Wb) : Nat := x.oparg / 16384

/-- One element of CONVERT's source by its row-major index, folded where FOLD is set (06 R166, 07 R192). -/
def Work.convertElem (w : Work) (id : Nat) (c : Cx) (x : Wb) (s : Desc) (i : Nat) : Work × Wb × Num :=
  let (i0, i1, i2, i3) := s.coords i
  let (w, x, l) := w.sourceRow id c x s i1 i2 i3 i0 1
  let v := l.headD .nan
  if x.foldOn then
    match x.desc 1 with
    | some f =>
      let (w, p) := w.scalePair c f ([i0, i1, i2, i3].getD x.foldAxis 0)
      match p with
      | some p => (w, x, v.mul (f32v p.1))
      | none =>
        let (b, x) := w.base.once id x 0x010C
        ({ w with base := b }, x, .nan)
    | none => (w, x, v)
  else (w, x, v)

/-- Elements i, i + 1, … of CONVERT's source. -/
def Work.convertElems (id : Nat) (c : Cx) (s : Desc) : Nat → Nat → Work → Wb → Work × Wb × List Num
  | 0, _, w, x => (w, x, [])
  | n + 1, i, w, x =>
    let (w, x, v) := w.convertElem id c x s i
    let (w, x, r) := Work.convertElems id c s n (i + 1) w x
    (w, x, v :: r)

/-- The rows of an output tile of CONVERT. -/
def Work.convertRows (id : Nat) (c : Cx) (s d : Desc) (i2 i3 c0 cols : Nat) : Nat → Nat → Work → Wb → Work × Wb × List Num
  | 0, _, w, x => (w, x, [])
  | n + 1, r, w, x =>
    let (w, x, l) := Work.convertElems id c s cols (d.index c0 r i2 i3) w x
    let (w, x, m) := Work.convertRows id c s d i2 i3 c0 cols n (r + 1) w x
    (w, x, l ++ m)

/-- The exact values of an output tile of CONVERT. -/
def convertSource (id : Nat) (c : Cx) (s d : Desc) (i2 i3 r0 rows c0 cols : Nat) (w : Work) (x : Wb) : Work × Wb × List Num :=
  Work.convertRows id c s d i2 i3 c0 cols rows r0 w x

/-- The largest magnitude of each channel of values given in row-major order (07 R193). -/
def channelMaxima (s : Desc) (l : List Num) : List (Nat × Nat) :=
  l.zipIdx.foldl (fun m v => gatherMax m (s.channel (s.coords v.2).1 (s.coords v.2).2.1 (s.coords v.2).2.2.1 (s.coords v.2).2.2.2) v.1) []

/-- CONVERT (06 R166, 07 R192, R193). -/
def Work.convertWb (w : Work) (id q seq : Nat) : Work :=
  match w.wb? id q seq with
  | some x =>
    match x.desc 0 with
    | some s =>
      if x.phase = .running ∧ x.opcode = 4 ∧ !x.aborting then
        let c := w.base.cx id x true
        if x.amaxOnly then
          let (w, x, l) := Work.convertElems id c s s.count 0 w x
          (w.sendMaxima x.part x.hist q seq (channelMaxima s l)).finish id x
        else
          match x.desc 2 with
          | some d =>
            let (w, x) := Work.convertTiles id (w.base.cx id x) d x.hist d.index (convertSource id c s d) d.geo.tiles 0 w x
            w.setWb id x
          | none => w
      else w
    | none => w
  | none => w

end Sys2Proof.Machine
end

