-- ==== Sys2Proof/Machine/Ring.lean ====
section
/-! DEFINITION. The optical ring: links, frames, retry and credits (11 R301 to R316, 12 R347, R348), lines (R317, R318), and what a ring engine does
for its waybills as they start and as frames arrive (R320 to R332). -/

namespace Sys2Proof.Machine

/-- Ring identity, position and size (11 R338). -/
def Base.ringId (b : Base) : Nat := b.rf 0 16 .RING_CFG 40
def Base.ringPos (b : Base) : Nat := b.rf 16 6 .RING_CFG 40
def Base.ringSize (b : Base) : Nat := b.rf 22 7 .RING_CFG 40

/-- Fields of a line (11 R338). In solo every line has SIZE 1 (R311). -/
def Base.lineStride (b : Base) (l : Nat) : Nat := b.rf 0 6 .RING_LINE 40 0 l
def Base.lineSize (b : Base) (l : Nat) : Nat := if b.ringSize = 1 then 1 else b.rf 6 7 .RING_LINE 40 0 l
def Base.lineOn (b : Base) (l : Nat) : Bool := b.rf 13 1 .RING_LINE 40 0 l == 1
def Base.linePart (b : Base) (l : Nat) : Nat := b.rf 14 3 .RING_LINE 40 0 l
def Base.lineEpoch (b : Base) (l : Nat) : Nat := b.rf 32 16 .RING_LINE 40 0 l
def Base.lineMask (b : Base) (l : Nat) : Nat := (b.rd .RING_LINEX 40 0 l).toNat

/-- The virtual channel of a partition (11 R318). -/
def Base.vcPart (b : Base) (v : Nat) : Option Nat := if b.rf 3 1 .RING_VC 40 0 v = 1 then some (b.rf 0 3 .RING_VC 40 0 v) else none
def Base.vcShare (b : Base) (v : Nat) : Nat := min 64 (b.rf 4 7 .RING_VC 40 0 v)

/-- The members of the group of a position, by rank (11 R317). Bit P of the mask stands for position P (log entry 41). -/
def lineMembers (pos stride size mask : Nat) : List Nat :=
  let base := pos - pos / stride % size * stride
  ((List.range size).map fun i => base + i * stride).filter fun p => !mask.testBit p

/-- A line layout is valid for a device (11 R317): σ × Z divides the ring size, and X leaves this device and so some member. -/
def lineValid (ring pos stride size mask : Nat) : Bool :=
  decide (1 ≤ stride ∧ stride ≤ 63 ∧ 1 ≤ size ∧ size ≤ 64) && ring % (stride * size) == 0 && decide (0 < ring)
    && (lineMembers pos stride size mask).contains pos

/-- East-facing engines send east (11 R301). -/
def facesEast (e : Nat) : Bool := decide (8 ≤ e)

/-- A register field of engine e. -/
def Base.eng (b : Base) (e lo w : Nat) (r : Reg) : Nat := b.rf lo w r (io (e / 4)) (e % 4)
def Base.engSet (b : Base) (e lo w x : Nat) (r : Reg) : Base := b.wf lo w x r (io (e / 4)) (e % 4)
def Base.engCount (b : Base) (e x : Nat) (r : Reg) : Base := b.countSat x 0 48 r (io (e / 4)) (e % 4)

/-- RING_LINKST.STATE (11 R337). -/
def Base.linkState (b : Base) (e : Nat) : Nat := b.eng e 0 3 .RING_LINKST
def Base.inService (b : Base) (e : Nat) : Bool := b.linkState e == 4

def Work.opt (w : Work) (e : Nat) : RingEng := (Map.find e w.ring.engines).getD {}
def Work.setOpt (w : Work) (e : Nat) (x : RingEng) : Work :=
  { w with ring := { w.ring with engines := if x = {} then Map.del e w.ring.engines else Map.put e x w.ring.engines } }

/-- Frame length: header, payload in 32-byte units, trailer; at least 256 bytes (11 R306, R307). -/
def OutFrame.length (f : OutFrame) : Nat := max 256 ((f.payload.length + 63) / 32 * 32)

/-- The types that take credits of their virtual channel: every type but CREDIT, RETRY, TRAIN and TEST (11 R310). -/
def takesCredit (type : Nat) : Bool := type == 0 || 5 ≤ type

def OutFrame.units (f : OutFrame) : Nat := if takesCredit f.type then (f.length + 255) / 256 else 0

/-- A list of numbers with one changed. -/
def setAt (l : List Nat) (i v : Nat) : List Nat := l.zipIdx.map fun c => if c.2 = i then v else c.1

/-- The first waiting frame that may be sent: frames of one virtual channel keep their order, and `starved` are the channels with a frame that waits
for credits. Frames that take no credits wait for none (11 R309, R310). -/
def RingEng.nextFrame (e : RingEng) (starved : List Nat) : List OutFrame → Option OutFrame
  | [] => none
  | f :: fs =>
    if !takesCredit f.type then some f
    else if starved.contains f.vc then e.nextFrame starved fs
    else if f.units ≤ e.credits.getD f.vc 0 then some f
    else e.nextFrame (f.vc :: starved) fs

/-- Waiting frames are sent while the link serves, the retry buffer has room and their channels have credits (11 R309, R310). -/
def RingEng.pump : Nat → RingEng → RingEng
  | 0, e => e
  | n + 1, e =>
    match e.nextFrame [] e.queue with
    | none => e
    | some f =>
      if e.sent.length < 128 ∧ (e.sent.map (·.2.length)).sum + f.length ≤ 2 ^ 21 then
        RingEng.pump n
          { e with queue := e.queue.erase f, sent := e.sent ++ [(e.txSeq, f)], txSeq := (e.txSeq + 1) % 2 ^ 32
                   credits := setAt e.credits f.vc (e.credits.getD f.vc 0 - f.units) }
      else e

/-- The work of a ring engine on a frame (17 R493, R494): for the partition of the frame's line, or without a cause for the link's own frames. -/
def Base.noteRing (b : Base) (e : Nat) (f : OutFrame) (event adds : Nat) : Base :=
  let own := takesCredit f.type
  b.note { die := io (e / 4), unit := e % 4, event := event, adds := adds, cls := if own then 3 else 6, identity := if own then some (0xA0 + e) else none,
           part := if own then some (b.linePart f.line) else none, addr := none, waybill := 0 }

/-- The AUX field: Q of a reduction's figures (11 R325), as it came in a frame that is forwarded, else open (log entry 40). -/
def OutFrame.auxField (f : OutFrame) : Nat :=
  match f.body with
  | .none | .figures _ => f.aux
  | body => if f.src.isSome then f.aux else (Config.frameAux body).toNat

/-- The payload of a frame as sent: its data, and bytes that the manual does not give up to its length (11 R307, log entry 40). -/
def OutFrame.fullPayload (f : OutFrame) : List Byte :=
  f.payload ++ (upto (f.length - 32 - f.payload.length) f.payload.length).map (Config.frameFill f.body)

/-- Bytes 0 to L − 5 of a frame that position `pos` sends (11 R307). -/
def OutFrame.head (f : OutFrame) (pos alive ack : Nat) (fold : Bool) : List Byte :=
  let epoch := if f.type = 0 ∨ f.type = 5 ∨ f.type = 6 then f.epoch else 0
  leBytes 1 (f.type + 16 * b2n fold + 32 * f.vc) ++ leBytes 1 alive ++ leBytes 2 (f.length / 32 - 1 + 512 * f.line) ++ leBytes 1 (f.src.getD pos)
    ++ leBytes 1 f.dst ++ leBytes 2 epoch ++ leBytes 3 f.tag ++ leBytes 1 f.kind ++ leBytes 4 f.offset ++ leBytes 2 f.step ++ leBytes 1 f.origin
    ++ leBytes 1 0 ++ leBytes 4 f.auxField ++ f.fullPayload ++ leBytes 4 ack

/-- The fold prefix of a frame that is not a TRAIN frame, by its sequence number or TEST index, and the position and the engine that receive it
(12 R348). -/
def foldAt (ring n pos engine : Nat) : List Byte := leBytes 4 n ++ leBytes 1 pos ++ leBytes 1 engine ++ leBytes 2 ring

/-- The fold prefix of a TRAIN frame (12 R348). -/
def foldTrain (n : Nat) : List Byte := leBytes 4 n ++ [0xFF, 0xFF, 0xFF, 0xFF]

/-- The ACK field: the last ALIVE received good, and ACKV (11 R307). -/
def RingEng.ackField (x : RingEng) : Nat := if x.heard then (x.rxSeq + 2 ^ 32 - 1) % 256 + 256 else 0

/-- The bytes of a frame on the fibres of engine e: in service mode ALIVE carries the sequence; in folded mode it is zero and the check covers the
fold prefix (11 R307, R308, 12 R347, R348). -/
def Base.frameWire (b : Base) (e : Nat) (x : RingEng) (seq : Nat) (fold : Bool) (f : OutFrame) : List Byte :=
  let l := f.head b.ringPos (if fold then 0 else seq % 256) x.ackField fold
  let pre := if !fold then [] else if f.type = 3 then foldTrain seq else foldAt b.ringId seq (b.eng e 4 6 .RING_LINKST) (Nat.xor e 8)
  l ++ leBytes 4 (frameCfg.check (pre ++ l))

/-- Frames put on the fibres of engine e, each with its sequence number or index and its mode: counted as sent (11 R337). -/
def Work.emit (w : Work) (e : Nat) (l : List (Nat × Bool × OutFrame)) : Work :=
  let x := w.opt e
  let b := l.foldl (fun (b : Base) s => b.noteRing e s.2.2 0x60 s.2.2.length) w.base
  let wire := l.map fun s => w.base.frameWire e x s.1 s.2.1 s.2.2
  { w with base := b.engCount e l.length .RING_CNT_TX }.setOpt e { x with wire := wire }

/-- Credits of a frame that has left the receive buffer of engine e (11 R310). -/
def Work.owe (w : Work) (e vc n : Nat) : Work :=
  let x := w.opt e
  w.setOpt e { x with owed := setAt x.owed vc (x.owed.getD vc 0 + n) }

/-- A forwarded frame leaves the buffer of the engine on which it came (11 R310). -/
def Work.passed (w : Work) (f : OutFrame) : Work :=
  match f.via with
  | some e => w.owe e f.vc f.units
  | none => w

/-- A link in service sends what it may (11 R309, R310). -/
def Work.ringPump (w : Work) (e : Nat) : Work :=
  if w.base.inService e then
    let x := w.opt e
    let y := x.pump (x.queue.length + 1)
    let l := y.sent.drop x.sent.length
    if l.isEmpty then w
    else l.foldl (fun (w : Work) s => w.passed s.2) ((w.setOpt e y).emit e (l.map fun s => (s.1, false, s.2)))
  else w

/-- A frame handed to engine e. -/
def Work.ringQueue (w : Work) (e : Nat) (f : OutFrame) : Work :=
  let x := w.opt e
  (w.setOpt e { x with queue := x.queue ++ [f] }).ringPump e

/-- The engines of a direction that carry frames: those in service, or all eight while none is (11 R321). -/
def Base.dirEngines (b : Base) (east : Bool) : List Nat :=
  let all := upto 8 (if east then 8 else 0)
  let l := all.filter b.inService
  if l.isEmpty then all else l

/-- Frame j of a waybill on the j-th engine of its direction, cyclically (11 R321). -/
def Work.ringSpread (w : Work) (east : Bool) (j : Nat) (f : OutFrame) : Work :=
  let l := w.base.dirEngines east
  w.ringQueue (l.getD (j % l.length) 0) f

def Work.ringOp? (w : Work) (p : RingOp → Bool) : Option RingOp := w.ring.ops.find? p
def RingOp.same (a b : RingOp) : Bool := a.queue == b.queue && a.seq == b.seq
def Work.setOp (w : Work) (o : RingOp) : Work :=
  { w with ring := { w.ring with ops := w.ring.ops.map fun x => if x.same o then o else x } }

/-- The fields that every frame of a waybill carries. -/
def RingOp.frame (o : RingOp) (type dst : Nat) : OutFrame :=
  { type := type, vc := o.vc, line := o.line, dst := dst, epoch := o.epoch, tag := o.tag, step := o.step % 65536, owner := some (o.queue, o.seq) }

/-- The number that a put gives its frames: its waybill's queue and sequence number (log entry 134). No put has number 0. -/
def RingOp.number (o : RingOp) : Nat := o.queue * 2 ^ 32 + o.seq + 1

/-- A frame of a waybill sent in a direction. -/
def Work.opSend (w : Work) (o : RingOp) (east : Bool) (f : OutFrame) : Work × RingOp :=
  let w := w.ringSpread east (if east then o.sentE else o.sentW) f
  let o := if east then { o with sentE := o.sentE + 1 } else { o with sentW := o.sentW + 1 }
  (w.setOp o, o)

/-- Bytes cut into frame payloads with their offsets (11 R309: 16 KiB frames except at the end of a transfer). -/
def chunks : Nat → Nat → List Byte → List (Nat × List Byte)
  | 0, _, _ => []
  | n + 1, off, l => if l.isEmpty then [] else (off, l.take 16352) :: chunks n (off + 16352) (l.drop 16352)

/-- A transfer sent from byte offset `off` on. -/
def Work.opTransfer (w : Work) (o : RingOp) (east : Bool) (dst kind origin off : Nat) (l : List Byte) (body : FrameBody := .none) : Work × RingOp :=
  (chunks (l.length / 16352 + 1) off l).foldl (fun (s : Work × RingOp) c =>
    s.1.opSend s.2 east { o.frame 0 dst with kind := kind, origin := origin, offset := c.1, payload := c.2, body := body }) (w, o)

/-- The bytes of a tensor in row-major order; poisoned elements as 05 R150 gives. -/
def Work.tensorBytes (w : Work) (c : Cx) (d : Desc) : Work × List Byte :=
  (List.range (d.d1 * d.d2 * d.d3)).foldl (fun (s : Work × List Byte) r =>
    let (w, l) := s.1.rowCodes c d (r % d.d1) (r / d.d1 % d.d2) (r / (d.d1 * d.d2)) 0 d.d0
    (w, s.2 ++ l.flatMap fun x => leBytes d.ebytes x.1)) (w, [])

def Desc.byteCount (d : Desc) : Nat := d.count * d.ebytes

/-- Bytes written over a tensor from a byte offset in row-major order. -/
def Work.tensorPut (c : Cx) (d : Desc) : Nat → Work → Nat → List Byte → Work
  | 0, w, _, _ => w
  | n + 1, w, off, l =>
    if l.isEmpty then w
    else
      let rb := d.d0 * d.ebytes
      let r := off / rb
      let k := min l.length (rb - off % rb)
      let a := d.base + d.rowOff (r % d.d1) (r / d.d1 % d.d2) (r / (d.d1 * d.d2)) + off % rb
      Work.tensorPut c d n (w.fieldWrite c a (l.take k)) (off + k) (l.drop k)

def Work.tensorWrite (w : Work) (c : Cx) (d : Desc) (off : Nat) (l : List Byte) : Work :=
  Work.tensorPut c d (l.length / (d.d0 * d.ebytes) + 2) w off l

/-- RING_LASTFAULT for a frame (11 R337). -/
def Base.ringFault (b : Base) (e cause : Nat) (f : OutFrame) : Base :=
  b.wr (BitVec.ofNat 64 (cause + f.line * 16 + f.tag * 2 ^ 8 + f.epoch * 2 ^ 32 + f.step * 2 ^ 48)) .RING_LASTFAULT (io (e / 4)) (e % 4)

/-- A DATA frame dropped (11 R315 to R332): counted, recorded, and its event. -/
def Work.ringDrop (w : Work) (e cause : Nat) (f : OutFrame) (p : Option Nat) : Work :=
  let b := (w.base.engCount e 1 .RING_CNT_DROP).ringFault e cause f
  let b := match cause with
    | 1 => b.ringEvent e 8 0x0A09 p
    | 2 => b.ringEvent e 12 0x0A0D p
    | 3 => b.ringEvent e 11 0x0A0C p
    | 6 => b.ringEvent e 10 0x0A0B p
    | _ => b
  { w with base := b }

/-- The waybill that an operation runs for. -/
def Work.opWb (w : Work) (o : RingOp) : Option Wb := w.wb? o.unit o.queue o.seq

/-- The operations whose frames are matched by line, TAG and STEP: relay, reduction and digest (11 R321). -/
def ringMatched (opcode : Nat) : Bool := opcode == 0x61 || opcode == 0x62 || opcode == 0x63

/-- A transfer of partition p's current step has ended or was aborted: its frames that still come are dropped (11 R321); those of an earlier step are
older anyway. -/
def Work.ringEnded (w : Work) (p opcode line tag step : Nat) : Work :=
  if ringMatched opcode && step == w.base.stepOf p then { w with ring := { w.ring with ended := (line, tag, step % 65536) :: w.ring.ended } } else w

/-- An operation leaves. -/
def Work.opLeaves (w : Work) (o : RingOp) : Work :=
  { w with ring := { w.ring with ops := w.ring.ops.filter fun x => !x.same o } }.ringEnded o.part o.opcode o.line o.tag o.step

/-- The step of partition p changes: what ended in the old one is older, or is replayed (11 R321, 13 R384). -/
def Work.ringForget (w : Work) (p : Nat) : Work :=
  { w with ring := { w.ring with ended := w.ring.ended.filter fun c => w.base.linePart c.1 != p } }

/-- An operation ends with a status. -/
def Work.opEnd (w : Work) (o : RingOp) (status : Nat) : Work :=
  let w := w.opLeaves o
  match w.opWb o with
  | some x => w.setWb o.unit (x.endWith status)
  | none => w

/-- OPARG fields of a ring waybill (11 R320). -/
def Wb.ringLine (x : Wb) : Nat := x.oparg % 4
def Wb.ringVc (x : Wb) : Nat := x.oparg / 4 % 8
def Wb.ringTag (x : Wb) : Nat := x.arg % 2 ^ 24

/-- A held frame that belongs to a transfer that has ended: it is dropped, and its credits return (11 R310, R321). -/
def Work.heldDrop (w : Work) (h : HeldFrame) : Work :=
  let f := h.frame
  let ended := w.ring.ended.contains (f.line, f.tag, f.step) && (f.type == 7 || (f.type == 0 && f.kind != 0))
  if !ended then { w with ring := { w.ring with held := w.ring.held ++ [h] } }
  else
    let w := if f.type = 0 then w.ringDrop h.engine 2 f (some (w.base.linePart f.line)) else w
    w.owe h.engine f.vc f.units

/-- An aborted ring waybill sends no further frames, and its frames that are held or that come later are dropped, whether it had begun or not
(11 R321, R329). -/
def Work.ringAbort (w : Work) (x : Wb) : Work :=
  let w := match w.ringOp? fun o => o.queue == x.queue && o.seq == x.seq with
    | none => w.ringEnded x.part x.opcode x.ringLine x.ringTag (if x.began then x.step else w.base.stepOf x.part)
    | some o => w.opLeaves o
  let w := w.ring.held.foldl Work.heldDrop { w with ring := { w.ring with held := [] } }
  { w with ring := { w.ring with
      engines := w.ring.engines.map fun c => (c.1, { c.2 with queue := c.2.queue.filter fun f => f.owner != some (x.queue, x.seq) }) } }

/-- The operation of a ring waybill that begins now (11 R317, R320). -/
def Base.newOp (b : Base) (id : Nat) (x : Wb) : RingOp :=
  let l := x.ringLine
  let ms := lineMembers b.ringPos (b.lineStride l) (b.lineSize l) (b.lineMask l)
  { unit := id, queue := x.queue, seq := x.seq, opcode := x.opcode, part := x.part, line := l, vc := x.ringVc, tag := x.ringTag, step := x.step,
    epoch := b.lineEpoch l, members := ms, rank := ms.idxOf b.ringPos, wrapEast := b.lineStride l * b.lineSize l == b.ringSize }

def RingOp.S (o : RingOp) : Nat := o.members.length
def RingOp.pos (o : RingOp) (k : Nat) : Nat := o.members.getD k 0

/-- The direction in which rank j is reached from rank k: eastward for a higher rank; for a lower one eastward around a whole ring, else
westward (11 R317). -/
def RingOp.eastTo (o : RingOp) (k j : Nat) : Bool := decide (k < j) || o.wrapEast

/-- The received bytes of a kind and origin. -/
def RingOp.received (o : RingOp) (kind origin : Nat) : Nat :=
  ((o.got.filter fun g => g.1 == kind && g.2.1 == origin).map fun g => g.2.2.2).sum

/-- The frame repeats a byte range of its transfer (11 R314). -/
def RingOp.isDup (o : RingOp) (f : OutFrame) : Bool :=
  o.got.any fun g => g.1 == f.kind && (f.kind != 1 || g.2.1 == f.origin) && g.2.2.1 == f.offset

/-- ‖v‖² in binary32 (11 R325). -/
def normSquare (codes : List Nat) : Nat :=
  let parts := codes.zipIdx.foldl (fun (m : List (Nat × Nat)) c =>
    Map.put (c.2 % 64) (f32fma c.1 c.1 ((Map.find (c.2 % 64) m).getD 0)) m) []
  (List.range 64).foldl (fun s i => f32add s ((Map.find i parts).getD 0)) 0

/-- A finite non-negative binary32 code in units of 2^−149. -/
def f32units (c : Nat) : Nat :=
  match f32v c with
  | .fin _ m e => m * 2 ^ (e + 149).toNat
  | _ => 0

/-- A reduction's figures added to its noise group (11 R325 to R327). -/
def Work.noiseAdd (w : Work) (o : RingOp) (x : Wb) (q r E : Nat) : Work :=
  let key := o.part * 256 + x.oparg / 32 % 256
  let g := (Map.find key w.ring.noise).getD {}
  let ok := f32isFinite q && f32isFinite r
  let g := { g with
    sumQ := (g.sumQ + f32units q) % 2 ^ 320, sumR := (g.sumR + f32units r) % 2 ^ 320, count := g.count + 1
    size := if g.count = 0 then o.S else g.size, elems := g.elems + E, nonfinite := g.nonfinite || !ok
    mixed := g.mixed || (g.count != 0 && g.size != o.S), late := g.late || decide (o.step < w.base.stepOf o.part) }
  { w with ring := { w.ring with noise := Map.put key g w.ring.noise } }

/-- Non-finite codes of a reduction (11 R327): NUM.REDNF once, NONFINITE, and the position in tiles of 4,096 elements. -/
def Work.reduceFinite (w : Work) (id : Nat) (x : Wb) (e0 : Nat) (codes : List Nat) : Work × Wb :=
  match codes.zipIdx.find? fun c => !f32isFinite c.1 with
  | none => (w, x)
  | some c =>
    let (b, x) := w.base.once id x 0x010B
    let e := e0 + c.2
    ({ w with base := b }, { x with flags := x.flags ||| 1, nf := lowerPos x.nf (e / 4096, e % 4096) })

/-- A result written to DESC2 from element e0 on (11 R324). -/
def Work.reduceOut (w : Work) (id : Nat) (x : Wb) (e0 : Nat) (codes : List Nat) : Work × Wb :=
  match x.desc 2 with
  | none => (w, x)
  | some d =>
    let (w, x) := w.reduceFinite id x e0 codes
    if d.isIntake then (w.deliver id x d e0 codes, x.sends (w.base.intakePort d) (4 * codes.length))
    else (w.tensorWrite (w.base.cx id x) d (4 * e0) (codes.flatMap (leBytes 4)), x)

/-- Elements of a device's contribution. -/
def Work.contribution (w : Work) (id : Nat) (x : Wb) (e0 n : Nat) : Work × List Nat :=
  match x.desc 0 with
  | none => (w, [])
  | some d =>
    let (b, l) := w.base.readF32 (w.base.cx id x).req (d.base + 4 * e0) n
    ({ w with base := b }, l)

end Sys2Proof.Machine
end

