-- ==== Sys2Proof/Machine/Checkpoint.lean ====
section
/-! DEFINITION. Checkpoint generations: headers, manifests, and the waybills of the checkpoint engines (13 R388 to R393). -/

namespace Sys2Proof.Machine

/-- OPARG of CKPT_WRITE and CKPT_COMMIT (13 R389, R391). -/
def Wb.ckOpen (x : Wb) : Bool := x.oparg.testBit 0
def Wb.ckGen (x : Wb) : Nat := x.oparg / 2 % 2
def Wb.ckRestore (x : Wb) : Bool := x.oparg.testBit 2

/-- The header address of a generation (13 R388). -/
def Base.ckHeader (b : Base) (p gen : Nat) : Nat := b.rf 12 40 (if gen = 0 then .DOCK_CK_GENA else .DOCK_CK_GENB) 40 0 p * 4096

/-- A 64-byte record whose last eight bytes are the DIGEST of the first 56 (13 R390, R391). -/
def ckSeal (l : List Byte) : List Byte := l ++ leBytes 8 (digest l)
def ckGood (l : List Byte) : Bool := fieldAt l 56 8 == digest (slice l 0 56)

/-- The commit record of a generation as a reader finds it; none where poisoned, of another version or generation, or with a wrong CHECK. -/
def Base.ckRead (b : Base) (rq : MemReq) (p gen : Nat) : Base × Option (List Byte) :=
  let (b, l, bad) := b.readBytes rq (b.ckHeader p gen) 64
  (b, if bad || fieldAt l 0 2 != 1 || fieldAt l 2 1 != gen || !ckGood l then none else some l)

def ckState (l : List Byte) : Nat := fieldAt l 3 1
def ckBoundary (l : List Byte) : Nat := fieldAt l 8 8

/-- BOUNDARY of a generation that is valid (13 R388). -/
def ckValid (r : Option (List Byte)) : Option Nat :=
  match r with
  | some l => if ckState l = 1 then some (ckBoundary l) else none
  | none => none

/-- A generation that is open (13 R389). -/
def ckIsOpen (r : Option (List Byte)) : Bool := match r with | some l => ckState l == 0 | none => false

/-- GEN and BOUNDARY of the newest valid generation, if any (13 R388). -/
def Base.ckNewest (b : Base) (rq : MemReq) (p : Nat) : Base × Option (Nat × Nat) :=
  let (b, ra) := b.ckRead rq p 0
  let (b, rb) := b.ckRead rq p 1
  (b, match ckValid ra, ckValid rb with
    | some x, some y => if x < y then some (1, y) else some (0, x)
    | some x, none => some (0, x)
    | none, some y => some (1, y)
    | none, none => none)

/-- Epochs of the four lines, as eight bytes (13 R382, R391). -/
def Base.epochs (b : Base) : List Byte := (List.range 4).flatMap fun l => leBytes 2 (b.lineEpoch l)

/-- A commit record (13 R391). -/
def Base.ckRecord (b : Base) (gen state extents boundary manifest seed hstep time : Nat) (epochs : List Byte) : List Byte :=
  ckSeal (leBytes 2 1 ++ leBytes 1 gen ++ leBytes 1 state ++ leBytes 4 extents ++ leBytes 8 boundary ++ leBytes 8 manifest ++ leBytes 8 seed
    ++ leBytes 4 hstep ++ epochs ++ leBytes 1 (b.catNum 0x1002 1) ++ leBytes 3 0 ++ leBytes 8 time)

/-- A CKPT waybill that may act now. -/
def Work.ckReady (w : Work) (id q seq opcode : Nat) : Option (Wb × Nat) :=
  match w.wb? id q seq, unitOf id with
  | some x, some (.ckpt, n) => if x.phase = .running ∧ x.opcode = opcode ∧ !x.aborting then some (x, n) else none
  | _, _ => none

/-- The operands of CKPT_WRITE and CKPT_COMMIT that 13 R389 and R391 reject. -/
def Wb.ckArgsBad (x : Wb) : Bool :=
  if x.opcode = 0x81 then x.oparg / 4 != 0 || x.oparg.testBit 0 || x.arg ≥ 2 ^ 17 || x.arg == 0 || decide (x.arg > 65536) || !x.namedDescs.isEmpty
  else
    x.ncred != 0 || x.oparg ≥ 8 ||
    if x.ckOpen then x.ckRestore || x.arg != 0 || !x.namedDescs.isEmpty
    else if x.ckRestore then x.arg ≥ 65536 || !x.namedDescs.isEmpty
    else
      match x.desc 0, x.desc 1, x.desc 3 with
      | some s, some d, none =>
        x.arg ≥ 65536 || s.fmt != 6 || d.fmt != 6 || !s.dense || !d.dense || s.form != 0 || d.form != 0
          || s.byteCount != d.byteCount || s.byteCount % 256 != 0
          || decide (s.base < d.base + d.byteCount ∧ d.base < s.base + s.byteCount)
      | _, _, _ => true

/-- A generation is the newest valid one, by its own BOUNDARY and the other's (13 R388). -/
def ckIsNewest (mine other : Option Nat) : Bool :=
  match mine, other with
  | some m, some o => decide (o < m)
  | some _, none => true
  | none, _ => false

/-- CKPT_OPEN (13 R389): the commit record of GEN written with STATE 0, unless GEN is the generation to keep. -/
def Work.ckptOpen (w : Work) (id q seq : Nat) : Work :=
  match w.ckReady id q seq 0x80 with
  | none => w
  | some (x, _) =>
    if !x.ckOpen then w
    else
      let rq := (w.base.cx id x).req
      let p := x.part
      let (b, mine) := w.base.ckRead rq p x.ckGen
      let (b, other) := b.ckRead rq p (1 - x.ckGen)
      let w := { w with base := b }
      if ckIsNewest (ckValid mine) (ckValid other) || ckValid other == some x.step then w.reject id x 0x0C0E
      else
        let rec_ := b.ckRecord x.ckGen 0 0 x.step 0 (b.seedOf p) (b.hstep p) 0 b.epochs
        { w with base := b.storeBytes rq (b.ckHeader p x.ckGen) rec_ }.finish id x

/-- Words of a copy in progress: source, destination, home, length, the BOUNDARY of the generation, the check register, whether poison was read,
and the digest to meet. -/
def ckAux (src dst home len boundary reg : Nat) (poison : Bool) (want : Nat) : List Nat := [src, dst, home, len, boundary, reg, b2n poison, want]

/-- Address of manifest entry i. -/
def Base.ckEntry (b : Base) (p gen i : Nat) : Nat := b.ckHeader p gen + 4096 + 64 * i

/-- A manifest entry (13 R390). -/
def ckManifest (home dest len dig boundary x gen : Nat) : List Byte :=
  ckSeal (leBytes 8 home ++ leBytes 8 dest ++ leBytes 8 len ++ leBytes 8 dig ++ leBytes 8 boundary ++ leBytes 4 x ++ leBytes 1 gen ++ leBytes 1 1
    ++ leBytes 10 0)

/-- An entry that a restore or a commit accepts (13 R389, R391). -/
def ckEntryGood (l : List Byte) (gen boundary : Nat) : Bool :=
  ckGood l && fieldAt l 45 1 == 1 && fieldAt l 44 1 == gen && fieldAt l 32 8 == boundary

/-- One block of 4 KiB of a copy or restore: the bytes with their poison, and the check register over them as read (13 R389). -/
def Work.ckBlock (w : Work) (id n : Nat) (x : Wb) (sealchk : Bool) : Work × Wb :=
  let a := x.aux
  let off := 4096 * x.next
  let len := min 4096 (a.getD 3 0 - off)
  let c := w.base.cx id x
  let (w, l) := w.memRead c sealchk (a.getD 0 0 + off) len
  let b := w.base.store c.req (a.getD 1 0 + off) l
  let b := (b.noteReq c.req (ms n) 2 0x5C len (a.getD 0 0 + off)).countSat len 0 48 .DOCK_CK_BYTES (ms n)
  let reg := digestCfg.feed (a.getD 5 0) (l.map (·.1))
  let x := { x with
    next := x.next + 1, done := x.done + 1,
    aux := ckAux (a.getD 0 0) (a.getD 1 0) (a.getD 2 0) (a.getD 3 0) (a.getD 4 0) reg (l.any (·.2) || a.getD 6 0 == 1) (a.getD 7 0) }
  ({ w with base := b }, x)

/-- A copy as it begins, or as it goes on; none where its generation is not open (13 R389). -/
def Work.ckCopyBegin (w : Work) (id : Nat) (x : Wb) (s d : Desc) : Work × Option Wb :=
  if x.aux.isEmpty then
    let (b, r) := w.base.ckRead (w.base.cx id x).req x.part x.ckGen
    ({ w with base := b }, match r with
      | some l => if ckState l = 0 then
          some { x with aux := ckAux s.base d.base (match x.desc 2 with | some h => h.base | none => s.base) s.byteCount (ckBoundary l) digestCfg.init false 0 }
        else none
      | none => none)
  else (w, some x)

/-- A restore as it begins, or as it goes on; none where its generation is not valid, or its manifest entry is not correct (13 R389). -/
def Work.ckRestoreBegin (w : Work) (id : Nat) (x : Wb) : Work × Option Wb :=
  if x.aux.isEmpty then
    let rq := (w.base.cx id x).req
    let (b, r) := w.base.ckRead rq x.part x.ckGen
    let (b, e, bad) := b.readBytes rq (b.ckEntry x.part x.ckGen (x.arg % 65536)) 64
    ({ w with base := b }, match ckValid r with
      | some k => if !bad && ckEntryGood e x.ckGen k then
          some { x with aux := ckAux (fieldAt e 8 8) (fieldAt e 0 8) 0 (fieldAt e 16 8) k digestCfg.init false (fieldAt e 24 8) }
        else none
      | none => none)
  else (w, some x)

/-- The manifest entry of a copy that read no poison (13 R390). -/
def Work.ckListed (w : Work) (id : Nat) (x : Wb) : Work :=
  let a := x.aux
  let e := ckManifest (a.getD 2 0) (a.getD 1 0) (a.getD 3 0) (digestCfg.finish (a.getD 5 0)) (a.getD 4 0) (x.arg % 65536) x.ckGen
  { w with base := w.base.storeBytes (w.base.cx id x).req (w.base.ckEntry x.part x.ckGen (x.arg % 65536)) e }

/-- DOCK_CK_LAST: a copy has completed (13 R398). -/
def Base.ckLast (b : Base) (n : Nat) (x : Wb) : Base :=
  b.wr (BitVec.ofNat 64 (x.arg % 65536 + x.ckGen * 2 ^ 16 + x.aux.getD 4 0 % 2 ^ 32 * 2 ^ 32)) .DOCK_CK_LAST (ms n)

/-- CKPT_COPY (13 R389, R390, R393): the next 4 KiB of an extent, and after the last the manifest entry. A copy on the engine of a fenced stack
completes UNIT_LOST without an entry. -/
def Work.ckptCopy (w : Work) (id q seq : Nat) : Work :=
  match w.ckReady id q seq 0x80 with
  | none => w
  | some (x, n) =>
    match x.ckOpen || x.ckRestore, x.desc 0, x.desc 1 with
    | false, some s, some d =>
      if w.base.stackFenced n then w.setWb id (x.endWith 0x16)
      else match w.ckCopyBegin id x s d with
      | (w, none) => w.reject id x 0x0C0F
      | (w, some x) =>
        let (w, x) := w.ckBlock id n x s.sealchk
        let a := x.aux
        if 4096 * x.next < a.getD 3 0 then w.setWb id x
        else if a.getD 6 0 = 1 then
          let (b, x) := w.base.each id x 0x0C12
          { w with base := b.ckLast n x }.finish id x
        else
          let w := w.ckListed id x
          { w with base := w.base.ckLast n x }.finish id x
    | _, _, _ => w

/-- CKPT_RESTORE (13 R389): the next 4 KiB of an extent copied back to its home, and after the last the comparison of its digest. -/
def Work.ckptRestore (w : Work) (id q seq : Nat) : Work :=
  match w.ckReady id q seq 0x80 with
  | none => w
  | some (x, n) =>
    if x.ckOpen || !x.ckRestore then w
    else
      match w.ckRestoreBegin id x with
      | (w, none) => w.reject id x 0x0C0F
      | (w, some x) =>
        let (w, x) := w.ckBlock id n x false
        let a := x.aux
        if 4096 * x.next < a.getD 3 0 then w.setWb id x
        else
          let (b, x) := if a.getD 6 0 = 1 then w.base.each id x 0x0C12 else (w.base, x)
          let (b, x) := if digestCfg.finish (a.getD 5 0) = a.getD 7 0 then (b, x) else b.each id x 0x0C11
          { w with base := b }.finish id x

/-- CKPT_COMMIT (13 R391): the manifest checked and the commit record written with STATE 1. -/
def Work.ckptCommit (w : Work) (id q seq : Nat) : Work :=
  match w.ckReady id q seq 0x81 with
  | none => w
  | some (x, _) =>
    let rq := (w.base.cx id x).req
    let p := x.part
    let (b, mine) := w.base.ckRead rq p x.ckGen
    let (b, other) := b.ckRead rq p (1 - x.ckGen)
    match mine with
    | none => { w with base := b }.reject id x 0x0C0F
    | some l =>
      if ckState l ≠ 0 then { w with base := b }.reject id x 0x0C0F
      else if ckValid other = some (ckBoundary l) then { w with base := b }.reject id x 0x0C0E
      else
        let (b, m, bad) := b.readBytes rq (b.ckEntry p x.ckGen 0) (64 * x.arg)
        let good := !bad && (List.range x.arg).all fun i => ckEntryGood (slice m (64 * i) 64) x.ckGen (ckBoundary l)
        if good then
          let rec_ := b.ckRecord x.ckGen 1 x.arg (ckBoundary l) (digest m) (fieldAt l 24 8) (fieldAt l 32 4) b.time (slice l 36 8)
          { w with base := b.storeBytes rq (b.ckHeader p x.ckGen) rec_ }.finish id x
        else { w with base := b }.reject id x 0x0C10

end Sys2Proof.Machine
end

