-- ==== Sys2Proof/Machine/Siding.lean ====
section
/-! DEFINITION. The Siding: frames, cars, and thread pushes (06 R169 to R182, 18 R510). -/

namespace Sys2Proof.Machine

def sidKey (n p : Nat) : Nat := n * 8 + p

/-- A request of the Siding controller of CDn: its source is the die's logic unit (15 R452). -/
def Cx.sidReq (c : Cx) (n : Nat) : MemReq := { c.ownReq with src := logic (cd n) }

/-- The frames of partition p's segment on CDn, bottom first. -/
def Work.frames (w : Work) (n p : Nat) : List Frame := (Map.find (sidKey n p) w.sid.frames).getD []

def Frame.blocks (f : Frame) : Nat := if f.dropped then f.keep else f.full

/-- Blocks held by frames. -/
def usedOf (l : List Frame) : Nat :=
  match l.getLast? with
  | some f => f.below + f.blocks
  | none => 0

/-- The segment's frames replaced, with DOCK_SID_TOP, PEAK and CNT.FRAMES (06 R188). -/
def Work.setFrames (w : Work) (n p : Nat) (l : List Frame) : Work :=
  let used := usedOf l
  let top := match l.getLast? with
    | some f => used + f.index % 2 ^ 14 * 2 ^ 24 + 2 ^ 38 + (if f.closed then 2 else 1) * 2 ^ 39 + b2n f.dropped * 2 ^ 41
    | none => 0
  let b := w.base.wr (BitVec.ofNat 64 top) .DOCK_SID_TOP (cd n) 0 p
  let b := b.wf 0 24 (max used (b.rf 0 24 .DOCK_SID_PEAK (cd n) 0 p)) .DOCK_SID_PEAK (cd n) 0 p
  let b := b.wf 0 16 l.length .DOCK_SID_CNT (cd n) 0 p
  { w with base := b, sid := { w.sid with frames := if l.isEmpty then Map.del (sidKey n p) w.sid.frames else Map.put (sidKey n p) l w.sid.frames } }

/-- The base of the segment (06 R169). -/
def Base.sidBase (b : Base) (n p : Nat) : Nat := b.rf 12 40 .DOCK_SID_BASE (cd n) 0 p * 4096

/-- The 64 bytes of a frame header (06 R172). -/
def Frame.header (f : Frame) : List Byte :=
  leBytes 2 f.index ++ leBytes 1 ((if f.closed then 2 else 1) + b2n f.dropped * 4 + b2n f.recomp * 8) ++ leBytes 1 0 ++ leBytes 4 f.full
    ++ leBytes 4 f.keep ++ leBytes 4 f.tarea ++ leBytes 4 f.cursor ++ leBytes 4 f.below ++ leBytes 4 f.step ++ leBytes 4 f.cars
    ++ leBytes 8 f.opened ++ leBytes 8 f.closedAt ++ leBytes 16 0

/-- SID operands (06 R173). -/
def Wb.sidAction (x : Wb) : Nat := x.oparg % 4
def Wb.sidFrame (x : Wb) : Nat := x.oparg / 4

/-- A Siding waybill of a tile that may act now: it runs, and every Siding operation of its partition on its die that started before it has
ended (06 R176). -/
def Work.sidReady (w : Work) (id q seq opcode action : Nat) : Option (Wb × Nat) :=
  match w.wb? id q seq, unitOf id with
  | some x, some (.tile, i) =>
    let n := i / 64
    let earlier := (List.range 64).any fun pos => (w.unit (tileUnit n pos)).window.any fun y =>
      y.phase == .running && (y.opcode == 0x0B || y.opcode == 0x0C) && y.part == x.part && decide (y.startNo < x.startNo)
    if x.phase = .running ∧ x.opcode = opcode ∧ x.sidAction = action ∧ !x.aborting ∧ !x.handed ∧ !earlier then some (x, n) else none
  | _, _ => none

/-- OPEN's choice (06 R174) where U blocks are held of C: KEPT (false) or DROPPED (true), or none where the frame does not fit. Under the stall
policy a frame is never dropped. -/
def openChoice (U C full keep ahead : Nat) (recomp stall : Bool) : Option Bool :=
  if stall then (if U + full ≤ C then some false else none)
  else if U + full + ahead ≤ C then some false
  else if recomp ∧ U + keep + ahead ≤ C then some true
  else if U + full ≤ C then some false
  else if recomp ∧ U + keep ≤ C then some true
  else none

/-- A frame may be opened on frames l: none is there, or the top is CLOSED and no frame has that index (06 R174). -/
def mayOpen (l : List Frame) (f : Nat) : Bool :=
  match l.getLast? with
  | none => true
  | some t => t.closed && l.all fun g => g.index != f

/-- A plan entry that 06 R171 forbids. Its range of KEEP is asked of an entry with RECOMP 0 too, though KEEP is not used there (log entry 69). -/
def planBad (full keep tarea ah : Nat) : Bool :=
  decide (full ≥ 2 ^ 24 ∨ keep ≥ 2 ^ 24 ∨ tarea ≥ 2 ^ 24 ∨ ah ≥ 2 ^ 25 ∨ keep < 1 ∨ keep + tarea > full)

/-- The address of the plan entry of frame f (06 R171). -/
def Base.planAddr (b : Base) (n p f : Nat) : Nat := b.rf 4 48 .DOCK_SID_PLAN (cd n) 0 p * 16 + 16 * f

/-- A frame opened DROPPED is reported (06 R174, R187). -/
def Base.dropped (b : Base) (n p number : Nat) : Base :=
  ((b.sidEvent n p 1 0x0502 number).countSat 1 16 16 .DOCK_SID_CNT (cd n) 0 p).setStep p fun a => { a with drops := satAdd 16 a.drops 1 }

/-- The event of a waybill that had none (04 R119). -/
def Wb.firstEvent (x : Wb) (code : Nat) : Wb := { x with event := if x.event = 0 then code else x.event }

/-- OPEN with its frame's choice made: the header written with 63 zeroed granules behind it, and the frame on top (06 R172, R174). -/
def Work.openFrame (w : Work) (id n : Nat) (x : Wb) (f : Frame) : Work :=
  let b := w.base.storeBytes ((w.base.cx id x).sidReq n) (w.base.sidBase n x.part + 4096 * f.below) (f.header ++ List.replicate 4032 0)
  let w1 : Work := { w with base := if f.dropped then b.dropped n x.part x.number else b }
  (w1.setFrames n x.part (w.frames n x.part ++ [f])).finish id (if f.dropped then x.firstEvent 0x0502 else x)

/-- OPEN (06 R174). -/
def Work.sidOpen (w : Work) (id q seq : Nat) : Work :=
  match w.sidReady id q seq 0x0B 1 with
  | none => w
  | some (x, n) =>
    let p := x.part
    if !mayOpen (w.frames n p) x.sidFrame then w.reject id x 0x0503
    else
      let (b, e, bad) := w.base.readBytes ((w.base.cx id x).sidReq n) (w.base.planAddr n p x.sidFrame) 16
      let w := { w with base := b }
      let full := fieldAt e 0 4
      let keep := fieldAt e 4 4
      let tarea := fieldAt e 8 4
      let ah := fieldAt e 12 4
      if bad then w.reject id x 0x0302
      else if planBad full keep tarea ah then w.reject id x 0x0504
      else
        let U := usedOf (w.frames n p)
        match openChoice U (b.rf 0 24 .DOCK_SID_SIZE (cd n) 0 p) full keep (ah % 2 ^ 24) (ah.testBit 24)
            (b.rf 24 1 .DOCK_SID_SIZE (cd n) 0 p == 0) with
        | none => w.reject id x 0x0501
        | some drop =>
          w.openFrame id n x { index := x.sidFrame, full := full, keep := keep, tarea := tarea, below := U, dropped := drop, recomp := ah.testBit 24,
                               closed := false, cursor := 0, step := x.step % 2 ^ 32, cars := 0, opened := w.base.time, closedAt := 0 }

/-- The open top frame f, or the closed top frame f (06 R175, R176). -/
def Work.topFrame (w : Work) (n p f : Nat) (closed : Bool) : Option Frame :=
  match (w.frames n p).getLast? with
  | some t => if t.index = f ∧ t.closed = closed then some t else none
  | none => none

def Work.setTop (w : Work) (n p : Nat) (f : Frame) : Work := w.setFrames n p ((w.frames n p).dropLast ++ [f])

/-- First block of a car, and one past its last (06 R175). -/
def Wb.carBlocks (x : Wb) (d : Desc) : Nat × Nat := (x.arg, x.arg + (d.count * d.ebytes + 4095) / 4096)

/-- The elements of a tensor packed in row-major order, with their poison. -/
def Work.packed (w : Work) (c : Cx) (d : Desc) : Work × List (Byte × Bool) :=
  (List.range (d.d1 * d.d2 * d.d3)).foldl (fun (s : Work × List (Byte × Bool)) r =>
    let (w, l) := s.1.fieldRead c d.sealchk (d.base + d.rowOff (r % d.d1) (r / d.d1 % d.d2) (r / (d.d1 * d.d2))) (d.d0 * d.ebytes)
    (w, s.2 ++ l)) (w, [])

/-- A CAR push (06 R175); its input goes through the tile's prefetch (05 R143). -/
def Work.sidPush (w : Work) (id q seq : Nat) : Work :=
  match w.sidReady id q seq 0x0B 0 with
  | none => w
  | some (x, n) =>
    match x.desc 0, w.topFrame n x.part x.sidFrame false with
    | some d, some f =>
      let (lo, hi) := x.carBlocks d
      if hi > f.full - f.tarea ∨ lo = 0 ∨ (f.recomp ∧ lo < f.keep ∧ hi > f.keep) then w.reject id x 0x0505
      else if f.dropped ∧ lo ≥ f.keep then
        { w with base := w.base.countSat 1 32 32 .DOCK_SID_CNT (cd n) 0 x.part }.finish id x
      else
        let c := w.base.cx id x true
        let (w, l) := w.packed c d
        let b := (w.base.noteReq (c.sidReq n) (cd n) 81 0x28 l.length (w.base.sidBase n x.part + 4096 * (f.below + lo))).store (c.sidReq n)
          (w.base.sidBase n x.part + 4096 * (f.below + lo)) l
        ({ w with base := b }.setTop n x.part { f with cars := f.cars + 1 }).finish id x
    | _, _ => w.reject id x 0x0503

/-- CLOSE (06 R176). -/
def Work.sidClose (w : Work) (id q seq : Nat) : Work :=
  match w.sidReady id q seq 0x0B 2 with
  | none => w
  | some (x, n) =>
    match w.topFrame n x.part x.sidFrame false with
    | some f =>
      let f := { f with closed := true, closedAt := w.base.time }
      let b := w.base.storeBytes ((w.base.cx id x).sidReq n) (w.base.sidBase n x.part + 4096 * f.below) f.header
      ({ w with base := b }.setTop n x.part f).finish id x
    | none => w.reject id x 0x0503

/-- Bytes written to a tensor in row-major order, under its format where they carry poison into local store (05 R150, 06 R177). -/
def Work.unpack (w : Work) (c : Cx) (d : Desc) (l : List (Byte × Bool)) : Work :=
  let k := d.d0 * d.ebytes
  (List.range (d.d1 * d.d2 * d.d3)).foldl (fun (w : Work) r =>
    let a := d.base + d.rowOff (r % d.d1) (r / d.d1 % d.d2) (r / (d.d1 * d.d2))
    let row := (l.drop (r * k)).take k
    if d.isLocal then w.fieldWrite c a (unpoison d (elements d.ebytes d.d0 row))
    else { w with base := w.base.store c.req a row }) w

/-- A CAR pop (06 R177); poison that it brings into local store as Qm.n elements raises NUM.FIXNAN (05 R150). -/
def Work.sidPop (w : Work) (id q seq : Nat) : Work :=
  match w.sidReady id q seq 0x0C 0 with
  | none => w
  | some (x, n) =>
    match x.desc 0, w.topFrame n x.part x.sidFrame true with
    | some d, some f =>
      let (lo, hi) := x.carBlocks d
      if hi > f.full - f.tarea then w.reject id x 0x0505
      else if f.dropped ∧ hi > f.keep then w.reject id x 0x0506
      else
        let c := w.base.cx id x
        let b := w.base.noteReq (c.sidReq n) (cd n) 81 0x28 (d.count * d.ebytes) (w.base.sidBase n x.part + 4096 * (f.below + lo))
        let (b, l) := b.read { c.sidReq n with sealchk := d.sealchk } (w.base.sidBase n x.part + 4096 * (f.below + lo)) (d.count * d.ebytes)
        let w := ({ w with base := b } : Work).unpack c d l
        let (w, x) := w.copyFixnan id x d (d.isLocal && l.any (·.2))
        w.finish id x
    | _, _ => w.reject id x 0x0503

/-- RELEASE (06 R176). -/
def Work.sidRelease (w : Work) (id q seq : Nat) : Work :=
  match w.sidReady id q seq 0x0C 1 with
  | none => w
  | some (x, n) =>
    match w.topFrame n x.part x.sidFrame true with
    | some _ => (w.setFrames n x.part (w.frames n x.part).dropLast).finish id x
    | none => w.reject id x 0x0503

/-- CLEAR (06 R177). -/
def Work.sidClear (w : Work) (id q seq : Nat) : Work :=
  match w.sidReady id q seq 0x0C 3 with
  | none => w
  | some (x, n) => (w.setFrames n x.part []).finish id x

/-- fn.spush: bytes appended to the thread area of the open top frame; answers the value every thread's rd receives (06 R180). A
DROPPED frame is asked for first, so that bytes which would not fit are discarded too (log entry 165). -/
def Work.threadPush (w : Work) (c : Cx) (n p : Nat) (l : List Byte) : Work × Nat :=
  match (w.frames n p).getLast? with
  | some f =>
    if f.closed then ({ w with base := w.base.sidEvent n p 6 0x0507 c.number c.src }, 1)
    else if f.dropped then ({ w with base := w.base.countSat 1 32 32 .DOCK_SID_CNT (cd n) 0 p }, 0)
    else if f.cursor + l.length > f.tarea * 4096 then (w, 1)
    else
      let at_ := w.base.sidBase n p + 4096 * (f.below + f.full - f.tarea) + f.cursor
      let b := (w.base.noteReq (c.sidReq n) (cd n) 81 0x28 l.length at_).storeBytes (c.sidReq n) at_ l
      ({ w with base := b }.setTop n p { f with cursor := f.cursor + l.length }, 0)
  | none => ({ w with base := w.base.sidEvent n p 6 0x0507 c.number c.src }, 1)

/-- fn.spop: the last bytes of the thread area of the CLOSED top frame into local store (06 R180). A poisoned byte
arrives as a free value: local store keeps no poison, and no destination format says what stands there (05 R150, log entry 165). -/
def Work.threadPop (w : Work) (c : Cx) (n p off len : Nat) : Work × Nat :=
  match (w.frames n p).getLast? with
  | some f =>
    if !f.closed then ({ w with base := w.base.sidEvent n p 6 0x0507 c.number c.src }, 1)
    else if f.dropped ∨ f.cursor < len then (w, 1)
    else
      let at_ := w.base.sidBase n p + 4096 * (f.below + f.full - f.tarea) + f.cursor - len
      let (b, l) := (w.base.noteReq (c.sidReq n) (cd n) 81 0x28 len at_).read (c.sidReq n) at_ len
      let (k, b) := b.fresh
      let w := { w with base := b }.fieldWrite c (0xF * 2 ^ 48 + off) (l.zipIdx.map fun (x : (Byte × Bool) × Nat) => if x.1.2 then Config.poisonByte k x.2 else x.1.1)
      (w.setTop n p { f with cursor := f.cursor - len }, 0)
  | none => ({ w with base := w.base.sidEvent n p 6 0x0507 c.number c.src }, 1)

end Sys2Proof.Machine
end

