-- ==== Sys2Proof/Machine/Threads.lean ====
section
/-! DEFINITION. One lane of the vector threads (04 R128, R129): RV32IMF as its published standard defines it, the user CSRs, and the decoding of the
device's instructions (04 R130). -/

namespace Sys2Proof.Machine

/-- Whole steps of 2^k in m × 2^e, rounded in a mode of fcsr (0 nearest-even, 1 toward zero, 2 down, 3 up, 4 nearest-away), and whether inexact. -/
def rmSteps (rm : Nat) (neg : Bool) (m : Nat) (e k : Int) : Nat × Bool :=
  if k ≤ e then (m * 2 ^ (e - k).toNat, false)
  else
    let s := (k - e).toNat
    let q := m / 2 ^ s
    let r := m % 2 ^ s
    let up := match rm with
      | 0 => decide (2 * r > 2 ^ s ∨ (2 * r = 2 ^ s ∧ q % 2 = 1))
      | 1 => false
      | 2 => neg
      | 3 => !neg
      | _ => decide (2 * r ≥ 2 ^ s)
    if r = 0 then (q, false) else (if up then q + 1 else q, true)

/-- Accrued exception flags: inexact, underflow, overflow, division by zero, invalid. -/
def fNX : Nat := 1
def fUF : Nat := 2
def fOF : Nat := 4
def fDZ : Nat := 8
def fNV : Nat := 16

/-- A value rounded to binary32 in a mode, with its flags. -/
def fround (rm : Nat) (v : Num) : Nat × Nat :=
  match v with
  | .nan => (0x7FC00000, 0)
  | .inf s => (b2n s * 0x80000000 + 0x7F800000, 0)
  | .fin s m e =>
    let sign := b2n s * 0x80000000
    if m = 0 then (sign, 0)
    else
      let x := ilog2 m e
      let k := max x (-126) - 23
      let (q, ix) := rmSteps rm s m e k
      let code := (k + 149).toNat * 2 ^ 23 + q
      if code ≥ 0x7F800000 then
        (sign + (if rm = 1 ∨ (rm = 2 ∧ !s) ∨ (rm = 3 ∧ s) then 0x7F7FFFFF else 0x7F800000), fOF + fNX)
      else
        let tiny := decide (x < -126) && !(x == -127 && (rmSteps rm s m e (-150)).1 == 2 ^ 24)
        (sign + code, if ix then (if tiny then fUF + fNX else fNX) else 0)

/-- A computed value rounded; a NaN from operands that are none is invalid. -/
def fresult (rm : Nat) (ops : List Num) (v : Num) : Nat × Nat :=
  if v.isNan then (0x7FC00000, if ops.any Num.isNan then 0 else fNV) else fround rm v

/-- A sum, with the sign of an exact zero that the mode gives. -/
def addRm (rm : Nat) (a b : Num) : Num :=
  match a, b, a.add b with
  | .fin s m _, .fin t n _, .fin u 0 e =>
    if m = 0 ∧ n = 0 ∧ s = t then .fin u 0 e else .fin (rm == 2) 0 e
  | _, _, r => r

/-- A conversion to a 32-bit integer in a mode. -/
def toInt (rm : Nat) (sgn : Bool) (v : Num) : Nat × Nat :=
  let hi : Int := if sgn then 0x7FFFFFFF else 0xFFFFFFFF
  let lo : Int := if sgn then -0x80000000 else 0
  match v with
  | .nan => (tc 32 hi, fNV)
  | .inf s => (tc 32 (if s then lo else hi), fNV)
  | .fin s m e =>
    let (q, ix) := rmSteps rm s m e 0
    let z := signed s q
    if z > hi then (tc 32 hi, fNV) else if z < lo then (tc 32 lo, fNV) else (tc 32 z, b2n ix)

/-- The class of a code; every NaN is a quiet one (02 R36). -/
def fclass (c : Nat) : Nat :=
  let s := decide (c / 2 ^ 31 = 1)
  match f32v c with
  | .nan => 2 ^ 9
  | .inf _ => if s then 1 else 2 ^ 7
  | .fin _ m _ =>
    if m = 0 then (if s then 2 ^ 3 else 2 ^ 4)
    else if c / 2 ^ 23 % 256 = 0 then (if s then 2 ^ 2 else 2 ^ 5) else (if s then 2 else 2 ^ 6)

/-- The lesser (or greater) of two codes: a number before a NaN, −0 before +0. -/
def fminmax (greater : Bool) (a b : Nat) : Nat :=
  let x := f32v a
  let y := f32v b
  if x.isNan then (if y.isNan then 0x7FC00000 else b)
  else if y.isNan then a
  else
    let less := x.lt y || (x.isZero && y.isZero && decide (a / 2 ^ 31 = 1))
    if less != greater then a else b

/-- What a lane knows of itself (04 R129): thread index, sequence, partition, the CSRs fn.d0 to fn.d2, and the register mode. -/
structure LaneEnv where
  tid : Nat
  seq : Nat
  part : Nat
  d : List Nat
  full : Bool

def Thread.rx (t : Thread) (r : Nat) : Nat := (Map.find r t.x).getD 0
def Thread.rfp (t : Thread) (r : Nat) : Nat := (Map.find r t.f).getD 0

/-- Sparse registers: a register that holds 0 is not listed. -/
def putReg (l : List (Nat × Nat)) (r v : Nat) : List (Nat × Nat) := if v = 0 then Map.del r l else Map.put r v l

/-- A write of an integer register; x0 discards it. -/
def Thread.wx (t : Thread) (r v : Nat) : Thread := if r = 0 then t else { t with x := putReg t.x r (v % 2 ^ 32) }
def Thread.wfp (t : Thread) (r v : Nat) : Thread := { t with f := putReg t.f r (v % 2 ^ 32) }
def Thread.next (t : Thread) : Thread := { t with pc := (t.pc + 4) % 2 ^ 32 }
def Thread.accrue (t : Thread) (fl : Nat) : Thread := { t with fcsr := t.fcsr ||| fl }

/-- Fields of an instruction. -/
def iOp (i : Nat) : Nat := i % 128
def iRd (i : Nat) : Nat := nget i 7 5
def iF3 (i : Nat) : Nat := nget i 12 3
def iRs1 (i : Nat) : Nat := nget i 15 5
def iRs2 (i : Nat) : Nat := nget i 20 5
def iRs3 (i : Nat) : Nat := nget i 27 5
def iF7 (i : Nat) : Nat := nget i 25 7
def immI (i : Nat) : Nat := tc 32 (sext 12 (nget i 20 12))
def immS (i : Nat) : Nat := tc 32 (sext 12 (nget i 25 7 * 32 + nget i 7 5))
def immB (i : Nat) : Nat := tc 32 (sext 13 (nget i 31 1 * 4096 + nget i 7 1 * 2048 + nget i 25 6 * 32 + nget i 8 4 * 2))
def immU (i : Nat) : Nat := nget i 12 20 * 4096
def immJ (i : Nat) : Nat := tc 32 (sext 21 (nget i 31 1 * 2 ^ 20 + nget i 12 8 * 4096 + nget i 20 1 * 2048 + nget i 21 10 * 2))

/-- The registers an instruction names, where its opcode uses the field. The unary instructions of custom-0 and custom-1 name one in their rs2 field
too, though they do not read it (log entry 164). -/
def namedRegs (i : Nat) : List Nat :=
  match iOp i with
  | 0x37 | 0x17 | 0x6F => [iRd i]
  | 0x67 | 0x03 | 0x13 | 0x07 => [iRd i, iRs1 i]
  | 0x63 | 0x23 | 0x27 => [iRs1 i, iRs2 i]
  | 0x33 | 0x53 | 0x0B | 0x2B => [iRd i, iRs1 i, iRs2 i]
  | 0x43 | 0x47 | 0x4B | 0x4F => [iRd i, iRs1 i, iRs2 i, iRs3 i]
  | 0x73 => if iF3 i = 0 then [] else if iF3 i < 4 then [iRd i, iRs1 i] else [iRd i]
  | _ => []

/-- Half file: x16 to x31 and f16 to f31 are no registers (04 R124). -/
def namesOk (full : Bool) (i : Nat) : Bool := full || (namedRegs i).all fun r => decide (r < 16)

/-- Integer operation by funct3 and the alternate bit. -/
def alu (f3 : Nat) (alt : Bool) (a b : Nat) : Nat :=
  match f3 with
  | 0 => if alt then (a + 2 ^ 32 - b) % 2 ^ 32 else (a + b) % 2 ^ 32
  | 1 => a * 2 ^ (b % 32) % 2 ^ 32
  | 2 => b2n (decide (sext 32 a < sext 32 b))
  | 3 => b2n (decide (a < b))
  | 4 => a ^^^ b
  | 5 => if alt then tc 32 (sext 32 a / (2 ^ (b % 32) : Nat)) else a / 2 ^ (b % 32)
  | 6 => a ||| b
  | _ => a &&& b

/-- Multiplication and division by funct3. -/
def mulDiv (f3 a b : Nat) : Nat :=
  let x := sext 32 a
  let y := sext 32 b
  match f3 with
  | 0 => a * b % 2 ^ 32
  | 1 => tc 32 (x * y / (2 ^ 32 : Nat))
  | 2 => tc 32 (x * (b : Int) / (2 ^ 32 : Nat))
  | 3 => a * b / 2 ^ 32
  | 4 => if b = 0 then 2 ^ 32 - 1 else tc 32 (x.tdiv y)
  | 5 => if b = 0 then 2 ^ 32 - 1 else a / b
  | 6 => if b = 0 then a else tc 32 (x.tmod y)
  | _ => if b = 0 then a else a % b

/-- A branch is taken. -/
def branchTaken (f3 a b : Nat) : Option Bool :=
  match f3 with
  | 0 => some (a == b)
  | 1 => some (a != b)
  | 4 => some (decide (sext 32 a < sext 32 b))
  | 5 => some (!decide (sext 32 a < sext 32 b))
  | 6 => some (decide (a < b))
  | 7 => some (!decide (a < b))
  | _ => none

/-- A jump; a target that is not 4-byte aligned faults. -/
def Thread.jump (t : Thread) (a : Nat) : Option Thread := if a % 4 = 0 then some { t with pc := a % 2 ^ 32 } else none

/-- A CSR's value (04 R129); none where there is no such CSR. -/
def csrRead (e : LaneEnv) (t : Thread) (a : Nat) : Option Nat :=
  match a with
  | 0x001 => some (t.fcsr % 32)
  | 0x002 => some (t.fcsr / 32 % 8)
  | 0x003 => some (t.fcsr % 256)
  | 0x800 => some t.stream
  | 0x801 => some t.idxhi
  | 0x802 => some t.cvscale
  | 0x803 => some t.ovf
  | 0x804 => some t.van
  | 0xCC0 => some e.tid
  | 0xCC1 => some (e.seq % 2 ^ 32)
  | 0xCC2 => some e.part
  | 0xCC3 => some (e.d.getD 0 0)
  | 0xCC4 => some (e.d.getD 1 0)
  | 0xCC5 => some (e.d.getD 2 0)
  | _ => none

/-- A CSR written; none where it is read-only. -/
def csrWrite (t : Thread) (a v : Nat) : Option Thread :=
  match a with
  | 0x001 => some { t with fcsr := t.fcsr / 32 * 32 + v % 32 }
  | 0x002 => some { t with fcsr := v % 8 * 32 + t.fcsr % 32 }
  | 0x003 => some { t with fcsr := v % 256 }
  | 0x800 => some { t with stream := v % 2 ^ 16 }
  | 0x801 => some { t with idxhi := v % 2 ^ 18 }
  | 0x802 => some { t with cvscale := v % 2 ^ 32 }
  | 0x803 => some { t with ovf := v % 2 ^ 32 }
  | 0x804 => some { t with van := v % 2 ^ 32 }
  | _ => none

/-- A CSR instruction. -/
def Thread.csr (t : Thread) (e : LaneEnv) (i : Nat) : Option Thread :=
  let a := nget i 20 12
  let v := if iF3 i < 4 then t.rx (iRs1 i) else iRs1 i
  match csrRead e t a with
  | none => none
  | some old =>
    let done := fun (u : Thread) => some (u.wx (iRd i) old).next
    match iF3 i % 4 with
    | 1 => (csrWrite t a v).bind done
    | 2 => if iRs1 i = 0 then done t else (csrWrite t a (old ||| v)).bind done
    | 3 => if iRs1 i = 0 then done t else (csrWrite t a (old &&& (2 ^ 32 - 1 - v))).bind done
    | _ => none

/-- The rounding mode an instruction uses; none where it is reserved. -/
def Thread.rm (t : Thread) (i : Nat) : Option Nat :=
  let r := if iF3 i = 7 then t.fcsr / 32 % 8 else iF3 i
  if r < 5 then some r else none

/-- A binary32 result written with its flags. -/
def Thread.fdone (t : Thread) (i : Nat) (r : Nat × Nat) : Option Thread := some ((t.wfp (iRd i) r.1).accrue r.2).next
/-- An integer result written with its flags. -/
def Thread.idone (t : Thread) (i : Nat) (r : Nat × Nat) : Option Thread := some ((t.wx (iRd i) r.1).accrue r.2).next

/-- The OP-FP instructions. -/
def Thread.opfp (t : Thread) (i : Nat) : Option Thread :=
  let a := t.rfp (iRs1 i)
  let b := t.rfp (iRs2 i)
  let x := f32v a
  let y := f32v b
  let arith := fun (k : Nat → Nat × Nat) => (t.rm i).bind fun rm => t.fdone i (k rm)
  match iF7 i with
  | 0x00 => arith fun rm => fresult rm [x, y] (addRm rm x y)
  | 0x04 => arith fun rm => fresult rm [x, y] (addRm rm x y.neg)
  | 0x08 => arith fun rm => fresult rm [x, y] (x.mul y)
  | 0x0C => arith fun rm =>
      let r := fresult rm [x, y] (x.div y)
      (r.1, if x.isFinite && !x.isZero && y.isZero then fDZ else r.2)
  | 0x2C => if iRs2 i = 0 then arith fun rm => fresult rm [x] x.sqrt else none
  | 0x10 =>
    let s := match iF3 i with
      | 0 => some (b / 2 ^ 31)
      | 1 => some (1 - b / 2 ^ 31)
      | 2 => some ((a / 2 ^ 31 + b / 2 ^ 31) % 2)
      | _ => none
    s.bind fun s => t.fdone i (s * 2 ^ 31 + a % 2 ^ 31, 0)
  | 0x14 => if iF3 i < 2 then t.fdone i (fminmax (iF3 i == 1) a b, 0) else none
  | 0x50 =>
    let bad := x.isNan || y.isNan
    match iF3 i with
    | 0 => t.idone i (b2n (x.le y), if bad then fNV else 0)
    | 1 => t.idone i (b2n (x.lt y), if bad then fNV else 0)
    | 2 => t.idone i (b2n (x.le y && y.le x), 0)
    | _ => none
  | 0x60 => if iRs2 i < 2 then (t.rm i).bind fun rm => t.idone i (toInt rm (iRs2 i == 0) x) else none
  | 0x68 =>
    if iRs2 i < 2 then
      (t.rm i).bind fun rm => t.fdone i (fround rm (if iRs2 i = 0 then .ofInt (sext 32 (t.rx (iRs1 i))) else .ofNat (t.rx (iRs1 i))))
    else none
  | 0x70 =>
    if iRs2 i ≠ 0 then none
    else match iF3 i with
      | 0 => t.idone i (a, 0)
      | 1 => t.idone i (fclass a, 0)
      | _ => none
  | 0x78 => if iRs2 i = 0 ∧ iF3 i = 0 then t.fdone i (t.rx (iRs1 i), 0) else none
  | _ => none

/-- A fused multiply-add, with the signs of its product and addend. -/
def Thread.fma (t : Thread) (i : Nat) (negP negC : Bool) : Option Thread :=
  if nget i 25 2 ≠ 0 then none
  else
    (t.rm i).bind fun rm =>
      let x := f32v (t.rfp (iRs1 i))
      let y := f32v (t.rfp (iRs2 i))
      let z := f32v (t.rfp (iRs3 i))
      let p := if negP then (x.mul y).neg else x.mul y
      let r := fresult rm [x, y, z] (addRm rm p (if negC then z.neg else z))
      t.fdone i (r.1, if (x.mul y).isNan && !x.isNan && !y.isNan then r.2 ||| fNV else r.2)

/-- One lane of an instruction that touches no memory; none where it is illegal or jumps to a misaligned address (04 R129, R131). -/
def Thread.lane (t : Thread) (e : LaneEnv) (i : Nat) : Option Thread :=
  let a := t.rx (iRs1 i)
  let b := t.rx (iRs2 i)
  match iOp i with
  | 0x37 => some (t.wx (iRd i) (immU i)).next
  | 0x17 => some (t.wx (iRd i) (t.pc + immU i)).next
  | 0x6F => (t.jump ((t.pc + immJ i) % 2 ^ 32)).map fun u => u.wx (iRd i) (t.pc + 4)
  | 0x67 => if iF3 i = 0 then (t.jump ((a + immI i) % 2 ^ 32 / 2 * 2)).map fun u => u.wx (iRd i) (t.pc + 4) else none
  | 0x63 =>
    match branchTaken (iF3 i) a b with
    | some true => t.jump ((t.pc + immB i) % 2 ^ 32)
    | some false => some t.next
    | none => none
  | 0x13 =>
    if iF3 i = 1 ∧ iF7 i ≠ 0 then none
    else if iF3 i = 5 ∧ iF7 i ≠ 0 ∧ iF7 i ≠ 0x20 then none
    else some (t.wx (iRd i) (alu (iF3 i) (iF3 i == 5 && iF7 i == 0x20) a (immI i))).next
  | 0x33 =>
    if iF7 i = 1 then some (t.wx (iRd i) (mulDiv (iF3 i) a b)).next
    else if iF7 i = 0 ∨ (iF7 i = 0x20 ∧ (iF3 i = 0 ∨ iF3 i = 5)) then some (t.wx (iRd i) (alu (iF3 i) (iF7 i == 0x20) a b)).next
    else none
  | 0x0F => if iF3 i = 0 then some t.next else none
  | 0x73 => if iF3 i = 0 ∨ iF3 i = 4 then none else t.csr e i
  | 0x53 => t.opfp i
  | 0x43 => t.fma i false false
  | 0x47 => t.fma i false true
  | 0x4B => t.fma i true false
  | 0x4F => t.fma i true true
  | _ => none

/-- A memory access of a lane: address, bytes; for a store the value, for a load whether it fills a binary32 register and whether it extends a sign. -/
structure LaneMem where
  store : Bool
  addr : Nat
  size : Nat
  value : Nat := 0
  fp : Bool := false
  signed : Bool := false

/-- The memory access that an instruction makes. -/
def Thread.access (t : Thread) (i : Nat) : Option LaneMem :=
  let a := t.rx (iRs1 i)
  match iOp i with
  | 0x03 =>
    let m := fun (n : Nat) (s : Bool) => some { store := false, addr := (a + immI i) % 2 ^ 32, size := n, signed := s }
    match iF3 i with
    | 0 => m 1 true | 1 => m 2 true | 2 => m 4 false | 4 => m 1 false | 5 => m 2 false | _ => none
  | 0x23 => if iF3 i < 3 then some { store := true, addr := (a + immS i) % 2 ^ 32, size := 2 ^ iF3 i, value := t.rx (iRs2 i) } else none
  | 0x07 => if iF3 i = 2 then some { store := false, addr := (a + immI i) % 2 ^ 32, size := 4, fp := true } else none
  | 0x27 => if iF3 i = 2 then some { store := true, addr := (a + immS i) % 2 ^ 32, size := 4, value := t.rfp (iRs2 i) } else none
  | _ => none

/-- The instruction is a load or store. -/
def isMemory (i : Nat) : Bool := [0x03, 0x23, 0x07, 0x27].contains (iOp i)

/-- The device's instructions (04 R130). -/
inductive FnOp where
  | twait | tsig | tpoll | cred
  | bscale (fmt : Nat)
  | cvt (ovfInf sr : Bool) (fmt : Nat)
  | draw (half : Nat)
  | spush | spop | accrd
  deriving DecidableEq, Repr

/-- The device's instruction that a word encodes (04 R130). fn.tsig with another rd or rs2 than 0 is illegal (log entry 164). -/
def fnOp (full : Bool) (i : Nat) : Option FnOp :=
  if !namesOk full i then none
  else if iOp i = 0x0B then
    match iF3 i, iF7 i with
    | 0, 0 => some .twait
    | 1, 0 => if iRd i = 0 ∧ iRs2 i = 0 then some .tsig else none
    | 2, 0 => some .tpoll
    | 3, 0 => some .cred
    | 4, 1 => some (.bscale 1)
    | 4, 2 => some (.bscale 2)
    | _, _ => none
  else if iOp i = 0x2B then
    match iF3 i with
    | 0 => if iF7 i < 64 ∧ iF7 i % 16 ≤ 4 then some (.cvt ((iF7 i).testBit 5) ((iF7 i).testBit 4) (iF7 i % 16)) else none
    | 1 => if iF7 i < 2 then some (.draw (iF7 i)) else none
    | 2 => if iF7 i = 0 then some .spush else none
    | 3 => if iF7 i = 0 then some .spop else none
    | 4 => if iF7 i = 0 then some .accrd else none
    | _ => none
  else none

/-- ecall. -/
def isEcall (i : Nat) : Bool := i == 0x73

end Sys2Proof.Machine
end

