-- ==== Sys2Proof/Machine/Consists.lean ====
section
/-! DEFINITION. The THREADS waybill: consists, their memory accesses, and the device's instructions (04 R124 to R132, 03 R95). -/

namespace Sys2Proof.Machine

/-- The lend region of the tile that holds a position: first offset in local store, and one past its last (03 R94, R96). -/
def Base.lendRegion (b : Base) (id : Nat) : Nat × Nat :=
  match b.tileOf id with
  | some (n, m) => let r := b.eff 1 2 .TILE_LEND n m * 2 ^ 20; (r, r + 2 ^ 20)
  | none => (0, 0)

/-- Where a thread address leads (04 R128). -/
inductive TAddr where
  | store (off : Nat)
  | memory (a : Nat)
  | bad
  deriving DecidableEq, Repr

/-- The mapping of [a, a + n) for a THREADS waybill (04 R128). -/
def Base.threadPlace (b : Base) (id : Nat) (x : Wb) (a n : Nat) : TAddr :=
  if a + n ≤ 2 ^ 22 then
    let (lo, hi) := b.lendRegion id
    if x.filler ∧ (a < lo ∨ hi < a + n) then .bad else .store a
  else if 2 ^ 31 ≤ a ∧ a + n ≤ 2 ^ 32 then
    match x.desc 3 with
    | some d => if b.memOwned x.part (d.base + a - 2 ^ 31) n then .memory (d.base + a - 2 ^ 31) else .bad
    | none => .bad
  else .bad

/-- The descriptor window asks for verified reads. -/
def Wb.windowSeal (x : Wb) : Bool := match x.desc 3 with | some d => d.sealchk | none => false

/-- A consist stops at its first fault (04 R131). -/
def Consist.stopped (c : Consist) : Bool := c.threads.any (·.faulted)
def Consist.over (c : Consist) : Bool := c.stopped || c.threads.all (·.ended)

/-- The lowest PC of the threads that have not ended, and the lanes at it (04 R126). -/
def Consist.active (c : Consist) : Option (Nat × List Nat) :=
  let live := (c.threads.zipIdx).filter fun t => !t.1.ended
  match live with
  | [] => none
  | t :: r =>
    let pc := r.foldl (fun m u => min m u.1.pc) t.1.pc
    some (pc, (live.filter fun u => u.1.pc == pc).map (·.2))

/-- Lanes of a consist changed. -/
def Consist.onLanes (c : Consist) (lanes : List Nat) (f : Nat → Thread → Thread) : Consist :=
  { c with threads := c.threads.zipIdx.map fun t => if lanes.contains t.2 then f t.2 t.1 else t.1 }

def Consist.lane (c : Consist) (k : Nat) : Thread := c.threads.getD k { pc := 0 }

/-- Lanes that fault keep their PC. -/
def Consist.faultLanes (c : Consist) (lanes : List Nat) : Consist := c.onLanes lanes fun _ t => { t with faulted := true }

/-- The running THREADS waybill of a tile position. -/
def Work.threadsWb (w : Work) (id : Nat) : Option Wb :=
  (w.unit id).window.find? fun x => x.phase == .running && x.opcode == 8 && !x.aborting

def Work.consists (w : Work) (id : Nat) : List Consist := (Map.find id w.tiles.consists).getD []

def Work.setConsists (w : Work) (id : Nat) (l : List Consist) : Work :=
  { w with tiles := { w.tiles with consists := if l.isEmpty then Map.del id w.tiles.consists else Map.put id l w.tiles.consists } }

/-- The THREADS waybill ends when every consist has ended or stopped at a fault (04 R127, R131). -/
def Work.threadsCheck (w : Work) (id : Nat) (x : Wb) : Work :=
  let cs := w.consists id
  if cs.all Consist.over then
    let ts := cs.flatMap (·.threads)
    let x := { x with ovf := ts.foldl (fun a t => satAdd 32 a t.ovf) x.ovf, van := ts.foldl (fun a t => satAdd 32 a t.van) x.van }
    let w := w.setConsists id []
    match ts.zipIdx.find? (fun t => t.1.faulted) with
    | none => w.setWb id (x.endWith 0x01)
    | some (t, k) =>
      let (b, x) := w.base.each id x 0x030E
      { w with base := b }.setWb id { x.endWith 0x15 with posA := t.pc, posB := k }
  else w.setWb id x

/-- A consist replaced after an instruction, and the waybill's end looked for. -/
def Work.putConsist (w : Work) (id : Nat) (x : Wb) (k : Nat) (c : Consist) : Work :=
  (w.setConsists id ((w.consists id).set k c)).threadsCheck id x

/-- What a consist is about to execute: its waybill, the consist, the PC, the active lanes and the instruction; none at a fetch that faults. -/
structure Issue where
  x : Wb
  c : Consist
  pc : Nat
  lanes : List Nat
  ins : Option Nat

/-- The instruction of a thread address (04 R127, R128). -/
def Work.fetch (w : Work) (id : Nat) (x : Wb) (pc : Nat) : Work × Option Nat :=
  if pc % 4 ≠ 0 then (w, none)
  else
    match w.base.threadPlace id x pc 4 with
    | .store off => (w, some (ofLe (w.tiles.localRead (w.base.cx id x).tile off 4)))
    | .memory a =>
      let (b, n) := w.base.readNum ((w.base.cx id x).req x.windowSeal) a 4
      ({ w with base := b }, n)
    | .bad => (w, none)

/-- The next instruction of consist k of a tile position, where it has one and is not held at fn.twait. -/
def Work.issueOf (w : Work) (id k : Nat) : Option (Work × Issue) :=
  match w.threadsWb id, (w.consists id)[k]? with
  | some x, some c =>
    if c.over || c.waiting.isSome then none
    else
      match c.active with
      | none => none
      | some (pc, lanes) =>
        let (w, i) := w.fetch id x pc
        some ({ w with base := w.base.noteWork (w.base.cx id x).req 0x08 1 }, ⟨x, c, pc, lanes, i⟩)
  | _, _ => none

def Wb.fullFile (x : Wb) : Bool := x.oparg.testBit 7

/-- What lane `lane` of consist k knows of itself. -/
def laneEnv (x : Wb) (k lane : Nat) : LaneEnv :=
  { tid := 32 * k + lane, seq := x.seq, part := x.part, full := x.fullFile,
    d := (List.range 3).map fun j => match x.desc j, x.desc 3 with
      | some d, some w => if w.base ≤ d.base ∧ d.base < w.base + 2 ^ 31 then 2 ^ 31 + d.base - w.base else 0
      | _, _ => 0 }

/-- Numbers without repeats, rising. -/
def distinct (l : List Nat) : List Nat := l.foldl (fun s a => NSet.add a s) []

/-- The granules of 16 bytes of device memory that a consist's loads touch, each read once (04 R132). -/
def Work.granules (c : Cx) (sealchk : Bool) : List Nat → Work → Work × List (Nat × List (Byte × Bool))
  | [], w => (w, [])
  | g :: r, w =>
    let (b, l) := (w.base.noteReq c.req c.src.die c.src.unit 0x09 1 (16 * g)).read { c.req sealchk with byUnit := false } (16 * g) 16
    let (w, t) := Work.granules c sealchk r { w with base := b }
    (w, (g, l) :: t)

/-- The register value of a load. -/
def LaneMem.load (m : LaneMem) (l : List Byte) : Nat :=
  if m.signed then tc 32 (sext (8 * m.size) (ofLe l)) else ofLe l

/-- The loads of a consist: every lane at once. A poisoned load faults (05 R150). -/
def Work.loads (w : Work) (id k : Nat) (s : Issue) (i : Nat) (acc : List (Nat × LaneMem × TAddr)) : Work :=
  let cx := w.base.cx id s.x
  let gs := distinct (acc.filterMap fun a => match a.2.2 with | .memory p => some (p / 16) | _ => none)
  let (w, got) := Work.granules cx s.x.windowSeal gs w
  let vals := acc.map fun a =>
    match a.2.2 with
    | .memory p => (a.1, a.2.1, (((Map.find (p / 16) got).getD []).drop (p % 16)).take a.2.1.size)
    | .store o => (a.1, a.2.1, (w.tiles.localRead cx.tile o a.2.1.size).map fun x => (x, false))
    | .bad => (a.1, a.2.1, [])
  let bad := (vals.filter fun v => v.2.2.any (·.2)).map (·.1)
  if bad ≠ [] then w.putConsist id s.x k (s.c.faultLanes bad)
  else
    w.putConsist id s.x k (s.c.onLanes s.lanes fun lane t =>
      match vals.find? (fun v => v.1 == lane) with
      | some (_, m, l) => if m.fp then (t.wfp (iRd i) (m.load (l.map (·.1)))).next else (t.wx (iRd i) (m.load (l.map (·.1)))).next
      | none => t)

/-- The byte that an instruction leaves at an address that several lanes store to (04 R126 states no order among them). -/
def winner (free : Nat) (l : List Byte) : Nat × Byte :=
  match l with
  | [] => (free, 0)
  | v :: r => if r.all (· == v) then (free, v) else (free + 1, l.getD (Config.storeWinner free % l.length) v)

/-- The bytes that lanes store, by address, conflicts resolved. -/
def storeCells (cells : List (Nat × Byte)) (free : Nat) : Nat × List (Nat × Byte) :=
  (distinct (cells.map (·.1))).foldl (fun s a =>
    let (f, v) := winner s.1 ((cells.filter fun c => c.1 == a).map (·.2))
    (f, s.2 ++ [(a, v)])) (free, [])

/-- Bytes of one granule written by one request (04 R132). -/
def Base.granuleStore (b : Base) (rq : MemReq) (g : Nat) (cells : List (Nat × Byte)) : Base :=
  let b := b.noteReq rq rq.src.die rq.src.unit 0x09 1 (16 * g)
  match b.place (16 * g) with
  | .stack st off =>
    let old := Memory.run b.mem (memKey st off) 16
    b.pieceStore rq (16 * g) (old.zipIdx.map fun c => ((Map.find (16 * g + c.2) cells).getD c.1, false))
  | _ => cells.foldl (fun b c => b.pieceStore rq c.1 [(c.2, false)]) b

/-- The stores of a consist. -/
def Work.stores (w : Work) (id k : Nat) (s : Issue) (acc : List (Nat × LaneMem × TAddr)) : Work :=
  let cx := w.base.cx id s.x
  let bytesOf := fun (m : LaneMem) (a : Nat) => (leBytes m.size m.value).zipIdx.map fun v => (a + v.2, v.1)
  let (free, loc) := storeCells (acc.flatMap fun a => match a.2.2 with | .store o => bytesOf a.2.1 o | _ => []) w.base.free
  let (free, mem) := storeCells (acc.flatMap fun a => match a.2.2 with | .memory p => bytesOf a.2.1 p | _ => []) free
  let b := (distinct (mem.map fun c => c.1 / 16)).foldl
    (fun (b : Base) g => b.granuleStore cx.req g (mem.filter fun c => c.1 / 16 == g)) { w.base with free := free }
  let t := loc.foldl (fun (t : Tiles) c => t.localWrite cx.tile c.1 [c.2]) w.tiles
  { w with base := b, tiles := t }.putConsist id s.x k (s.c.onLanes s.lanes fun _ t => t.next)

/-- The accesses that the active lanes of an instruction make, with where they lead; a misaligned one leads nowhere (04 R128, R131). -/
def Work.accesses (w : Work) (id : Nat) (s : Issue) (i : Nat) : List (Nat × LaneMem × TAddr) :=
  s.lanes.filterMap fun l => ((s.c.lane l).access i).map fun m =>
    (l, m, if m.addr % m.size = 0 then w.base.threadPlace id s.x m.addr m.size else .bad)

/-- The lanes whose access leads nowhere. -/
def badLanes (acc : List (Nat × LaneMem × TAddr)) : List Nat := (acc.filter fun a => a.2.2 == .bad).map (·.1)

/-- The active lanes for which an instruction that touches no memory is illegal, or jumps to a misaligned address (04 R131). -/
def Issue.illegal (s : Issue) (k i : Nat) : List Nat := s.lanes.filter fun l => ((s.c.lane l).lane (laneEnv s.x k l) i).isNone

/-- An RV32IMF instruction of a consist, or the fault of one that is illegal, misaligned or forbidden (04 R126 to R131). The device's
instructions and ecall are other commands. -/
def Work.threadInstruction (w0 : Work) (id k : Nat) : Work :=
  match w0.issueOf id k with
  | none => w0
  | some (w, s) =>
    match s.ins with
    | none => w.putConsist id s.x k (s.c.faultLanes s.lanes)
    | some i =>
      if isEcall i || (fnOp s.x.fullFile i).isSome then w0
      else if !namesOk s.x.fullFile i then w.putConsist id s.x k (s.c.faultLanes s.lanes)
      else if isMemory i then
        let acc := w.accesses id s i
        let bad := badLanes acc
        if acc.length < s.lanes.length then w.putConsist id s.x k (s.c.faultLanes s.lanes)
        else if bad ≠ [] then w.putConsist id s.x k (s.c.faultLanes bad)
        else if acc.all fun a => a.2.1.store then w.stores id k s acc
        else w.loads id k s i acc
      else
        let bad := s.illegal k i
        if bad ≠ [] then w.putConsist id s.x k (s.c.faultLanes bad)
        else w.putConsist id s.x k (s.c.onLanes s.lanes fun l t => (t.lane (laneEnv s.x k l) i).getD t)

/-- THREADS (04 R124, R127): the consists of a running waybill, their threads at the entry PC with registers zero. -/
def Work.threads (w : Work) (id q seq : Nat) : Work :=
  match w.wb? id q seq with
  | none => w
  | some x =>
    if x.phase = .running ∧ x.opcode = 8 ∧ !x.aborting ∧ !x.handed ∧ (w.consists id).isEmpty then
      w.setConsists id (List.replicate (x.oparg % 128 + 1) { threads := List.replicate 32 { pc := x.arg % 2 ^ 22 } })
    else w

/-- ecall: the active threads end (04 R127). -/
def Work.ecall (w0 : Work) (id k : Nat) : Work :=
  match w0.issueOf id k with
  | some (w, s) =>
    if s.ins = some 0x73 then w.putConsist id s.x k (s.c.onLanes s.lanes fun _ t => { t with ended := true }) else w0
  | none => w0

/-- A consist about to execute one of the device's instructions, with the instruction word. -/
def Work.fnIssue (w : Work) (id k : Nat) : Option (Work × Issue × Nat × FnOp) :=
  match w.issueOf id k with
  | some (w, s) =>
    match s.ins with
    | some i => (fnOp s.x.fullFile i).map fun op => (w, s, i, op)
    | none => none
  | none => none

/-- Lanes that each write rd. -/
def Issue.writes (s : Issue) (i : Nat) (f : Nat → Thread → Nat) : Consist := s.c.onLanes s.lanes fun l t => (t.wx (iRd i) (f l t)).next

/-- Tokens that the active lanes name. -/
def Issue.tokens (s : Issue) (i : Nat) : List Nat := s.lanes.map fun l => (s.c.lane l).rx (iRs1 i) % 2 ^ 24

/-- The tokens of a list that are not present. -/
def Work.absent (w : Work) (p : Nat) (l : List Nat) : List Nat := l.filter fun t => !w.eng.present p t

/-- A wait of fn.twait that began at t0 has passed its queue's limit (04 R130). -/
def Work.waitPassed (w : Work) (x : Wb) (t0 : Nat) : Bool :=
  decide (w.base.qrf x.queue 0 32 .DOCK_QLIMIT ≠ 0 ∧ w.base.time > t0 + w.base.qrf x.queue 0 32 .DOCK_QLIMIT)

/-- Lanes that leave fn.twait with value v (04 R130). -/
def Consist.wake (c : Consist) (lanes : List Nat) (i : Option Nat) (v : Nat) : Consist :=
  { c with waiting := none }.onLanes lanes fun _ t => (t.wx (iRd (i.getD 0)) v).next

/-- fn.twait: passes at once where every token is present, else waits (04 R130). -/
def Work.fnTwait (w : Work) (id k : Nat) : Work :=
  match w.fnIssue id k with
  | some (w, s, i, .twait) =>
    match w.absent s.x.part (distinct (s.tokens i)) with
    | [] => w.putConsist id s.x k (s.writes i fun _ _ => 0)
    | l => w.setConsists id ((w.consists id).set k { s.c with waiting := some (l, w.base.time) })
  | _ => w

/-- The wait of fn.twait ends: its tokens have come, or the queue's wait limit has passed (04 R130). -/
def Work.fnTwaitWake (w : Work) (id k : Nat) : Work :=
  match w.threadsWb id, (w.consists id)[k]? with
  | some x, some c =>
    match c.waiting, c.active with
    | some (l, t0), some (pc, lanes) =>
      let left := w.absent x.part l
      if left ≠ [] ∧ !w.waitPassed x t0 then w.setConsists id ((w.consists id).set k { c with waiting := some (left, t0) })
      else
        let (w, i) := w.fetch id x pc
        if left = [] then w.putConsist id x k (c.wake lanes i 0)
        else
          let (b, x) := (w.base.qwf x.queue 4 1 1 .DOCK_QSTAT).each id x 0x0305
          { w with base := b }.putConsist id x k (c.wake lanes i 1)
    | _, _ => w
  | _, _ => w

/-- fn.tsig: one production for each active thread is sent to its home (04 R112, R130). -/
def Work.fnTsig (w : Work) (id k : Nat) : Work :=
  match w.fnIssue id k with
  | some (w, s, i, .tsig) =>
    { w with eng := { w.eng with flying := w.eng.flying ++ (s.tokens i).map fun t => TokMsg.produce s.x.part t s.x.filler } }.putConsist id s.x k
      (s.c.onLanes s.lanes fun _ t => t.next)
  | _ => w

/-- fn.tpoll (04 R130). -/
def Work.fnTpoll (w : Work) (id k : Nat) : Work :=
  match w.fnIssue id k with
  | some (w, s, i, .tpoll) =>
    w.putConsist id s.x k (s.writes i fun _ t => b2n (w.eng.present s.x.part (t.rx (iRs1 i) % 2 ^ 24)))
  | _ => w

/-- fn.cred (04 R130). -/
def Work.fnCred (w : Work) (id k : Nat) : Work :=
  match w.fnIssue id k with
  | some (w, s, i, .cred) =>
    w.putConsist id s.x k (s.writes i fun _ t => (Map.find (t.rx (iRs1 i) % 65536) (w.unit id).balance).getD 0)
  | _ => w

/-- fn.bscale (04 R130, 07 R198). -/
def Work.fnBscale (w : Work) (id k : Nat) : Work :=
  match w.fnIssue id k with
  | some (w, s, i, .bscale f) =>
    w.putConsist id s.x k (s.writes i fun _ t => chooseE8 (Fmt.ofCode f) [f32v (t.rfp (iRs1 i))])
  | _ => w

/-- One lane of fn.cvt: the element (04 R130, R131). -/
def Thread.cvtElem (t : Thread) (i K s : Nat) (ovfInf sr : Bool) (fmt : Nat) : OutElem :=
  outElem (Fmt.ofCode fmt) ovfInf (if sr then .sr (draw16 K s t.stream (t.idxhi * 2 ^ 32 + t.rx (iRs2 i))) else .rne) none
    (some (if badScale t.cvscale then none else some t.cvscale)) (f32v (t.rfp (iRs1 i)))

/-- The watch counts of a thread conversion: eight pairs for a waybill, any further one in slot 1,023 (07 R199). -/
def Wb.threadCounts (x : Wb) (c : Counts) : Wb × Bool :=
  if x.counts.any (fun y => y.slot == c.slot && y.fmt == c.fmt) || decide (x.counts.length < 8) then (x.addCounts c, false)
  else (x.addCounts { c with slot := 1023 }, true)

/-- What the conversions of the active lanes report: SCL.BADSCALE once, and their watch counts (04 R131, 07 R199). -/
def Issue.cvtReport (s : Issue) (id i K : Nat) (ovfInf sr : Bool) (fmt : Nat) (b : Base) : Base × Wb :=
  s.lanes.foldl (fun (a : Base × Wb) l =>
    let t := s.c.lane l
    let (b, x) := if badScale t.cvscale then a.1.once id a.2 0x010C else a
    let (x, more) := x.threadCounts (countsOf (t.stream / 64) fmt sr [t.cvtElem i K s.x.step ovfInf sr fmt])
    if more then b.once id x 0x060A else (b, x)) (b, s.x)

/-- A lane after fn.cvt: rd, fn.ovf and fn.van (04 R130). -/
def Thread.cvtDone (t : Thread) (i : Nat) (e : OutElem) : Thread :=
  { (t.wx (iRd i) e.code).next with ovf := satAdd 32 t.ovf (b2n e.ovf), van := satAdd 32 t.van (b2n e.van) }

/-- fn.cvt (04 R130, R131; 06 R183). -/
def Work.fnCvt (w : Work) (id k : Nat) : Work :=
  match w.fnIssue id k with
  | some (w, s, i, .cvt ovfInf sr fmt) =>
    let bad := s.lanes.filter fun l => decide ((s.c.lane l).stream ≥ 0xF000)
    if bad ≠ [] then w.putConsist id s.x k (s.c.faultLanes bad)
    else
      let K := s.x.seed
      let (b, x) := s.cvtReport id i K ovfInf sr fmt w.base
      { w with base := b }.putConsist id x k (s.c.onLanes s.lanes fun _ t => t.cvtDone i (t.cvtElem i K s.x.step ovfInf sr fmt))
  | _ => w

/-- fn.draw (04 R130, 02 R55). -/
def Work.fnDraw (w : Work) (id k : Nat) : Work :=
  match w.fnIssue id k with
  | some (w, s, i, .draw half) =>
    let K := s.x.seed
    w.putConsist id s.x k (s.writes i fun _ t =>
      generator K (s.x.step % 2 ^ 32) t.stream (t.idxhi % 2 ^ 16 * 2 ^ 32 + t.rx (iRs1 i)) / 2 ^ (32 * half))
  | _ => w

/-- Address and length of fn.spush and fn.spop, of the lowest active thread (04 R131): a local-store range, 64-byte aligned. -/
def Work.sidOperands (w : Work) (id : Nat) (s : Issue) (i : Nat) : Option (Nat × Nat) :=
  match s.lanes with
  | [] => none
  | l :: _ =>
    let t := s.c.lane l
    let a := t.rx (iRs1 i)
    let n := t.rx (iRs2 i)
    if a % 64 = 0 ∧ n % 64 = 0 ∧ 64 ≤ n ∧ n ≤ 65536 then
      match w.base.threadPlace id s.x a n with
      | .store off => some (off, n)
      | _ => none
    else none

/-- The top frame of the thread's segment is missing, or not in the state that a push or a pop needs (06 R180). -/
def Work.noFrame (w : Work) (n p : Nat) (closed : Bool) : Bool :=
  match (w.frames n p).getLast? with
  | some f => f.closed != closed
  | none => true

/-- fn.spush (04 R130, R131, 06 R180). -/
def Work.fnSpush (w : Work) (id k : Nat) : Work :=
  match w.fnIssue id k with
  | some (w, s, i, .spush) =>
    match w.sidOperands id s i, w.base.tileOf id with
    | some (off, len), some (n, _) =>
      let cx := w.base.cx id s.x
      let x := if w.noFrame n s.x.part false then s.x.firstEvent 0x0507 else s.x
      let (w, r) := w.threadPush cx n x.part (w.tiles.localRead cx.tile off len)
      w.putConsist id x k (s.writes i fun _ _ => r)
    | _, _ => w.putConsist id s.x k (s.c.faultLanes (s.lanes.take 1))
  | _ => w

/-- fn.spop (04 R130, R131, 06 R180). -/
def Work.fnSpop (w : Work) (id k : Nat) : Work :=
  match w.fnIssue id k with
  | some (w, s, i, .spop) =>
    match w.sidOperands id s i, w.base.tileOf id with
    | some (off, len), some (n, _) =>
      let x := if w.noFrame n s.x.part true then s.x.firstEvent 0x0507 else s.x
      let (w, r) := w.threadPop (w.base.cx id s.x) n x.part off len
      w.putConsist id x k (s.writes i fun _ _ => r)
    | _, _ => w.putConsist id s.x k (s.c.faultLanes (s.lanes.take 1))
  | _ => w

/-- Element e of set j as its last completed member left it, where a chain of partition p holds the set (03 R95). DESIGN CHOICE (log entry 127): of
a held chain with several output tiles the one read is the last, which the array wrote last; R95 names none. -/
def Work.heldElement (w : Work) (id p j e : Nat) : Option Nat :=
  if w.base.setState id j ≠ sHELD then none
  else
    match (w.jobs id).find? fun b => b.part == p && b.heldSince.isSome && b.sets.head? == some j with
    | none => none
    | some b =>
      match b.accs.getLast? with
      | some (_, t) => some (if e / 128 < t.rows ∧ e % 128 < t.cols then t.a.getD (e / 128 * t.cols + e % 128) 0 else 0)
      | none => some 0

/-- The element that fn.accrd of a thread names (04 R130). -/
def Thread.accElement (t : Thread) (w : Work) (id p i : Nat) : Option Nat := w.heldElement id p (t.rx (iRs1 i) % 2) (t.rx (iRs2 i) % 16384)

/-- fn.accrd (04 R130, 03 R95). -/
def Work.fnAccrd (w : Work) (id k : Nat) : Work :=
  match w.fnIssue id k with
  | some (w, s, i, .accrd) =>
    let bad := s.lanes.any fun l => ((s.c.lane l).accElement w id s.x.part i).isNone
    let (b, x) := if bad then w.base.each id s.x 0x020A else (w.base, s.x)
    { w with base := b }.putConsist id x k (s.c.onLanes s.lanes fun _ t =>
      (t.wfp (iRd i) (if bad then 0 else (t.accElement w id s.x.part i).getD 0)).next)
  | _ => w

end Sys2Proof.Machine
end

