-- ==== Sys2Proof/Machine/Roots.lean ====
section
/-! DEFINITION. The arithmetic of a refresh (10 R272 to R285): normalisation, the coupled Newton iteration in fixed point, and the damped inverse in
binary32, on matrices as lists of rows. Nothing here touches the machine's state. -/

namespace Sys2Proof.Machine

/-- The refresh parameters of a structure descriptor, bytes 64 to 127 (10 R272). -/
structure RefPar where
  kind : Nat
  trace : Bool
  relative : Bool
  qx : Nat
  klog2 : Nat
  itcold : Nat
  itwarm : Nat
  agemax : Nat
  withdraw : Bool
  damp : Nat
  tol : Nat
  use : Nat
  pivmin : Nat
  deriving DecidableEq, Repr

def RefPar.parse (l : List Byte) : RefPar :=
  { kind := fieldAt l 64 1 % 8, trace := (fieldAt l 65 1).testBit 0, relative := (fieldAt l 65 1).testBit 1, qx := fieldAt l 66 1 % 16,
    klog2 := fieldAt l 67 1, itcold := fieldAt l 68 1, itwarm := fieldAt l 69 1, agemax := fieldAt l 70 1,
    withdraw := (fieldAt l 71 1).testBit 0, damp := fieldAt l 72 4, tol := fieldAt l 76 4, use := fieldAt l 80 4, pivmin := fieldAt l 84 4 }

/-- p and log₂ p of a root; an inverse counts as q = 1 in R277. -/
def RefPar.logp (r : RefPar) : Nat := if r.kind = 2 then 1 else if r.kind = 3 then 2 else 0
def RefPar.p (r : RefPar) : Nat := 2 ^ r.logp

/-- A binary32 code that is finite and greater than 0. -/
def f32positive (c : Nat) : Bool := c < 0x7F800000 && c != 0

/-- Refresh parameters that are not valid (10 R272, R273). -/
def refParBad (l : List Byte) : Bool :=
  let r := RefPar.parse l
  if fieldAt l 64 1 = 0 then (slice l 65 63).any (· ≠ 0)
  else
    let common := decide (4 < fieldAt l 64 1) || decide (3 < fieldAt l 65 1) || decide (1 < fieldAt l 71 1) || (slice l 88 40).any (· ≠ 0)
      || !f32positive r.damp || decide (r.klog2 < 1 ∨ 24 < r.klog2)
    if r.kind = 4 then
      common || fieldAt l 66 1 != 0 || r.itcold != 0 || r.itwarm != 0 || r.tol != 0 || r.use != 0 || !f32positive r.pivmin
    else
      common || decide (fieldAt l 66 1 < 2 ∨ 8 < fieldAt l 66 1) || decide (r.qx < (r.klog2 + r.p - 1) / r.p + 2)
        || decide (r.itcold < 1 ∨ 64 < r.itcold) || decide (r.itwarm < 1 ∨ 64 < r.itwarm)
        || !f32positive r.tol || !f32positive r.use || decide (r.use < r.tol) || decide (f32one ≤ r.use) || r.pivmin != 0

/-- An exact value rounded upward to binary32 (10 R277, R281). -/
def f32upward (v : Num) : Nat :=
  match v with
  | .nan => 0x7FC00000
  | .inf s => (if s then 0x80000000 else 0) + 0x7F800000
  | .fin s m e =>
    if m = 0 then (if s then 0x80000000 else 0)
    else
      let x := max (ilog2 m e) (-126)
      let k := x - 23
      let q := if k ≤ e then m * 2 ^ (e - k).toNat else m / 2 ^ (k - e).toNat
      let rem := if k ≤ e then 0 else m % 2 ^ (k - e).toNat
      let c := (k + 149).toNat * 2 ^ 23 + q + (if rem ≠ 0 ∧ !s then 1 else 0)
      if s then 0x80000000 + min c 0x7F7FFFFF else min c 0x7F800000

def f32addUp (a b : Nat) : Nat := f32upward ((f32v a).add (f32v b))
def f32mulUp (a b : Nat) : Nat := f32upward ((f32v a).mul (f32v b))

/-- The greater of two binary32 codes that are not NaN. -/
def f32greater (a b : Nat) : Nat := if (f32v a).lt (f32v b) then b else a

/-- An event of a refresh: its code, side, cause and CRV_ROOTLAST.INDEX (10 R299). -/
structure RootEv where
  code : Nat
  side : Nat
  cause : Nat
  index : Nat
  deriving DecidableEq, Repr

/-- A side that fails: its cause and its events. -/
structure SideFail where
  cause : Nat
  evs : List RootEv
  deriving DecidableEq, Repr

/-- Overflows and vanishes of a refresh's conversions (02 R48). -/
abbrev Losses := Nat × Nat
def Losses.add (a b : Losses) : Losses := (a.1 + b.1, a.2 + b.2)

/-- A normalised side: e, and the exact elements of 2^−e (F + λI) (10 R277). -/
structure NormSide where
  e : Int
  elems : List (List Num)

/-- The smallest multiple of q at or above log₂ of a positive value (10 R277). -/
def normExp (q : Nat) (m : Nat) (x : Int) : Int :=
  let L := ilog2 m x + (if m = 2 ^ Nat.log2 m then 0 else 1)
  0 - (0 - L) / (q : Int) * q

def rangeFail (side : Nat) : SideFail := ⟨3, [⟨0x0901, side, 3, 0⟩]⟩

/-- Normalisation and damping of one side, with the range check of 10 R278. The rounding of the elements is `root`: Q2.30, else binary32. -/
def normalise (r : RefPar) (side : Nat) (F : List (List Nat)) : Except SideFail NormSide :=
  if F.any (fun row => row.any fun c => !f32isFinite c) then .error ⟨7, [⟨0x0108, side, 7, 0⟩]⟩
  else
    let gF := if r.trace then (F.zipIdx.foldl (fun a x => f32addUp a (x.1.getD x.2 0)) 0)
      else F.foldl (fun a row => f32greater a (row.foldl (fun s c => f32addUp s (f32abs c)) 0)) 0
    let lambda := if r.relative then f32mul r.damp gF else r.damp
    let g := f32addUp gF lambda
    let q := if r.kind = 4 then 1 else r.p
    match f32v g, f32v lambda with
    | .fin false (m + 1) x, lam =>
      let e := normExp q (m + 1) x
      if e < -124 ∨ 124 < e then .error (rangeFail side)
      else
        let el := F.zipIdx.map fun row => row.1.zipIdx.map fun c =>
          ((if c.2 = row.2 then (f32v c.1).add lam else f32v c.1).scale (-e))
        let fixed := fun (v : Num) => if r.kind = 4 then f32v (convert .b32 false .rne v).code else
          (match v with
            | .fin s k y => .fin s (steps .rne k y (-30)) (-30)
            | v => v)
        match (el.zipIdx.filter fun row => !(Num.zero.lt (fixed (row.1.getD row.2 .zero)))) with
        | row :: _ => .error ⟨4, [⟨0x0902, side, 4, row.2⟩]⟩
        | [] =>
          match lam with
          | .fin false (n + 1) y => if e - ilog2 (n + 1) y > r.klog2 then .error (rangeFail side) else .ok ⟨e, el⟩
          | _ => .error (rangeFail side)
    | _, _ => .error (rangeFail side)

/-- Integers that stand for fixed-point elements. -/
abbrev Mat := List (List Int)

/-- A value clamped to a two's complement of w bits, and whether it had to be (10 R274). -/
def clampTo (w : Nat) (z : Int) : Int × Bool :=
  let hi : Int := 2 ^ (w - 1) - 1
  if z > hi then (hi, true) else if z < -hi - 1 then (-hi - 1, true) else (z, false)

/-- A value with `drop` surplus fraction bits rounded to nearest-even (02 R51). -/
def dropBits (drop : Nat) (z : Int) : Int :=
  signed (decide (z < 0)) (steps .rne z.natAbs 0 drop)

/-- One element of a product: the exact sum in 72 bits, rounded and saturated into 32 bits (10 R274). -/
def fxDot (drop : Nat) (a b : List Int) : Int × Bool :=
  let s := (a.zip b).foldl (fun (t : Int) x => t + x.1 * x.2) 0
  let c := clampTo 72 s
  let o := clampTo 32 (dropBits drop c.1)
  (o.1, c.2 || o.2)

/-- Rows of a matrix as columns. -/
def Mat.columns {α : Type} (z : α) (n : Nat) (A : List (List α)) : List (List α) := (List.range n).map fun j => A.map fun r => r.getD j z

/-- A product, and whether any element saturated. -/
def fxMul (drop : Nat) (A B : Mat) : Mat × Bool :=
  let cols := Mat.columns 0 (B.headD []).length B
  let full := A.map fun r => cols.map (fxDot drop r)
  (full.map (·.map (·.1)), full.any (·.any (·.2)))

/-- The losses of a matrix of conversions (02 R48). -/
def cvtLosses (A : List (List Cvt)) : Losses := ((A.map fun r => r.countP (·.ovf)).sum, (A.map fun r => r.countP (·.van)).sum)

/-- The exact values of a matrix converted to Qm.n with f fraction bits, and the losses of the conversion; an overflow is a saturation (02 R46). -/
def fxOf (f : Nat) (A : List (List Num)) : Mat × Losses :=
  let full := A.map fun r => r.map (convert (.q (32 - f)) false .rne)
  (full.map (·.map fun c => sext 32 c.code), cvtLosses full)

/-- The identity of side s with f fraction bits. -/
def fxOne (s f : Nat) : Mat := (List.range s).map fun i => (List.range s).map fun j => if i = j then (2 : Int) ^ f else 0

/-- Q2.30 converted to Q4.28. -/
def toQ428 (A : Mat) : Mat := A.map fun r => r.map (dropBits 2)

/-- The losses of that conversion: the nonzero elements that become zero (02 R48). -/
def toQ428Losses (A : Mat) : Losses := (0, (A.map fun r => r.countP fun z => z != 0 && dropBits 2 z == 0).sum)

/-- residual(M) (10 R281). -/
def residual (M : Mat) : Nat :=
  M.zipIdx.foldl (fun a row =>
    f32greater a (f32upward (.fin false (row.1.zipIdx.foldl (fun t c => t + (c.1 - (if c.2 = row.2 then (2 : Int) ^ 28 else 0)).natAbs) 0) (-28)))) 0

/-- T = ((p + 1) I − M) / p in Q4.28 (10 R280). -/
def rootT (p logp : Nat) (M : Mat) : Mat × Bool :=
  let full := M.zipIdx.map fun row => row.1.zipIdx.map fun c =>
    clampTo 32 (dropBits logp ((if c.2 = row.2 then ((p : Int) + 1) * 2 ^ 28 else 0) - c.1))
  (full.map (·.map (·.1)), full.any (·.any (·.2)))

/-- How far a root side has come (10 R280, R281, R285). -/
inductive SideRun where
  /-- At a boundary, with X, M, whether it still runs warm, and its iteration limit. -/
  | live (X M : Mat) (warm : Bool) (limit : Nat)
  | converged (X : Mat) (resid : Nat)
  | usable (X : Mat) (r cause : Nat)
  | failed (cause : Nat)

/-- Products still to be done before the deadline has passed, none where it does not pass during the refresh; and the products completed so far. -/
abbrev Budget := Option Nat × Nat

/-- One test point: none where the deadline has passed (10 R292). -/
def Budget.test : Budget → Option Budget
  | (none, u) => some (none, u + 1)
  | (some 0, _) => none
  | (some (n + 1), u) => some (some n, u + 1)

/-- The budget once the deadline has passed: every product before it was completed. -/
def Budget.spent (t : Budget) : Budget := (some 0, t.2 + t.1.getD 0)

/-- What a product behind its test point comes to: done, saturated (10 R274), or not begun, the deadline having passed. -/
inductive Timed where
  | done (A : Mat) (t : Budget)
  | sat (t : Budget)
  | late (t : Budget)

/-- A product behind its test point. -/
def timedMul (drop : Nat) (A B : Mat) (t : Budget) : Timed :=
  match t.test with
  | none => .late t.spent
  | some t => let C := fxMul drop A B; if C.2 then .sat t else .done C.1 t

/-- n products A := op A behind their test points, up to the first that saturates. -/
def timedPow (op : Mat → Mat × Mat) (drop : Nat) : Nat → Mat → Budget → Timed
  | 0, A, t => .done A t
  | n + 1, A, t =>
    match timedMul drop (op A).1 (op A).2 t with
    | .done A t => timedPow op drop n A t
    | s => s

/-- A side stopped at its boundary by the deadline (10 R281, R292). -/
def stopSide (r : RefPar) (side : Nat) : SideRun → SideRun × List RootEv
  | .live X M _ _ =>
    let q := residual M
    if (f32v q).le (f32v r.use) then (.usable X q 1, []) else (.failed 1, [⟨0x0903, side, 1, 0⟩])
  | s => (s, [])

/-- A side starts from the identity (10 R282). -/
def coldSide (r : RefPar) (A : Mat) : SideRun := .live (fxOne A.length (32 - r.qx)) (toQ428 A) false r.itcold

/-- A side reaches boundary 0: a warm one with a residual of 1 or more restarts cold, with the event and the count of that (10 R280, R282). -/
def restartSide (r : RefPar) (side : Nat) (A : Mat) (s : SideRun) : SideRun × List RootEv × Nat :=
  match s with
  | .live _ M true _ => if (f32v f32one).le (f32v (residual M)) then (coldSide r A, [⟨0x0904, side, 0, 2⟩], 1) else (s, [], 0)
  | _ => (s, [], 0)

/-- A side that saturates (10 R278). -/
def satSide (side : Nat) : Option SideRun × List RootEv := (some (.failed 3), [⟨0x0901, side, 3, 0⟩])

/-- One side's part of iteration k (10 R280). DESIGN CHOICE (log entry 129): X, in the format QX, is multiplied by T and by M, in Q4.28, as
10 R279 and R280 write it, although the two factors do not share their m (02 R42). Answers the side after it and its events; none says that the deadline passed. -/
def rootPart (r : RefPar) (side k : Nat) (s : SideRun) (t : Budget) : (Option SideRun × List RootEv) × Budget :=
  match s with
  | .live X M warm limit =>
    let q := residual M
    let rr := f32mulUp q q
    let T := rootT r.p r.logp M
    if T.2 then (satSide side, t)
    else if (f32v rr).le (f32v r.tol) then
      match timedMul 28 X T.1 t with
      | .late t => ((none, []), t)
      | .sat t => (satSide side, t)
      | .done Y t => ((some (.converged Y rr), []), t)
    else if 1 ≤ k ∧ (f32v (f32r (.ofNat 4))).le (f32v q) then ((some (.failed 5), [⟨0x0903, side, 5, 0⟩]), t)
    else if k = limit then
      ((some (if (f32v q).le (f32v r.use) then .usable X q 6 else .failed 6), [⟨0x0903, side, 6, 0⟩]), t)
    else
      match timedMul 28 X T.1 t with
      | .late t => ((none, []), t)
      | .sat t => (satSide side, t)
      | .done Y t =>
        match timedPow (fun S => (S, S)) 28 r.logp T.1 t with
        | .late t => ((none, []), t)
        | .sat t => (satSide side, t)
        | .done S t =>
          match timedMul 28 S M t with
          | .late t => ((none, []), t)
          | .sat t => (satSide side, t)
          | .done M2 t => ((some (.live Y M2 warm limit), []), t)
  | s => ((some s, []), t)

def SideRun.isFailed : SideRun → Bool
  | .failed _ => true
  | _ => false
def SideRun.isLive : SideRun → Bool
  | .live .. => true
  | _ => false

/-- What the iteration of both sides answers: the sides, the last boundary, the events, and the products completed so far. -/
structure Lockstep where
  left : SideRun
  right : SideRun
  iters : Nat
  evs : List RootEv := []
  prods : Nat := 0

/-- The block stops at boundary k: each side that had not concluded there is USABLE or FAILED, and where the left side fails the right one's work
is abandoned (10 R281, R285, R292). -/
def stopBlock (r : RefPar) (k : Nat) (l s : SideRun) (evs : List RootEv) (t : Budget) : Lockstep :=
  let (l, e1) := stopSide r 0 l
  let (s, e2) := stopSide r 1 s
  { left := l, right := s, iters := k, evs := evs ++ e1 ++ (if l.isFailed then [] else e2), prods := t.2 }

/-- Both sides in lockstep from boundary k (10 R285). A deadline found in iteration k stops both at boundary k, whatever of the iteration was done
(R292, R296). `at?` is the boundary at which a replayed record stops the block (R297). -/
def lockstep (r : RefPar) (at? : Option Nat) : Nat → Nat → SideRun → SideRun → Budget → Lockstep
  | 0, k, l, s, t => { left := l, right := s, iters := k, prods := t.2 }
  | fuel + 1, k, l, s, t =>
    if at? = some k ∧ (l.isLive || s.isLive) then stopBlock r k l s [] t
    else
      match rootPart r 0 k l t with
      | ((none, e), t) => stopBlock r k l s e t
      | ((some l1, el), t) =>
        if l1.isFailed then { left := l1, right := s, iters := k, evs := el, prods := t.2 }
        else
          match rootPart r 1 k s t with
          | ((none, es), t) => stopBlock r k l s (el ++ es) t
          | ((some s1, es), t) =>
            if s1.isFailed ∨ !(l1.isLive || s1.isLive) then { left := l1, right := s1, iters := k, evs := el ++ es, prods := t.2 }
            else
              let z := lockstep r at? fuel (k + 1) l1 s1 t
              { z with evs := el ++ es ++ z.evs }

/-- How a side starts: cold with the cause of an event or none, or warm from a side of the current pair (10 R282). -/
inductive SideStart where
  | cold (event : Option Nat)
  | warm (R : List (List Num))

/-- What a refresh answers (10 R285 to R288): the result and cause, and with a result to publish the converted pair. -/
structure RefreshOut where
  result : Nat
  cause : Nat
  iters : Nat := 0xFF
  evs : List RootEv := []
  colds : Nat := 0
  cold : Bool := false
  resid : Nat := 0
  el : Int := 0
  er : Int := 0
  xl : List Nat := []
  xr : List Nat := []
  /-- Refresh products completed (17 R493). -/
  prods : Nat := 0
  /-- Overflows and vanishes of its conversions (02 R48). -/
  losses : Losses := (0, 0)

/-- How a side enters boundary 0, or none where the deadline passed in its warm start; its events, cold starts and losses. -/
structure SideEntry where
  run : Option SideRun
  evs : List RootEv := []
  colds : Nat := 0
  losses : Losses := (0, 0)

/-- A side's start (10 R280, R282): a non-finite element in its pair raises NUM.FIXNAN too, and a saturation in its warm start makes it cold. -/
def startSide (r : RefPar) (side : Nat) (e : Int) (A : Mat) (st : SideStart) (t : Budget) : SideEntry × Budget :=
  let v := toQ428Losses A
  match st with
  | .cold ev =>
    ({ run := some (coldSide r A)
       evs := (if ev = some 4 then [⟨0x0108, side, 7, 0⟩] else []) ++ (match ev with | some c => [⟨0x0904, side, 0, c⟩] | none => [])
       colds := 1
       losses := v }, t)
  | .warm R =>
    let X := fxOf (32 - r.qx) (R.map fun row => row.map fun v => v.scale (e / r.p))
    let cold : SideEntry := { run := some (coldSide r A), evs := [⟨0x0904, side, 0, 3⟩], colds := 1, losses := X.2.add v }
    if X.2.1 ≠ 0 then (cold, t)
    else
      match timedPow (fun P => (X.1, P)) (32 - r.qx) r.p (toQ428 A) t with
      | .late t => ({ run := none, losses := X.2.add v }, t)
      | .sat t => (cold, t)
      | .done P t => ({ run := some (.live X.1 P true r.itwarm), losses := X.2.add v }, t)

/-- A side's matrix converted for publication: 2^(−e/p) X in F16w; an overflow is an element beyond its range (10 R280, R286). -/
def publishFx (r : RefPar) (e : Int) (X : Mat) : List Cvt :=
  X.flatMap fun row => row.map fun z => convert .f16w false .rne (Num.ofInt z (-(e / r.p) - (32 - r.qx : Nat)))

/-- Both sides converted: the pair published, or STALE with cause RANGE and the first side that goes beyond the range (10 R286). -/
def RefreshOut.publish (o : RefreshOut) (l r : List Cvt) : RefreshOut :=
  let o := { o with losses := o.losses.add (cvtLosses [l, r]) }
  if l.any (·.ovf) then { o with result := 3, cause := 3, evs := o.evs ++ (rangeFail 0).evs }
  else if r.any (·.ovf) then { o with result := 3, cause := 3, evs := o.evs ++ (rangeFail 1).evs }
  else { o with xl := l.map (·.code), xr := r.map (·.code) }

/-- The result of a side at the end: its X, its residual and its cause; none where it failed. -/
def SideRun.end? : SideRun → Except Nat (Mat × Nat × Nat)
  | .live X _ _ _ => .ok (X, 0, 6)
  | .converged X q => .ok (X, q, 0)
  | .usable X q c => .ok (X, q, c)
  | .failed c => .error c

/-- A root refresh of a block whose sides are normalised and stand in Q2.30 (10 R280 to R286). -/
def rootSides (r : RefPar) (el er : Int) (A B : Mat) (losses : Losses) (sl sr : SideStart) (t : Budget) (at? : Option Nat) : RefreshOut :=
  let (L, t) := startSide r 0 el A sl t
  match L.run with
  | none => { result := 3, cause := 1, evs := L.evs, colds := L.colds, prods := t.2, losses := losses.add L.losses }
  | some l =>
    let (S, t) := startSide r 1 er B sr t
    let losses := (losses.add L.losses).add S.losses
    match S.run with
    | none => { result := 3, cause := 1, evs := L.evs ++ S.evs, colds := L.colds + S.colds, cold := L.colds != 0, prods := t.2, losses := losses }
    | some s =>
      let (l, e1, c1) := restartSide r 0 A l
      let (s, e2, c2) := restartSide r 1 B s
      let z := lockstep r at? (max r.itcold r.itwarm + 2) 0 l s t
      let colds := L.colds + S.colds + c1 + c2
      let out : RefreshOut :=
        { result := 3, cause := 0, iters := z.iters, evs := L.evs ++ S.evs ++ e1 ++ e2 ++ z.evs, colds := colds, cold := colds != 0, el := el, er := er,
          prods := z.prods, losses := losses }
      match z.left.end?, z.right.end? with
      | .error c, _ => { out with cause := c }
      | _, .error c => { out with cause := c }
      | .ok (X, q, c), .ok (Y, q', c') =>
        let cause := if c = 1 ∨ c' = 1 then 1 else if c = 6 ∨ c' = 6 then 6 else 0
        { out with result := if cause = 0 then 1 else 2, cause := cause, resid := f32greater q q' }.publish (publishFx r el X) (publishFx r er Y)

/-- A root refresh of a block (10 R277 to R286). -/
def rootRefresh (r : RefPar) (FL FR : List (List Nat)) (sl sr : SideStart) (t : Budget) (at? : Option Nat) : RefreshOut :=
  match normalise r 0 FL with
  | .error f => { result := 3, cause := f.cause, evs := f.evs }
  | .ok nl =>
    let A := fxOf 30 nl.elems
    if A.2.1 ≠ 0 then { result := 3, cause := 3, evs := (rangeFail 0).evs, losses := A.2 }
    else
      match normalise r 1 FR with
      | .error f => { result := 3, cause := f.cause, evs := f.evs, losses := A.2 }
      | .ok nr =>
        let B := fxOf 30 nr.elems
        if B.2.1 ≠ 0 then { result := 3, cause := 3, evs := (rangeFail 1).evs, losses := A.2.add B.2 }
        else rootSides r nl.e nr.e A.1 B.1 (A.2.add B.2) sl sr t at?

/-- A sum of products in binary32, in the order given, from +0 (10 R274). -/
def f32sum (a b : List Nat) : Nat := (a.zip b).foldl (fun s x => f32fma x.1 x.2 s) 0

/-- An element less its sums over the panels of 64 columns before column c, each panel's sum taken off with one rounding (10 R284). -/
def panelLess (a : Nat) (Li Lc : List Nat) (c : Nat) : Nat :=
  (List.range (c / 64 + 1)).foldl (fun a J =>
    if 64 * J ≥ c then a
    else
      let n := min 64 (c - 64 * J)
      f32sub a (f32sum ((Li.drop (64 * J)).take n) ((Lc.drop (64 * J)).take n))) a

/-- Row i of L from the rows above it; an error at a pivot below PIVMIN (10 R284). -/
def cholRow (pivmin : Nat) (L : List (List Nat)) (i : Nat) (a : List Nat) : Option (List Nat) :=
  let off := (List.range i).foldl (fun (row : List Nat) j =>
    let Lj := L.getD j []
    row ++ [f32div (panelLess (a.getD j 0) row Lj j) (Lj.getD j 0)]) []
  let d := panelLess (a.getD i 0) off off i
  if (f32v pivmin).le (f32v d) then some (off ++ [f32sqrt d]) else none

/-- The first n rows of L, or the pivot that failed. -/
def cholesky (pivmin : Nat) (A : List (List Nat)) : Except Nat (List (List Nat)) :=
  A.zipIdx.foldl (fun (s : Except Nat (List (List Nat))) row =>
    s.bind fun L => match cholRow pivmin L row.2 row.1 with
      | some r => .ok (L ++ [r])
      | none => .error row.2) (.ok [])

/-- Column j of W = L⁻¹, from row j down (10 R284). -/
def inverseColumn (L : List (List Nat)) (j : Nat) : List Nat :=
  (List.range (L.length - j)).foldl (fun (w : List Nat) d =>
    let Li := L.getD (j + d) []
    let x := if d = 0 then f32div f32one (Li.getD j 0)
      else f32div (f32neg (f32sum ((Li.drop j).take d) w)) (Li.getD (j + d) 0)
    w ++ [x]) []

/-- Y = Wᵀ W (10 R284). -/
def inverseOf (L : List (List Nat)) : List (List Nat) :=
  let s := L.length
  let W := (List.range s).map (inverseColumn L)
  (List.range s).map fun i => (List.range s).map fun j =>
    let a := min i j
    let b := max i j
    f32sum ((W.getD a []).drop (b - a)) (W.getD b [])

/-- Test points of a side of n panels before its panel J: each panel, and each product of the trailing update after it (10 R284, R292). -/
def panelTests (n J : Nat) : Nat := ((List.range J).map fun j => 1 + (n - 1 - j) * (n - j) / 2).sum

/-- Test points of a whole side: W and Y are a product each (log entry 122). -/
def sideTests (n : Nat) : Nat := panelTests n n + 2

/-- What one side of an inverse comes to: how it failed, or e and its elements converted; its products, and the losses of Â's conversion. -/
structure InvSide where
  out : Except SideFail (Int × List Cvt)
  prods : Nat := 0
  losses : Losses := (0, 0)

/-- One side of an inverse (10 R284). `t` is the number of test points that come before the deadline, none where it does not pass. -/
def inverseSide (r : RefPar) (side : Nat) (F : List (List Nat)) (t : Option Nat) : InvSide :=
  match normalise r side F with
  | .error f => { out := .error f }
  | .ok n =>
    let full := n.elems.map fun row => row.map (convert .b32 false .rne)
    let losses := cvtLosses full
    let A := full.map fun row => row.map (·.code)
    let P := F.length / 64
    let cut := match t with
      | some k => if k < sideTests P then some k else none
      | none => none
    let panels := match cut with
      | some k => (List.range P).countP fun J => decide (panelTests P J < k)
      | none => P
    match cholesky r.pivmin (A.take (64 * panels)) with
    | .error j => { out := .error ⟨4, [⟨0x0902, side, 4, j⟩]⟩, prods := panelTests P (j / 64) - j / 64, losses := losses }
    | .ok L =>
      match cut with
      | some k => { out := .error ⟨1, []⟩, prods := k - panels, losses := losses }
      | none =>
        { out := .ok (n.e, (inverseOf L).flatMap fun row => row.map fun c => convert .f16w false .rne ((f32v c).scale (-n.e)))
          prods := sideTests P - P
          losses := losses }

/-- A damped inverse of a block (10 R284, R285, R293): the left side, then the right. -/
def inverseRefresh (r : RefPar) (FL FR : List (List Nat)) (t : Option Nat) : RefreshOut :=
  let l := inverseSide r 0 FL t
  match l.out with
  | .error f => { result := 3, cause := f.cause, iters := 0, evs := f.evs, prods := l.prods, losses := l.losses }
  | .ok (el, xl) =>
    let s := inverseSide r 1 FR (t.map fun k => k - sideTests (FL.length / 64))
    let out : RefreshOut := { result := 3, cause := 0, iters := 0, prods := l.prods + s.prods, losses := l.losses.add s.losses }
    match s.out with
    | .error f => { out with cause := f.cause, evs := f.evs }
    | .ok (er, xr) => { out with result := 1, el := el, er := er }.publish xl xr

end Sys2Proof.Machine
end

