-- ==== Sys2Proof/Machine/Stats.lean ====
section
/-! DEFINITION. STATFEED and PRECOND: the statistic and preconditioned products of a tile (09 R252 to R260). -/

namespace Sys2Proof.Machine

/-- The lower of the mode a block names and the partition's ceiling in force (09 R260). -/
def Base.effectiveMode (b : Base) (p mode : Nat) : Nat := min mode (b.now 0x7030 p)

/-- A matrix of a stage, or of roots, in row-major memory: G8 rows of GC under their scales, or F16w (09 R249, R255). -/
def gcDesc (d : Desc) : Desc :=
  { base := d.addr, fmt := 2, blk := d.blk, sealchk := d.sealchk, rank := 2, d0 := d.d0, d1 := d.d1, s1 := d.d0, scale := d.addr + d.stage.gcs }
def f16Desc (a rows cols : Nat) (sealchk : Bool) : Desc := { base := a, fmt := 3, sealchk := sealchk, rank := 2, d0 := cols, d1 := rows, s1 := 2 * cols }

/-- Rows of values turned into columns; `n` is the length of a row. -/
def columnsOf (n : Nat) (rows : List (List Num)) : List (List Num) := transposeRows n rows

/-- Rows r0 to r0 + n − 1 of GR, 128 columns from column c0, under the scales of their columns (09 R249). -/
def Work.grRows (c : Cx) (d : Desc) (c0 r0 : Nat) : Nat → Work → Work × List (List Num)
  | 0, w => (w, [])
  | n + 1, w =>
    let st := d.stage
    let (w, l) := w.memRead c d.sealchk (d.addr + st.gr + r0 * d.d0 + c0) 128
    let (w, s) := w.memRead c d.sealchk (d.addr + st.grs + r0 / d.block * d.d0 + c0) 128
    let row := (l.zip s).map fun x =>
      let E := if x.2.2 then 255 else x.2.1.toNat
      if E = 0 then Num.zero else if x.1.2 then .nan else decodeBlock .g8 E x.1.1.toNat
    let (w, r) := Work.grRows c d c0 (r0 + 1) n w
    (w, row :: r)

/-- Rows r0 to r0 + n − 1 of a matrix, m columns from column c0. -/
def Work.matRows (c : Cx) (d : Desc) (c0 m r0 : Nat) : Nat → Work → Work × List (List Num)
  | 0, w => (w, [])
  | n + 1, w =>
    let (w, l) := w.rowValues c d r0 0 0 c0 m
    let (w, r) := Work.matRows c d c0 m (r0 + 1) n w
    (w, l :: r)

/-- The triangle index's tile (a, b) of a triangle of M tiles a side (09 R253). -/
def triTile (M : Nat) : Nat → Nat → Nat × Nat
  | 0, i => (0, i)
  | k + 1, i =>
    let (a, b) := triTile M k i
    if a + b < M then (a, b) else (a + 1, b + a - M)

/-- Row a and column b, a ≤ b, of triangle index i. -/
def triangle (M i : Nat) : Nat × Nat := let (a, k) := triTile M M i; (a, a + k)

/-- SIDE, MODE, FIRST and COUNT of STATFEED (09 R252). -/
def Wb.sfSide (x : Wb) : Nat := x.oparg % 2
def Wb.sfMode (x : Wb) : Nat := x.oparg / 2 % 4
def Wb.sfFirst (x : Wb) : Nat := x.arg % 4096
def Wb.sfCount (x : Wb) : Nat := x.arg / 4096 % 4096

/-- The curvature engine that a STATFEED feeds. -/
def Wb.sfEngine (x : Wb) : Nat := (x.creds.headD (0, 0)).1 / 8 % 512

/-- The set a product of a running job may use now: the set it took when it started, or the lowest FREE set (03 R74). A filler's sets are LENT. -/
def Work.productSet (w : Work) (id : Nat) (x : Wb) (j : Job) : Option Nat :=
  match j.sets with
  | k :: _ => some k
  | [] => (w.freeSets id x.queue x.seq).head?

/-- A finished output tile of raw binary32 codes as elements (09 R253, R257). -/
def rawElems (cols : Nat) (codes : List Nat) : List (Nat × OutElem) :=
  codes.zipIdx.map fun c =>
    let v := f32v c.1
    (c.2 / cols * 128 + c.2 % cols, { code := if v.isNan then 0x7FC00000 else c.1, nonfin := !v.isFinite, kind := b2n v.isNan, nz := !v.isZero })

/-- What follows an output tile of STATFEED or PRECOND: its set free, its lane verdict, its trap, and the end of the waybill after the last
(02 R61, 03 R93). `last` says whether it is the last. -/
def Work.productDone (w : Work) (id : Nat) (x : Wb) (j : Job) (k t n : Nat) (lane : Lane) (trap : TrapAt) (last : Bool) : Work :=
  match w.base.tileOf id with
  | none => w
  | some (die, m) =>
    let (b, x, bad) := w.base.laneReport die m x t 0 lane true
    let b := if x.filler then b else b.setTo id k sFREE
    let x := { x with done := x.done + 1, next := n, flags := if lane = .unchecked then x.flags ||| 16 else x.flags }
    let j := { j with sets := if x.filler then j.sets else [], failed := j.failed || bad }
    let w := ({ w with base := b }.setJob id j).setWb id x
    match trap with
    | some tr =>
      let (b, x) := w.base.takeTrap id x tr
      ({ w with base := b }.setWb id x).endJob id j 0x13
    | none => if !last then w else if j.failed then w.parkJob id j else w.endJob id j 0x01

/-- The statistic of triangle index i, accumulated (09 R253). -/
def Work.statistic (w : Work) (c : Cx) (x : Wb) (d : Desc) (i : Nat) (ups : List (Nat × Nat)) : Work × AccTile × Nat × Nat :=
  let m := d.d1
  let n := d.d0
  let (a, b) := triangle ((if x.sfSide = 0 then m else n) / 128) i
  let (w, A, B) :=
    if x.sfSide = 0 then
      let (w, A) := Work.matRows c (gcDesc d) 0 n (128 * a) 128 w
      let (w, B) := Work.matRows c (gcDesc d) 0 n (128 * b) 128 w
      (w, A, B)
    else
      let (w, A) := Work.grRows c d (128 * a) 0 m w
      let (w, B) := Work.grRows c d (128 * b) 0 m w
      (w, columnsOf 128 A, columnsOf 128 B)
  (w, (AccTile.terms false false 1 0 (AccTile.start 128 128 false none) A B).upset ups, a, b)

/-- One piece of a STATFEED: its product, lane check and delta piece (09 R253, R254). `k` is the set it uses. -/
def Work.feedPiece (w : Work) (id : Nat) (c : Cx) (x : Wb) (d : Desc) (t : Nat) (ups : List (Nat × Nat)) : Work × Wb × Lane × TrapAt :=
  let (w, acc, a, b) := w.statistic c x d (x.sfFirst + t) ups
  let K := if x.sfSide = 0 then d.d0 else d.d1
  let (free, lane) := acc.lane false false K 0 w.base.free
  let w := { w with base := { w.base with free := free } }
  let es := rawElems 128 (acc.els.map (El.result false false))
  let (w, x) := w.account id x 0 .b32 false t es
  let piece : DeltaPiece :=
    { engine := x.sfEngine, part := x.part, block := d.w56 % 2 ^ 24, side := x.sfSide, tri := x.sfFirst + t,
      len := if x.sfSide = 0 then d.d1 else d.d0, tag := x.step % 65536, spender := id, data := es.map (·.2.code) }
  ({ w with curv := { w.curv with flying := w.curv.flying ++ [piece] } }, x.sends (crvUnit x.sfEngine) 65536, lane,
    trapOf x.trapOn 128 (128 * a) (128 * b) es)

/-- STATFEED: the next piece, or the whole of one whose effective mode is OFF (09 R252 to R254, R260). -/
def Work.statfeed (w : Work) (id q seq : Nat) (ups : List (Nat × Nat)) : Work :=
  match w.wb? id q seq with
  | none => w
  | some x =>
    if x.phase = .running ∧ x.opcode = 0x0A ∧ !x.aborting then
      match w.jobOf id q seq, x.desc 0 with
      | none, _ => w.setWb id (x.endWith 1)
      | some j, some d =>
        if x.next ≥ x.sfCount ∨ j.moved then w
        else
          match w.productSet id x j with
          | none => w
          | some k =>
            let t := x.next
            let (w, x, lane, trap) := w.feedPiece id (w.base.cx id x true) x d t ups
            w.productDone id x j k t (t + 1) lane trap (decide (t + 1 = x.sfCount))
      | _, none => w
    else w

/-- The words of a PRECOND (09 R257 to R259) once it has started: 0 pass-through, or 1 with the pair it reads. -/
def Wb.preFull (x : Wb) : Bool := x.aux.getD 0 0 == 1
def Wb.prePair (x : Wb) : Nat := x.aux.getD 1 0

/-- The root area of a PRECOND: XL and XR of a pair (09 R255). -/
def rootXL (a m k : Nat) : Nat := a + 4096 + 2 * m * m * k
def rootXR (a m n k : Nat) : Nat := a + 4096 + 4 * m * m + 2 * n * n * k

/-- A field of a block status record raised by one, saturating, by the die that holds it (09 R256). -/
def Base.statusInc (b : Base) (p a o : Nat) : Base :=
  let (b, v) := b.dieRead p (a + o) 4
  match v with
  | some v => b.dieWrite p (a + o) 4 (satAdd 32 v 1)
  | none => b

/-- The start of a PRECOND (09 R258, R259): the atomic operation on ROOTWORD, the hold, and what it decides. None where the word is poisoned. -/
def Base.precondStart (b : Base) (x : Wb) : Option (Base × Wb) :=
  match x.desc 1 with
  | none => none
  | some r =>
    if b.effectiveMode x.part (x.oparg % 4) < 2 then some (b, { x with aux := [0, 0] })
    else
      let (b, w) := b.dieRead x.part r.addr 8
      let (b, i) := b.dieRead x.part (r.addr + 8) 8
      match w, i with
      | some w, some i =>
        if w.testBit 1 then
          let k := w % 2
          let lo := 16 + 16 * k
          let h := (nget w lo 16 + 1) % 65536
          let w := w - nget w lo 16 * 2 ^ lo + h * 2 ^ lo
          some (b.dieWrite x.part r.addr 8 w, { x with aux := [1, k] })
        else if i.testBit 3 then some (b, { x with aux := [0, 0] })
        else some (b.statusInc x.part r.addr 32, { x with aux := [0, 0] })
      | _, _ => none

/-- A PRECOND that completes gives its hold back (09 R258). -/
def Base.precondRelease (b : Base) (x : Wb) : Base :=
  if x.opcode = 9 ∧ x.preFull then
    match x.desc 1 with
    | none => b
    | some r =>
      let (b, w) := b.dieRead x.part r.addr 8
      match w with
      | none => b
      | some w =>
        let lo := 16 + 16 * x.prePair
        let h := (nget w lo 16 + 65535) % 65536
        b.dieWrite x.part r.addr 8 (w - nget w lo 16 * 2 ^ lo + h * 2 ^ lo)
  else b

/-- Output tiles of one phase of a PRECOND. -/
def preTiles (d : Desc) : Nat := d.d1 / 128 * (d.d0 / 128)

/-- The product of output tile t of a PRECOND: phase 1 is H · XR, phase 2 XL · T (09 R257). -/
def Work.preProduct (w : Work) (c : Cx) (x : Wb) (d r : Desc) (t : Nat) (ups : List (Nat × Nat)) : Work × AccTile × Nat × Nat × Nat :=
  let m := d.d1
  let n := d.d0
  let u := t % preTiles d
  let r0 := u / (n / 128) * 128
  let c0 := u % (n / 128) * 128
  let st := d.stage
  let plain := { c with pf := false }
  if t < preTiles d then
    let (w, A) := Work.matRows c (f16Desc (d.addr + st.h) m n d.sealchk) 0 n r0 128 w
    let (w, B) := Work.matRows plain (f16Desc (rootXR r.addr m n x.prePair) n n r.sealchk) c0 128 0 n w
    (w, (AccTile.terms false false 1 0 (AccTile.start 128 128 false none) A (columnsOf 128 B)).upset ups, r0, c0, n)
  else
    let (w, A) := Work.matRows plain (f16Desc (rootXL r.addr m x.prePair) m m r.sealchk) 0 m r0 128 w
    let (w, B) := Work.matRows plain (f16Desc (d.addr + st.t) m n d.sealchk) c0 128 0 m w
    (w, (AccTile.terms false false 1 0 (AccTile.start 128 128 false none) A (columnsOf 128 B)).upset ups, r0, c0, m)

/-- An output tile of phase 1 drained into area T: stochastic with stream t + 3, counted in slot t >> 6 (09 R257). -/
def Work.preT (w : Work) (id : Nat) (c : Cx) (x : Wb) (d : Desc) (pos r0 c0 : Nat) (codes : List Nat) : Work × Wb × TrapAt :=
  let K := x.seed
  let es := codes.zipIdx.map fun v =>
    let i := v.2 / 128
    let j := v.2 % 128
    (i * 128 + j, stageElem d K x.step .f16w 3 none (r0 + i) (c0 + j) (f32v v.1))
  let w := (List.range 128).foldl (fun (w : Work) i =>
    w.fieldWrite c (d.addr + d.stage.t + 2 * ((r0 + i) * d.d0 + c0)) (((es.drop (128 * i)).take 128).flatMap fun e => leBytes 2 e.2.code)) w
  let (w, x) := w.account id x (d.stream / 64) .f16w true pos es
  (w, x, trapOf x.trapOn 128 r0 c0 es)

/-- One output tile of a PRECOND that multiplies: product, lane and drain (09 R257). -/
def Work.preTile (w : Work) (id : Nat) (c : Cx) (x : Wb) (d r o : Desc) (t : Nat) (ups : List (Nat × Nat)) : Work × Wb × Lane × TrapAt :=
  let (w, acc, r0, c0, K) := w.preProduct c x d r t ups
  let (free, lane) := acc.lane false false K 0 w.base.free
  let w := { w with base := { w.base with free := free } }
  let codes := acc.els.map (El.result false false)
  if t < preTiles d then
    let (w, x, trap) := w.preT id c x d t r0 c0 codes
    (w, x, lane, trap)
  else
    let (w, x, trap) := w.outTile id c x o (fun i => o.index c0 i 0 0) 0 t 0 0 r0 c0 128 128 false (codes.map f32v) codes
    (w, x, lane, trap)

/-- One output tile of a PRECOND that passes H through (09 R259). -/
def Work.prePass (w : Work) (id : Nat) (x : Wb) (d o : Desc) (t : Nat) : Work :=
  let n := d.d0
  let c := w.base.cx id x true
  let r0 := t / (n / 128) * 128
  let c0 := t % (n / 128) * 128
  let (w, rows) := Work.matRows c (f16Desc (d.addr + d.stage.h) d.d1 n d.sealchk) c0 128 r0 128 w
  let vals := rows.flatten
  let (w, x, trap) := w.outTile id c x o (fun i => o.index c0 i 0 0) 0 t 0 0 r0 c0 128 128 false vals (vals.map f32r)
  let x := { x with next := t + 1, done := x.done + 1 }
  match trap with
  | some tr =>
    let (b, x) := w.base.takeTrap id x tr
    { w with base := b }.setWb id (x.endWith 0x13)
  | none => w.setWb id (if t + 1 = preTiles d then x.endWith 1 else x)

/-- PRECOND: the next output tile of either phase, or of the pass-through (09 R257 to R259). -/
def Work.precond (w : Work) (id q seq : Nat) (ups : List (Nat × Nat)) : Work :=
  match w.wb? id q seq with
  | none => w
  | some x =>
    if x.phase = .running ∧ x.opcode = 9 ∧ !x.aborting then
      match x.desc 0, x.desc 1, x.desc 3 with
      | some d, some r, some o =>
        if x.preFull then
          match w.jobOf id q seq with
          | none => w
          | some j =>
            if x.next ≥ 2 * preTiles d ∨ j.moved then w
            else
              match w.productSet id x j with
              | none => w
              | some k =>
                let t := x.next
                let (w, x, lane, trap) := w.preTile id (w.base.cx id x true) x d r o t ups
                w.productDone id x j k t (t + 1) lane trap (decide (t + 1 = 2 * preTiles d))
        else if x.next < preTiles d then w.prePass id x d o x.next
        else w
      | _, _, _ => w
    else w

/-- The replay of a STATFEED or PRECOND whose lane check failed, whole, on tile k (03 R93), up to the output tile that traps (02 R61). Answers
whether a check failed, and the trap. -/
def Work.replayProducts (id n k : Nat) (ups : List (Nat × Nat)) : Nat → Nat → Work → Wb → Work × Wb × Bool × TrapAt
  | 0, _, w, x => (w, x, false, none)
  | fuel + 1, t, w, x =>
    let c : Cx := { w.base.cx id x with pf := false }
    let (w, x, lane, trap) := match x.desc 0, x.desc 1, x.desc 3 with
      | some d, some r, some o => w.preTile id c x d r o t ups
      | some d, _, _ => w.feedPiece id c x d t ups
      | _, _, _ => (w, x, .unchecked, none)
    let (b, x, bad) := w.base.laneReport n k x t 0 lane false
    match trap with
    | some _ => ({ w with base := b }, x, bad, trap)
    | none =>
      let (w, x, r, trap) := Work.replayProducts id n k [] fuel (t + 1) { w with base := b } x
      (w, x, bad || r, trap)

end Sys2Proof.Machine
end

