-- ==== Sys2Proof/Machine/Curvature.lean ====
section
/-! DEFINITION. The curvature engines: installation (09 R261 to R263), delta pieces and folds (R264 to R268), refreshes, publication and staleness
(10 R276, R282 to R298). -/

namespace Sys2Proof.Machine

/-- The engine a unit identifier names. -/
def crvOf (id : Nat) : Option Nat :=
  match unitOf id with
  | some (.crv, e) => some e
  | _ => none

def Work.crv (w : Work) (e : Nat) : CrvSt := (Map.find e w.curv.engines).getD {}
def Work.setCrv (w : Work) (e : Nat) (c : CrvSt) : Work :=
  { w with curv := { w.curv with engines := if c = {} then Map.del e w.curv.engines else Map.put e c w.curv.engines } }

/-- Fields of a structure descriptor (09 R261). -/
def sdFL (l : List Byte) : Nat := fieldAt l 0 8 % 2 ^ 52
def sdFR (l : List Byte) : Nat := fieldAt l 8 8 % 2 ^ 52
def sdRoots (l : List Byte) : Nat := fieldAt l 16 8 % 2 ^ 52
def sdM (l : List Byte) : Nat := fieldAt l 24 4 % 8192
def sdN (l : List Byte) : Nat := fieldAt l 28 4 % 8192
def sdBeta (l : List Byte) : Nat := fieldAt l 32 4
def sdGamma (l : List Byte) : Nat := fieldAt l 36 4
def sdBlock (l : List Byte) : Nat := fieldAt l 40 3
def sdMode (l : List Byte) : Nat := fieldAt l 44 1 % 4

/-- A side of a block: a multiple of 128 from 128 to 2,048, or 4,096 (09, The block stage). -/
def blockSide (m : Nat) : Bool := (m % 128 == 0 && decide (128 ≤ m ∧ m ≤ 2048)) || m == 4096

/-- Bytes of a root area (09 R255). -/
def rootBytes (m n : Nat) : Nat := 4096 + 4 * m * m + 4 * n * n

/-- The memory of a descriptor: its factors and root area, each with its length. -/
def sdAreas (l : List Byte) : List (Nat × Nat) :=
  [(sdFL l, 4 * sdM l * sdM l), (sdFR l, 4 * sdN l * sdN l), (sdRoots l, rootBytes (sdM l) (sdN l))]

def overlaps (x y : Nat × Nat) : Bool := decide (x.1 < y.1 + y.2 ∧ y.1 < x.1 + x.2)

/-- A structure descriptor that is not valid, after those before it (09 R261, 10 R272, R273). -/
def Base.sdBad (b : Base) (e p : Nat) (before : List (List Byte)) (l : List Byte) : Bool :=
  let nonneg := fun (c : Nat) => f32isFinite c && (c < 0x80000000 || c == 0x80000000)
  let areas := sdAreas l
  (List.range 3).any (fun k => fieldAt l (8 * k) 8 ≥ 2 ^ 52 || fieldAt l (8 * k) 8 % 4096 != 0)
    || fieldAt l 24 4 ≥ 8192 || fieldAt l 28 4 ≥ 8192 || fieldAt l 43 1 != 0 || fieldAt l 44 1 ≥ 3
    || fieldAt l 45 1 != e || (slice l 46 18).any (· ≠ 0)
    || !blockSide (sdM l) || !blockSide (sdN l) || !nonneg (sdBeta l) || !nonneg (sdGamma l)
    || areas.any (fun a => !b.memOwned p a.1 a.2)
    || before.any (fun k => sdBlock k == sdBlock l)
    || areas.zipIdx.any (fun x => areas.zipIdx.any fun y => decide (x.2 < y.2) && overlaps x.1 y.1)
    || before.any (fun k => (sdAreas k).any fun y => areas.any fun x => overlaps x y)
    || refParBad l

/-- Fields of a timetable entry (09 R262). -/
def ttOp (l : List Byte) : Nat := fieldAt l 0 1
def ttSd (l : List Byte) : Nat := fieldAt l 2 2
def ttPeriod (l : List Byte) : Nat := fieldAt l 4 2
def ttPhase (l : List Byte) : Nat := fieldAt l 6 2
def ttCold (l : List Byte) : Bool := (fieldAt l 8 1).testBit 0
/-- The entry is due in step s. -/
def ttDue (l : List Byte) (s : Nat) : Bool := ttOp l != 0 && s % ttPeriod l == ttPhase l

/-- A timetable entry that is not valid, after those before it (09 R262, 10 R291). SD, PERIOD and PHASE have their ranges in every entry, NONE
too. -/
def ttBad (sds before : List (List Byte)) (l : List Byte) : Bool :=
  let op := ttOp l
  let clash := fun (f : Nat → Bool) => before.any fun k => f (ttOp k) && ttSd k == ttSd l
  decide (3 < op) || fieldAt l 1 1 != 0 || decide (sds.length ≤ ttSd l) || ttPeriod l == 0 || decide (ttPeriod l ≤ ttPhase l)
    || (if op = 0 then (slice l 8 8).any (· ≠ 0)
      else if op = 1 then (slice l 8 8).any (· ≠ 0) || clash (· == 1)
      else
        let k := fieldAt (sds.getD (ttSd l) []) 64 1 % 8
        decide (1 < fieldAt l 8 1) || (slice l 9 7).any (· ≠ 0) || clash (fun o => o == 2 || o == 3)
          || (if op = 2 then !(decide (1 ≤ k ∧ k ≤ 3)) else k != 4))

/-- n records of k bytes from address a, read by an engine and checked one by one; the fault found first, as KIND and INDEX. -/
def Base.installRead (rq : MemReq) (k : Nat) (kind : Nat) (bad : List (List Byte) → List Byte → Bool) :
    Nat → Base → Nat → List (List Byte) → Base × Option (Nat × Nat) × List (List Byte)
  | 0, b, _, l => (b, none, l)
  | n + 1, b, a, l =>
    let (b, x, poison) := b.readBytes rq a k
    if poison then (b, some (3, l.length), l)
    else if bad l x then (b, some (kind, l.length), l)
    else Base.installRead rq k kind bad n b (a + k) (l ++ [x])

/-- The request of a curvature engine for its partition. -/
def crvReq (e p : Nat) : MemReq := unitReq p ⟨cd (e / 4), 68 + e % 4⟩

/-- What an installation finds: the first fault, as KIND and INDEX, or the descriptors and the timetable (09 R263). -/
def Base.installRecords (b : Base) (e p : Nat) : Base × Option (Nat × Nat) × List (List Byte) × List (List Byte) :=
  let die := cd (e / 4)
  let j := e % 4
  let nsd := b.rf 0 11 .CRV_TTCOUNT die j
  let ntt := b.rf 16 13 .CRV_TTCOUNT die j
  let rq := crvReq e p
  if 1024 < nsd then (b, some (1, 0), [], [])
  else if 4096 < ntt then (b, some (2, 0), [], [])
  else
    let (b, f, sds) := Base.installRead rq 128 1 (fun l x => b.sdBad e p l x) nsd b (b.rf 7 45 .CRV_SDBASE die j * 128) []
    match f with
    | some f => (b, some f, [], [])
    | none =>
      let (b, f, tts) := Base.installRead rq 16 2 (ttBad sds) ntt b (b.rf 4 48 .CRV_TTBASE die j * 16) []
      match f with
      | some f => (b, some f, [], [])
      | none => (b, none, sds, tts)

/-- An installation that is refused (09 R263). -/
def Base.installRefused (b : Base) (e : Nat) : Base := (b.wr 4 .CRV_TTERR (cd (e / 4)) (e % 4)).crvEvent e 0 0x0801

/-- TIMETABLE_INSTALL: CRV_TTCTL.INSTALL written with 1 (09 R263). -/
def Work.timetableInstall (w : Work) (e : Nat) : Work :=
  match w.base.partOfCrv e with
  | none => { w with base := w.base.installRefused e }
  | some p =>
    if (w.unit (crvUnit e)).window.any (fun x => x.phase != .issued) ∨ !(w.crv e).held.isEmpty then { w with base := w.base.installRefused e }
    else
      let (b, r) := w.base.installRecords e p
      { w with base := b }.setCrv e { w.crv e with installing := some r }

/-- TIMETABLE_INSTALL_END: the installation ends (09 R263). -/
def Work.timetableEnd (w : Work) (e : Nat) : Work :=
  let die := cd (e / 4)
  let j := e % 4
  let c := w.crv e
  match c.installing with
  | none => w
  | some (some (k, i), _, _) =>
    let b := (w.base.wr (BitVec.ofNat 64 (k + i % 4096 * 65536)) .CRV_TTERR die j).wf 2 1 0 .CRV_STATE die j
    { w with base := b.crvEvent e 0 0x0801 }.setCrv e { c with installing := none, sd := [], tt := [], folds := [] }
  | some (none, sds, tts) =>
    let b := (w.base.wr 0 .CRV_TTERR die j).wf 2 1 1 .CRV_STATE die j
    { w with base := b }.setCrv e { c with installing := none, sd := sds, tt := tts, folds := [] }

/-- CRV_STATE.INSTALLED (09 R270). -/
def Base.crvInstalled (b : Base) (e : Nat) : Bool := b.rf 2 1 .CRV_STATE (cd (e / 4)) (e % 4) == 1

/-- The credits of the pieces that an engine holds, and of those on their way to it, go back to who spent them: a reset of its die discards the
pieces and zeroes no balance (09 R254, R263, 04 R116). -/
def Work.crvGiveBack (w : Work) (e : Nat) : Work :=
  ((w.crv e).held ++ w.curv.flying.filter fun d => d.engine == e).foldl (fun (w : Work) d => w.returnCredits d.spender (crvUnit e) 16) w

/-- INSTALLED cleared and every held piece discarded, by a reset (09 R263, 16 R484, R485). -/
def Work.crvReset (w : Work) (e : Nat) : Work :=
  { w with base := ((w.base.wf 2 1 0 .CRV_STATE (cd (e / 4)) (e % 4)).wf 0 13 0 .CRV_FEED (cd (e / 4)) (e % 4)).wf 24 1 0 .CRV_ROOTRUN (cd (e / 4)) (e % 4)
           curv := { w.curv with flying := w.curv.flying.filter (fun p => p.engine ≠ e) } }.setCrv e {}

/-- The effective mode of an installed block (09 R260). -/
def Base.blockMode (b : Base) (p : Nat) (sd : List Byte) : Nat := b.effectiveMode p (sdMode sd)

/-- The effective mode of an installed block for a waybill: the ceiling is that of the waybill's step (09 R260). -/
def Wb.blockMode (x : Wb) (sd : List Byte) : Nat := min (sdMode sd) x.ceil

/-- A fold of descriptor k is due in step s (09 R262). -/
def CrvSt.foldDue (c : CrvSt) (k s : Nat) : Bool := c.tt.any fun t => ttOp t == 1 && ttSd t == k && ttDue t s

/-- Tiles of both triangles of a block (09 R252). -/
def sdTiles (l : List Byte) : Nat :=
  let a := sdM l / 128
  let b := sdN l / 128
  a * (a + 1) / 2 + b * (b + 1) / 2

def CrvSt.fold (c : CrvSt) (k : Nat) : FoldSt := (c.folds.find? fun f => f.sd == k).getD { sd := k }
def CrvSt.setFold (c : CrvSt) (f : FoldSt) : CrvSt := { c with folds := f :: c.folds.filter fun g => g.sd != f.sd }

/-- The running CRV_FOLD that has opened its folds (09 R264). -/
def Work.foldWb (w : Work) (e : Nat) : Option Wb :=
  (w.unit (crvUnit e)).window.find? fun x => x.phase == .running && x.opcode == 0x20 && !x.aux.isEmpty

/-- An event of 09 R265 to R267, raised at most once for a CRV_FOLD under its key. -/
def Work.crvOnce (w : Work) (e p key code : Nat) : Work :=
  let c := w.crv e
  if c.raised.contains key then w
  else
    let w := w.setCrv e { c with raised := key :: c.raised }
    match w.foldWb e with
    | some x =>
      let (b, x) := w.base.each (crvUnit e) x code
      { w with base := b }.setWb (crvUnit e) x
    | none => { w with base := w.base.unitEvent (crvUnit e) p 0 code }

/-- CRV_LASTFAULT (09 R270). -/
def Base.crvFault (b : Base) (e block tri side cause : Nat) : Base :=
  b.wr (BitVec.ofNat 64 (block % 2 ^ 24 + tri % 4096 * 2 ^ 24 + side % 2 * 2 ^ 36 + cause * 2 ^ 40)) .CRV_LASTFAULT (cd (e / 4)) (e % 4)

/-- CRV_FEED follows the held pieces (09 R270). -/
def Work.crvFeed (w : Work) (e : Nat) : Work :=
  let die := cd (e / 4)
  let n := min 4096 (16 * (w.crv e).held.length)
  let b := w.base.wf 0 13 n .CRV_FEED die (e % 4)
  { w with base := b.wf 16 13 (max n (b.rf 16 13 .CRV_FEED die (e % 4))) .CRV_FEED die (e % 4) }

/-- A piece discarded: its credits returned, counted, recorded, its event (09 R265). -/
def Work.crvDiscard (w : Work) (e : Nat) (d : DeltaPiece) (cause code : Nat) : Work :=
  let b := w.base.noteWork (crvReq e d.part) 0x33 1
  let b := (b.countSat 1 0 48 .CRV_CNT_DISCARD (cd (e / 4)) (e % 4)).crvFault e d.block d.tri d.side cause
  ({ w with base := b }.returnCredits d.spender (crvUnit e) 16).crvOnce e d.part code code

/-- What the table of 09 R265 says of a piece in step s: discarded with a cause and event, or held. -/
def Work.crvJudge (w : Work) (e s : Nat) (d : DeltaPiece) : Option (Nat × Nat) :=
  let c := w.crv e
  match c.sd.zipIdx.find? fun x => sdBlock x.1 == d.block with
  | none => some (1, 0x0805)
  | some (sd, k) =>
    let len := if d.side = 0 then sdM sd else sdN sd
    if d.len ≠ len ∨ len / 128 * (len / 128 + 1) / 2 ≤ d.tri then some (1, 0x0805)
    else if w.base.blockMode d.part sd = 0 then some (2, 0x0806)
    else if older 16 d.tag s then some (3, 0x0807)
    else if later 16 d.tag s then none
    else if !c.foldDue k s then some (4, 0x0808)
    else
      let f := c.fold k
      if f.closed then some (5, 0x0809)
      else if f.tiles.contains (d.side * 4096 + d.tri)
          || c.held.any (fun h => h.block == d.block && h.side == d.side && h.tri == d.tri && h.tag == d.tag) then some (6, 0x080A)
      else none

/-- A piece that arrives is held or discarded (09 R265). -/
def Work.crvTake (w : Work) (e s : Nat) (d : DeltaPiece) : Work :=
  match w.crvJudge e s d with
  | some (cause, code) => w.crvDiscard e d cause code
  | none => w.setCrv e { w.crv e with held := (w.crv e).held ++ [d] }

/-- DELTA_PIECE: the oldest piece on its way to engine e arrives (09 R265). -/
def Work.deltaPiece (w : Work) (e : Nat) : Work :=
  match w.curv.flying.find? fun d => d.engine == e with
  | none => w
  | some d =>
    let w := { w with curv := { w.curv with flying := w.curv.flying.erase d } }
    (w.crvTake e (w.base.stepOf d.part) d).crvFeed e

/-- A factor of a block: its address and side (09 R261). -/
def sdFactor (sd : List Byte) (side : Nat) : Nat × Nat := if side = 0 then (sdFL sd, sdM sd) else (sdFR sd, sdN sd)

/-- Rows of 128 elements of a factor's tile. -/
def Base.tileRows (rq : MemReq) (a s r0 c0 : Nat) : Nat → Base → Base × List (List Nat)
  | 0, b => (b, [])
  | n + 1, b =>
    let (b, l) := b.readF32 rq (a + 4 * (r0 * s + c0)) 128
    let (b, r) := Base.tileRows rq a s (r0 + 1) c0 n b
    (b, l :: r)

def Base.writeRows (b : Base) (rq : MemReq) (a s r0 c0 : Nat) (rows : List (List Nat)) : Base :=
  rows.zipIdx.foldl (fun (b : Base) r => b.storeBytes rq (a + 4 * ((r0 + r.2) * s + c0)) (r.1.flatMap (leBytes 4)) false) b

/-- A fold closes (09 R267): complete, or with tiles missing. `stepEnd` marks one that no CRV_FOLD opened. -/
def Work.closeFold (w : Work) (e p s k : Nat) : Work :=
  let c := w.crv e
  let f := c.fold k
  let sd := c.sd.getD k []
  let w := w.setCrv e (c.setFold { f with closed := true })
  if f.tiles.length = sdTiles sd then
    let b := (w.base.statusInc p (sdRoots sd) 16).dieWrite p (sdRoots sd + 20) 4 (s % 2 ^ 32)
    { w with base := b }
  else
    let b := ((w.base.statusInc p (sdRoots sd) 28).crvFault e (sdBlock sd) 0 0 8).timedHit p
    { w with base := b }.crvOnce e p (if f.opener.isSome then 0x080B else 0x1080B) 0x080B

/-- A CRV_FOLD whose folds have all closed completes DONE (09 R264). -/
def Work.foldCheck (w : Work) (e : Nat) : Work :=
  match w.foldWb e with
  | none => w
  | some x =>
    if x.aborting then w
    else if (w.crv e).folds.any fun f => f.opener == some (x.queue, x.seq) && !f.closed then w
    else w.setWb (crvUnit e) (x.endWith 1)

/-- A refresh that still has to read the factors of descriptor k for an older step: the fold of a later step waits for it (09 R268). -/
def Work.foldDelayed (w : Work) (e s k : Nat) : Bool :=
  let c := w.crv e
  (w.unit (crvUnit e)).window.any fun x =>
    x.phase == .running && (x.opcode == 0x21 || x.opcode == 0x22) && !x.aborting && x.step != s &&
      ((c.tt.drop (x.arg % 4096)).take (x.arg / 4096 % 4096)).zipIdx.any fun t =>
        decide (x.next ≤ t.2) && ttOp t.1 == (if x.opcode = 0x21 then 2 else 3) && ttSd t.1 == k && ttDue t.1 x.step
          && !c.concluded.contains (sdBlock (c.sd.getD k []), x.step) && x.blockMode (c.sd.getD k []) == 2
          && !(match c.refresh with | some r => r.queue == x.queue && r.seq == x.seq && r.entry == x.arg % 4096 + t.2 | none => false)

/-- The descriptor index of a block. -/
def CrvSt.indexOf (c : CrvSt) (block : Nat) : Option Nat := (c.sd.zipIdx.find? fun x => sdBlock x.1 == block).map (·.2)

/-- The held piece that may be folded next (09 R265, R268). -/
def Work.foldable (w : Work) (e : Nat) : Option (DeltaPiece × Nat × Wb) :=
  let c := w.crv e
  match w.foldWb e with
  | none => none
  | some x =>
    if x.aborting then none
    else
      (c.held.findSome? fun d => (c.indexOf d.block).bind fun k =>
        let f := c.fold k
        if d.tag = x.step % 65536 ∧ f.opener = some (x.queue, x.seq) ∧ !f.closed ∧ !w.foldDelayed e x.step k then some (d, k, x) else none)

/-- A held piece folded into its tile: the new rows, and whether every value of the piece and the tile stayed finite (09 R266). -/
def Base.foldRows (b : Base) (e : Nat) (d : DeltaPiece) (sd : List Byte) : Base × List (List Nat) × Bool :=
  let (base, s) := sdFactor sd d.side
  let (a, t) := triangle (s / 128) d.tri
  let (b, F) := Base.tileRows (crvReq e d.part) base s (128 * a) (128 * t) 128 b
  let D := (List.range 128).map fun i => ((d.data.drop (128 * i)).take 128).map (f32mul (sdGamma sd))
  let f := (F.zip D).map fun r => (r.1.zip r.2).map fun v => f32fma (sdBeta sd) v.1 v.2
  (b, f, D.all (·.all f32isFinite) && f.all (·.all f32isFinite))

/-- A finite result written into both mirrored tiles, and counted (09 R266). -/
def Base.foldWritten (b : Base) (e : Nat) (d : DeltaPiece) (sd : List Byte) (f : List (List Nat)) : Base :=
  let (base, s) := sdFactor sd d.side
  let (a, t) := triangle (s / 128) d.tri
  let rq := crvReq e d.part
  let b := b.writeRows rq base s (128 * a) (128 * t) f
  let b := if a = t then b else b.writeRows rq base s (128 * t) (128 * a) (Mat.columns 0 128 f)
  (b.noteWork rq 0x32 1).countSat 1 0 48 .CRV_CNT_TILES (cd (e / 4)) (e % 4)

/-- A result that is not finite counted, the tiles left as they were (09 R266). -/
def Base.foldSkipped (b : Base) (e : Nat) (d : DeltaPiece) (sd : List Byte) : Base :=
  ((b.statusInc d.part (sdRoots sd) 24).countSat 1 0 48 .CRV_CNT_NFTILE (cd (e / 4)) (e % 4)).crvFault e d.block d.tri d.side 7

/-- A held piece taken off for its fold: no longer held, among the fold's tiles, its credits returned (09 R265, R266). -/
def Work.foldTakes (w : Work) (e k : Nat) (d : DeltaPiece) : Work :=
  (w.setCrv e (CrvSt.setFold { w.crv e with held := (w.crv e).held.erase d } { (w.crv e).fold k with
    tiles := (d.side * 4096 + d.tri) :: ((w.crv e).fold k).tiles })).returnCredits d.spender (crvUnit e) 16

/-- A fold of which every tile has come closes (09 R267). -/
def Work.foldCloses (w : Work) (e p s k : Nat) (sd : List Byte) : Work :=
  if ((w.crv e).fold k).tiles.length = sdTiles sd then w.closeFold e p s k else w

/-- PIECE_FOLD: engine e folds the oldest held piece that may be folded (09 R266, R267). -/
def Work.pieceFold (w : Work) (e : Nat) : Work :=
  match w.foldable e with
  | none => w
  | some (d, k, x) =>
    let sd := (w.crv e).sd.getD k []
    let (b, f, ok) := w.base.foldRows e d sd
    let w := Work.foldTakes { w with base := b } e k d
    let w := if ok then { w with base := w.base.foldWritten e d sd f }
      else { w with base := w.base.foldSkipped e d sd }.crvOnce e d.part 0x010A 0x010A
    ((w.foldCloses e d.part x.step k sd).foldCheck e).crvFeed e

/-- The entries of a CRV_FOLD's range that are due, of blocks whose mode is not OFF (09 R264). -/
def Work.foldDueEntries (w : Work) (e : Nat) (x : Wb) : List (List Byte) :=
  (((w.crv e).tt.drop (x.arg % 4096)).take (x.arg / 4096 % 4096)).filter fun t =>
    ttOp t == 1 && ttDue t x.step && decide (1 ≤ x.blockMode ((w.crv e).sd.getD (ttSd t) []))

/-- The fold of an entry opened by a CRV_FOLD, unless it has closed (09 R264). -/
def CrvSt.openFold (q seq : Nat) (c : CrvSt) (t : List Byte) : CrvSt :=
  if (c.fold (ttSd t)).closed then c else c.setFold { c.fold (ttSd t) with opener := some (q, seq) }

/-- CRV_FOLD: a started CRV_FOLD opens the due folds of its range (09 R264). -/
def Work.crvFold (w : Work) (id q seq : Nat) : Work :=
  match w.wb? id q seq, crvOf id with
  | some x, some e =>
    if x.phase = .running ∧ x.opcode = 0x20 ∧ x.aux.isEmpty ∧ !x.aborting then
      let c := (w.foldDueEntries e x).foldl (CrvSt.openFold q seq) { w.crv e with raised := [] }
      ((w.setCrv e c).setWb id { x with aux := [1] }).foldCheck e
    else w
  | _, _ => w

/-- The open folds of a CRV_FOLD close (09 R267). -/
def Work.closeOpened (w : Work) (e : Nat) (x : Wb) : Work :=
  ((w.crv e).folds.filter fun f => f.opener == some (x.queue, x.seq) && !f.closed).foldl
    (fun (w : Work) f => w.closeFold e x.part x.step f.sd) w

/-- FEED_LIMIT_EXPIRY: CRV_FEEDLIMIT ticks have passed since the CRV_FOLD started (09 R267). -/
def Work.feedLimit (w : Work) (e : Nat) : Work :=
  match w.foldWb e with
  | none => w
  | some x =>
    if x.startTime + w.base.rf 0 32 .CRV_FEEDLIMIT (cd (e / 4)) (e % 4) ≤ w.base.time then (w.closeOpened e x).foldCheck e else w

/-- The abort boundary of a CRV_FOLD: its open folds close (09 R267). -/
def Work.foldAbort (w : Work) (id : Nat) (x : Wb) : Work :=
  match crvOf id with
  | some e => w.closeOpened e x
  | none => w

/-- A running CRV_FOLD that has not opened its folds opens them (09 R264). -/
def Work.foldOpens (w : Work) (e : Nat) : Work :=
  match (w.unit (crvUnit e)).window.find? fun x => x.phase == .running && x.opcode == 0x20 && x.aux.isEmpty with
  | some x => w.crvFold (crvUnit e) x.queue x.seq
  | none => w

/-- The end of step s for the engines of partition p: every due fold closes, and a CRV_FOLD still running completes DONE (09 R267). -/
def Work.foldStepEnd (w : Work) (p s : Nat) : Work :=
  (List.range 32).foldl (fun (w : Work) e =>
    if w.base.partOfCrv e = some p ∧ w.base.crvInstalled e then
      let w := w.foldOpens e
      let c := w.crv e
      let due := c.sd.zipIdx.filter fun x =>
        c.foldDue x.2 s && decide (1 ≤ w.base.blockMode p x.1) && !(c.fold x.2).closed
      (due.foldl (fun (w : Work) x => w.closeFold e p s x.2) w).foldCheck e
    else w) w

/-- A held piece at the start of step s: one that has become older is discarded, one of a later step stays held, and one of step s is tested as if it
arrived (09 R265). -/
def Work.crvAgain (w : Work) (e s : Nat) (d : DeltaPiece) : Work :=
  if older 16 d.tag s then w.crvDiscard e d 3 0x0807
  else if later 16 d.tag s then w.setCrv e { w.crv e with held := (w.crv e).held ++ [d] }
  else w.crvTake e s d

/-- The step tag of partition p's engines has advanced to step s (09 R265): the folds of the step begin, and every held piece is tested again. -/
def Work.foldStepBegin (w : Work) (p s : Nat) : Work :=
  (List.range 32).foldl (fun (w : Work) e =>
    if w.base.partOfCrv e = some p then
      let c := w.crv e
      let steps := ((w.unit (crvUnit e)).window.filter fun x => x.phase == .running).map (·.step)
      let w := w.setCrv e { c with held := [], folds := [], raised := [], concluded := c.concluded.filter fun x => steps.contains x.2 }
      (c.held.foldl (fun (w : Work) d => w.crvAgain e s d) w).crvFeed e
    else w) w

/-- Fields of CRV_ROOT and CRV_INV (10 R289). -/
def Wb.refFirst (x : Wb) : Nat := x.arg % 4096
def Wb.refCount (x : Wb) : Nat := x.arg / 4096 % 4096
def Wb.refLog (x : Wb) : Bool := x.oparg.testBit 0
def Wb.refReplay (x : Wb) : Bool := x.oparg.testBit 1

/-- A record of the outcome log (10 R297). -/
def logRecord (block result : Nat) (cold : Bool) (cause iters : Nat) : Nat :=
  block % 2 ^ 24 + result * 2 ^ 24 + b2n cold * 2 ^ 27 + cause * 2 ^ 28 + iters * 2 ^ 32

/-- The log record of entry j of the range written (10 R297). -/
def Work.logWrite (w : Work) (id : Nat) (x : Wb) (j v : Nat) : Work :=
  match x.desc 0 with
  | some d => if x.refLog then { w with base := w.base.storeBytes (w.base.cx id x).req (d.base + 8 * j) (leBytes 8 v) false } else w
  | none => w

/-- An event of class ROOT, or NUM.FIXNAN, raised at most once for a waybill; with CRV_ROOTLAST (10 R299, R300). -/
def Base.rootOnce (b : Base) (e : Nat) (x : Wb) (block : Nat) (v : RootEv) : Base × Wb :=
  if x.raised.contains v.code then (b, x)
  else
    let b := if v.code / 256 = 9 then
        b.wr (BitVec.ofNat 64 (block + v.side * 2 ^ 24 + v.cause * 2 ^ 28 + v.index * 2 ^ 32 + v.code * 2 ^ 48)) .CRV_ROOTLAST (cd (e / 4)) (e % 4)
      else b
    b.once (crvUnit e) x v.code

/-- The entry of the range at which a refresh waybill stands, where it is due (10 R290). -/
def Work.refEntry (w : Work) (e : Nat) (x : Wb) : Option (List Byte × List Byte) :=
  let c := w.crv e
  match (c.tt.drop x.refFirst)[x.next]? with
  | none => none
  | some t =>
    let sd := c.sd.getD (ttSd t) []
    if ttOp t = (if x.opcode = 0x21 then 2 else 3) ∧ ttDue t x.step ∧ x.blockMode sd = 2
        ∧ !c.concluded.contains (sdBlock sd, x.step) then some (t, sd) else none

/-- The record of the entry at which a replaying waybill stands (10 R297), where REPLAY is set. -/
def Work.refRecord (w : Work) (id : Nat) (x : Wb) : Work × Option Nat :=
  match x.desc 0 with
  | some d =>
    if x.refReplay then
      let (b, v) := w.base.readNum (w.base.cx id x).req (d.base + 8 * x.next) 8
      ({ w with base := b }, v)
    else (w, none)
  | none => (w, none)

/-- The record of a replay says something else than what became of the entry (10 R297). -/
def recordDiffers (rec? : Option Nat) (result cause iters : Nat) : Bool :=
  match rec? with
  | some v => !(v / 2 ^ 24 % 8 == result && v / 2 ^ 28 % 16 == cause && v / 2 ^ 32 % 256 == iters)
  | none => false

/-- The entries that are not due are passed over, each with its log record, which a replay compares; after the last entry the waybill ends (10 R290, R297).
aux 0 is 1 once it has begun, and its status so far follows. -/
def Work.refSkip (id e q seq : Nat) : Nat → Work → Work
  | 0, w => w
  | n + 1, w =>
    match w.wb? id q seq with
    | none => w
    | some x =>
      if x.refCount ≤ x.next then w.setWb id (x.endWith (x.aux.getD 1 1))
      else
        match w.refEntry e x with
        | some _ => w
        | none =>
          let c := w.crv e
          let block := match (c.tt.drop x.refFirst)[x.next]? with
            | some t => sdBlock (c.sd.getD (ttSd t) [])
            | none => 0
          let (w, rec?) := w.refRecord id x
          let (b, x) := if recordDiffers rec? 0 0 0 then w.base.rootOnce e x block ⟨0x090A, 0, 0, 0⟩ else (w.base, x)
          Work.refSkip id e q seq n (({ w with base := b }.logWrite id x x.next (logRecord block 0 false 0 0)).setWb id { x with next := x.next + 1 })

/-- CRV_ROOT and CRV_INV: a started refresh waybill passes to its first due block, or ends (10 R289, R290). -/
def Work.crvRefresh (w : Work) (id q seq opcode : Nat) : Work :=
  match w.wb? id q seq, crvOf id with
  | some x, some e =>
    if x.phase = .running ∧ x.opcode = opcode ∧ x.aux.isEmpty ∧ !x.aborting then
      Work.refSkip id e q seq (x.refCount + 1) (w.setWb id { x with aux := [1, 1] })
    else w
  | _, _ => w

/-- The block's word at offset o of its status record, read and changed by the die that holds it (09 R256). -/
def Base.statusWord (b : Base) (p a o : Nat) (f : Nat → Nat) : Base :=
  let (b, v) := b.dieRead p (a + o) 8
  match v with
  | some v => b.dieWrite p (a + o) 8 (f v)
  | none => b

/-- The deadline of a refresh waybill has passed (10 R292); a replay has none (10 R297). -/
def Base.refPassed (b : Base) (x : Wb) : Bool := x.hasDeadline && !x.refReplay && decide (x.deadline < b.time)

/-- What a conclusion reports, whatever it wrote: the counts, events, log record, replay comparison and the waybill's next entry
(10 R285, R290, R295, R297, 13 R382). A waybill that an abort has named goes no further: this is its boundary (10 R298). -/
def Work.refConclude (w : Work) (id e : Nat) (x : Wb) (sd : List Byte) (result cause iters : Nat) (cold : Bool) (rec? : Option Nat) : Work :=
  let die := cd (e / 4)
  let block := sdBlock sd
  let b := w.base.countSat 1 0 48 (if result = 1 then .CRV_CNT_PUB else if result = 2 then .CRV_CNT_PARTIAL else .CRV_CNT_STALE) die (e % 4)
  let b := b.setStep x.part fun a =>
    { a with refreshed := a.refreshed + 1, partials := a.partials + b2n (result == 2), stale := a.stale + b2n (result == 3) }
  let (b, x) := if result = 3 then b.rootOnce e x block ⟨0x0905, 0, cause, 0⟩
    else if result = 2 then b.rootOnce e x block ⟨0x0906, 0, cause, 0⟩ else (b, x)
  let (b, x) := if recordDiffers rec? result cause iters then b.rootOnce e x block ⟨0x090A, 0, cause, 0⟩ else (b, x)
  let b := b.wf 24 1 0 .CRV_ROOTRUN die (e % 4)
  let status := max (x.aux.getD 1 1) (if result = 3 then 4 else if result = 2 then 3 else 1)
  let w := { w with base := b }.logWrite id x x.next (logRecord block result cold cause iters)
  let c := w.crv e
  let w := w.setCrv e { c with concluded := (block, x.step) :: c.concluded, refresh := none }
  let x := { x with next := x.next + 1, done := x.done + 1, posA := x.done + 1, aux := [1, status] }
  if x.aborting then w.setWb id x else Work.refSkip id e x.queue x.seq (x.refCount + 1) (w.setWb id x)

/-- A STALE conclusion: ROOTINFO in one atomic operation, with AGE and a withdrawal (10 R286, R287, R295). -/
def Work.refStale (w : Work) (id e : Nat) (x : Wb) (sd : List Byte) (cause iters colds : Nat) (cold : Bool) (rec? : Option Nat) : Work :=
  let p := x.part
  let a := sdRoots sd
  let r := RefPar.parse sd
  let (b, word) := w.base.dieRead p a 8
  let (b, info) := b.dieRead p (a + 8) 8
  match word, info with
  | some word, some info =>
    let age := min (nget info 16 16 + 1) 0xFFFF
    let reach := r.agemax != 0 && age == r.agemax
    let withdraw := reach && r.withdraw && word.testBit 1
    let info := 3 + b2n (info.testBit 3 || withdraw) * 8 + nget info 4 1 * 16 + cause * 256 + age * 65536 + info / 2 ^ 32 * 2 ^ 32
    let b := b.dieWrite p (a + 8) 8 info
    let b := if withdraw then b.dieWrite p a 8 (word - 2) else b
    let b := b.storeBytes (crvReq e p) (a + 52) (leBytes 1 iters) false
    let b := b.dieWrite p (a + 56) 4 (x.step % 2 ^ 32)
    let b := (List.range colds).foldl (fun (b : Base) _ => b.statusInc p a 60) b
    let b := if reach then
        (b.wr (BitVec.ofNat 64 (sdBlock sd + cause * 2 ^ 28 + 0x0907 * 2 ^ 48)) .CRV_ROOTLAST (cd (e / 4)) (e % 4)).unitEvent id p x.number 0x0907
      else b
    { w with base := b }.refConclude id e x sd 3 cause iters cold rec?
  | _, _ => { w with base := b }.refConclude id e x sd 3 cause iters cold rec?

/-- Rows of a factor as binary32 codes (10 R277). -/
def Base.factorRows (rq : MemReq) (a s : Nat) : Nat → Base → Base × List (List Nat)
  | 0, b => (b, [])
  | n + 1, b =>
    let (b, l) := b.readF32 rq a s
    let (b, r) := Base.factorRows rq (a + 4 * s) s n b
    (b, l :: r)

/-- A side of the current pair as values; poisoned elements are NaN (05 R150). -/
def Base.rootRows (rq : MemReq) (a s : Nat) : Nat → Base → Base × List (List Num)
  | 0, b => (b, [])
  | n + 1, b =>
    let (b, l) := b.read rq a (2 * s)
    let row := (elements 2 s l).map fun x => if x.2 then Num.nan else decodeCode .f16w x.1
    let (b, r) := Base.rootRows rq (a + 2 * s) s n b
    (b, row :: r)

/-- The fingerprint of a descriptor (10 R283). -/
def fingerprint (sd : List Byte) : Nat :=
  let r := RefPar.parse sd
  sdM sd + sdN sd * 2 ^ 13 + r.kind * 2 ^ 26 + b2n r.relative * 2 ^ 29 + 2 ^ 31

/-- How one side starts (10 R282): from the current pair, or cold. -/
def Base.sideStart (b : Base) (rq : MemReq) (sd t : List Byte) (info a s : Nat) : Base × SideStart :=
  let fp := info / 2 ^ 32
  if ttCold t ∨ fp = 0 then (b, .cold none)
  else if fp ≠ fingerprint sd then (b, .cold (some 1))
  else
    let (b, R) := Base.rootRows rq a s s b
    (b, if R.all (·.all Num.isFinite) then .warm R else .cold (some 4))

/-- How a replayed record bears on the refresh of its block (10 R297): it ran to its data's end, stopped at a boundary, or was held, wherever it ended. -/
inductive Replayed where
  | free
  | stopped (k : Nat)
  | held (k : Nat)

/-- A root refresh under a replayed record. One that was HELD ends where the record says: at its data's end, or stopped at that boundary (10 R294). -/
def rootReplay (r : RefPar) (FL FR : List (List Nat)) (sl sr : SideStart) (t : Budget) : Replayed → RefreshOut
  | .free => rootRefresh r FL FR sl sr t none
  | .stopped k => rootRefresh r FL FR sl sr t (some k)
  | .held k =>
    let o := rootRefresh r FL FR sl sr t none
    if o.iters = k then o else rootRefresh r FL FR sl sr t (some k)

/-- The whole of a refresh up to its converted pair (10 R277 to R286): the state after its reads, and its outcome. -/
def Work.refCompute (w : Work) (e : Nat) (x : Wb) (t sd : List Byte) (word info : Nat) (stop : Option Nat) (as_ : Replayed) : Work × RefreshOut :=
  let rq := crvReq e x.part
  let m := sdM sd
  let n := sdN sd
  let r := RefPar.parse sd
  let (b, FL) := Base.factorRows rq (sdFL sd) m m w.base
  let (b, FR) := Base.factorRows rq (sdFR sd) n n b
  if r.kind = 4 then ({ w with base := b }, inverseRefresh r FL FR stop)
  else
    let k := word % 2
    let (b, sl) := b.sideStart rq sd t info (rootXL (sdRoots sd) m k) m
    let (b, sr) := b.sideStart rq sd t info (rootXR (sdRoots sd) m n k) n
    ({ w with base := b }, rootReplay r FL FR sl sr (stop, 0) as_)

/-- The events of a refresh raised (10 R300). -/
def Base.rootEvents (b : Base) (e : Nat) (x : Wb) (block : Nat) (l : List RootEv) : Base × Wb :=
  l.foldl (fun (s : Base × Wb) v => s.1.rootOnce e s.2 block v) (b, x)

/-- The fold that a refresh waits for has not closed (09 R268, 10 R290). -/
def Work.refWaits (w : Work) (e : Nat) (x : Wb) (t : List Byte) : Bool :=
  let c := w.crv e
  w.base.stepOf x.part == x.step && c.foldDue (ttSd t) x.step && !(c.fold (ttSd t)).closed

/-- The part of an engine's scratch area that the refresh of a block uses: its address and length (10 R276). -/
def Base.scratchArea (b : Base) (e : Nat) (sd : List Byte) : Nat × Nat :=
  (b.rf 12 40 .CRV_SCRATCH (cd (e / 4)) (e % 4) * 4096, 16 * (sdM sd * sdM sd + sdN sd * sdN sd))

/-- The products of a refresh written to the scratch area (10 R275). Where in the area a matrix lies is given nowhere, so what each byte of the area
then holds is free (log entry 113). -/
def Base.scratchWritten (b : Base) (e p : Nat) (sd : List Byte) : Base :=
  let (a, n) := b.scratchArea e sd
  let f := b.free
  { b with free := f + n }.storeBytes (crvReq e p) a ((List.range n).map fun i => Config.scratchByte (f + i))

/-- The write generations of the scratch area, block by block: they show whether any master has written there (10 R276, 05 R141). -/
def Base.scratchGens (b : Base) (e : Nat) (sd : List Byte) : List Nat :=
  let (a, n) := b.scratchArea e sd
  (List.range (n / 4096)).map fun i =>
    match b.place (a + 4096 * i) with
    | .stack st off => (Map.find (st * 2 ^ 25 + off / 4096) b.gens).getD 0
    | _ => 0

/-- What a refresh that ran leaves and reports before it concludes: its products in the scratch area, the losses of its conversions, its events, its
cold starts and CRV_ROOTRUN (02 R48, 10 R275, R285, R299, R300). -/
def Work.refRan (w : Work) (id e : Nat) (x : Wb) (sd : List Byte) (inv : Bool) (o : RefreshOut) : Work × Wb :=
  let block := sdBlock sd
  let b := if o.prods = 0 then w.base else w.base.scratchWritten e x.part sd
  let x := { x with ovf := satAdd 32 x.ovf o.losses.1, van := satAdd 32 x.van o.losses.2 }
  let (b, x) := (b.noteWork (crvReq e x.part) 0x34 o.prods).rootEvents e x block o.evs
  let b := b.countSat o.colds 0 48 .CRV_CNT_COLD (cd (e / 4)) (e % 4)
  let b := b.wr (BitVec.ofNat 64 (block + b2n (o.result != 3) * 2 ^ 24 + b2n o.cold * 2 ^ 25 + b2n inv * 2 ^ 26 + o.iters * 2 ^ 32))
    .CRV_ROOTRUN (cd (e / 4)) (e % 4)
  ({ w with base := b }.setWb id x, x)

/-- The pair of a refresh, waiting to be published (10 R286). -/
def RefreshOut.pair (o : RefreshOut) (x : Wb) (stop : Option Nat) (gens : List Nat) : PendingPair :=
  { queue := x.queue, seq := x.seq, entry := x.refFirst + x.next, result := o.result, cause := o.cause, iters := o.iters, cold := o.cold,
    colds := o.colds, resid := o.resid, el := tc 16 o.el, er := tc 16 o.er, late := stop.isSome && o.cause == 1, gens := gens, xl := o.xl, xr := o.xr }

/-- BLOCK_REFRESH: the refresh of the due block that a running CRV_ROOT or CRV_INV stands at (10 R290). `stop` is the number of products, or
of panels, done before the deadline passes, where it passes during the refresh (10 R292). -/
def Work.blockRefresh (w : Work) (id q seq : Nat) (stop : Option Nat) : Work :=
  match w.wb? id q seq, crvOf id with
  | some x, some e =>
    if x.phase = .running ∧ (x.opcode = 0x21 ∨ x.opcode = 0x22) ∧ !x.aux.isEmpty ∧ !x.aborting ∧ (w.crv e).refresh = none then
      match w.refEntry e x with
      | none => w
      | some (t, sd) =>
        let (w, rec?) := w.refRecord id x
        let recCause := match rec? with | some v => v / 2 ^ 28 % 16 | none => 0
        let recIters := match rec? with | some v => v / 2 ^ 32 % 256 | none => 0
        let inv := x.opcode == 0x22
        if w.base.refPassed x then w.refStale id e x sd 1 (if inv then 0 else 0xFF) 0 false rec?
        else if w.refWaits e x t then w
        else if recCause = 1 ∧ (inv ∨ recIters = 0xFF) then w.refStale id e x sd 1 (if inv then 0 else 0xFF) 0 false rec?
        else
          let (b, word) := w.base.dieRead x.part (sdRoots sd) 8
          let (b, info) := b.dieRead x.part (sdRoots sd + 8) 8
          let w := { w with base := b }
          match word, info with
          | some word, some info =>
            let stop := if x.hasDeadline && !x.refReplay then stop else none
            let (w, o) := w.refCompute e x t sd word info stop
              (if recCause = 1 then .stopped recIters else if recCause = 2 then .held recIters else .free)
            let (w, x) := w.refRan id e x sd inv o
            if o.result = 3 then w.refStale id e x sd o.cause o.iters o.colds o.cold rec?
            else if recCause = 2 then w.refStale id e x sd 2 o.iters o.colds o.cold rec?
            else
              w.setCrv e { w.crv e with refresh := some (o.pair x stop (w.base.scratchGens e sd)) }
          | _, _ => w.refStale id e x sd 7 (if inv then 0 else 0xFF) 0 false rec?
    else w
  | _, _ => w

/-- The waybill, entry and descriptor of an engine's pending pair. -/
def Work.refPending (w : Work) (e : Nat) : Option (PendingPair × Wb × List Byte × List Byte) :=
  match (w.crv e).refresh with
  | none => none
  | some r =>
    match w.wb? (crvUnit e) r.queue r.seq, (w.crv e).tt[r.entry]? with
    | some x, some t => some (r, x, t, (w.crv e).sd.getD (ttSd t) [])
    | _, _ => none

/-- The publication of a pair: its bytes, its record, SEL flipped with VALID set, and ROOTINFO (10 R286, R287). -/
def Base.pairWritten (b : Base) (e : Nat) (x : Wb) (sd : List Byte) (word : Nat) (r : PendingPair) : Base :=
  let a := sdRoots sd
  let p := x.part
  let k := 1 - word % 2
  let rq := crvReq e p
  let b := b.storeBytes rq (rootXL a (sdM sd) k) (r.xl.flatMap (leBytes 2))
  let b := b.storeBytes rq (rootXR a (sdM sd) (sdN sd) k) (r.xr.flatMap (leBytes 2))
  let (b, colds) := b.dieRead p (a + 60) 4
  let b := b.storeBytes rq (a + 40) (leBytes 4 (x.step % 2 ^ 32) ++ leBytes 4 r.resid ++ leBytes 2 r.el ++ leBytes 2 r.er
    ++ leBytes 1 r.iters ++ leBytes 3 0 ++ leBytes 4 (x.step % 2 ^ 32) ++ leBytes 4 (satAdd 32 (colds.getD 0) r.colds)) false
  let b := b.dieWrite p a 8 (word / 4 * 4 + 2 + k)
  b.dieWrite p (a + 8) 8 (r.result + b2n r.cold * 16 + r.cause * 256 + fingerprint sd * 2 ^ 32)

/-- The pair that is published: where another master has written the scratch area meanwhile, the result has changed, to what the manual does not say
(10 R276): free values. -/
def Base.pairNow (b : Base) (e : Nat) (sd : List Byte) (r : PendingPair) : Base × PendingPair :=
  if b.scratchGens e sd = r.gens then (b, r)
  else
    let n := r.xl.length
    ({ b with free := b.free + n + r.xr.length },
      { r with
        xl := (List.range n).map fun i => (Config.scratchCode (b.free + i)).toNat
        xr := (List.range r.xr.length).map fun i => (Config.scratchCode (b.free + n + i)).toNat })

/-- ROOT_PUBLISH: the test of HOLD of the other pair, and with 0 the publication of the pending pair (10 R286, R287, R294). A pair whose
refresh the deadline stopped has this one test; for another the deadline counts once a test has begun its wait. -/
def Work.rootPublish (w : Work) (e : Nat) : Work :=
  match w.refPending e with
  | none => w
  | some (r, x, _, sd) =>
    let id := crvUnit e
    let p := x.part
    let a := sdRoots sd
    let (w, rec?) := w.refRecord id x
    let (b, word) := w.base.dieRead p a 8
    let w := { w with base := b }
    match word with
    | none => w.refStale id e x sd 7 r.iters r.colds r.cold rec?
    | some word =>
      let k := 1 - word % 2
      if nget word (16 + 16 * k) 16 ≠ 0 then
        (if r.late || b.refPassed x then w.refStale id e x sd 2 r.iters r.colds r.cold rec?
        else w.setCrv e { w.crv e with refresh := some { r with waited := true } })
      else if r.waited && b.refPassed x then w.refStale id e x sd 2 r.iters r.colds r.cold rec?
      else
        let (b, r) := b.pairNow e sd r
        let b := b.pairWritten e x sd word r
        { w with base := b }.refConclude id e x sd r.result r.cause r.iters r.cold rec?

/-- REFRESH_DEADLINE_EXPIRY: the deadline passes while the engine waits for a fold, or for a HOLD (10 R292, R294). A pair that has not been tested yet
has its first test. -/
def Work.refDeadline (w : Work) (id q seq : Nat) : Work :=
  match w.wb? id q seq, crvOf id with
  | some x, some e =>
    if x.phase = .running ∧ (x.opcode = 0x21 ∨ x.opcode = 0x22) ∧ !x.aux.isEmpty ∧ w.base.refPassed x then
      match (w.crv e).refresh with
      | some r =>
        if r.queue = q ∧ r.seq = seq then
          if r.waited then
            match w.refPending e with
            | some (r, x, _, sd) => w.refStale id e x sd 2 r.iters r.colds r.cold none
            | none => w
          else w.rootPublish e
        else w
      | none =>
        if x.aborting then w
        else
          match w.refEntry e x with
          | some (t, sd) => if w.refWaits e x t then w.refStale id e x sd 1 (if x.opcode = 0x22 then 0 else 0xFF) 0 false none else w
          | none => w
    else w
  | _, _ => w

/-- A pair of the waybill waits to be published: its block has not concluded (10 R298). -/
def Work.pairWaits (w : Work) (id : Nat) (x : Wb) : Bool :=
  match crvOf id with
  | some e => (match (w.crv e).refresh with
    | some r => r.queue == x.queue && r.seq == x.seq
    | none => false)
  | none => false

/-- An aborted or lost refresh waybill: the records of the entries not run are zeros, and no pair of it waits any more (10 R298). -/
def Work.refAbort (w : Work) (id : Nat) (x : Wb) : Work :=
  let w := match crvOf id with
    | some e =>
      if w.pairWaits id x then
        { w with base := w.base.wf 24 1 0 .CRV_ROOTRUN (cd (e / 4)) (e % 4) }.setCrv e { w.crv e with refresh := none }
      else w
    | none => w
  (List.range (x.refCount - x.next)).foldl (fun (w : Work) i => w.logWrite id x (x.next + i) 0) w

/-- Ticks during which a held piece waits for a refresh (09 R268, R270). -/
def Work.foldWaitTick (w : Work) : Work :=
  w.curv.engines.foldl (fun (w : Work) c =>
    match w.foldWb c.1 with
    | some x =>
      if c.2.held.any (fun d => match c.2.indexOf d.block with
        | some k => d.tag == x.step % 65536 && (c.2.fold k).opener == some (x.queue, x.seq) && w.foldDelayed c.1 x.step k
        | none => false)
      then { w with base := w.base.countSat 1 0 48 .CRV_CNT_FOLDWAIT (cd (c.1 / 4)) (c.1 % 4) } else w
    | none => w) w

end Sys2Proof.Machine
end

