-- ==== Sys2Proof/Machine/RingOps.lean ====
section
/-! DEFINITION. What the ring engines do for their waybills (11 R322 to R331): when they begin, when a frame of theirs arrives, and the frames
that arrive for this device from others. -/

namespace Sys2Proof.Machine

/-- The waybill of a ring unit that begins, where it runs and has no operation yet. -/
def Work.ringBegin? (w : Work) (id q seq opcode : Nat) : Option Wb :=
  match w.wb? id q seq with
  | some x =>
    if x.phase = .running ∧ x.opcode = opcode ∧ !x.aborting ∧ (w.ringOp? fun o => o.queue == q && o.seq == seq).isNone then some x else none
  | none => none

/-- An operation entered. -/
def Work.addOp (w : Work) (o : RingOp) : Work := { w with ring := { w.ring with ops := w.ring.ops ++ [o] } }

/-- Bytes of the second landing tensor of a relay with it (11 R323). -/
def Wb.relayBytes (x : Wb) (k : Nat) : Nat :=
  match x.desc k with
  | some d => d.byteCount
  | none => 0

/-- Bytes of one slot of a relay, of both landing tensors. -/
def Wb.slotBytes (x : Wb) (S : Nat) : Nat := x.relayBytes 0 / S + x.relayBytes 1 / S

/-- A tensor's slot i of S as bytes (11 R323: the outermost dimension is S). -/
def Work.slotRead (w : Work) (c : Cx) (d : Option Desc) (S i : Nat) : Work × List Byte :=
  match d with
  | none => (w, [])
  | some d =>
    let (w, l) := w.tensorBytes c d
    let n := d.byteCount / S
    (w, (l.drop (i * n)).take n)

/-- Bytes of a slot transfer written from offset `off`: the first tensor's slot, then the second's. -/
def Work.slotWrite (w : Work) (c : Cx) (x : Wb) (S i off : Nat) (l : List Byte) : Work :=
  let n0 := x.relayBytes 0 / S
  let n1 := x.relayBytes 1 / S
  let a := l.take (n0 - off)
  let b := (l.drop (n0 - off)).take (n1 - (off - n0))
  let w := match x.desc 0 with
    | some d => if a.isEmpty then w else w.tensorWrite c d (i * n0 + off) a
    | none => w
  match x.desc 1 with
  | some d => if b.isEmpty then w else w.tensorWrite c d (i * n1 + (off - n0)) b
  | none => w

/-- A token of a partition produced by a ring engine: its message sets out for its home, behind what its waybill has written (04 R112). -/
def Work.sendToken (w : Work) (p t : Nat) (waybill : Option Nat := none) : Work :=
  { w with
    base := match waybill with | some k => w.base.uncover k | none => w.base
    eng := { w.eng with flying := w.eng.flying ++ [.produce p (t % 2 ^ 24) false] } }

/-- A descriptor is fit for the target of a put (11 R322): valid under 04 R109, in memory form, of a defined format, its memory in the partition,
and as long as the source. -/
def Base.putTarget (b : Base) (p : Nat) (d : Desc) (total : Nat) : Bool :=
  !d.bad .ring none && !d.badFormat && d.form == 0 && b.memOwned p d.addr d.extent && d.byteCount == total

/-- RING_SEND begins (11 R322): a local copy, or the put's frames. -/
def Work.ringSend (w : Work) (id q seq : Nat) : Work :=
  match w.ringBegin? id q seq 0x60 with
  | none => w
  | some x =>
    match x.desc 0, x.desc 1 with
    | some s, some t =>
      let o := w.base.newOp id x
      let w := w.addOp o
      let (w, l) := w.tensorBytes (w.base.cx id x) s
      let j := (o.rank + x.oparg / 32 % 64) % o.S
      let token := if x.oparg.testBit 11 then some (x.arg % 2 ^ 24) else none
      if j = o.rank then
        if w.base.putTarget x.part t l.length then
          let w := w.tensorWrite (w.base.cx id x) t 0 l
          let w := match token with | some k => w.sendToken x.part k x.number | none => w
          w.opEnd o 1
        else
          let (b, x) := w.base.each id x 0x0A10
          ({ w with base := b }.setWb id x).opEnd o 0x10
      else
        (w.opTransfer o (o.eastTo o.rank j) (o.pos j) 0 0 0 l (.put (x.descs.getD 1 []) token l.length o.number)).1
    | _, _ => w

/-- A relay has ended: every block has arrived, and the east neighbour has acknowledged every block sent (11 R323). -/
def Work.relayCheck (w : Work) (o : RingOp) (x : Wb) : Work :=
  let all := (List.range o.S).all fun i => i == o.rank || decide (x.slotBytes o.S ≤ o.received 1 (o.pos i))
  if all && decide (o.S ≤ o.acks.length + 1) then w.opEnd o 1 else w

/-- RING_RELAY begins (11 R323). -/
def Work.ringRelay (w : Work) (id q seq : Nat) : Work :=
  match w.ringBegin? id q seq 0x61 with
  | none => w
  | some x =>
    let o := w.base.newOp id x
    let w := (w.addOp o).sendToken x.part (x.arg % 2 ^ 24) x.number
    if o.S ≤ 1 then w.opEnd o 1
    else
      let c := w.base.cx id x
      let (w, a) := w.slotRead c (x.desc 0) o.S o.rank
      let (w, b) := w.slotRead c (x.desc 1) o.S o.rank
      let east := (o.rank + 1) % o.S
      (w.opTransfer o (o.eastTo o.rank east) (o.pos east) 1 (o.pos o.rank) 0 (a ++ b)).1

/-- A relay frame for a running relay (11 R323). `e` is the engine it arrived on, `src` its sender. -/
def Work.relayFrame (w : Work) (e src : Nat) (o : RingOp) (x : Wb) (f : OutFrame) : Work :=
  let i := o.members.idxOf f.origin
  if o.S ≤ i ∨ i = o.rank then w.ringDrop e 2 f (some o.part)
  else
    let a := (o.rank + o.S - i) % o.S
    let n := min f.payload.length (x.slotBytes o.S - f.offset)
    let l := f.payload.take n
    let w := w.slotWrite (w.base.cx o.unit x) x o.S i f.offset l
    let o := { o with got := (1, f.origin, f.offset, n) :: o.got }
    let w := w.setOp o
    let east := (o.rank + 1) % o.S
    let (w, o) := if a + 2 ≤ o.S then
        w.opSend o (o.eastTo o.rank east) { o.frame 0 (o.pos east) with kind := 1, origin := f.origin, offset := f.offset, payload := l }
      else (w, o)
    if x.slotBytes o.S ≤ o.received 1 f.origin then
      let w := w.sendToken o.part (x.arg % 2 ^ 24 + a) x.number
      let w := w.ringQueue e { o.frame 7 src with body := .ack f.origin 0 }
      w.relayCheck o x
    else w

/-- The elements of a reduction (11 R324). -/
def Wb.reduceCount (x : Wb) : Nat := match x.desc 0 with | some d => d.count | none => 0

/-- A reduction has ended on this rank: its output is whole and its figures are known, and no partial came beyond its elements (11 R324, R325). -/
def Work.reduceCheck (w : Work) (o : RingOp) : Work :=
  match w.opWb o, o.figQ, o.figR with
  | some x, some q, some r =>
    if o.stuck then w
    else if 4 * x.reduceCount ≤ (if o.rank + 1 = o.S then o.received 2 0 else o.received 3 0) ∨ o.S = 1 then
      (w.noiseAdd o x q r x.reduceCount).opEnd o 1
    else w
  | _, _, _ => w

/-- The figures pass on once every partial has (11 R325): Q eastward, or R formed by the last rank and both sent west. -/
def Work.reduceFigures (w : Work) (o : RingOp) (x : Wb) : Work :=
  let E := x.reduceCount
  if o.figSent ∨ (o.rank ≠ 0 ∧ (o.received 2 0 < 4 * E ∨ o.figQ.isNone)) then w
  else
    let (w, g) := w.contribution o.unit x 0 E
    let q := normSquare g
    let Q := match o.figQ with | some p => f32add p q | none => q
    if o.rank + 1 < o.S then
      let o := { o with figSent := true }
      let (w, _) := (w.setOp o).opSend o true { o.frame 7 (o.pos (o.rank + 1)) with aux := Q, body := .figures none }
      w
    else
      let R := normSquare ((List.range E).map fun i => (Map.find i o.data).getD 0)
      let o := { o with figSent := true, figQ := some Q, figR := some R }
      let w := w.setOp o
      let (w, o) := if o.rank = 0 then (w, o) else w.opSend o false { o.frame 7 (o.pos (o.rank - 1)) with aux := Q, body := .figures (some R) }
      w.reduceCheck o

/-- RING_REDUCE begins (11 R324, R325). -/
def Work.ringReduce (w : Work) (id q seq : Nat) : Work :=
  match w.ringBegin? id q seq 0x62 with
  | none => w
  | some x =>
    let o := w.base.newOp id x
    let w := w.addOp o
    let E := x.reduceCount
    if o.rank = 0 then
      let (w, g) := w.contribution id x 0 E
      let (w, x) := w.reduceFinite id x 0 g
      let w := w.setWb id x
      if o.S = 1 then
        let (w, x) := w.reduceOut id x 0 g
        let o := { o with data := g.zipIdx.map fun c => (c.2, c.1) }
        ((w.setWb id x).setOp o).reduceFigures o x
      else
        let (w, o) := w.opTransfer o true (o.pos 1) 2 0 0 (g.flatMap (leBytes 4))
        w.reduceFigures o x
    else w

/-- A partial for a running reduction of rank k ≥ 1: p + g passes east, or is the result. One beyond the elements is dropped, and the waybill then
waits until it is aborted (11 R324). -/
def Work.partialFrame (w : Work) (e : Nat) (o : RingOp) (x : Wb) (f : OutFrame) : Work :=
  let E := x.reduceCount
  if o.rank = 0 then w.ringDrop e 2 f (some o.part)
  else if 4 * E ≤ f.offset then (w.setOp { o with stuck := true }).ringDrop e 2 f (some o.part)
  else
    let n := min (f.payload.length / 4) (E - f.offset / 4)
    let e0 := f.offset / 4
    let p := (List.range n).map fun i => fieldAt f.payload (4 * i) 4
    let (w, g) := w.contribution o.unit x e0 n
    let t := (p.zip g).map fun c => f32add c.1 c.2
    let w := { w with base := w.base.noteWork (unitReq o.part ⟨io (e / 4), 4⟩) 0x68 n }
    let (w, x) := [p, g, t].foldl (fun (s : Work × Wb) l => s.1.reduceFinite o.unit s.2 e0 l) (w, x)
    let o := { o with got := (2, 0, f.offset, 4 * n) :: o.got }
    if o.rank + 1 < o.S then
      let w := (w.setWb o.unit x).setOp o
      let (w, o) := w.opSend o true { o.frame 0 (o.pos (o.rank + 1)) with kind := 2, offset := f.offset, payload := t.flatMap (leBytes 4) }
      w.reduceFigures o x
    else
      let (w, x) := w.reduceOut o.unit x e0 t
      let o := { o with data := t.zipIdx.foldl (fun m c => Map.put (e0 + c.2) c.1 m) o.data }
      let w := (w.setWb o.unit x).setOp o
      let (w, o) := w.opSend o false { o.frame 0 (o.pos (o.rank - 1)) with kind := 3, offset := f.offset, payload := t.flatMap (leBytes 4) }
      w.reduceFigures o x

/-- A result for a running reduction: written, and passed west (11 R324). -/
def Work.resultFrame (w : Work) (e : Nat) (o : RingOp) (x : Wb) (f : OutFrame) : Work :=
  let E := x.reduceCount
  if 4 * E ≤ f.offset ∨ o.rank + 1 = o.S then w.ringDrop e 2 f (some o.part)
  else
    let n := min (f.payload.length / 4) (E - f.offset / 4)
    let s := (List.range n).map fun i => fieldAt f.payload (4 * i) 4
    let (w, x) := w.reduceOut o.unit x (f.offset / 4) s
    let o := { o with got := (3, 0, f.offset, 4 * n) :: o.got }
    let w := (w.setWb o.unit x).setOp o
    let (w, o) := if o.rank = 0 then (w, o)
      else w.opSend o false { o.frame 0 (o.pos (o.rank - 1)) with kind := 3, offset := f.offset, payload := f.payload.take (4 * n) }
    w.reduceCheck o

/-- The 32-byte report of a digest comparison (11 R328). -/
def digestReport (o : RingOp) : List Byte :=
  let c := o.compared.getD (0, 0, none)
  let line := (o.lineFound.getD none)
  leBytes 4 c.1 ++ leBytes 4 c.2.1 ++ leBytes 8 (c.2.2.getD (2 ^ 64 - 1)) ++ leBytes 8 (match line with | some f => f.1 | none => 2 ^ 64 - 1)
    ++ leBytes 1 (match line with | some f => f.2 | none => 0) ++ leBytes 1 (b2n (c.2.2.isSome) + 2 * b2n line.isSome) ++ leBytes 2 0
    ++ leBytes 4 (o.step % 2 ^ 32)

/-- The lower of two findings; on one entry the lower rank. -/
def lowerFound (a b : Option (Nat × Nat)) : Option (Nat × Nat) :=
  match a, b with
  | none, b => b
  | a, none => a
  | some x, some y => if y.1 < x.1 ∨ (y.1 = x.1 ∧ y.2 < x.2) then some y else some x

/-- The verdict has passed this rank: the report, the step's DIGEST flag, and the end of the waybill (11 R328). -/
def Work.digestEnd (w : Work) (o : RingOp) : Work :=
  match w.opWb o with
  | none => w
  | some x =>
    let w := match x.desc 2 with
      | some d => w.fieldWrite (w.base.cx o.unit x) d.base (digestReport o)
      | none => w
    let b := if (o.lineFound.getD none).isSome then
        (w.base.setStep o.part fun a => { a with digest := true }).reportOf x fun v => { v with digest := true }
      else w.base
    { w with base := b }.opEnd o 1

/-- The verdict as this rank knows it goes west, or ends at rank 0 (11 R328). -/
def Work.digestVerdict (w : Work) (o : RingOp) (found : Option (Nat × Nat)) : Work :=
  let own := match o.compared with | some (_, _, some e) => some (e, o.rank) | _ => none
  let v := lowerFound own found
  let o := { o with lineFound := some v }
  let w := w.setOp o
  let (w, o) := if o.rank = 0 then (w, o)
    else w.opSend o false { o.frame 0 (o.pos (o.rank - 1)) with kind := 5, body := .verdict v }
  w.digestEnd o

/-- RING_DIGEST begins (11 R328). -/
def Work.ringDigest (w : Work) (id q seq : Nat) : Work :=
  match w.ringBegin? id q seq 0x63 with
  | none => w
  | some x =>
    let o := w.base.newOp id x
    let w := w.addOp o
    match x.desc 0 with
    | none => w
    | some d =>
      if o.S ≤ 1 then (w.setOp { o with lineFound := some none }).digestEnd { o with lineFound := some none }
      else if o.rank = 0 then
        let (w, l) := w.tensorBytes (w.base.cx id x) d
        (w.opTransfer o true (o.pos 1) 4 0 0 l).1
      else w

/-- A list frame for a running comparison: with the whole list in, it is compared and this rank's own list goes east (11 R328). -/
def Work.listFrame (w : Work) (e : Nat) (o : RingOp) (x : Wb) (f : OutFrame) : Work :=
  match x.desc 0 with
  | none => w
  | some d =>
    let total := d.byteCount
    if total ≤ f.offset ∨ o.rank = 0 then w.ringDrop e 2 f (some o.part)
    else
      let n := min f.payload.length (total - f.offset)
      let o : RingOp := { o with
        got := (4, 0, f.offset, n) :: o.got
        data := (f.payload.take n).zipIdx.foldl (fun m c => Map.put (f.offset + c.2) c.1.toNat m) o.data }
      let w := w.setOp o
      if o.received 4 0 < total then w
      else
        let (w, own) := w.tensorBytes (w.base.cx o.unit x) d
        let theirs : List Byte := (List.range total).map fun i => BitVec.ofNat 8 ((Map.find i o.data).getD 0)
        let bad := (List.range (total / 8)).filter fun i =>
          fieldAt own (8 * i) 8 != fieldAt theirs (8 * i) 8 || fieldAt own (8 * i) 8 == 2 ^ 64 - 1
        let o : RingOp := { o with compared := some (total / 8, bad.length, bad.head?), data := [] }
        let b := w.base.reportOf x fun v => { v with digCmp := v.digCmp + total / 8, digFail := v.digFail + bad.length }
        let (b, x) := if bad.isEmpty then (b, x) else b.once o.unit x 0x0701
        let w := ({ w with base := b }.setWb o.unit x).setOp o
        if o.rank + 1 < o.S then (w.opTransfer o true (o.pos (o.rank + 1)) 4 0 0 own).1
        else w.digestVerdict o none

/-- The line record of a reshard (11 R330): X, epoch, σ, Z. -/
def lineRecord (l : List Byte) : Nat × Nat × Nat × Nat := (fieldAt l 0 8, fieldAt l 8 2, fieldAt l 10 1, fieldAt l 11 1)

/-- A line record that RING_RESHARD rejects (11 R317, R330). -/
def Base.recordBad (b : Base) (line : Nat) (l : List Byte) : Bool :=
  let (X, ep, s, z) := lineRecord l
  fieldAt l 12 4 != 0 || !lineValid b.ringSize b.ringPos s z X || !later 16 ep (b.lineEpoch line)

/-- The check value of a line record: the frame check over its 16 bytes (log entry 42). -/
def recordCheck (l : List Byte) : Nat := frameCfg.check l

/-- The directions in which frames of rank k reach rank j (11 R317, R322 to R331). -/
def reach (k j : Nat) (wrapEast : Bool) : List Bool :=
  if k < j then [true] else if wrapEast then [true, false] else [false]

/-- The virtual channels of a partition. -/
def Base.vcsOf (b : Base) (p : Nat) : List Nat := (List.range 8).filter fun v => b.vcPart v == some p

/-- A neighbour's EPOCH_BEGIN is held against the record installed on the line (11 R331). -/
def Work.beginCheck (w : Work) (e line epoch check : Nat) : Work :=
  if w.base.lineEpoch line = epoch ∧ (Map.find line w.ring.records).isSome ∧ Map.find line w.ring.records ≠ some check then
    let f : OutFrame := { type := 6, line := line, epoch := epoch }
    { w with base := (w.base.ringFault e 6 f).ringEvent e 10 0x0A0B (some (w.base.linePart line))
             ring := { w.ring with badLayout := NSet.add line w.ring.badLayout } }
  else w

/-- The EPOCH_END frames that a waiting reshard still misses, by member (11 R331). -/
def Work.missingEnds (w : Work) (o : RingOp) : List Nat :=
  o.members.filter fun p =>
    p != o.pos o.rank &&
      (reach (o.members.idxOf p) o.rank o.wrapEast).any fun east =>
        (w.base.dirEngines (!east)).any fun e => (w.base.vcsOf o.part).any fun v =>
          !w.ring.ends.contains (o.line, o.epoch, p, e, v)

/-- A reshard that misses no EPOCH_END completes (11 R331). -/
def Work.reshardCheck (w : Work) (o : RingOp) : Work :=
  if o.waitStart.isSome ∧ (w.missingEnds o).isEmpty then w.opEnd o 1 else w

/-- The operation of a reshard: the old epoch, the new members, and its wait begun (11 R331). -/
def Base.reshardOp (b : Base) (id : Nat) (x : Wb) (l : List Byte) : RingOp :=
  let (X, _, s, z) := lineRecord l
  let ms := lineMembers b.ringPos s z X
  { b.newOp id x with members := ms, rank := ms.idxOf b.ringPos, wrapEast := s * z == b.ringSize, waitStart := some b.time }

/-- EPOCH_END of the old epoch to every other member, on every engine and virtual channel that leads to it (11 R331). -/
def Work.reshardEnds (w : Work) (o : RingOp) : Work :=
  o.members.zipIdx.foldl (fun (w : Work) m =>
    if m.2 = o.rank then w
    else (reach o.rank m.2 o.wrapEast).foldl (fun (w : Work) east =>
      (w.base.dirEngines east).foldl (fun (w : Work) e =>
        (w.base.vcsOf o.part).foldl (fun (w : Work) v => w.ringQueue e { o.frame 5 m.1 with vc := v }) w) w) w) w

/-- The record installed on the line (11 R330, R331). -/
def Work.reshardInstall (w : Work) (line : Nat) (l : List Byte) : Work :=
  let (X, ep, s, z) := lineRecord l
  let v := fput (fput (fput (w.base.rd .RING_LINE 40 0 line) 0 6 s) 6 7 z) 32 16 ep
  let b := (w.base.wr (fput v 13 1 1) .RING_LINE 40 0 line).wr (BitVec.ofNat 64 X) .RING_LINEX 40 0 line
  { w with base := b, ring := { w.ring with
    records := Map.put line (recordCheck l) w.ring.records, badLayout := NSet.remove line w.ring.badLayout } }

/-- EPOCH_BEGIN with the record's check to rank j (11 R331). -/
def Work.reshardTell (w : Work) (o : RingOp) (l : List Byte) (j : Nat) (east : Bool) : Work :=
  if o.S ≤ 1 then w
  else (w.opSend o east { o.frame 6 (o.pos j) with epoch := (lineRecord l).2.1, body := .record (recordCheck l) }).1

/-- The neighbours' EPOCH_BEGIN frames that came before are held against the record (11 R331). -/
def Work.reshardBegins (w : Work) (id line : Nat) : Work :=
  let w := (w.ring.begins.filter fun g => g.1 == line).foldl (fun (w : Work) g => w.beginCheck (id / 8 % 16) g.1 g.2.1 g.2.2) w
  { w with ring := { w.ring with begins := w.ring.begins.filter fun g => g.1 != line } }

/-- RING_RESHARD begins (11 R331). The operation keeps the old epoch and the new members. -/
def Work.ringReshard (w : Work) (id q seq : Nat) : Work :=
  match w.ringBegin? id q seq 0x64 with
  | none => w
  | some x =>
    match x.desc 0 with
    | none => w
    | some d =>
      let (w, l) := w.tensorBytes (w.base.cx id x) d
      let o := w.base.reshardOp id x l
      let east := (o.rank + 1) % o.S
      let back := (o.rank + o.S - 1) % o.S
      let w := (((w.addOp o).reshardEnds o).reshardInstall x.ringLine l).reshardTell o l east (o.eastTo o.rank east)
      let w := (w.reshardTell o l back (!(o.eastTo back o.rank))).reshardBegins id x.ringLine
      match w.ringOp? fun y => y.queue == q && y.seq == seq with
      | some o => w.reshardCheck o
      | none => w

/-- A frame of a running waybill (11 R321 to R328). One that an abort has named takes no further frame (04 R122). -/
def Work.opFrame (w : Work) (e src : Nat) (o : RingOp) (f : OutFrame) : Work :=
  match w.opWb o with
  | none => w
  | some x =>
    if x.aborting then w.ringDrop e 2 f (some o.part)
    else if o.isDup f then w.ringDrop e 7 f (some o.part)
    else match f.kind, o.opcode with
      | 1, 0x61 => w.relayFrame e src o x f
      | 2, 0x62 => w.partialFrame e o x f
      | 3, 0x62 => w.resultFrame e o x f
      | 4, 0x63 => w.listFrame e o x f
      | 5, 0x63 => (match f.body with
        | .verdict v => w.digestVerdict o v
        | _ => w)
      | _, _ => w.ringDrop e 2 f (some o.part)

/-- The answer of a put's target to its sender (11 R322). -/
def OutFrame.answer (f : OutFrame) (src : Nat) (body : FrameBody) : OutFrame :=
  { type := 7, vc := f.vc, line := f.line, dst := src, tag := f.tag, step := f.step, body := body }

/-- A put's frame on its target: its bytes land, and the last one produces the token and the acknowledgement. An unfit put is refused once and writes
nothing. A byte range that has come before, of a completed put too, is a duplicate (11 R314, R322). -/
def Work.putFrame (w : Work) (e src p : Nat) (f : OutFrame) : Work :=
  match f.body with
  | .put desc token total number =>
    let mine := fun (t : PutIn) => t.src == src && t.number == number && t.line == f.line && t.tag == f.tag && t.step == f.step
    let d := Desc.parse desc
    let (w, t) := match w.ring.puts.find? mine with
      | some t => (w, t)
      | none =>
        let t : PutIn := { src := src, number := number, line := f.line, tag := f.tag, step := f.step, part := p, desc := desc, token := token
                           total := total, refused := !w.base.putTarget p d total }
        let w := { w with ring := { w.ring with puts := w.ring.puts ++ [t] } }
        (if t.refused then w.ringQueue e (f.answer src (.refusal number)) else w, t)
    let n := min f.payload.length (total - f.offset)
    if t.got.any fun g => g.1 == f.offset then w.ringDrop e 7 f (some p)
    else
      let t := { t with got := (f.offset, n) :: t.got }
      let w := { w with ring := { w.ring with puts := w.ring.puts.map fun y => if mine y then t else y } }
      if t.refused then w
      else
        let c : Cx := ⟨ringUnit e, ⟨io (e / 4), e % 4⟩, p, 0, 0, false, false, false, false, false⟩
        let w := w.tensorWrite c d f.offset (f.payload.take n)
        if total ≤ (t.got.map (·.2)).sum then
          let w := match token with | some k => w.sendToken p k | none => w
          w.ringQueue e (f.answer src (.ack 0 number))
        else w
  | _ => w.ringDrop e 2 f (some p)

/-- A DATA frame delivered into the partition of its line, or held (11 R318, R321, R331, R332). Answers whether it is held. -/
def Work.ringDeliver (w : Work) (e src : Nat) (f : OutFrame) : Work × Bool :=
  let b := w.base
  if !b.lineOn f.line then (w.ringDrop e 2 f none, false)
  else
    let p := b.linePart f.line
    let cur := b.lineEpoch f.line
    let waiting := w.ring.ops.any fun o => o.line == f.line && o.waitStart.isSome && o.epoch == f.epoch
    if older 16 f.epoch cur && !waiting then
      let w := w.ringDrop e 1 f (some p)
      let b := ((w.base.timedHit p).setStep p fun a => { a with invalid := true }).setVerdict p fun v => { v with epoch := true }
      ({ w with base := b }, false)
    else if later 16 f.epoch cur then (w, true)
    else if f.epoch = cur ∧ w.ring.badLayout.contains f.line then (w.ringDrop e 6 f (some p), false)
    else if f.kind = 0 then (w.putFrame e src p f, false)
    else
      match w.ringOp? fun o => o.line == f.line && o.tag == f.tag && o.step % 65536 == f.step && o.opcode != 0x60 && o.opcode != 0x64 with
      | some o => (w.opFrame e src o f, false)
      | none =>
        if older 16 f.step (b.stepOf p) || w.ring.ended.contains (f.line, f.tag, f.step) then (w.ringDrop e 2 f (some p), false)
        else (w, true)

end Sys2Proof.Machine
end

