-- ==== Sys2Proof/Machine/Lanes.lean ====
section
/-! DEFINITION. The lanes of an update unit: optimiser programs, weights with their ledger bytes, and moments (08 R222 to R229). -/

namespace Sys2Proof.Machine

/-- Fields of an instruction (08 R222). -/
def pOp (i : Nat) : Nat := nget i 26 6
def pD (i : Nat) : Nat := nget i 21 5
def pA (i : Nat) : Nat := nget i 16 5
def pB (i : Nat) : Nat := nget i 11 5
def pC (i : Nat) : Nat := nget i 6 5

/-- How many of A, B and C an operation uses; none where it is not listed (08 R223). -/
def pArity (op : Nat) : Option Nat :=
  match op with
  | 0x01 | 0x02 | 0x03 | 0x05 | 0x08 | 0x09 => some 2
  | 0x04 | 0x0D => some 3
  | 0x06 | 0x07 | 0x0A | 0x0B | 0x0C => some 1
  | _ => none

/-- The operands an instruction uses. -/
def pUsed (i : Nat) : List Nat := [pA i, pB i, pC i].take ((pArity (pOp i)).getD 0)

/-- The instructions before END among 32 words; none where there is no END (08 R222, R224). -/
def progBody : List Nat → Option (List Nat)
  | [] => none
  | i :: r => if i = 0 then some [] else (progBody r).map (i :: ·)

/-- A program obeys 08 R224; `nm` is NMOM. -/
def progValid (nm : Nat) (l : List Nat) : Bool :=
  let count := fun (b : Nat) => l.countP fun i => i.testBit b
  (l.all fun i =>
    pOp i != 0 && (pArity (pOp i)).isSome && decide (pD i < 8) && !i.testBit 5
      && (pUsed i).all (fun x => decide (x ≤ 22) && (x != 10 || decide (1 ≤ nm)) && (x != 11 || nm == 2))
      && ([pA i, pB i, pC i].drop (pUsed i).length).all (· == 0))
    && count 2 == 1 && decide (count 0 ≤ 1) && decide (count 3 ≤ 1) && decide (count 4 ≤ 1) && decide (count 1 ≤ 1)
    && (count 1 == 0 || nm == 2) && (count 0 == 0 || decide (1 ≤ nm))

/-- A result with its NaN made canonical (02 R36). -/
def canon (c : Nat) : Nat := if f32isNan c then 0x7FC00000 else c

/-- 1/√A, correctly rounded (08 R223). -/
def f32rsqrt (a : Nat) : Nat :=
  match f32v a with
  | .nan => 0x7FC00000
  | .inf s => if s then 0x7FC00000 else 0
  | .fin s m e =>
    if m = 0 then (if s then 0xFF800000 else 0x7F800000)
    else if s then 0x7FC00000
    else
      let N : Nat := 200 + (e % 2).toNat
      let r := isqrt (2 ^ N / m)
      f32r (.fin false (2 * r + b2n (decide (r * r * m ≠ 2 ^ N))) (-((N : Int) + e) / 2 - 1))

/-- The larger (or smaller) of two codes; +0 above −0, NaN with any NaN (08 R223). -/
def f32max (greater : Bool) (a b : Nat) : Nat :=
  if f32isNan a || f32isNan b then 0x7FC00000 else fminmax greater a b

/-- The result of an operation (08 R223). -/
def laneOp (op a b c : Nat) : Nat :=
  match op with
  | 0x01 => f32add a b
  | 0x02 => f32sub a b
  | 0x03 => f32mul a b
  | 0x04 => f32fma a b c
  | 0x05 => f32div a b
  | 0x06 => f32sqrt a
  | 0x07 => f32rsqrt a
  | 0x08 => f32max true a b
  | 0x09 => f32max false a b
  | 0x0A => canon (f32abs a)
  | 0x0B => canon (f32neg a)
  | 0x0C => if Num.zero.lt (f32v a) then f32one else if (f32v a).lt .zero then 0xBF800000 else canon a
  | _ => if Num.zero.lt (f32v a) then canon b else canon c

/-- Registers and taken results of one element (08 R225). -/
structure LaneSt where
  r : List Nat
  m0 : Option Nat := none
  m1 : Option Nat := none
  inc : Nat := 0
  n0 : Option Nat := none
  n1 : Option Nat := none

/-- The value of an operand code; `fixed` lists codes 8 to 22: G, W, M0, M1, K0 to K7, GF, ZERO, ONE. -/
def laneArg (s : LaneSt) (fixed : List Nat) (c : Nat) : Nat := if c < 8 then s.r.getD c 0 else fixed.getD (c - 8) 0

/-- One instruction for one element. -/
def laneStep (fixed : List Nat) (s : LaneSt) (i : Nat) : LaneSt :=
  let v := laneOp (pOp i) (laneArg s fixed (pA i)) (laneArg s fixed (pB i)) (laneArg s fixed (pC i))
  { r := s.r.set (pD i) v
    m0 := if i.testBit 0 then some v else s.m0
    m1 := if i.testBit 1 then some v else s.m1
    inc := if i.testBit 2 then v else s.inc
    n0 := if i.testBit 3 then some v else s.n0
    n1 := if i.testBit 4 then some v else s.n1 }

/-- The program run for one element (08 R225). -/
def laneRun (prog fixed : List Nat) : LaneSt := prog.foldl (laneStep fixed) { r := List.replicate 8 0 }

/-- The norm of a slice from the values to be squared: lane partials in ascending element, then lanes in ascending order (08 R226). -/
def sliceNorm (vals : List (Option Nat)) : Nat :=
  let parts := (List.range 64).map fun l =>
    (vals.zipIdx.filter fun v => v.2 % 64 == l).foldl (fun p v => match v.1 with | some x => f32add p (f32mul x x) | none => p) 0
  parts.foldl f32add 0

/-- The pair's exact value (08 R227): NaN for a weight that is infinite or NaN. -/
def pairValue (w l : Nat) : Num :=
  match decodeCode .f16w w with
  | .fin s m e => (Num.fin s m e).add (.ofInt (sext 8 l) (ulpExp w - 8))
  | _ => .nan

/-- The next F16w value above a finite one. -/
def f16wUp (w : Nat) : Nat := if w = 0x8000 then 1 else if w < 0x8000 then w + 1 else w - 1

/-- A ledger byte for exact value v and weight w, to nearest-even. -/
def ledgerOf (v : Num) (w : Nat) : Int :=
  match (v.sub (decodeCode .f16w w)).scale (8 - ulpExp w) with
  | .fin s m e => signed s (steps .rne m e 0)
  | _ => 0

/-- A new weight and its ledger byte from the exact sum (08 R227). DESIGN CHOICE (log entry 130): an infinite sum saturates and counts an overflow, as
08 R227 has it, where 02 R47 would write an infinity and count nothing. -/
def ledgerWeight (v : Num) : Cvt × Nat :=
  match v with
  | .nan => (⟨0x7FC0, false, false, false⟩, 0)
  | .inf s => (⟨b2n s * 0x8000 + 0x7F7F, true, false, false⟩, 0)
  | v =>
    let c := convert .f16w false .rne v
    if c.ovf then (c, 0)
    else
      let l := ledgerOf v c.code
      if l = 128 then
        let u := f16wUp c.code
        ({ c with code := u, van := c.van && (decodeCode .f16w u).isZero }, tc 8 (ledgerOf v u))
      else (c, tc 8 l)

/-- A new weight in stochastic mode (08 R228). -/
def stochWeight (v : Num) (draw : Nat) : Cvt :=
  match v with
  | .nan => ⟨0x7FC0, false, false, false⟩
  | .inf s => ⟨b2n s * 0x8000 + 0x7F7F, true, false, false⟩
  | v => convert .f16w false (.sr draw) v

end Sys2Proof.Machine
end

