-- ==== Sys2Proof/Machine/Update.lean ====
section
/-! DEFINITION. The update units: gradient intake, update waybills, slices, tie sums and export (08 R209 to R243). -/

namespace Sys2Proof.Machine

/-- The update unit of a unit identifier. -/
def updOf (id : Nat) : Option Nat := match unitOf id with | some (.upd, n) => some n | _ => none

/-- The quartet's pool serves: its four stacks are bound to one partition (08 R210). -/
def Base.poolPart (b : Base) (m : Nat) : Option Nat := if b.locked then b.sameStacks (upto 4 (4 * m)) else none

/-- Capacity of port 0 of update unit n (08 R210). -/
def Base.updCapacity (b : Base) (n : Nat) : Nat := if n % 4 = 0 ∧ (b.poolPart (n / 4)).isSome then 1024 else 0

/-- The slices of a tensor of F16w weights on stack n: index within the tensor and address (08 R214). -/
def Base.slicesOn (b : Base) (n : Nat) (d : Desc) : List (Nat × Nat) :=
  (List.range (d.count / 2048)).filterMap fun j =>
    match b.place (d.base + 4096 * j) with
    | .stack st _ => if st = n then some (j, d.base + 4096 * j) else none
    | _ => none

/-- A group record (08 R212). -/
structure Group where
  wbase : Nat
  wsize : Nat
  prog : Nat
  digest : Nat
  freeze : Nat
  norm : Nat
  k : List Nat
  mode : Nat
  nmom : Nat
  nfpol : Nat
  ok : Bool

def Group.parse (l : List Byte) : Group :=
  let f := fun i => fieldAt l (8 * i) 8
  let m := fieldAt l 80 1
  { wbase := f 0, wsize := f 1, prog := f 2, digest := f 3, freeze := f 4, norm := f 5, k := (List.range 8).map fun i => fieldAt l (48 + 4 * i) 4,
    mode := m % 2, nmom := m / 2 % 4, nfpol := m / 8 % 2,
    ok := m.testBit 4 && decide (m < 32) && m / 2 % 4 != 3 && ([0, 2, 3, 4, 5].all fun i => decide (f i < 2 ^ 52))
      && f 0 % 4096 == 0 && f 1 % 4096 == 0 && f 1 != 0 && f 2 % 4 == 0 && f 3 % 8 == 0 && f 5 % 16 == 0
      && (l.drop 81).all (· == 0) }

/-- Group and block of an update waybill (08 R215). -/
def Wb.updGroup (x : Wb) : Nat := x.oparg % 1024
def Wb.updBlock (x : Wb) : Nat := x.arg % 2 ^ 24

/-- A tensor in memory form, dense, of a format and element count (08 R215). -/
def Desc.denseOf (d : Desc) (fmt n : Nat) : Bool := d.form == 0 && d.fmt == fmt && d.dense && d.count == n

/-- UPD.LAYOUT (08 R215, R216, R241). -/
def Base.updLayoutBad (b : Base) (n : Nat) (x : Wb) (g : Group) : Bool :=
  match x.desc 0 with
  | none => true
  | some d =>
    let E := d.count
    let led := g.mode == 0
    let R := 64 + 4096 + (if led then 2048 else 0) + 4096 * g.nmom
    !(d.form == 0 && d.fmt == 3 && d.dense && d.base % 4096 == 0 && E % 2048 == 0)
      || (match x.desc 1 with
          | none => x.opcode == 0x42 || b.updCapacity (n / 4 * 4) == 0
          | some e => if x.opcode = 0x42 then !(e.form == 0 && e.fmt == 6 && e.dense) || decide (4 * e.count < E / 2048 * R) else !e.denseOf 5 E)
      || (match x.desc 2 with
          | none => g.nmom != 0
          | some e => g.nmom == 0 || !e.denseOf 3 (g.nmom * E))
      || (match x.desc 3 with
          | none => led
          | some e => !led || !e.denseOf 7 E)
      || decide (d.base < g.wbase) || decide (d.base + 2 * E > g.wbase + g.wsize)
      || (List.range (E / 2048)).any (fun j => match b.place (d.base + 4096 * j) with
          | .stack _ _ => bget (b.rd .DOCK_BAND 40 0 ((d.base + 4096 * j) / 2 ^ 35)) 0
          | _ => true)
      || decide ((b.slicesOn n d).length > 4096)

/-- What a started update waybill keeps: the group record and program it read, its freeze bit and its graft factor (08 R213). -/
def updAux (g : Group) (frozen : Bool) (gf : Nat) (prog : List Nat) : List Nat :=
  [b2n frozen, gf, g.wbase, g.mode, g.nmom, g.nfpol, g.digest, g.norm] ++ g.k ++ prog

def Wb.uFrozen (x : Wb) : Bool := x.aux.getD 0 0 == 1
def Wb.uGF (x : Wb) : Nat := x.aux.getD 1 0
def Wb.uWbase (x : Wb) : Nat := x.aux.getD 2 0
def Wb.uLedger (x : Wb) : Bool := x.aux.getD 3 0 == 0
def Wb.uMode (x : Wb) : Nat := x.aux.getD 3 0
def Wb.uNmom (x : Wb) : Nat := x.aux.getD 4 0
def Wb.uApply (x : Wb) : Bool := x.aux.getD 5 0 == 1
def Wb.uDigest (x : Wb) : Nat := x.aux.getD 6 0
def Wb.uNorm (x : Wb) : Nat := x.aux.getD 7 0
def Wb.uK (x : Wb) : List Nat := (x.aux.drop 8).take 8
def Wb.uProg (x : Wb) : List Nat := x.aux.drop 16

/-- A record read for an update waybill: none where it is poisoned (05 R150). -/
def Work.recordRead (w : Work) (c : Cx) (a n : Nat) : Work × Option (List Byte) :=
  let (b, l, bad) := w.base.readBytes c.req a n
  ({ w with base := b }, if bad then none else some l)

/-- Address of a norm record (08 R226). -/
def normAddr (norm block n : Nat) : Nat := norm + 16 * (4 * block + n % 4)

/-- The graft factor from a stored norm record (08 R226). -/
def graft (l : List Byte) : Nat :=
  let n0 := fieldAt l 0 4
  let n1 := fieldAt l 4 4
  if f32isFinite n0 && f32isFinite n1 && Num.zero.lt (f32v n1) then f32sqrt (f32div n0 n1) else f32one

/-- The words of a program at an address, up to the first whose opcode is END or `n` of them; none where one is poisoned (08 R222, 05 R150). -/
def Work.progRead (c : Cx) : Nat → Work → Nat → Work × Option (List Nat)
  | 0, w, _ => (w, some [])
  | n + 1, w, a =>
    match w.recordRead c a 4 with
    | (w, none) => (w, none)
    | (w, some l) =>
      let i := fieldAt l 0 4
      if pOp i = 0 then (w, some [i])
      else
        let (w, r) := Work.progRead c n w (a + 4)
        (w, r.map (i :: ·))

/-- The freeze byte and the norm record of an UPD_APPLY; zeros where its group has none, and for an export (08 R213, R226, R231). -/
def Work.freezeNorm (w : Work) (c : Cx) (n : Nat) (x : Wb) (g : Group) : Work × Option (List Byte) × Option (List Byte) :=
  if x.opcode = 0x40 then
    let (w, f) := if g.freeze = 0 then (w, some [0]) else w.recordRead c (g.freeze + x.updBlock / 8) 1
    let (w, r) := if g.norm = 0 then (w, some []) else w.recordRead c (normAddr g.norm x.updBlock n) 16
    (w, f, r)
  else (w, some [0], some [])

/-- The start of an update waybill (08 R213, R216, R217, R226). -/
def Work.updStart (w : Work) (id n : Nat) (x : Wb) : StartRes :=
  match x.desc 0 with
  | none => .reject 0x0302
  | some d =>
    let mine := (w.base.slicesOn n d).map (·.2)
    let clash := (w.unit id).window.any fun y =>
      (y.phase == .running || y.phase == .ended) && (y.opcode == 0x40 || y.opcode == 0x42) && y.status != 0x10 &&
        (match y.desc 0 with | some e => ((w.base.slicesOn n e).map (·.2)).any mine.contains | none => false)
    if clash then .wait w
    else
      let c := w.base.cx id x
      let p := x.part
      let g := x.updGroup
      let table := w.base.now 0x7020 p
      if g ≥ w.base.now 0x7021 p ∨ table = 0 then .reject 0x0702
      else
        let (w, r) := w.recordRead c (table + 128 * g) 128
        match r with
        | none => .reject 0x0303
        | some l =>
          let gr := Group.parse l
          if !gr.ok then .reject 0x0702
          else
            match Work.progRead c 32 w gr.prog with
            | (_, none) => .reject 0x0303
            | (w, some l) =>
              match progBody l with
              | none => .reject 0x0703
              | some prog =>
                if !progValid gr.nmom prog then .reject 0x0703
                else if w.base.updLayoutBad n x gr then .reject 0x0704
                else
                  match w.freezeNorm c n x gr with
                  | (w, some f, some nl) =>
                    let frozen := (fieldAt f 0 1).testBit (x.updBlock % 8)
                    let x := { x with aux := updAux gr frozen (if nl.isEmpty then f32one else graft nl) prog }
                    .start (w.setWb id x)
                  | _ => .reject 0x0303

/-- Slices of a waybill that are finished, with their norms. -/
def Work.slicesDone (w : Work) (x : Wb) : List (Nat × Nat × Nat) := (Map.find x.number w.upd.norms).getD []

/-- A slice finished. -/
def Work.sliceDone (w : Work) (x : Wb) (j n0 n1 : Nat) : Work :=
  { w with upd := { w.upd with norms := Map.put x.number (Map.put j (n0, n1) (w.slicesDone x)) w.upd.norms } }

/-- Pool of a quartet. -/
def Work.pool (w : Work) (m : Nat) : List GradPiece := (Map.find m w.upd.pools).getD []

/-- Credits of a pool in use: its pieces in units of 4 KiB, and the port register that keeps their peak (08 R245). -/
def poolUsed (l : List GradPiece) : Nat := (l.length + 15) / 16

def Work.setPool (w : Work) (m : Nat) (l : List GradPiece) : Work :=
  let b := w.base.wf 16 11 (max (poolUsed l) (w.base.rf 16 11 .UPD_POOL (ms (4 * m)))) .UPD_POOL (ms (4 * m))
  { w with base := b, upd := { w.upd with pools := if l.isEmpty then Map.del m w.upd.pools else Map.put m l w.upd.pools } }

/-- Pieces of spender freed: a credit goes back for every 4 KiB (08 R219). -/
def Work.freePieces (w : Work) (m spender n : Nat) : Work :=
  let k := m * 2 ^ 16 + spender
  let t := (Map.find k w.upd.freed).getD 0 + n
  { w with upd := { w.upd with freed := if t % 16 = 0 then Map.del k w.upd.freed else Map.put k (t % 16) w.upd.freed } }.returnCredits
    spender (updUnit (4 * m)) (t / 16)

/-- The pieces of a slice that a waybill of step tag `tag` may take. -/
def slicePieces (l : List GradPiece) (part addr tag : Nat) : List GradPiece :=
  l.filter fun p => p.part == part && p.tag == tag && decide (addr ≤ p.addr ∧ p.addr < addr + 4096)

/-- A slice is ready (08 R219, R221). -/
def Work.sliceReady (w : Work) (n : Nat) (x : Wb) (addr : Nat) : Bool :=
  match x.desc 1 with
  | some _ => true
  | none => (slicePieces (w.pool (n / 4)) x.part addr (x.step % 65536)).length ≥ 32

/-- The gradient of a ready slice, taken from the pool with its credits returned, or read from memory: codes, a poisoned element NaN. -/
def Work.takeGradient (w : Work) (n : Nat) (c : Cx) (x : Wb) (j addr : Nat) : Work × List Nat :=
  match x.desc 1 with
  | some d =>
    let (w, l) := w.memRead c d.sealchk (d.base + 8192 * j) 8192
    (w, (elements 4 2048 l).map fun e => if e.2 then 0x7FC00000 else e.1)
  | none =>
    let ps := slicePieces (w.pool (n / 4)) x.part addr (x.step % 65536)
    let w := w.setPool (n / 4) ((w.pool (n / 4)).filter fun p => !ps.contains p)
    let w := ps.foldl (fun (w : Work) p => w.freePieces (n / 4) p.spender 1) w
    let w := { w with base := w.base.noteWork c.req 0x5B (128 * ps.length) }
    (w, (List.range 32).flatMap fun i => match ps.find? (fun p => p.addr == addr + 128 * i) with | some p => p.data | none => List.replicate 64 0)

/-- Whether a slice's ledger or moments lie in the far tier (08 R238). -/
def Base.sliceFar (b : Base) (x : Wb) : Bool :=
  [2, 3].any fun k => match x.desc k with
    | some d => (match b.place d.base with | .far _ _ => true | _ => false)
    | none => false

/-- Addresses of a slice's moments, by plane. -/
def Wb.momentAddrs (x : Wb) (j : Nat) : List Nat :=
  match x.desc 0, x.desc 2 with
  | some d, some m => (List.range x.uNmom).map fun k => m.base + 2 * (k * d.count + 2048 * j)
  | _, _ => []

/-- A slice's state as read, byte by byte with its poison: weights, ledger and moments. Each read honours its descriptor's SEALCHK; those of the
ledger and the moments are reads of optimiser state (08 R213, R233, R241, 12 R354). -/
def Work.stateRead (w : Work) (c : Cx) (x : Wb) (j addr : Nat) :
    Work × List (Byte × Bool) × List (Byte × Bool) × List (List (Byte × Bool)) :=
  let seal_ := fun k => match x.desc k with | some d => d.sealchk | none => false
  let cs : Cx := { c with state := true }
  let (w, a) := w.memRead c (seal_ 0) addr 4096
  let (w, l) := match x.desc 3 with
    | some d => if x.uLedger then w.memRead cs d.sealchk (d.base + 2048 * j) 2048 else (w, [])
    | none => (w, [])
  let (w, ms) := (x.momentAddrs j).foldl (fun (s : Work × List (List (Byte × Bool))) m =>
    let (w, r) := s.1.memRead cs (seal_ 2) m 4096
    (w, s.2 ++ [r])) (w, [])
  (w, a, l, ms)

/-- A slice's state as the lanes take it: weights, ledger bytes, moments, and whether any is poisoned (08 R233). -/
def Work.sliceState (w : Work) (c : Cx) (x : Wb) (j addr : Nat) : Work × List Byte × List Byte × List (List Byte) × Bool :=
  let (w, a, l, ms) := w.stateRead c x j addr
  (w, a.map (·.1), l.map (·.1), ms.map (fun r => r.map (·.1)), (a ++ l ++ ms.flatten).any (·.2))

/-- The header and digest of a slice (08 R234). -/
def sliceHeader (q step g mode nmom : Nat) (frozen skipped : Bool) : List Byte :=
  leBytes 8 q ++ leBytes 4 step ++ leBytes 2 g ++ leBytes 1 (mode + b2n frozen * 2 + b2n skipped * 4 + nmom * 8) ++ leBytes 1 0

/-- The digest of a slice written to its group's list, and counted for the step (08 R235, 13 R380). -/
def Work.digestWrite (w : Work) (c : Cx) (x : Wb) (q value : Nat) : Work :=
  let b := if x.uDigest = 0 then w.base else w.base.storeBytes c.req (x.uDigest + 8 * q) (leBytes 8 value)
  { w with base := b.setStep x.part fun a => { a with statedig := (a.statedig + value) % 2 ^ 64, slices := a.slices + 1 } }

/-- UPD_LASTFAULT (08 R245). -/
def Base.updFault (b : Base) (n g q : Nat) : Base := b.wr (BitVec.ofNat 64 (g % 1024 + q * 2 ^ 16)) .UPD_LASTFAULT (ms n)

/-- One element of a slice after its update: weight code, ledger byte, moments and norms (08 R225 to R229). -/
structure NewElem where
  w : Cvt
  l : Nat
  m : List (Option Cvt)
  n0 : Option Nat
  n1 : Option Nat

/-- The update of one element; `i` is its global element index. -/
def Wb.element (x : Wb) (K i g w l : Nat) (m : List Nat) : NewElem :=
  let W := if x.uLedger then pairValue w l else decodeCode .f16w w
  let st := laneRun x.uProg ([g, f32r W, m.getD 0 0 * 65536, m.getD 1 0 * 65536] ++ x.uK ++ [x.uGF, 0, f32one])
  let v := W.add (f32v st.inc)
  let (nw, nl) := if x.uLedger then ledgerWeight v else (stochWeight v (draw16 K x.step (0xF800 + x.updGroup) i), 0)
  let mom := fun (k : Nat) (r : Option Nat) => r.map fun c =>
    convert .f16w false (if x.uLedger then .rne else .sr (draw16 K x.step (0xFC00 + x.updGroup) (k * 2 ^ 48 + i))) (f32v c)
  { w := nw, l := nl, m := [mom 0 st.m0, mom 1 st.m1].take x.uNmom, n0 := st.n0, n1 := st.n1 }

/-- A 16-bit code that is no finite number. -/
def f16wBad (c : Nat) : Bool := !(decodeCode .f16w c).isFinite

/-- The lanes run the program over a slice and write its weights, ledger and moments; it counts as updated (08 R225 to R230, R242). -/
def Work.sliceRun (w : Work) (id n : Nat) (c : Cx) (x : Wb) (j addr q : Nat) (grad : List Nat) (wb lb : List Byte) (mb : List (List Byte)) : Work × Wb :=
  let K := x.seed
  let i0 := (addr - x.uWbase) / 2
  let es : List NewElem := grad.zipIdx.map fun g =>
    x.element K (i0 + g.2) g.1 (fieldAt wb (2 * g.2) 2) (fieldAt lb g.2 1) (mb.map fun m => fieldAt m (2 * g.2) 2)
  let nw := es.flatMap fun e => leBytes 2 e.w.code
  let nl := if x.uLedger then es.map fun e => BitVec.ofNat 8 e.l else []
  let nm := mb.zipIdx.map fun m => (es.zipIdx.flatMap fun e => match e.1.m.getD m.2 none with
    | some v => leBytes 2 v.code
    | none => slice m.1 (2 * e.2) 2)
  let stored : List Cvt := es.flatMap fun e => e.m.filterMap fun v => v
  let nonfin := (es.zipIdx.filter fun e => f16wBad e.1.w.code || e.1.m.any fun v => match v with | some v => f16wBad v.code | none => false).map (·.2)
  let b := w.base.storeBytes c.req addr nw
  let b := match x.desc 3 with
    | some d => if x.uLedger then b.storeBytes c.req (d.base + 2048 * j) nl else b
    | none => b
  let b := ((x.momentAddrs j).zip (nm.zipIdx.map fun m => if (es.headD ⟨⟨0, false, false, false⟩, 0, [], none, none⟩).m.getD m.2 none = none then [] else m.1)).foldl
    (fun (b : Base) m => if m.2.isEmpty then b else b.storeBytes c.req m.1 m.2) b
  let wovf := es.countP (·.w.ovf)
  let wvan := es.countP (·.w.van)
  let movf := stored.countP (·.ovf)
  let mvan := stored.countP (·.van)
  let x := { x with ovf := satAdd 32 x.ovf (wovf + movf), van := satAdd 32 x.van (wvan + mvan), done := x.done + 1 }
  let rep : List Counts := [{ slot := (0xF800 + x.updGroup) / 64, fmt := 3, elems := es.length, ovf := wovf, van := wvan }]
    ++ (if stored.isEmpty then [] else [{ slot := (0xFC00 + x.updGroup) / 64, fmt := 3, elems := stored.length, ovf := movf, van := mvan }])
  let w := { w with scale := { w.scale with watch := w.scale.watch ++ rep.map fun r => (⟨x.part, r, x.queue, x.seq⟩ : WatchMsg) } }
  let (b, x) := match nonfin with
    | [] => (b, x)
    | e :: _ => b.nonFinite id x (j, e)
  let b := (b.noteWork c.req 0x59 1).countSat 1 0 48 .UPD_CNT_SLICES (ms n)
  let dig := digest (sliceHeader q x.step x.updGroup x.uMode x.uNmom false false ++ nw ++ nl ++ nm.flatten)
  (({ w with base := b }.digestWrite c x q dig).sliceDone x j (sliceNorm (es.map fun (e : NewElem) => e.n0)) (sliceNorm (es.map fun (e : NewElem) => e.n1)), x)

/-- A slice in the lanes: run, skipped, frozen or poisoned (08 R231 to R235). -/
def Work.sliceLanes (w : Work) (id n : Nat) (x : Wb) (j addr : Nat) (grad : List Nat) : Work :=
  let c := w.base.cx id x
  let q := (addr - x.uWbase) / 4096
  let bad := (grad.zipIdx.filter fun g => !f32isFinite g.1).map (·.2)
  let (b, x) := match x.uFrozen, bad with
    | false, e :: _ =>
      let (b, x) := w.base.once id x 0x0109
      (b, { x with flags := x.flags ||| 1, nf := lowerPos x.nf (j, e) })
    | _, _ => (w.base, x)
  let (w, wb, lb, mb, poison) := { w with base := b }.sliceState c x j addr
  let still := fun (w : Work) (frozen skipped : Bool) =>
    w.digestWrite c x q (digest (sliceHeader q x.step x.updGroup x.uMode x.uNmom frozen skipped ++ wb ++ lb ++ mb.flatten))
  let (w, x) :=
    if poison then
      let (b, x) := w.base.each id x 0x0707
      let b := (b.countSat 1 0 48 .UPD_CNT_SKIP (ms n)).updFault n x.updGroup q
      let b := if x.uFrozen then b.countSat 1 0 48 .UPD_CNT_FROZEN (ms n) else b
      (({ w with base := b }.digestWrite c x q (2 ^ 64 - 1)).sliceDone x j 0 0, x)
    else if x.uFrozen then
      ((still { w with base := w.base.countSat 1 0 48 .UPD_CNT_FROZEN (ms n) } true false).sliceDone x j 0 0, x)
    else if bad ≠ [] ∧ !x.uApply then
      ((still { w with base := (w.base.countSat 1 0 48 .UPD_CNT_SKIP (ms n)).updFault n x.updGroup q } false true).sliceDone x j 0 0, x)
    else w.sliceRun id n c x j addr q grad wb lb mb
  w.setWb id x

def Work.farSlots (w : Work) (n : Nat) : List FarSlice := (Map.find n w.upd.farWait).getD []

/-- Far-wait slots of a unit, with UPD_FARWAIT (08 R245). -/
def Work.setFarSlots (w : Work) (n : Nat) (l : List FarSlice) : Work :=
  let b := w.base.wf 0 10 l.length .UPD_FARWAIT (ms n)
  let b := b.wf 16 10 (max l.length (b.rf 16 10 .UPD_FARWAIT (ms n))) .UPD_FARWAIT (ms n)
  { w with base := b, upd := { w.upd with farWait := if l.isEmpty then Map.del n w.upd.farWait else Map.put n l w.upd.farWait } }

/-- A running UPD_APPLY of a unit. -/
def Work.applyOf (w : Work) (id q seq : Nat) : Option (Wb × Nat × Desc) :=
  match w.wb? id q seq, updOf id with
  | some x, some n => (x.desc 0).bind fun d => if x.phase = .running ∧ x.opcode = 0x40 ∧ !x.aborting then some (x, n, d) else none
  | _, _ => none

/-- A far-wait slot holds slice j of a waybill. -/
def FarSlice.isOf (q seq j : Nat) (f : FarSlice) : Bool := f.queue == q && f.seq == seq && f.slice == j

/-- Slice j of a running UPD_APPLY may enter: it is the unit's, not done and not waiting, and ready (08 R219, R221). -/
def Work.sliceMay (w : Work) (n : Nat) (x : Wb) (d : Desc) (q seq j : Nat) : Bool :=
  (w.base.slicesOn n d).contains (j, d.base + 4096 * j) && (Map.find j (w.slicesDone x)).isNone &&
    !(w.farSlots n).any (·.isOf q seq j) && w.sliceReady n x (d.base + 4096 * j)

/-- SLICE_UPDATE (08 R225, R238): a ready slice j of the unit's stack enters the lanes, or, where its state is in the far tier, moves to a free
far-wait slot. -/
def Work.sliceUpdate (w : Work) (id q seq j : Nat) : Work :=
  match w.applyOf id q seq with
  | none => w
  | some (x, n, d) =>
    let addr := d.base + 4096 * j
    if w.sliceMay n x d q seq j then
      if w.base.sliceFar x then
        if (w.farSlots n).length < 512 then
          let (w, g) := w.takeGradient n (w.base.cx id x) x j addr
          w.setFarSlots n (w.farSlots n ++ [{ queue := q, seq := seq, slice := j, grad := g }])
        else w
      else
        let (w, g) := w.takeGradient n (w.base.cx id x) x j addr
        w.sliceLanes id n x j addr g
    else w

/-- FARWAIT_RETURN (08 R238): the far-tier reads of a slice return and it enters the lanes. -/
def Work.farWaitReturn (w : Work) (id q seq j : Nat) : Work :=
  match w.applyOf id q seq with
  | none => w
  | some (x, n, d) =>
    match (w.farSlots n).find? (·.isOf q seq j) with
    | none => w
    | some f => (w.setFarSlots n ((w.farSlots n).filter fun g => !g.isOf q seq j)).sliceLanes id n x j (d.base + 4096 * j) f.grad

/-- UPD_APPLY (08 R214, R215, R226): every slice that is ready now goes to the lanes, in ascending index; after the last the waybill ends. -/
def Work.updApply (w : Work) (id q seq : Nat) : Work :=
  match w.applyOf id q seq with
  | none => w
  | some (x, n, d) =>
    let mine := w.base.slicesOn n d
    let w := mine.foldl (fun (w : Work) s => w.sliceUpdate id q seq s.1) w
    match w.wb? id q seq with
    | some y => if mine.all (fun s => (Map.find s.1 (w.slicesDone x)).isSome) then w.setWb id (y.endWith 1) else w
    | none => w

/-- What the completion of an UPD_APPLY leaves: with a DONE status its norm record, then nothing of its slices (08 R226). -/
def Work.updComplete (w : Work) (id : Nat) (x : Wb) : Work :=
  match updOf id with
  | none => w
  | some n =>
    let l := w.slicesDone x
    let w' := { w with upd := { w.upd with norms := Map.del x.number w.upd.norms } }
    if isDone x.status ∧ x.opcode = 0x40 ∧ !x.uFrozen ∧ x.uNorm ≠ 0 then
      let n0 := l.foldl (fun a s => f32add a s.2.1) 0
      let n1 := l.foldl (fun a s => f32add a s.2.2) 0
      let b := w'.base.storeBytes (w'.base.cx id x).req (normAddr x.uNorm x.updBlock n) (leBytes 4 n0 ++ leBytes 4 n1 ++ leBytes 4 x.step ++ leBytes 4 0)
      { w' with base := b }
    else w'

/-- An aborted update waybill: its held pieces are discarded and its far-wait slots emptied (08 R242). -/
def Work.updAbort (w : Work) (id : Nat) (x : Wb) : Work :=
  match updOf id, x.desc 0 with
  | some n, some d =>
    let w := w.setFarSlots n ((w.farSlots n).filter fun f => !(f.queue == x.queue && f.seq == x.seq))
    if x.opcode = 0x40 ∧ x.desc 1 = none then
      let mine := (w.base.slicesOn n d).map (·.2)
      let ps := (w.pool (n / 4)).filter fun p => p.part == x.part && p.tag == x.step % 65536 && mine.contains (p.addr / 4096 * 4096)
      ps.foldl (fun (w : Work) p => w.freePieces (n / 4) p.spender 1) (w.setPool (n / 4) ((w.pool (n / 4)).filter fun p => !ps.contains p))
    else w
  | _, _ => w

/-- The started waybill that covers a weight on a unit, for UPD_LASTFAULT. -/
def Work.coverOf (w : Work) (n addr : Nat) : Option Wb :=
  (w.unit (updUnit n)).window.find? fun x => x.phase == .running && x.opcode == 0x40 &&
    (match x.desc 0 with | some d => decide (d.base ≤ addr ∧ addr < d.base + 2 * d.count) | none => false)

/-- A faulty piece: discarded, its credit returned, UPD.INTAKE (08 R219). -/
def Work.badPiece (w : Work) (m st : Nat) (p : GradPiece) : Work :=
  let b := match w.coverOf st p.addr with
    | some x => w.base.updFault st x.updGroup ((p.addr - x.uWbase) / 4096)
    | none => w.base
  { w with base := b.updEvent st 3 0x0705 }.freePieces m p.spender 1

/-- A piece on its way goes to the pool of quartet m. -/
def Base.inQuartet (b : Base) (m : Nat) (p : GradPiece) : Bool :=
  match b.place p.addr with
  | .stack st _ => st / 4 == m
  | _ => false

/-- Two pieces of one partition and step for the same weights. -/
def GradPiece.same (p q : GradPiece) : Bool := q.part == p.part && q.tag == p.tag && q.addr == p.addr

/-- INTAKE_PIECE (08 R219): the oldest piece on its way to quartet m is held or discarded. -/
def Work.intakePiece (w : Work) (m : Nat) : Work :=
  match w.upd.flying.find? (w.base.inQuartet m) with
  | none => w
  | some p =>
    let w := { w with upd := { w.upd with flying := w.upd.flying.erase p } }
    match w.base.place p.addr with
    | .stack st _ =>
      if w.base.partOfStack st ≠ some p.part then w.freePieces m p.spender 1
      else
        let cur := w.base.stepOf p.part
        if older 16 p.tag cur then w.badPiece m st p
        else if p.tag = cur % 65536 ∧ (w.pool m).any p.same then w.badPiece m st p
        else w.setPool m (w.pool m ++ [{ p with time := w.base.time }])
    | _ => w

/-- Pieces held for a later step meet their step: of two for the same weights the first stands (08 R219). -/
def Work.poolStep (w : Work) (p : Nat) : Work :=
  let cur := w.base.stepOf p % 65536
  (List.range 8).foldl (fun (w : Work) m =>
    let l := w.pool m
    let (keep, drop) := l.foldl (fun (s : List GradPiece × List GradPiece) q =>
      if q.part = p ∧ q.tag = cur ∧ s.1.any (fun r => r.part == q.part && r.tag == q.tag && r.addr == q.addr) then (s.1, s.2 ++ [q])
      else (s.1 ++ [q], s.2)) ([], [])
    if drop.isEmpty then w
    else drop.foldl (fun (w : Work) q => match w.base.place q.addr with
      | .stack st _ => w.badPiece m st q
      | _ => w) (w.setPool m keep)) w

/-- The stack a held piece is for. -/
def Base.pieceStack (b : Base) (m : Nat) (p : GradPiece) : Nat :=
  match b.place p.addr with
  | .stack st _ => st
  | _ => 4 * m

/-- A piece of quartet m has been held past its unit's limit, is not part of a ready slice, and has not been reported (08 R220). -/
def Work.pieceLate (w : Work) (m : Nat) (p : GradPiece) : Bool :=
  !p.unmatched && decide (w.base.time > p.time + w.base.rf 0 32 .UPD_INTAKE_LIMIT (ms (w.base.pieceStack m p))) &&
    !(match w.coverOf (w.base.pieceStack m p) p.addr with
      | some x => (x.desc 1).isNone && x.step % 65536 == p.tag && (slicePieces (w.pool m) p.part (p.addr / 4096 * 4096) p.tag).length ≥ 32
      | none => false)

/-- INTAKE_LIMIT_EXPIRY (08 R220): every piece of quartet m held past the limit of its unit, and not part of a ready slice, raises UPD.UNMATCHED once. -/
def Work.intakeLimit (w : Work) (m : Nat) : Work :=
  let l := w.pool m
  let b := (l.filter (w.pieceLate m)).foldl (fun (b : Base) p => b.updEvent (b.pieceStack m p) 4 0x0706) w.base
  { w with base := b }.setPool m (l.map fun p => if w.pieceLate m p then { p with unmatched := true } else p)

/-- The rows of a tie area, n elements from column lo, in ascending use. -/
def Work.tieRows (w : Work) (c : Cx) (s : Desc) (lo n : Nat) : Work × List (List Nat) :=
  (List.range s.d1).foldl (fun (a : Work × List (List Nat)) u =>
    let (w, l) := a.1.rowCodes c s u 0 0 lo n
    (w, a.2 ++ [l.map (·.1)])) (w, [])

/-- Rows added in their order, each sum rounded to binary32 (08 R240). -/
def tieAdd : List (List Nat) → List Nat
  | [] => []
  | r :: rs => (rs.foldl (fun (t v : List Nat) => (t.zip v).map fun (e : Nat × Nat) => f32add e.1 e.2) r).map canon

/-- The first element of block k of a tie sum that is not finite, reported (02 R60). -/
def Base.tieFinite (b : Base) (id : Nat) (x : Wb) (k : Nat) (out : List Nat) : Base × Wb :=
  match out.zipIdx.filter fun (e : Nat × Nat) => !f32isFinite e.1 with
  | [] => (b, x)
  | e :: _ => b.nonFinite id x (k, e.2)

/-- UPD_TIESUM (08 R240): the next 1,024 elements of the sum. -/
def Work.tieSum (w : Work) (id q seq : Nat) : Work :=
  match w.wb? id q seq with
  | none => w
  | some x =>
    match x.desc 0, x.desc 2 with
    | some s, some o =>
      if x.phase = .running ∧ x.opcode = 0x41 ∧ !x.aborting ∧ 1024 * x.next < s.d0 then
        let c := w.base.cx id x
        let lo := 1024 * x.next
        let n := min 1024 (s.d0 - lo)
        let (w, rows) := w.tieRows c s lo n
        let b := w.base.storeBytes c.req (o.base + 4 * lo) ((tieAdd rows).flatMap (leBytes 4))
        let (b, x) := b.tieFinite id x x.next (tieAdd rows)
        let x := { x with next := x.next + 1, done := x.done + 1 }
        { w with base := b }.setWb id (if 1024 * x.next ≥ s.d0 then x.endWith 1 else x)
      else w
    | _, _ => w

/-- The export record of slice j: its header, its digest, and its state with its poison (08 R241). -/
def Work.exportRecord (w : Work) (c : Cx) (x : Wb) (j addr : Nat) : Work × List (Byte × Bool) :=
  let (w, a, l, ms) := w.stateRead c x j addr
  let state := a ++ l ++ ms.flatten
  let head := sliceHeader ((addr - x.uWbase) / 4096) x.step x.updGroup x.uMode x.uNmom false false
  (w, ((head ++ leBytes 8 (digest (head ++ state.map (·.1))) ++ List.replicate 40 (0 : Byte)).map fun v => (v, false)) ++ state)

/-- UPD_EXPORT (08 R241): the next slice of the unit's stack copied as a record. -/
def Work.updExport (w : Work) (id q seq : Nat) : Work :=
  match w.wb? id q seq, updOf id with
  | some x, some n =>
    match x.desc 0, x.desc 1 with
    | some d, some o =>
      if x.phase = .running ∧ x.opcode = 0x42 ∧ !x.aborting then
        let mine := w.base.slicesOn n d
        match mine[x.next]? with
        | none => w.setWb id (x.endWith 1)
        | some (j, addr) =>
          let c := w.base.cx id x
          let (w, l) := w.exportRecord c x j addr
          let b := w.base.store c.req (o.base + j * l.length) l
          let x := { x with next := x.next + 1, done := x.done + 1 }
          { w with base := b }.setWb id (if x.next = mine.length then x.endWith 1 else x)
      else w
    | _, _ => w
  | _, _ => w

/-- UPD_STATE.READY (08 R245): ready slices that have not entered the lanes, those in far-wait slots among them. -/
def Work.readySlices (w : Work) (n : Nat) : Nat :=
  ((w.unit (updUnit n)).window.map fun x =>
    if x.phase = .running ∧ x.opcode = 0x40 then
      match x.desc 0 with
      | some d => (w.base.slicesOn n d).countP fun s => (Map.find s.1 (w.slicesDone x)).isNone && (w.sliceReady n x s.2 || (w.farSlots n).any (·.isOf x.queue x.seq s.1))
      | none => 0
    else 0).sum

/-- A ready slice of update unit n waits for a far-wait slot (08 R238, R239). -/
def Work.farStalled (w : Work) (n : Nat) : Option Wb :=
  if (w.farSlots n).length < 512 then none
  else (w.unit (updUnit n)).window.find? fun x =>
    x.phase == .running && x.opcode == 0x40 && w.base.sliceFar x &&
      match x.desc 0 with
      | some d => (w.base.slicesOn n d).any fun s => w.sliceMay n x d x.queue x.seq s.1
      | none => false

/-- A tick counted in UPD_FARSTALL, and as event 0x5A, by every unit that stalls (08 R239, 17 R493). -/
def Work.farStallTick (w : Work) : Work :=
  w.upd.farWait.foldl (fun (w : Work) c =>
    match w.farStalled c.1 with
    | some x => { w with base := (w.base.noteWork (unitReq x.part (w.base.unitSrc (updUnit c.1)) x.number) 0x5A 1).countSat 1 0 48 .UPD_FARSTALL (ms c.1) }
    | none => w) w

end Sys2Proof.Machine
end

