-- ==== Sys2Proof/Machine/Stops.lean ====
section
/-! DEFINITION. How a unit stops a waybill at its boundary (04 R122), and how a unit loses all its waybills (13 R367, R370). -/

namespace Sys2Proof.Machine

/-- What a running waybill leaves on its unit when it is stopped: a chain ends whole, threads stop, folds close, held pieces go (04 R122, 08 R242,
09 R267, 10 R291, 11 R321). `status` is what the members of a chain end with (04 R121). -/
def Work.stopOp (w : Work) (id : Nat) (x : Wb) (status : Nat) : Work :=
  match unitOf id with
  | some (.tile, _) =>
    match w.jobWith id x.queue x.seq with
    | some j => w.abortJob id j status
    | none => if x.opcode = 8 then w.setConsists id [] else w
  | some (.crv, _) => if x.opcode = 0x20 then w.foldAbort id x else if x.opcode = 0x21 ∨ x.opcode = 0x22 then w.refAbort id x else w
  | some (.upd, _) => w.updAbort id x
  | some (.ring, _) => w.ringAbort x
  | _ => w

/-- A waybill of a window stopped with a status; nothing happens to one that has ended. -/
def Work.stopWb (w : Work) (id : Nat) (x : Wb) (status : Nat) : Work :=
  match x.phase with
  | .accepted => w.setWb id (x.endWith status)
  | .running =>
    let w := (w.stopOp id x status).stepDrop x
    match w.wb? id x.queue x.seq with
    | some y => w.setWb id ({ y with posA := if status = 0x11 then y.done else y.posA }.endWith status)
    | none => w
  | _ => w

/-- The tile position of a unit is vacant (13 R367). -/
def Base.vacant (b : Base) (id : Nat) : Bool :=
  match unitOf id with
  | some (.tile, i) => bget (b.rd .DOCK_WT_VACANT (cd (i / 64))) (i % 64)
  | _ => false

/-- The register and field that say a unit without a spare is fenced (13 R370). -/
def Base.unitFenced (b : Base) (id : Nat) : Bool :=
  match unitOf id with
  | some (.crv, e) => b.rf 0 2 .CRV_STATE (cd (e / 4)) (e % 4) == 2
  | some (.upd, n) => b.rf 0 2 .UPD_STATE (ms n) == 2
  | some (.ckpt, n) => b.rf 0 2 .DOCK_CK_STATE (ms n) == 2
  | _ => false

/-- Waybills of the unit complete UNIT_LOST, now and when accepted (13 R367, R370). -/
def Base.unitLost (b : Base) (id : Nat) : Bool := b.vacant id || b.unitFenced id

/-- Every waybill of a window that has not ended completes UNIT_LOST (13 R367, R370). -/
def Work.loseWindow (w : Work) (id : Nat) : Work :=
  (w.unit id).window.foldl (fun (w : Work) x =>
    match w.wb? id x.queue x.seq with
    | some y => w.stopWb id y 0x16
    | none => w) w

/-- A unit without a spare is fenced (13 R370). -/
def Work.fenceUnit (w : Work) (id : Nat) : Work :=
  if w.base.unitFenced id then w
  else
    let b := w.base
    match unitOf id with
    | some (.crv, e) =>
      let b := b.wf 0 2 2 .CRV_STATE (cd (e / 4)) (e % 4)
      { w with base := b.sprEvent (cd (e / 4)) 6 0x0C07 (b.unitSrc id) (b.partOfUnit id) }.loseWindow id
    | some (.upd, n) =>
      let b := b.wf 0 2 2 .UPD_STATE (ms n)
      { w with base := b.sprEvent (ms n) 6 0x0C07 (b.unitSrc id) (b.partOfUnit id) }.loseWindow id
    | some (.ckpt, n) =>
      let b := b.wf 0 2 2 .DOCK_CK_STATE (ms n)
      { w with base := b.sprEvent (ms n) 6 0x0C07 (b.unitSrc id) (b.partOfUnit id) }.loseWindow id
    | _ => w

end Sys2Proof.Machine
end

