-- ==== Sys2Proof/Machine/Accept.lean ====
section
/-! DEFINITION. Acceptance of a waybill (04 R103) and its checks, steps 1 to 7 of 04 R537. -/

namespace Sys2Proof.Machine

/-- An opcode is listed for a kind of unit (04 R107). -/
def opcodeOk (k : UnitKind) (op : Nat) : Bool :=
  [0xF0, 0xF1, 0xF2, 0xF3].contains op ||
  match k with
  | .tile => [1, 2, 3, 4, 8, 9, 0x0A, 0x0B, 0x0C].contains op
  | .crv => [0x20, 0x21, 0x22].contains op
  | .upd => [0x40, 0x41, 0x42].contains op
  | .ring => [0x60, 0x61, 0x62, 0x63, 0x64].contains op
  | .ckpt => [0x80, 0x81].contains op

/-- Operand fields that reject with TOK.BADWB by the opcode's own chapter (04 R107, R117, R127, 06 R163, R165, R173, R178, 07 R192, 08 R215). -/
def Wb.badOperands (x : Wb) : Bool :=
  match x.opcode with
  | 1 => decide (x.oparg ≥ 2 ^ 12)
  | 2 => x.oparg.testBit 15
  | 3 => decide (x.oparg ≥ 2 ^ 14)
  | 4 => x.amaxOnly && x.descIndex 2 != 0
  | 8 => decide (x.oparg ≥ 2 ^ 8)
  | 0x0B => if x.sidAction = 0 then decide (x.arg ≥ 2 ^ 24) else x.sidAction == 3 || x.arg != 0
  | 0x0C => if x.sidAction = 0 then decide (x.arg ≥ 2 ^ 24) else x.arg != 0 || (x.sidAction == 2 && x.nprod != 2)
  | 0x40 => decide (x.oparg ≥ 2 ^ 10) || decide (x.arg ≥ 2 ^ 24) || x.ncred != 0
  | 0x42 => decide (x.oparg ≥ 2 ^ 10)
  | 0xF1 => decide (x.arg + x.oparg ≥ 2 ^ 24)
  | 0xF2 => x.ncred != 0 || decide (x.arg ≥ 2 ^ 19) || x.oparg == 0 || decide (x.oparg > 4096)
  | _ => false

/-- The descriptors that an opcode requires (04 R109). -/
def Wb.required (x : Wb) : List Nat :=
  match x.opcode with
  | 1 => if x.preload then [0, 1, 2, 3] else [0, 1, 2]
  | 2 | 3 => [0, 1]
  | 4 => 0 :: (if x.foldOn then [1] else []) ++ (if x.amaxOnly then [] else [2])
  | 8 => [3]
  | 9 => [0, 1, 3]
  | 0x0A => [0]
  | 0x0B => if x.sidAction = 0 then [0] else []
  | 0x0C => if x.sidAction = 0 then [0] else if x.sidAction = 2 then [0, 1] else []
  | 0x21 | 0x22 => if x.refLog || x.refReplay then [0] else []
  | 0x40 => [0]
  | 0x41 => [0, 2]
  | 0x42 => [0, 1]
  | 0x60 => [0, 1]
  | 0x61 | 0x63 | 0x64 => [0]
  | 0x62 => [0, 2]
  | _ => []

/-- Descriptors k, k + 1, … of a waybill as memory holds them: an empty list for none, and whether an index is beyond the table or a descriptor
poisoned (04 R108, R109, 05 R150). -/
def Base.readDescs (rq : MemReq) (q : Nat) (x : Wb) : List Nat → Base → Base × List (List Byte) × Bool
  | [], b => (b, [], false)
  | k :: r, b =>
    let i := x.descIndex k
    if i = 0 then
      let (b, l, bad) := Base.readDescs rq q x r b
      (b, [] :: l, bad)
    else if b.qrf q 0 24 .DOCK_QDCNT ≤ i then
      let (b, l, _) := Base.readDescs rq q x r b
      (b, [] :: l, true)
    else
      let (b, d, p) := b.readBytes rq (b.qrf q 6 46 .DOCK_QDESC * 64 + 64 * i) 64
      let (b, l, bad) := Base.readDescs rq q x r b
      (b, d :: l, p || bad)

/-- Sum of a destination along one dimension from a window start, or a window that leaves its tensor (06 R163, R165). -/
def windowBad (big small : Desc) (row col : Nat) (tr : Bool) : Bool :=
  let w := if tr then small.d1 else small.d0
  let h := if tr then small.d0 else small.d1
  decide (col + w > big.d0) || decide (row + h > big.d1) || big.d2 != small.d2 || big.d3 != small.d3

/-- Layout faults of an opcode's descriptors that reject with TOK.BADDESC (04 R109, 06 R163, R165, R166, R538): a tensor that its opcode wants in
memory form is neither local nor in intake form. Stage form is judged in step 7 (09 R248). -/
def Wb.badLayout (x : Wb) : Bool :=
  let mem := fun (d : Desc) => d.isStage || d.form == 0
  match x.opcode, x.desc 0, x.desc 1, x.desc 2 with
  | 1, some a, some b, some o =>
    let same := fun (d : Desc) => d.d2 == a.d2 && d.d3 == a.d3
    b.d0 != a.d0 || !same b || !same o || o.d0 != b.d1 || o.d1 != a.d1
      || (match x.desc 3 with | some p => !same p || (x.preload && (p.d0 != b.d1 || p.d1 != a.d1)) | none => x.preload)
  | 2, some s, some d, _ =>
    !mem s || !(d.isLocal || d.isStage) || (!s.isStage && !d.isStage && windowBad s d x.winRow x.winCol x.transpose)
  | 3, some s, some d, _ =>
    !mem d || !(s.isLocal || s.isStage) || (!s.isStage && !d.isStage && windowBad d s x.winRow x.winCol false)
  | 4, some s, f, d =>
    !mem s || (x.foldOn && (match f with | some f => !mem f | none => true))
      || (match d with | some d => !mem d || (!s.isStage && !d.isStage && d.count != s.count) | none => false)
  | _, _, _, _ => false

/-- Steps 4: TOK.BADDESC (04 R109, 06 R162, 07 R190). -/
def Base.badDescs (b : Base) (id : Nat) (kind : UnitKind) (x : Wb) : Bool :=
  let lend := if x.filler then some (b.lendRegion id) else none
  x.required.any (fun k => x.descIndex k == 0) || x.namedDescs.any (fun d => d.bad kind lend) || x.badLayout

/-- A format that is no array operand (02 R27, R28). -/
def notOperand (d : Option Desc) : Bool := match d with | some d => decide (d.fmt > 4) | none => false

/-- Formats an opcode does not allow, in whatever form the descriptor is (02 R28, R49, 06 R163, R166). -/
def Wb.badFormats (x : Wb) : Bool :=
  x.namedDescs.any Desc.badFormat ||
  match x.opcode, x.desc 0, x.desc 1, x.desc 2 with
  | 1, some a, some b, some o => notOperand (some a) || notOperand (some b) || decide (o.fmt > 6) || (o.fmt == 6 && a.fmt != 0)
  | 2, some s, some d, _ => !copyLoad s d x.transpose && (decide (s.fmt > 4) || !decide (1 ≤ d.fmt ∧ d.fmt ≤ 4))
  | 4, some s, _, d => decide (s.fmt > 5) || (match d with | some d => decide (d.fmt > 4) | none => false)
  | 9, s, r, _ => notOperand s || notOperand r || (match x.desc 3 with | some o => o.fmt == 6 | none => false)
  | 0x0A, s, _, _ => notOperand s
  | _, _, _, _ => false

/-- A filler waybill's partition is granted by the owner of its position. The owner's own bit is ignored, so that no partition borrows its own tiles
(11 R333, R339, 18 R514; log entry 44). -/
def Base.lendGranted (b : Base) (id p : Nat) : Bool :=
  match b.partOfUnit id with
  | some o => o != p && (b.rd .DOCK_LENDMAP 40).toNat.testBit (8 * o + p)
  | none => false

/-- The output descriptor that may be in intake form (08 R218, 09 R257). -/
def Wb.intakeOut (x : Wb) : Option Desc :=
  match x.opcode with
  | 1 | 0x62 => (x.desc 2).filter Desc.isIntake
  | 9 => (x.desc 3).filter Desc.isIntake
  | _ => none

/-- An intake-form descriptor that 08 R218 rejects. -/
def Base.intakeBad (b : Base) (d : Desc) : Bool :=
  let n := d.count
  let e := fun (k : Nat) => (d.addr + k) / 2 ^ 32
  d.fmt != 5 || d.blk != 0 || d.stochastic || d.ovfInf || d.sealchk || d.scale != 0
    || !((d.rank < 2 || d.s1 == 2 * d.d0) && (d.rank < 3 || d.s2 == 2 * d.d0 * d.d1) && (d.rank < 4 || d.s3 == 2 * d.d0 * d.d1 * d.d2))
    || d.addr % 128 != 0 || n % 64 != 0 || e 0 != e (2 * n - 1)
    || (match b.place d.addr with
        | .stack _ _ => bget (b.rd .DOCK_BAND 40 0 (d.addr / 2 ^ 35)) 0
        | _ => true)

/-- Bytes a waybill will send to each port, from its descriptors (04 R118, 08 R218, 09 R252). -/
def Base.sendsTo (b : Base) (x : Wb) : List (Nat × Nat) :=
  match x.intakeOut with
  | some d => if b.intakeBad d then [] else [(b.intakePort d, 4 * d.count)]
  | none =>
    if x.opcode = 0x0A ∧ x.ncred ≠ 0 then
      match portOf (x.creds.headD (0, 0)).1 with
      | some (.crv, _, _) => [((x.creds.headD (0, 0)).1, 65536 * x.sfCount)]
      | _ => []
    else []

/-- Steps 6: TOK.BADPORT, TOK.CREDITMAX, TOK.CREDITSHORT (04 R116 to R118). -/
def Work.creditFault (w : Work) (id : Nat) (kind : UnitKind) (x : Wb) : Option Nat :=
  let b := w.base
  let grant := x.opcode == 0xF2 &&
    ((unitOf (x.arg % 65536)).isNone || !b.unitServes (x.arg % 65536) x.part || (kind != .ring && x.arg / 65536 % 8 != 0))
  if grant || x.creds.any (fun c => (portOf c.1).isNone || !b.unitServes c.1 x.part) then some 0x030A
  else if (sumByPort x.creds).any (fun c => decide ((Map.find c.1 (w.unit id).allot).getD 0 < c.2)) then some 0x0307
  else if (b.sendsTo x).any (fun c => decide (x.demand c.1 * 4096 < c.2)) then some 0x0308
  else none

/-- A stage-form descriptor that 09 R247 or R248 rejects for the partition. -/
def Base.stageBad (b : Base) (p : Nat) (d : Desc) : Bool :=
  !d.zeros || d.w44 != 0 || d.scale != 0 || decide (d.w56 ≥ 2 ^ 24)
    || d.fmt != 2 || !d.grad || d.sr || d.rank != 2 || d.chaxis != 0 || d.stream % 4 != 0 || decide (d.stream > 0xEFFC)
    || d.addr % 4096 != 0 || d.d2 != 1 || d.d3 != 1 || !blockSide d.d1 || !blockSide d.d0
    || decide (d.s3 + d.d0 > d.s1) || decide ((d.s2 + d.d1 - 1) * d.s1 + d.s3 + d.d0 > 2 ^ 50)
    || !b.runOwned p d.addr d.stage.size

/-- STATFEED's operands (09 R252). -/
def Base.statfeedBad (b : Base) (x : Wb) : Bool :=
  match x.desc 0 with
  | none => true
  | some d =>
    let M := (if x.sfSide = 0 then d.d1 else d.d0) / 128
    decide (x.oparg ≥ 8) || x.sfMode == 3 || decide (x.arg ≥ 2 ^ 24) || x.sfCount == 0
      || x.keep || x.cont || x.preload || x.accset != 0
      || [1, 2, 3].any (fun k => x.descIndex k != 0) || !d.isStage || b.stageBad x.part d
      || x.ncred != 1 || (match portOf (x.creds.headD (0, 0)).1 with | some (.crv, _, _) => false | _ => true)
      || decide (x.sfFirst + x.sfCount > M * (M + 1) / 2)

/-- PRECOND's operands (09 R257). -/
def Base.precondBad (b : Base) (x : Wb) : Bool :=
  match x.desc 0, x.desc 1, x.desc 3 with
  | some d, some r, some o =>
    decide (x.oparg > 2) || x.arg != 0 || x.descIndex 2 != 0 || !d.isStage || b.stageBad x.part d
      || r.form != 0 || r.fmt != 3 || r.rank != 2 || r.d0 != d.d0 || r.d1 != d.d1 || r.s1 != 0 || r.s2 != 0 || r.s3 != 0
      || r.scale != 0 || r.stream != 0
      || o.d0 != d.d0 || o.d1 != d.d1 || o.d2 != 1 || o.d3 != 1
      || !(o.isIntake || (o.form == 0 && o.fmt == 5 && o.dense))
  | _, _, _ => true

/-- CRV.STAGE of a waybill (09 R248, R252, R257). -/
def Base.stageFault (b : Base) (x : Wb) : Bool :=
  if x.opcode = 0x0A then b.statfeedBad x
  else if x.opcode = 9 then b.precondBad x
  else
    (List.range 4).any fun k =>
      match x.desc k with
      | some d => d.isStage && !(x.opcode == 1 && k == 2 && x.oparg % 4096 == 0 && !b.stageBad x.part d
          && (match x.desc 0 with | some a => decide (1 ≤ a.fmt ∧ a.fmt ≤ 4) | none => false))
      | none => false

/-- UPD_TIESUM's operands (08 R240). -/
def Wb.tieBad (x : Wb) : Bool :=
  x.oparg != 0 || x.arg != 0 || x.descIndex 1 != 0 || x.descIndex 3 != 0 || x.ncred != 0 ||
  match x.desc 0, x.desc 2 with
  | some s, some o =>
    s.form != 0 || s.fmt != 5 || s.d2 != 1 || s.d3 != 1 || decide (s.d1 > 16) || o.form != 0 || o.fmt != 5 || !o.dense || o.count != s.d0
  | _, _ => true

/-- CRV_FOLD's operands that need no timetable (09 R264). -/
def Wb.foldBad (x : Wb) : Bool :=
  x.sfCount == 0 || decide (x.arg ≥ 2 ^ 24) || x.oparg != 0 || (List.range 4).any (fun k => x.descIndex k != 0) || x.ncred != 0 || x.hasDeadline

/-- CRV_ROOT's and CRV_INV's operands that need no timetable (10 R289). -/
def Wb.rootBad (x : Wb) : Bool :=
  x.refCount == 0 || decide (x.arg ≥ 2 ^ 24) || decide (x.oparg ≥ 4) || (x.refLog && x.refReplay)
    || [1, 2, 3].any (fun k => x.descIndex k != 0) || x.ncred != 0
    || (if x.refLog || x.refReplay then
          match x.desc 0 with
          | some d => d.form != 0 || d.fmt != 6 || !d.dense || d.count != 2 * x.refCount
          | none => true
        else x.descIndex 0 != 0)

/-- Ring operands (11 R320, R322 to R330). -/
def Base.ringBad (b : Base) (x : Wb) : Bool :=
  let l := x.ringLine
  let S := (lineMembers b.ringPos (b.lineStride l) (b.lineSize l) (b.lineMask l)).length
  let none_ := fun (ks : List Nat) => ks.any fun k => x.descIndex k != 0
  let mem := fun (d : Desc) => d.form == 0
  let outer := fun (d : Desc) => d.dim (d.rank - 1) == S
  !b.lineOn l || b.linePart l != x.part || b.vcPart x.ringVc != some x.part || decide (x.arg ≥ 2 ^ 24) ||
  match x.opcode with
  | 0x60 => decide (x.oparg ≥ 2 ^ 12) || none_ [2, 3] || (!x.oparg.testBit 11 && x.arg % 2 ^ 24 != 0) || (match x.desc 0 with | some d => !mem d | none => true)
  | 0x61 => decide (x.oparg ≥ 2 ^ 5) || none_ [2, 3] || (match x.desc 0 with | some d => !mem d || !outer d | none => true)
      || (match x.desc 1 with | some d => !mem d || !outer d | none => false)
  | 0x62 => decide (x.oparg ≥ 2 ^ 13) || none_ [1, 3]
      || (match x.desc 0, x.desc 2 with
          | some d, some o => !mem d || d.fmt != 5 || !d.dense || o.count != d.count || !(o.isIntake || (mem o && o.fmt == 5 && o.dense))
          | _, _ => true)
  | 0x63 => decide (x.oparg ≥ 2 ^ 5) || none_ [1, 3]
      || (match x.desc 0 with | some d => !mem d || d.fmt != 6 || !d.dense || d.count % 2 != 0 | none => true)
      || (match x.desc 2 with | some o => !mem o || o.byteCount != 32 | none => false)
  | 0x64 => decide (x.oparg ≥ 2 ^ 5) || x.arg != 0 || none_ [1, 2, 3]
      || (match x.desc 0 with | some d => !mem d || d.fmt != 6 || !d.dense || d.count != 4 | none => true)
  | _ => false

/-- A filler that its owner has not granted, or an owner that names the lend region of a lendable tile (11 R333). With one
valid partition LENDABLE has no effect (18 R514). -/
def Base.lendFault (b : Base) (id : Nat) (x : Wb) : Bool :=
  if x.filler then !b.lendGranted id x.part
  else
    match b.tileOf id with
    | some (n, m) =>
      let (lo, hi) := b.lendRegion id
      let meets := fun (o len : Nat) => decide (o < hi ∧ lo < o + len)
      b.lendingOn && b.eff 0 1 .TILE_LEND (cd n) m == 1 && x.namedDescs.any fun d =>
        (d.isLocal && meets (d.base % 2 ^ 22) d.extent) || (!d.isStage && d.scale / 2 ^ 48 == 15 && meets (d.scale % 2 ^ 22) d.scaleBytes)
    | none => false

/-- The block-cutting rule of a converting LOAD (06 R164). DESIGN CHOICE (log entry 132): a copying LOAD whose window cuts blocks is not rejected;
02 R38 and 06 R164 do not say whether NUM.BLOCKAXIS holds for a copy. -/
def Wb.blockAxisBad (x : Wb) (s d : Desc) : Bool :=
  if copyLoad s d x.transpose || !d.blocked then false
  else
    let start := if x.transpose then x.winRow else x.winCol
    let whole := if x.transpose then s.d1 else s.d0
    start % d.block != 0 || (d.d0 % d.block != 0 && start + d.d0 != whole)

/-- Class NUM of step 7 (02 R42, 06 R164, R165). -/
def Wb.numFault (x : Wb) : Option Nat :=
  match x.opcode, x.desc 0, x.desc 1 with
  | 1, some a, some b => if a.fmt ≠ b.fmt ∨ (a.blocked ∧ b.blocked ∧ a.blk ≠ b.blk) then some 0x0101 else none
  | 2, some s, some d => if s.isStage || d.isStage then none else if x.blockAxisBad s d then some 0x0103 else none
  | 3, some s, some d => if s.isStage || d.isStage then none else if s.fmt ≠ d.fmt ∨ s.blk ≠ d.blk then some 0x0101 else none
  | _, _, _ => none

/-- The tokens that the members of a waybill's chain produce (03 R81). -/
def Work.chainTokens (w : Work) (id : Nat) (x : Wb) : List Nat :=
  ((w.unit id).window.filter fun y =>
    y.opcode == 1 && (y.keep || y.cont) && y.part == x.part && y.chain == x.chain && (y.phase == .accepted || y.phase == .running)
      && !(y.queue == x.queue && y.seq == x.seq)).flatMap Wb.prods

/-- Class ACC of step 7 (03 R77, R81, R86, R94). -/
def Work.accFault (w : Work) (id : Nat) (x : Wb) : Option Nat :=
  let mm := x.opcode == 1
  let long := mm && longProduct x.intPath x.declared (b2n x.preload)
  if mm && long && x.intPath && !x.cont && (match x.desc 2 with | some o => o.fmt == 6 && !o.isStage | none => false) then some 0x0201
  else if mm && x.preload && (match x.desc 3 with | some d => d.fmt != (if x.intPath then 6 else 5) | none => false) then some 0x0203
  else if mm && x.cont && x.waits.any (w.chainTokens id x).contains then some 0x0208
  else if x.filler && (x.preload || x.keep || x.cont || x.accset != 0 || long) then some 0x0209
  else none

/-- Class SCL of step 7: SCL.CHAXIS, then SCL.HISTBAD, then SCL.NOHIST (04 R537, 07 R190, R192, R204). -/
def Base.sclFault (b : Base) (x : Wb) : Base × Option Nat :=
  let hist := fun (o : Desc) (vec : Bool) =>
    b.histCheck x.part x.hist (o.dim o.chaxis) (if vec && o.format == .i8 && !o.isStage then some o.scale else none)
  match x.opcode, x.desc 0, x.desc 1, x.desc 2 with
  | 1, some a, some bd, some o =>
    if x.intPath && (decide (a.chaxis > 1) || decide (bd.chaxis > 1)) then (b, some 0x0606) else hist o true
  | 4, some s, f, d =>
    if x.foldOn && (match f with | some f => f.format != .i8 || f.dim f.chaxis != s.dim x.foldAxis | none => true) then (b, some 0x0606)
    else
      match d with
      | some d => hist d true
      | none => hist s false
  | _, _, _, _ => (b, none)

/-- Step 7 of 04 R537: the remaining operand checks, by class. -/
def Work.operandFault (w : Work) (id : Nat) (x : Wb) : Work × Option Nat :=
  match x.numFault.orElse fun _ => w.accFault id x with
  | some e => (w, some e)
  | none =>
    if x.opcode = 8 ∧ (x.arg ≥ 2 ^ 22 ∨ x.arg % 4 ≠ 0 ∨ (x.oparg.testBit 7 ∧ x.oparg % 128 ≥ 64)) then (w, some 0x030F)
    else
      let (b, e) := w.base.sclFault x
      let w := { w with base := b }
      let tile := kindOf id == some .tile
      let e := e.orElse fun _ =>
        if (match x.intakeOut with | some d => b.intakeBad d | none => false) then some 0x0704
        else if x.opcode = 0x41 ∧ x.tieBad then some 0x0708
        else if x.opcode = 0x20 ∧ x.foldBad then some 0x0803
        else if b.stageFault x then some 0x0804
        else if (x.opcode = 0x21 ∨ x.opcode = 0x22) ∧ x.rootBad then some 0x0908
        else if kindOf id == some .ring && decide (x.opcode < 0xF0) && b.ringBad x then some 0x0A0F
        else if tile && b.lendFault id x then some 0x0A11
        else if (x.opcode = 0x80 ∨ x.opcode = 0x81) ∧ x.ckArgsBad then some 0x0C0A
        else if x.opcode = 0xF3 ∧ (x.oparg ≠ 0 ∨ x.arg ≠ 0 ∨ (List.range 4).any (fun k => x.descIndex k != 0) ∨ x.ncred ≠ 0) then some 0x0C0A
        else none
      (w, e)

/-- The checks of steps 1 to 7, in order; `poisoned` says that the waybill's own bytes were (04 R537, 05 R150). Answers the waybill with its
descriptors. -/
def Work.acceptCheck (w : Work) (id : Nat) (kind : UnitKind) (x : Wb) (poisoned : Bool) : Work × Wb × Option Nat :=
  if poisoned then (w, x, some 0x0303)
  else if !opcodeOk kind x.opcode then (w, x, some 0x0301)
  else if x.badFields kind || x.badOperands then (w, x, some 0x0303)
  else if x.selfWait then (w, x, some 0x0310)
  else
    let (b, l, bad) := Base.readDescs (w.base.cx id x).req x.queue x (List.range 4) w.base
    let w := { w with base := b }
    let x := { x with descs := l }
    if bad || b.badDescs id kind x then (w, x, some 0x0302)
    else if x.badFormats then (w, x, some 0x0102)
    else if x.namedDescs.any Desc.badStream then (w, x, some 0x0104)
    else
      match w.creditFault id kind x with
      | some e => (w, x, some e)
      | none =>
        let (w, e) := w.operandFault id x
        (w, x, e)

/-- Sum of the shares of a partition's virtual channels, and its intake and running places on a ring engine (11 R319). -/
def Base.vcShares (b : Base) (p : Nat) : Nat := ((b.vcsOf p).map b.vcShare).sum
def Base.ringPlaces (b : Base) (all p : Nat) : Nat :=
  let s := b.vcShares p
  if s = 0 then 0 else max 1 (all * s / 64)

/-- The waybills in the intake window of a unit, and their number (04 R103, 08 R245, 09 R270, 13 R398). -/
def Work.inWindow (w : Work) (id : Nat) : List Wb := (w.unit id).window.filter fun y => y.phase == .accepted
def Work.windowUsed (w : Work) (id : Nat) : Nat := (w.inWindow id).length

/-- The window of a unit has room for a waybill of partition p (04 R103, 11 R319). DESIGN CHOICE (log entry 51): a waybill occupies its place in the
window from its acceptance to its start, for every kind of unit; R103 does not say how long. -/
def Work.hasRoom (w : Work) (id p : Nat) (kind : UnitKind) : Bool :=
  match kind with
  | .ring =>
    if w.base.vcShares p = 0 then true
    else decide (w.windowUsed id < 16) && decide ((w.inWindow id).countP (fun y => y.part == p) < w.base.ringPlaces 16 p)
  | k => decide (w.windowUsed id < k.window)

/-- The unit may accept from queue q now: its waybill before has started, or has completed with its record (04 R101 to R103). -/
def Work.acceptable (w : Work) (id q : Nat) (kind : UnitKind) : Bool :=
  let b := w.base
  b.qUnit q == id && !b.qStopped q && b.qHead q != b.qTail q
    && !(w.eng.units.any fun u => u.2.window.any fun y => y.queue == q && (y.phase == .accepted || (y.phase == .ended && !y.began)))
    && (match b.partOfQueue q with
        | some p => w.hasRoom id p kind
        | none => false)

/-- The first queue in turn, beginning after the one accepted from last (04 R103). -/
def Work.nextQueue (w : Work) (id : Nat) (kind : UnitKind) : Option Nat :=
  let l := w.eng.queuesOn.filter fun q => w.acceptable id q kind
  match (w.unit id).lastQueue with
  | some k => (l.find? fun q => decide (k < q)).orElse fun _ => l.head?
  | none => l.head?

/-- An abort named the waybill before it was accepted; answers whether it was a BRANCH (04 R122, 06 R178). -/
def Engine.abortNamed (e : Engine) (q seq : Nat) : Option Bool :=
  (((Map.find q e.aborts).getD []).find? fun r => decide ((seq + 2 ^ 32 - r.1) % 2 ^ 32 < r.2.1)).map (·.2.2)

/-- ROOT.ARGS is also the last ROOT event of its engine (10 R299). -/
def Base.rootLast (b : Base) (id code : Nat) : Base :=
  match crvOf id with
  | some e => if code = 0x0908 ∨ code = 0x0909 then b.wr (BitVec.ofNat 64 (code * 2 ^ 48)) .CRV_ROOTLAST (cd (e / 4)) (e % 4) else b
  | none => b

/-- The waybill at HEAD of queue q is read and HEAD advances; the waybill as its unit takes it, and whether its bytes were poisoned (04 R103). -/
def Base.takeNext (b : Base) (id q p : Nat) : Base × Wb × Bool :=
  let seq := b.qHead q
  let filler := b.qFiller q
  let (b, l, bad) := b.readBytes (unitReq p (b.unitSrc id) (waybillNumber q seq)) (b.qrf q 12 40 .DOCK_QBASE * 4096 + 64 * (seq % b.qSize q)) 64
  let b := b.qwf q 0 32 (seq + 1) .DOCK_QHEAD
  let b := b.noteWork (unitReq p (queueSrc q) (waybillNumber q seq) false (if filler then 4 else 3)) 0x27 1
  (b, { queue := q, seq := seq, bytes := l, descs := [], part := p, filler := filler, acceptTime := b.time,
        tile := match b.tileOf id with | some (n, m) => tileCode n m | none => 0, step := b.stepOf p }, bad)

/-- A waybill enters the window of its unit. -/
def UnitSt.accept (u : UnitSt) (x : Wb) : UnitSt := { u with window := u.window ++ [x], lastQueue := some x.queue }

/-- An accepted waybill asks the homes of its tokens (04 R111). -/
def Work.askTokens (w : Work) (id : Nat) (x : Wb) : Work :=
  { w with eng := { w.eng with flying := w.eng.flying ++ x.waits.map fun t => .watch id x.queue x.seq x.part t } }

/-- A waybill is a member of a chain (03 R79). -/
def Wb.chained (x : Wb) : Bool := x.opcode == 1 && (x.keep || x.cont)

/-- The accepted chain mates of a waybill, cut where a later chain of the same identifier begins: whether the group belongs to the chain that the
tile holds, and its members (03 R80, R81). `l` lists the mates in acceptance order. -/
def mateGroup (x : Wb) (held : Bool) : Bool → List Wb → List Wb → Bool × List Wb
  | first, acc, [] => (first && held, if acc.any (fun y => y.queue == x.queue && y.seq == x.seq) || (first && x.phase != .accepted) then acc else [])
  | first, acc, y :: r =>
    if y.keep && !y.cont then
      if acc.any (fun z => z.queue == x.queue && z.seq == x.seq) || (first && x.phase != .accepted) then (first && held, acc)
      else mateGroup x held false [y] r
    else mateGroup x held first (acc ++ [y]) r

/-- The accepted members of a waybill's chain, and the job that holds it (04 R122). -/
def Work.chainGroup (w : Work) (id : Nat) (x : Wb) : Option Job × List Wb :=
  if x.chained then
    let j := w.chainOf id x.part x.chain
    let l := (w.unit id).window.filter fun y => y.phase == .accepted && y.chained && y.part == x.part && y.chain == x.chain
    let (held, mates) := mateGroup x j.isSome true [] l
    (if held then j else none, mates)
  else (none, [])

/-- A running waybill is marked: it stops at its unit's next boundary (04 R122). -/
def Work.markAbort (w : Work) (id : Nat) (x : Wb) (branch : Bool) : Work :=
  w.setWb id { x with aborting := true, byBranch := branch }

/-- The members of a job are marked. -/
def Work.markJob (w : Work) (id : Nat) (j : Job) (branch : Bool) : Work :=
  j.members.foldl (fun (w : Work) m =>
    match w.wb? id m.1 m.2 with
    | some y => w.markAbort id y branch
    | none => w) w

/-- An abort names an accepted waybill that has not started: it completes ABORTED at once, and with it the whole of its chain (04 R122). The frames
of a ring waybill are then dropped as they come (11 R321). -/
def Work.abortAccepted (w : Work) (id : Nat) (x : Wb) (branch : Bool) : Work :=
  let (j, mates) := w.chainGroup id x
  let w := if kindOf id = some .ring then w.ringAbort x else w
  let w := w.setWb id ({ x with byBranch := branch }.endWith 0x11)
  let w := mates.foldl (fun (w : Work) y =>
    if y.queue = x.queue ∧ y.seq = x.seq then w else w.setWb id ({ y with byBranch := branch }.endWith 0x11)) w
  match j with | some j => w.markJob id j branch | none => w

/-- A waybill that entered its window, judged: named by an abort, of a lost unit, rejected by a check, or asking for its tokens
(04 R103, R122, R537, 13 R370). -/
def Work.judgeAccepted (w : Work) (id : Nat) (kind : UnitKind) (x : Wb) (bad : Bool) : Work :=
  match w.eng.abortNamed x.queue x.seq with
  | some branch => if bad then w.setWb id ({ x with byBranch := branch }.endWith 0x11) else w.abortAccepted id x branch
  | none =>
    if w.base.unitLost id then w.setWb id (x.endWith 0x16)
    else
      let (w, y, e) := w.acceptCheck id kind x bad
      let e := match kind, e with
        | .ring, none => if w.base.vcShares x.part = 0 then some 0x0A0F else none
        | _, e => e
      match e with
      | some e => ({ w with base := w.base.rootLast id e }.setWb id y).reject id y e
      | none => (w.setWb id y).askTokens id y

/-- WAYBILL_ACCEPT (04 R103, R537): the unit takes the next waybill of its queues, checks it, and asks the homes of its tokens. -/
def Work.acceptWaybill (w : Work) (id : Nat) : Work :=
  match unitOf id with
  | none => w
  | some (kind, _) =>
    match w.nextQueue id kind with
    | none => w
    | some q =>
      match w.base.partOfQueue q with
      | none => w
      | some p =>
        let (b, x, bad) := w.base.takeNext id q p
        (({ w with base := b } : Work).setUnit id ((w.unit id).accept x)).judgeAccepted id kind x bad

end Sys2Proof.Machine
end

