-- ==== Sys2Proof/Machine/Prefetch.lean ====
section
/-! DEFINITION. The tiles' prefetch (05 R143 to R146). -/

namespace Sys2Proof.Machine

/-- The 4 KiB blocks of rows of a tensor, in element order: n rows from row r, m columns from column lo, of every matrix. -/
def Desc.blocks (d : Desc) (r n lo m : Nat) : List Nat :=
  (List.range (d.d2 * d.d3)).flatMap fun k => (List.range n).flatMap fun i =>
    let a := d.addr + d.rowOff (r + i) (k % d.d2) (k / d.d2) + lo * d.ebytes
    (List.range ((a + m * d.ebytes - 1) / 4096 - a / 4096 + 1)).map fun j => (a / 4096 + j) * 4096

/-- The blocks of a tensor's scale array in memory. -/
def Desc.scaleBlocks (d : Desc) : List Nat :=
  if d.isStage || d.scale = 0 || d.scale / 2 ^ 48 == 15 || d.scaleBytes = 0 then []
  else (List.range ((d.scale + d.scaleBytes - 1) / 4096 - d.scale / 4096 + 1)).map fun j => (d.scale / 4096 + j) * 4096

def Desc.allBlocks (d : Desc) : List Nat := if d.isLocal || d.isStage then [] else d.blocks 0 d.d1 0 d.d0

/-- The blocks that a waybill will read through its input descriptors, each with SEALCHK (05 R143, 09 R253, R257). -/
def Wb.inputs (x : Wb) : List (Nat × Bool) :=
  let scales := fun (d : Desc) => d.scaleBlocks.map fun a => (a, d.sealchk)
  let whole := fun (k : Nat) => match x.desc k with
    | some d => d.allBlocks.map (fun a => (a, d.sealchk)) ++ scales d
    | none => []
  let area := fun (d : Desc) (off bytes : Nat) =>
    let lo := (d.addr + off) / 4096
    (List.range ((d.addr + off + bytes + 4095) / 4096 - lo)).map fun k => ((lo + k) * 4096, d.sealchk)
  match x.opcode with
  | 1 => whole 0 ++ whole 1 ++ (if x.preload then whole 3 else [])
  | 2 =>
    (match x.desc 0, x.desc 1 with
    | some s, some d =>
      let cols := if x.transpose then d.d1 else d.d0
      let rows := if x.transpose then d.d0 else d.d1
      (s.blocks x.winRow rows x.winCol cols).map fun a => (a, s.sealchk)
    | _, _ => [])
  | 4 => whole 0 ++ (if x.foldOn then (match x.desc 1 with | some d => scales d | none => []) else [])
  | 9 => (match x.desc 0 with | some d => area d d.stage.h (2 * d.d0 * d.d1) | none => [])
  | 0x0A =>
    (match x.desc 0 with
    | some d => area d (if x.sfSide = 0 then 0 else d.stage.gr) (d.d0 * d.d1)
        ++ (if x.sfSide = 0 then area d d.stage.gcs (d.d0 / d.block * d.d1) else area d d.stage.grs (d.d1 / d.block * d.d0))
    | none => [])
  | 0x0B => if x.sidAction = 0 then whole 0 else []
  | _ => []

/-- Entries that waybills may hold: DEPTH, where 0 and values above 64 read as 64; it applies as soon as it is written (05 R160). -/
def Base.pfDepth (b : Base) (n m : Nat) : Nat :=
  let d := b.rf 1 7 .TILE_PF_CTL (cd n) m
  if d = 0 ∨ d > 64 then 64 else d

/-- A waybill waits for nothing that its unit does not itself hold: its notices and its credits are there (04 R111). -/
def Work.basicReady (w : Work) (id : Nat) (x : Wb) : Bool :=
  x.phase == .accepted && decide (x.notices % 2 ^ x.nwait = 2 ^ x.nwait - 1)
    && (sumByPort x.creds).all (fun c => decide (c.2 ≤ (Map.find c.1 (w.unit id).balance).getD 0))

/-- The generation of a block at its fetch, and whether it is in the far tier (05 R143, R144). -/
def Base.genOf (b : Base) (a : Nat) : Nat × Bool :=
  match b.place a with
  | .stack st off => ((Map.find (st * 2 ^ 25 + off / 4096) b.gens).getD 0, false)
  | _ => (0, true)

/-- A waybill starts: a generation check sets out for each of its stack entries, and its far-tier entries count as passed (05 R145). -/
def Work.pfStart (w : Work) (id q seq : Nat) : Work :=
  match w.tiles.pf id with
  | [] => w
  | l =>
    { w with tiles := w.tiles.setPf id (l.map fun e =>
        if e.queue = q ∧ e.seq = seq ∧ e.check = 0 then { e with check := if e.far then 2 else 1 } else e) }

/-- An entry of a waybill whose check has set out. -/
def PfEntry.checks (q seq addr : Nat) (e : PfEntry) : Bool := e.queue == q && e.seq == seq && e.addr == addr && e.check == 1

/-- The generation of an entry's block is still that of its fetch, and no wrap has come between (05 R145). -/
def Base.genHolds (b : Base) (addr : Nat) (e : PfEntry) : Bool :=
  match b.place addr with
  | .stack st off =>
    let wrap := (b.rd .DOCK_MS_WRAPTIME (ms st)).toNat
    (Map.find (st * 2 ^ 25 + off / 4096) b.gens).getD 0 == e.gen && (wrap == 0 || decide (wrap < e.time))
  | _ => true

/-- GENERATION_CHECK_RETURN (05 R145): the check of an entry returns, and the entry passes or is discarded as stale. -/
def Work.genCheck (w : Work) (id q seq addr : Nat) : Work :=
  let l := w.tiles.pf id
  match l.find? (PfEntry.checks q seq addr) with
  | none => w
  | some e =>
    if w.base.genHolds addr e then
      { w with tiles := w.tiles.setPf id (l.map fun y => if y.checks q seq addr then { y with check := 2 } else y) }
    else
      { w with
        base := (w.unusedCx id q seq).elim w.base (fun c => w.base.pfSeen c .TILE_PF_STALE addr)
        tiles := w.tiles.setPf id (l.filter fun y => !y.checks q seq addr) }

/-- A waybill of a tile may do its work now: it is no spilled filler, it is not handed over, and the checks of its prefetch entries have returned
(05 R145, 11 R335, 15 R459). -/
def Work.gate (w : Work) (id q seq : Nat) : Except Work Unit :=
  let l := w.tiles.pf id
  let mine := fun (e : PfEntry) => e.queue == q && e.seq == seq && e.check == 1
  let spilled := match Map.find id w.tiles.lends with
    | some s => s.queue == q && s.seq == seq && s.spilled.isSome
    | none => false
  if spilled || w.handedOver id q seq then .error w
  else if l.any mine then .error w
  else .ok ()

end Sys2Proof.Machine
end

