-- ==== Sys2Proof/Machine/Spares.lean ====
section
/-! DEFINITION. Spares: positions that move, fencing and retirement, cores, the wheel-tap, and self-tests (13 R363 to R376, 03 R67 to R69). -/

namespace Sys2Proof.Machine

/-- States of a tile (03 R96). -/
def tACTIVE : Nat := 0
def tSPARE : Nat := 1
def tTEST : Nat := 2
def tFENCED : Nat := 3
def tRETIRED : Nat := 4

def Base.tileState (b : Base) (n m : Nat) : Nat := b.rf 0 3 .TILE_STATE (cd n) m

/-- The tiles of a die in a state. -/
def Base.tilesIn (b : Base) (n s : Nat) : List Nat := (List.range 68).filter fun m => b.tileState n m == s

/-- DOCK_WT_POOL as the tile states give it (13 R396). -/
def Base.wtPool (b : Base) (n : Nat) : Base :=
  b.wr (BitVec.ofNat 64 ((b.tilesIn n tSPARE).length + (b.tilesIn n tRETIRED).length * 2 ^ 8 + (b.tilesIn n tFENCED).length * 2 ^ 16)) .DOCK_WT_POOL (cd n)

/-- A tile's state set. -/
def Base.tileTo (b : Base) (n m s : Nat) : Base := (b.wf 0 3 s .TILE_STATE (cd n) m).wtPool n

/-- An event of class SPR about a tile of CDn. The compute die raises it, so it carries the die's logic unit (13 R399, 15 R452). -/
def Base.tileSpr (b : Base) (n bit code : Nat) (part : Option Nat) : Base := b.sprEvent (cd n) bit code (logic (cd n)) part

/-- The lowest tile of the pool that 03 R68 allows for a position without moving another (13 R365). -/
def Base.spareFor (b : Base) (n p : Nat) : Option Nat :=
  let pool := b.tilesIn n tSPARE
  if p % 8 = 0 then pool.find? preloadTile else (pool.find? fun m => !preloadTile m).orElse fun _ => pool.head?

/-- For a lead position that no tile of the pool may fill: the preload-capable tile of a non-lead position that moves to it (03 R68). DESIGN CHOICE
(log entry 153): of several such tiles, the lowest-numbered. -/
def Base.donorFor (b : Base) (n p : Nat) (stopped : List Nat) : Option Nat :=
  if p % 8 = 0 ∧ (b.spareFor n p).isNone then
    (b.tilesIn n tACTIVE).find? fun m => preloadTile m && !stopped.contains (tileCode n m) && (match b.posOfTile n m with | some q => q % 8 != 0 | none => false)
  else none

def Work.tap (w : Work) (n : Nat) : TapSt := (Map.find n w.spare.taps).getD {}
def Work.setTap (w : Work) (n : Nat) (t : TapSt) : Work := { w with spare := { w.spare with taps := Map.put n t w.spare.taps } }

/-- PHASE and TILE of DOCK_WT_STATE (13 R396). -/
def Base.tapPhase (b : Base) (n : Nat) : Nat := b.rf 8 3 .DOCK_WT_STATE (cd n)
def Base.tapTile (b : Base) (n : Nat) : Nat := b.rf 16 7 .DOCK_WT_STATE (cd n)
def Base.tapOn (b : Base) (n : Nat) : Bool := b.catNum 0x4010 (n + 1) == 1

/-- Vacant positions of a die, ascending (13 R367, R396). -/
def Base.vacancies (b : Base) (n : Nat) : List Nat := (List.range 64).filter fun p => bget (b.rd .DOCK_WT_VACANT (cd n)) p

/-- The vacant lead position that tile m is to take from its own, while the pool holds a tile for the place that it leaves (03 R68). -/
def Work.leadAwaits (w : Work) (n m : Nat) : Option Nat :=
  let b := w.base
  if (b.tilesIn n tSPARE).isEmpty then none
  else (b.vacancies n).find? fun p => b.donorFor n p w.spare.fencing == some m

/-- The tile starts no waybill: it is fenced and waits to move, it waits for its tap, or it is to take a lead position (13 R365, R366, 03 R68). -/
def Work.tileStopped (w : Work) (n m : Nat) : Bool :=
  w.spare.fencing.contains (tileCode n m) || (w.base.tapPhase n == 1 && w.base.tapTile n == m) || (w.leadAwaits n m).isSome
    || (List.range 68).any fun a => w.spare.fencing.contains (tileCode n a) &&
      (match w.base.posOfTile n a with
        | some p => w.base.donorFor n p w.spare.fencing == some m
        | none => false)

/-- The tile of a position is at an idle boundary (13 R364). A spilled filler does not prevent it. -/
def Work.idleBoundary (w : Work) (n m : Nat) : Bool :=
  match w.base.posOfTile n m with
  | none => true
  | some p =>
    let id := tileUnit n p
    let spilled := fun (x : Wb) => match Map.find id w.tiles.lends with
      | some l => l.queue == x.queue && l.seq == x.seq && l.spilled.isSome
      | none => false
    w.base.setState id 0 == sFREE && w.base.setState id 1 == sFREE && (w.unit id).window.all fun x => x.phase != .running || spilled x

/-- At its idle boundary a tile takes the written values of TILE_LEND and TILE_PF_CTL (03 R96, 05 R160). -/
def Work.idleSweep (w : Work) (n m : Nat) : Work :=
  if w.base.waitIdle.isEmpty then w
  else if w.idleBoundary n m then
    { w with base := { w.base with waitIdle := Map.del (regAddr .TILE_LEND n m) (Map.del (regAddr .TILE_PF_CTL n m) w.base.waitIdle) } }
  else w

/-- The tiles that have come to an idle boundary take what was written (03 R96, 05 R160). -/
def Work.idleSweeps (w : Work) : Work :=
  if w.base.waitIdle.isEmpty then w
  else (List.range (8 * 68)).foldl (fun (w : Work) k => w.idleSweep (k / 68) (k % 68)) w

/-- A write of TILE_LEND or TILE_PF_CTL: what is in effect stays so until the tile's idle boundary (03 R96, 05 R160). -/
def Work.idleWrite (w : Work) (r : Reg) (n m : Nat) (v : Word) : Work :=
  let key := regAddr r n m
  let old := w.base.rd r n m
  let b := if (Map.find key w.base.waitIdle).isSome then w.base else { w.base with waitIdle := Map.put key old w.base.waitIdle }
  ({ w with base := b.wr v r n m }).idleSweep n m

/-- The local store of tile a copied to tile b, both by tile code (13 R365). -/
def Tiles.copyStore (t : Tiles) (a b : Nat) : Tiles :=
  let seg := (t.store.filter fun c => decide (a * 2 ^ 22 ≤ c.1 ∧ c.1 < (a + 1) * 2 ^ 22)).map fun c => (c.1 - a * 2 ^ 22 + b * 2 ^ 22, c.2)
  { t with store := t.store.takeWhile (fun c => c.1 < b * 2 ^ 22) ++ seg ++ t.store.dropWhile (fun c => c.1 < (b + 1) * 2 ^ 22) }

/-- The local store of a tile at zero. -/
def Tiles.clearStore (t : Tiles) (a : Nat) : Tiles :=
  { t with store := t.store.filter fun c => !decide (a * 2 ^ 22 ≤ c.1 ∧ c.1 < (a + 1) * 2 ^ 22) }

/-- TILE_POS of a tile that holds position p (03 R96). -/
def posWord (p : Nat) : Word := BitVec.ofNat 64 (p + 64 + p / 8 * 128 + b2n (p % 8 == 0) * 1024)

/-- The counter registers of a tile at their reset values (17 R500, R503). -/
def Base.pmcTileReset (b : Base) (n m : Nat) : Base :=
  let b := (List.range 8).foldl (fun (b : Base) i => (b.regReset .TILE_PMC_CTL (cd n) m i).regReset .TILE_PMC_VAL (cd n) m i) b
  ((b.regReset .TILE_PMC_RBASE (cd n) m).regReset .TILE_PMC_RLIMIT (cd n) m).regReset .TILE_PMC_STATUS (cd n) m

/-- Tile m takes position p, and its counters start at their reset values (17 R500); a lead position on a tile without the path raises ACC.NOLEAD (03 R69). -/
def Base.takePos (b : Base) (n m p : Nat) : Base :=
  let b := (b.wr (posWord p) .TILE_POS (cd n) m).tileTo n m tACTIVE
  let b := b.pmcTileReset n m
  let b := b.pmcEvent (cd n) 4 0x1005 ⟨cd n, m⟩ (b.partOfPos n p)
  if p % 8 = 0 ∧ !preloadTile m then b.accEvent n m 10 0x020B (b.partOfPos n p) else b

/-- The prefetch entries of a position are discarded and counted on the tile that held them (13 R365, 05 R146). -/
def Work.dropPrefetch (w : Work) (id : Nat) : Work := w.freeEntries id fun _ => true

/-- The registers that move with a position (13 R365; ACC_LEND, log entry 62). -/
def movingRegs : List Reg := [.TILE_LEND, .TILE_PF_CTL, .ACC_HOLD_LIMIT, .ACC_EVENT_EN, .ACC_LEND]

/-- Position p moves from tile a to tile b (13 R365). -/
def Work.movePos (w : Work) (n p a b : Nat) : Work :=
  let w := w.idleSweep n a
  let w := w.dropPrefetch (tileUnit n p)
  let w := { w with tiles := w.tiles.copyStore (tileCode n a) (tileCode n b) }
  let base := movingRegs.foldl (fun (c : Base) r => c.wr (c.rd r (cd n) a) r (cd n) b) w.base
  let base := (base.wr 0 .TILE_POS (cd n) a).takePos n b p
  let base := match base.partOfPos n p with
    | some q => base.setStep q fun s => { s with spared := true }
    | none => base
  { w with base := base }

/-- Position p of a tile that leaves it becomes vacant (13 R367). -/
def Work.vacate (w : Work) (n p a : Nat) : Work :=
  let id := tileUnit n p
  let w := w.dropPrefetch id
  let w := w.loseWindow id
  let b := w.base.wr 0 .TILE_POS (cd n) a
  let b := b.wf p 1 1 .DOCK_WT_VACANT (cd n)
  { w with base := b.tileSpr n 3 0x0C04 (b.partOfPos n p) }

/-- Position p of tile a is filled from the pool, or becomes vacant. -/
def Work.refill (w : Work) (n p a : Nat) : Work :=
  match w.base.spareFor n p with
  | some b => w.movePos n p a b
  | none => w.vacate n p a

/-- A vacant position filled by a tile. -/
def Base.fillVacant (b : Base) (n m p : Nat) : Base := (b.wf p 1 0 .DOCK_WT_VACANT (cd n)).takePos n m p

/-- A preload-capable tile of the die is neither FENCED nor RETIRED and holds no lead position: it may still be placed in one (03 R69). -/
def Base.leadLeft (b : Base) (n : Nat) : Bool :=
  (List.range 68).any fun m => preloadTile m && b.tileState n m != tFENCED && b.tileState n m != tRETIRED
    && (match b.posOfTile n m with | some p => p % 8 != 0 | none => true)

/-- At its idle boundary tile c leaves its non-lead position q, which the pool fills, for the vacant lead position p (03 R68). -/
def Work.leadMove (w : Work) (n c q p : Nat) : Work :=
  let w := w.refill n q c
  { w with base := w.base.fillVacant n c p }

/-- A vacant lead position, and a tile without the path that enters the pool: a preload-capable tile moves from its non-lead position to the lead one
and the new tile takes its place, now or at its later idle boundary (03 R68); where the die has none left, the new tile takes the lead position
(03 R69). None where the lead position stays vacant for now. -/
def Work.fillLead (w : Work) (n m p : Nat) : Option Work :=
  match w.base.donorFor n p w.spare.fencing with
  | some c =>
    match w.base.posOfTile n c with
    | some q => some (if w.idleBoundary n c then w.leadMove n c q p else w)
    | none => none
  | none => if w.base.leadLeft n then none else some { w with base := w.base.fillVacant n m p }

/-- A tile enters the pool, and fills a vacant position that it may hold (13 R367, 03 R68, R69): a lead position before any other. DESIGN CHOICE (log
entry 133): of several vacant positions of one kind it fills the lowest-numbered. -/
def Work.enterPool (w : Work) (n m : Nat) : Work :=
  let w := { w with base := w.base.tileTo n m tSPARE }
  let b := w.base
  let lead := (b.vacancies n).find? fun p => p % 8 == 0
  let other : Work := match (b.vacancies n).find? fun p => p % 8 != 0 && b.spareFor n p == some m with
    | some p => { w with base := b.fillVacant n m p }
    | none => w
  match lead with
  | none => other
  | some p => if preloadTile m then { w with base := b.fillVacant n m p } else (w.fillLead n m p).getD other

/-- A tile is retired (13 R368). -/
def Base.retire (b : Base) (n m : Nat) : Base :=
  let v := ofLe (b.cat 0x4030 (n + 1))
  let b := b.tileTo n m tRETIRED
  let b := if v.testBit m then b else b.catSet 0x4030 (n + 1) 9 (v + 2 ^ m)
  b.tileSpr n 2 0x0C03 none

/-- The end of a tap (13 R371): the pointer advances and the period begins again. -/
def Work.tapEnd (w : Work) (n : Nat) (count : Nat) : Work :=
  let v := w.base.rd .DOCK_WT_STATE (cd n)
  let v := fput (fput v 0 7 ((fget v 0 7 + 1) % 68)) 8 3 (if w.base.tapOn n then 0 else 4)
  let v := fput v 32 32 (satAdd 32 (fget v 32 32) count)
  { w with base := w.base.wr v .DOCK_WT_STATE (cd n) }.setTap n { w.tap n with ended := w.base.time, waitFrom := none, retryAt := none }

/-- Tiles FENCED or RETIRED under the pointer are skipped at once (13 R371); so is one under a commanded test (log entry 60). -/
def Base.tapSkip (b : Base) (n : Nat) : Nat → Base
  | 0 => b
  | k + 1 =>
    let m := b.rf 0 7 .DOCK_WT_STATE (cd n)
    if b.tileState n m ≤ 1 then b else (b.wf 0 7 ((m + 1) % 68) .DOCK_WT_STATE (cd n)).tapSkip n k

/-- PHASE, TILE and SPARE of DOCK_WT_STATE (13 R396). -/
def Base.tapMark (b : Base) (n m phase spare : Nat) : Base :=
  b.wr (fput (fput (fput (b.rd .DOCK_WT_STATE (cd n)) 8 3 phase) 16 7 m) 24 7 spare) .DOCK_WT_STATE (cd n)

/-- A tap of the tile under the pointer begins (13 R371, R372). -/
def Work.tapBegin (w : Work) (n : Nat) : Work :=
  let w := { w with base := w.base.tapSkip n 68 }
  let b := w.base
  let m := b.rf 0 7 .DOCK_WT_STATE (cd n)
  let w := w.setTap n { w.tap n with retryAt := none }
  if b.tileState n m = tSPARE then
    let b := (b.tapMark n m 3 m).tileTo n m tTEST
    { w with base := b, spare := { w.spare with tests := w.spare.tests ++ [⟨n, 1, m, 3, true, tSPARE⟩] } }
  else if b.tileState n m = tACTIVE then
    match b.posOfTile n m with
    | none => w
    | some p =>
      match b.spareFor n p with
      | none => { w with base := b.tileSpr n 0 0x0C01 (b.partOfPos n p) }.tapEnd n 0
      | some s => { w with base := b.tapMark n m 1 s }.setTap n { w.tap n with retryAt := none, waitFrom := some b.time }
  else w

/-- The die is in RUN or DOZE (13 R373, 16 R465). -/
def Base.dieRuns (b : Base) (die : Nat) : Bool := decide (b.rf 0 3 .PWR_DIE_STATE die ≤ 1)

/-- The period of compute die n has ended, and its wheel-tap is on, idle and not held (13 R371, R373). -/
def Work.tapDue (w : Work) (n : Nat) : Bool :=
  decide (n < 8) && w.base.tapOn n && w.base.tapPhase n == 0 && (w.tap n).retryAt.isNone && (w.tap n).paused.isNone && w.base.dieRuns (cd n)
    && decide ((w.tap n).ended + sTicks (w.base.catNum 0x4011 (n + 1)) ≤ w.base.time)

/-- WHEEL_TAP (13 R371): the period of compute die n has ended. -/
def Work.wheelTap (w : Work) (n : Nat) : Work :=
  if w.tapDue n then w.tapBegin n else w

/-- IDLE_WAIT_EXPIRY (13 R372): the tap of a tile that has not come to an idle boundary is withdrawn, to be tried again unless the wheel-tap is
disabled by now (13 R373, R396). -/
def Work.idleWait (w : Work) (n : Nat) : Work :=
  let b := w.base
  let lim := msTicks (b.catNum 0x4012 (n + 1))
  match (w.tap n).waitFrom with
  | some t =>
    let m := b.tapTile n
    if b.tapPhase n = 1 ∧ t + lim ≤ b.time ∧ !w.idleBoundary n m then
      let b := b.wf 8 3 (if b.tapOn n then 0 else 4) .DOCK_WT_STATE (cd n)
      { w with base := b.tileSpr n 0 0x0C01 (b.partOfTile n m) }.setTap n
        { w.tap n with waitFrom := none, retryAt := if b.tapOn n then some (b.time + lim) else none }
    else w
  | none => w

/-- WTDEFER_RETRY_EXPIRY (13 R372): the tap of the same tile is tried again. -/
def Work.tapRetry (w : Work) (n : Nat) : Work :=
  match (w.tap n).retryAt with
  | some t =>
    if w.base.tapPhase n = 0 ∧ t ≤ w.base.time ∧ w.base.dieRuns (cd n) then
      if w.base.tapOn n then w.tapBegin n else w.setTap n { w.tap n with retryAt := none }
    else w
  | none => w

/-- Entry 0x4010 written for compute die n (13 R373, R376): a tap in progress finishes. -/
def Work.tapEnable (w : Work) (n : Nat) (on : Bool) : Work :=
  let ph := w.base.tapPhase n
  if !on ∧ ph = 0 then { w with base := w.base.wf 8 3 4 .DOCK_WT_STATE (cd n) }.setTap n { w.tap n with retryAt := none }
  else if on ∧ ph = 4 then { w with base := w.base.wf 8 3 0 .DOCK_WT_STATE (cd n) } else w

/-- The period stops with the die's RUN or DOZE and resumes where it stopped (13 R373). -/
def Work.tapPause (w : Work) (n : Nat) : Work :=
  let t := w.tap n
  if t.paused.isSome then w else w.setTap n { t with paused := some w.base.time }

def Work.tapResume (w : Work) (n : Nat) : Work :=
  let t := w.tap n
  match t.paused with
  | some p => w.setTap n { t with paused := none, ended := t.ended + (w.base.time - p), retryAt := t.retryAt.map (· + (w.base.time - p)) }
  | none => w

/-- A tap is in progress (13 R373). -/
def Base.tapBusy (b : Base) (n : Nat) : Bool := decide (1 ≤ b.tapPhase n ∧ b.tapPhase n ≤ 3)

/-- A tile fenced (13 R366): one that holds a position waits for its idle boundary; any other is FENCED at once. -/
def Work.tileFence (w : Work) (n m : Nat) : Work :=
  if 8 ≤ n ∨ 68 ≤ m then w
  else
    match w.base.tileState n m with
    | 0 => { w with spare := { w.spare with fencing := NSet.add (tileCode n m) w.spare.fencing } }
    | 1 | 2 => { w with base := (w.base.tileTo n m tFENCED).tileSpr n 1 0x0C02 none }
    | _ => w

/-- The data path fences a tile on its own (13 R366, 15 R458). -/
def Work.fenceItself (w : Work) (n m : Nat) : Work :=
  let w := w.tileFence n m
  { w with spare := { w.spare with own := NSet.add (tileCode n m) w.spare.own } }

/-- The tile that leaves is FENCED (13 R366), and one that failed a self-test is retired (R368). -/
def Work.fenced (w : Work) (n m : Nat) (part : Option Nat) : Work :=
  let k := tileCode n m
  let b := (w.base.tileTo n m tFENCED).tileSpr n 1 0x0C02 part
  let b := if w.spare.own.contains k then b.wantsFence n 1 m else b
  { w with
    base := if w.spare.retiring.contains k then b.retire n m else b
    spare := { w.spare with
      fencing := NSet.remove k w.spare.fencing, retiring := NSet.remove k w.spare.retiring, own := NSet.remove k w.spare.own } }

/-- The position of a fenced tile goes to a spare, or, where the die has none, becomes vacant (13 R365, R367). A lead position goes to a tile without
the path only where the die has no unfenced preload-capable tile left for it (03 R69). -/
def Work.fenceMove (w : Work) (n p m : Nat) : Work :=
  match (w.base.spareFor n p).orElse fun _ => if w.base.leadLeft n then none else (w.base.tilesIn n tSPARE).head? with
  | some b => w.movePos n p m b
  | none => w.vacate n p m

/-- The position of a tapped tile goes to spare b, and the tile's test begins (13 R371). -/
def Work.tapMove (w : Work) (n p m b : Nat) : Work :=
  let w := w.movePos n p m b
  let base := w.base.tileTo n m tTEST
  let v := fput (fput (base.rd .DOCK_WT_STATE (cd n)) 8 3 3) 24 7 b
  let w := { w with
    base := base.wr v .DOCK_WT_STATE (cd n)
    spare := { w.spare with tests := w.spare.tests ++ [TestRun.mk n 1 m 3 true tACTIVE] } }
  w.setTap n { w.tap n with waitFrom := none }

/-- The tile that the wheel-tap waits for. -/
def Work.tapped (w : Work) (n m : Nat) : Bool := w.base.tapPhase n == 1 && w.base.tapTile n == m

/-- A tap of a tile that is fenced ends with it. -/
def Work.tapEndIf (w : Work) (tapped : Bool) (n : Nat) : Work := if tapped then w.tapEnd n 0 else w

/-- POSITION_MOVE (13 R364 to R367, 03 R68): the position of a tile that is fenced or tapped moves, once the tiles concerned are idle; a tile that a
vacant lead position waits for moves there. -/
def Work.positionMove (w : Work) (n m : Nat) : Work :=
  let fence := w.spare.fencing.contains (tileCode n m)
  let lead := w.leadAwaits n m
  if !(w.tapped n m || fence || lead.isSome) || !w.idleBoundary n m then w
  else
    match w.base.posOfTile n m, lead with
    | none, _ => w
    | some q, some p => (w.leadMove n m q p).tapEndIf (w.tapped n m) n
    | some p, none =>
      let part := w.base.partOfPos n p
      if fence then
        match w.base.donorFor n p w.spare.fencing with
        | some c =>
          if !w.idleBoundary n c then w
          else
            match w.base.posOfTile n c with
            | none => w
            | some q => (((w.refill n q c).movePos n p m c).fenced n m part).tapEndIf (w.tapped n m) n
        | none => ((w.fenceMove n p m).fenced n m part).tapEndIf (w.tapped n m) n
      else
        match w.base.spareFor n p with
        | none => { w with base := w.base.tileSpr n 0 0x0C01 part }.tapEnd n 0
        | some b => w.tapMove n p m b

/-- The physical core that carries identity k of a die, where one does (01 R21, 13 R369). -/
def Base.coreOf (b : Base) (n k : Nat) : Option Nat :=
  let v := b.rd .DOCK_WT_CORE (cd n)
  if k < 8 ∧ bget v k then some k else if bget v 8 && fget v 18 4 == k then some 8 else none

/-- A core recorded among those that failed for good (13 R369, R376). -/
def Base.coreLost (b : Base) (k : Nat) : Base :=
  let lost := ofLe (b.cat 0x4032 1)
  if lost.testBit k then b else b.catSet 0x4032 1 9 (lost + 2 ^ k)

/-- The step in which a spare took over says so (13 R379). -/
def Base.sparedStep (b : Base) (part : Option Nat) : Base :=
  match part with
  | some q => b.setStep q fun s => { s with spared := true }
  | none => b

/-- CORE_FAIL (13 R369): physical core k of compute die n fails. -/
def Work.coreFail (w : Work) (n k : Nat) : Work :=
  if 8 ≤ n ∨ 9 ≤ k then w
  else
    let b := w.base
    let v := b.rd .DOCK_WT_CORE (cd n)
    if bget v (9 + k) then w
    else
      let b := b.coreLost (9 * n + k)
      let id := if k < 8 then k else fget v 18 4
      let part := b.partOfCore n id
      let src := logic (cd n)
      let v1 := fput v (9 + k) 1 1
      let down := fput v1 k 1 0
      if k < 8 ∧ fget v 18 4 = 15 ∧ !bget v 17 then
        let b := b.wr (fput (fput down 8 1 1) 18 4 k) .DOCK_WT_CORE (cd n)
        let b := b.sprEvent (cd n) 4 0x0C05 src part
        { w with base := b.sparedStep part }
      else
        let b := b.wr down .DOCK_WT_CORE (cd n)
        if id < 8 then { w with base := b.sprEvent (cd n) 5 0x0C06 src part } else { w with base := b }

/-- A unit that DOCK_ST_CMD names on a die may be tested (13 R374). -/
def Work.testable (w : Work) (die kind index : Nat) : Bool :=
  let b := w.base
  match kind with
  | 1 => decide (die < 8 ∧ index < 68) && decide (1 ≤ b.tileState die index)
  | 2 => decide (die < 8 ∧ index < 4) && (b.unitFenced (crvUnit (4 * die + index)) || (b.partOfCrv (4 * die + index)).isNone)
  | 3 => decide (die < 8 ∧ index < 9) &&
      (let v := b.rd .DOCK_WT_CORE (cd die)
       bget v (9 + index) || (index == 8 && fget v 18 4 == 15))
  | 4 => decide (8 ≤ die ∧ die < 40) && (b.unitFenced (updUnit (die - 8)) || (b.partOfStack (die - 8)).isNone)
  | 5 => decide (8 ≤ die ∧ die < 40) && (b.unitFenced (ckptUnit (die - 8)) || (b.partOfStack (die - 8)).isNone)
  | 6 => decide (40 ≤ die ∧ die < 44 ∧ index < 4) &&
      (let e := 4 * (die - 40) + index
       (b.linkState e == 0 || b.linkState e == 6) && (w.unit (ringUnit e)).window.isEmpty)
  | _ => false

/-- The unit index of a die that has one such unit is ignored (13 R396). -/
def testIndex (kind index : Nat) : Nat := if kind = 4 ∨ kind = 5 then 0 else index

/-- SELF_TEST_START (13 R374): START written to DOCK_ST_CMD of a die, whose fields stand in the register. -/
def Work.selfTestStart (w : Work) (die : Nat) : Work :=
  let v := w.base.rd .DOCK_ST_CMD die
  let kind := fget v 0 4
  let index := testIndex kind (fget v 4 7)
  let tests := fget v 11 2
  if w.testable die kind index && tests != 0 && w.base.rf 0 2 .DOCK_ST_STATUS die != 1 then
    let prior := if kind = 1 then w.base.tileState die index else 0
    let b := w.base.wr 1 .DOCK_ST_STATUS die
    let b := if kind = 1 ∧ prior = tSPARE then b.tileTo die index tTEST else b
    { w with base := b, spare := { w.spare with tests := w.spare.tests ++ [⟨die, kind, index, tests, false, prior⟩] } }
  else
    { w with base := (w.base.wf 2 1 1 .DOCK_ST_STATUS die).sprEvent die 7 0x0C08 (logic die) none }

/-- The memories of a tested unit at zero (13 R374). -/
def Work.zeroUnit (w : Work) (t : TestRun) : Work :=
  match t.kind with
  | 1 => { w with tiles := w.tiles.clearStore (tileCode t.die t.index) }
  | 2 => w.setCrv (4 * t.die + t.index) {}
  | 4 => if (t.die - 8) % 4 = 0 then w.setPool ((t.die - 8) / 4) [] else w
  | 6 =>
    let e := 4 * (t.die - 40) + t.index
    let w := w.setOpt e { w.opt e with queue := [], sent := [] }
    { w with ring := { w.ring with held := w.ring.held.filter fun h => h.engine != e } }
  | _ => w

/-- A tile failed a self-test (13 R366, R368): it is retired, after its position has moved where it is ACTIVE. -/
def Work.tileFails (w : Work) (n m : Nat) : Work :=
  if w.base.tileState n m = tACTIVE then
    let w := w.fenceItself n m
    { w with spare := { w.spare with retiring := NSet.add (tileCode n m) w.spare.retiring } }
  else { w with base := w.base.retire n m }

/-- What a failed test does to the unit (13 R368 to R370, R375). -/
def Work.testFail (w : Work) (t : TestRun) : Work :=
  match t.kind with
  | 1 => w.tileFails t.die t.index
  | 2 => w.fenceUnit (crvUnit (4 * t.die + t.index))
  | 3 => w.coreFail t.die t.index
  | 4 => w.fenceUnit (updUnit (t.die - 8))
  | 5 => w.fenceUnit (ckptUnit (t.die - 8))
  | _ => w

/-- The signatures that a test returned and that are not the expected ones (13 R375). -/
def Base.testBadL (b : Base) (t : TestRun) (sig : Nat) : Bool := decide (t.tests % 2 = 1) && decide (sig ≠ b.catNum 0x4020 (2 * t.kind - 1))
def Base.testBadM (b : Base) (t : TestRun) (sig : Nat) : Bool := decide (t.tests / 2 % 2 = 1) && decide (sig ≠ b.catNum 0x4020 (2 * t.kind))

/-- What a test that ended leaves in the registers: its signatures, DOCK_ST_STATUS where it was commanded, and SPR.STFAIL (13 R375, R396). -/
def Base.testReported (b : Base) (t : TestRun) (sigL sigM : Nat) : Base :=
  let bad := b.testBadL t sigL || b.testBadM t sigM
  let b' := if t.tests % 2 = 1 then b.wr (BitVec.ofNat 64 sigL) .DOCK_ST_SIGL t.die else b
  let b' := if t.tests / 2 % 2 = 1 then b'.wr (BitVec.ofNat 64 sigM) .DOCK_ST_SIGM t.die else b'
  let b' := if t.tap then b'
    else b'.wr (BitVec.ofNat 64 ((if bad then 3 else 2) + b.rf 2 1 .DOCK_ST_STATUS t.die * 4
      + b2n (b.testBadL t sigL) * 8 + b2n (b.testBadM t sigM) * 16)) .DOCK_ST_STATUS t.die
  if bad then b'.sprEvent t.die 8 0x0C09 (logic t.die) none else b'

/-- What a test that ended does to its unit (13 R368 to R370, R374, R375). A tile enters the pool when no other test of it runs (R371). -/
def Work.testConcludes (w : Work) (t : TestRun) (bad : Bool) : Work :=
  let w := if t.tests / 2 % 2 = 1 then w.zeroUnit t else w
  if bad then w.testFail t
  else if t.kind = 1 ∧ w.base.tileState t.die t.index = tTEST
      ∧ !(w.spare.tests.any fun u => u.die == t.die && u.kind == 1 && u.index == t.index) then w.enterPool t.die t.index
  else w

/-- SELF_TEST_END (13 R371, R375): a test of a die, by the tap or by command, has returned its signatures. -/
def Work.selfTestEnd (w : Work) (die : Nat) (byTap : Bool) (sigL sigM : Nat) : Work :=
  match w.spare.tests.find? fun t => t.die == die && t.tap == byTap with
  | none => w
  | some t =>
    let bad := w.base.testBadL t sigL || w.base.testBadM t sigM
    let w : Work := { w with
      base := w.base.testReported t sigL sigM
      spare := { w.spare with tests := w.spare.tests.filter fun u => !(u.die == die && u.tap == byTap) } }
    let w := w.testConcludes t bad
    if t.tap then w.tapEnd die 1 else w

end Sys2Proof.Machine
end

