-- ==== Sys2Proof/Machine/Stepping.lean ====
section
/-! DEFINITION. The STEP waybill: closing a partition's step, refreshing its scales, evaluating its watch, the noise table, the verdict record,
the Daybook and replay (13 R377 to R387, 07 R194 to R203, 11 R326, 12 R356 to R358). -/

namespace Sys2Proof.Machine

/-- Some STEP of the partition is being processed, or has been and is not complete (13 R377). -/
def Work.stepBusy (w : Work) (p : Nat) : Bool :=
  (w.stepRun? p).isSome || w.eng.units.any fun u => u.2.window.any fun x => x.part == p && x.opcode == 0xF3 && (x.phase == .running || x.phase == .ended)

/-- The counts that go on until the step's record is formed (log entry 64). -/
def StepAcc.later (a : StepAcc) : StepAcc :=
  { refreshed := a.refreshed
    partials := a.partials
    stale := a.stale
    spared := a.spared
    drops := a.drops
    invalid := a.invalid
    timedEvents := a.timedEvents }

/-- IO0's requests for the Daybook of partition p (13 R381). IO0 belongs to no partition and stands in no list of verified readers, so its reads are
not verified (12 R352, R355; log entry 121). -/
def dayReq (p : Nat) : MemReq := { unitReq p io0 with byUnit := false, consumes := false }

/-- In replay mode, the reference record as it stands when processing begins (13 R386). -/
def Base.dayReference (b : Base) (p : Nat) : Base × Option (Nat × List Byte × Bool) :=
  if b.rf 0 1 .DOCK_DB_CTL 40 0 p = 1 then
    let a := b.rf 7 45 .DOCK_DB_CTL 40 0 p * 128
    let (b, ref, bad) := b.readBytes (dayReq p) a 128
    (b, some (a, ref, bad))
  else (b, none)

/-- STEP processing begins: the accumulators of the step are closed, with the STEP's own digest value in them (13 R378, R379, log entry 63). -/
def Work.stepClose (w : Work) (id : Nat) (x : Wb) : Work :=
  let p := x.part
  let b := w.base
  let acc := b.stepAcc p
  let acc := { acc with streamdig := (acc.streamdig + x.digestValue) % 2 ^ 64, wbcount := acc.wbcount + 1 }
  let mine := fun (c : Nat × NoiseGroup) => c.1 / 256 == p
  let closed : Base := { b with
    steps := Map.put p acc.later b.steps
    verdicts := Map.put p {} b.verdicts }
  let (b', ref) := closed.dayReference p
  let run : StepRun := ⟨id, x.queue, x.seq, acc, b.verdict p, (w.ring.noise.filter mine).map fun c => (c.1 % 256, c.2), ref⟩
  { w with
    base := b'
    ring := { w.ring with noise := w.ring.noise.filter fun c => !mine c }
    stepping := Map.put p run w.stepping }

/-- choose_scale (07 R195): s, r, and whether s was limited. -/
def chooseScale (a M : Nat) : Nat × Nat × Bool :=
  match f32v a with
  | .fin _ m e =>
    if m = 0 then (f32one, f32one, false)
    else
      let n := m * 2 ^ 60
      let s0 := f32up (.fin false (2 * (n / 127) + b2n (decide (n % 127 ≠ 0))) (e + M - 61))
      let fits := fun (s : Nat) => ((Num.fin false m e).mul (f32v (f32div f32one s))).le (.fin false 127 (-(M : Int)))
      let s := ((List.range 8).find? fun k => fits (s0 + k)).getD 0 + s0
      if 0x7E800000 < s then (0x7E800000, f32div f32one 0x7E800000, true)
      else if s < 0x00800000 then (0x00800000, f32div f32one 0x00800000, true)
      else (s, f32div f32one s, false)
  | _ => (0x7E800000, f32div f32one 0x7E800000, true)

/-- The largest value of rows g, g − 1, … of a cell, and whether some row was unreadable (07 R194). -/
def Base.cellMax (p cell g L : Nat) : Nat → Base → Nat → Bool → Base × Nat × Bool
  | 0, b, a, bad => (b, a, bad)
  | k + 1, b, a, bad =>
    let (b, x) := b.dieRead p (cell + 4 * ((g + L - k % L) % L)) 4
    match x with
    | none => Base.cellMax p cell g L k b a true
    | some x =>
      if f32isNan x then Base.cellMax p cell g L k b a true
      else Base.cellMax p cell g L k b (if (f32v a).lt (f32v x) then x else a) bad

/-- The refresh of a channel (07 R194). -/
def Base.refreshChannel (b : Base) (p : Nat) (e : HistEntry) (L fill g c : Nat) : Base × Bool × Bool :=
  let cell := e.cells + 256 * c
  let (b, a, bad) := Base.cellMax p cell g L fill b 0 false
  let (s, r, clamped) := chooseScale a e.margin
  let b := b.storeBytes (b.dieReq p (e.vec + 8 * c)) (e.vec + 8 * c) (leBytes 4 s ++ leBytes 4 r) false
  (b.dieWrite p (cell + 4 * ((g + 1) % L)) 4 0, bad, clamped)

def Base.refreshChannels (p : Nat) (e : HistEntry) (L fill g : Nat) : Nat → Nat → Base → Base × Bool × Bool
  | 0, _, b => (b, false, false)
  | n + 1, c, b =>
    let (b, x, y) := b.refreshChannel p e L fill g c
    let (b, x', y') := Base.refreshChannels p e L fill g n (c + 1) b
    (b, x || x', y || y')

/-- The refresh of an entry (07 R194). Its events name the die that holds the table entry (log entry 120). -/
def Base.refreshEntry (b : Base) (p H h : Nat) : Base :=
  let a := b.histAddr p h
  let (b, e) := b.histEntry p h
  let src := (b.dieReq p a).src
  match e with
  | none => b.sclEvent p 4 0x0605 src
  | some e =>
    if !e.track then b
    else if 65 ≤ e.len then b.sclEvent p 4 0x0605 src
    else
      let L := e.L
      let tooMany := decide (L < e.fill)
      let fill := min ((if tooMany then 0 else e.fill) + 1) L
      let (b, bad, clamped) := Base.refreshChannels p e L fill (H % L) e.ch 0 b
      let b := b.dieWrite p (a + 22) 2 fill
      let b := if tooMany || bad then b.sclEvent p 4 0x0605 src else b
      if clamped then b.sclEvent p 6 0x0607 src else b

/-- Tracked entries whose FILL is below L (07 R205, R207). -/
def Base.unfilled (b : Base) (p : Nat) : Nat :=
  ((upto (b.now 0x7011 p - 1) 1).filter fun h =>
    match (b.histEntry p h).2 with
    | some e => e.track && decide (e.fill < e.L)
    | none => false).length

/-- The refresh of every tracked entry of partition p, and HSTEP advanced (07 R194). -/
def Base.refresh (b : Base) (p : Nat) : Base :=
  let H := b.hstep p
  let b := (upto (b.now 0x7011 p - 1) 1).foldl (fun (b : Base) h => b.refreshEntry p H h) b
  let b := b.wf 0 13 (b.unfilled p) .DOCK_SCL_FILL 40 0 p
  b.wf 0 32 ((H + 1) % 2 ^ 32) .DOCK_SCL_HSTEP 40 0 p

/-- A share (07 R200). -/
def share (count total : Nat) : Nat := if total = 0 then 0 else min (count * 2 ^ 32 / total) 0xFFFFFFFF

/-- A watch event with DOCK_SCL_LAST (07 R207). -/
def Base.watchEvent (b : Base) (p z fmt code : Nat) (src : Src) : Base :=
  let b := b.wr (BitVec.ofNat 64 (z + fmt * 2 ^ 10 + code * 2 ^ 16 + b.hstep p * 2 ^ 32)) .DOCK_SCL_LAST 40 0 p
  b.sclEvent p (code % 256 - 1) code src

/-- The evaluation of slot z (07 R201, R202); `H` is the step evaluated. Answers whether the record was poisoned. -/
def Base.watchSlot (b : Base) (p H z : Nat) : Base × Bool :=
  let a := b.now 0x7012 p + 256 * z
  let rq := b.dieReq p a
  let (b, l, bad) := b.readBytes rq a 256
  if bad then (b.storeBytes rq a (List.replicate 256 0) false, true)
  else
    let n := fun (f k : Nat) => fieldAt l (48 * f + 8 * k) 8
    let fs := (List.range 5).filter fun f => n f 0 != 0
    if fs.isEmpty then (b, false)
    else
      let (b, l) := fs.foldl (fun (s : Base × List Byte) f =>
        let ov := share (n f 1) (n f 0)
        let va := share (n f 2) (n f 0)
        let l := splice s.2 (48 * f + 40) (leBytes 4 ov ++ leBytes 4 va)
        let b := if b.now 0x7013 p < ov then s.1.watchEvent p z f 0x0602 rq.src else s.1
        (if b.now 0x7014 p < va then b.watchEvent p z f 0x0603 rq.src else b, l)) (b, l)
      let gel := ((List.range 5).map fun f => n f 3).sum
      let nz := share (((List.range 5).map fun f => n f 4).sum) gel
      let l := splice l 244 (leBytes 4 nz)
      let (b, l) :=
        if gel = 0 ∨ b.now 0x7017 p = 0 then (b, l)
        else
          let N := b.now 0x7016 p
          let run := if nz < b.now 0x7015 p then satAdd 32 (fieldAt l 240 4) 1 else 0
          let b := if nz < b.now 0x7015 p ∧ run % N = 0 then b.watchEvent p z 7 0x0601 rq.src else b
          (b, splice (splice l 240 (leBytes 4 run)) 248 (leBytes 4 H ++ leBytes 1 (b2n (decide (N ≤ run)))))
      let l := (List.range 5).foldl (fun (l : List Byte) f => splice l (48 * f) (List.replicate 40 0)) l
      (b.storeBytes rq a l false, false)

/-- The evaluation of the watch table (07 R201, R203). SCL.HISTBAD comes once a step, from the die that holds the first poisoned record (log entry
120). -/
def Base.watch (b : Base) (p H : Nat) : Base :=
  if b.now 0x7012 p = 0 then (if b.now 0x7017 p = 1 then b.sclEvent p 8 0x0609 io0 else b)
  else
    let (b, bad) := (List.range 1024).foldl (fun (s : Base × Option Nat) z =>
      let (b, r) := s.1.watchSlot p H z
      (b, s.2 <|> (if r then some z else none))) (b, none)
    match bad with
    | some z => b.sclEvent p 4 0x0605 (b.dieReq p (b.now 0x7012 p + 256 * z)).src
    | none => b

/-- A noise sum as binary32 (11 R326). -/
def noiseSum (g : NoiseGroup) (s : Nat) : Nat := if g.nonfinite then 0x7FC00000 else f32r (.fin false s (-149))

/-- The 32 bytes of a noise record (11 R326). -/
def NoiseGroup.record (g : NoiseGroup) (s : Nat) : List Byte :=
  leBytes 4 (noiseSum g g.sumQ) ++ leBytes 4 (noiseSum g g.sumR) ++ leBytes 4 (min g.count (2 ^ 32 - 1)) ++ leBytes 4 g.size ++ leBytes 8 g.elems
    ++ leBytes 4 s ++ leBytes 1 (b2n g.nonfinite + b2n g.mixed * 2 + b2n g.late * 4) ++ leBytes 3 0

/-- What the Daybook takes from the noise table (13 R382): SUMQ, SUMR, ELEMS, NOISEDIG, and the number of records with LATE. -/
structure NoiseFigures where
  q : Nat := 0
  r : Nat := 0
  elems : Nat := 0
  dig : Nat := 0
  late : Nat := 0
  deriving DecidableEq, Repr

/-- The noise table written (11 R326): groups with a nonzero count, where RING_NOISE names a table. -/
def Base.noiseTable (b : Base) (p s : Nat) (l : List (Nat × NoiseGroup)) : Base × NoiseFigures :=
  let a := b.rf 13 39 .RING_NOISE 40 0 p * 8192
  let l := if a = 0 then [] else l.filter fun c => c.2.count != 0
  let b := l.foldl (fun (b : Base) c => b.storeBytes (unitReq p io0) (a + 32 * c.1) (c.2.record s) false) b
  (b,
    { q := l.foldl (fun t c => f32add t (noiseSum c.2 c.2.sumQ)) 0
      r := l.foldl (fun t c => f32add t (noiseSum c.2 c.2.sumR)) 0
      elems := (l.foldl (fun t c => t + c.2.elems) 0) % 2 ^ 64
      dig := if l.isEmpty then 0 else digest (l.flatMap fun c => leBytes 1 c.1 ++ c.2.record s)
      late := l.countP fun c => c.2.late })

/-- FAIL and NOTES of a verdict, and the verdict itself (12 R357, R358). `off` says that the step did not run in verified mode. -/
def Verdict.fail (v : Verdict) : Nat :=
  b2n (decide (v.replayFail ≠ 0)) + b2n v.sealBad * 2 + b2n v.digest * 4 + b2n (decide (v.poison ≠ 0)) * 8 + b2n v.epoch * 16 + b2n v.lost * 32
def Verdict.notes (v : Verdict) (off : Bool) : Nat :=
  b2n v.replayed + b2n (decide (v.tilesUnchk ≠ 0)) * 2 + b2n v.unsealed * 4 + b2n v.late * 8 + b2n off * 16
def Verdict.result (v : Verdict) (off : Bool) : Nat :=
  if v.fail ≠ 0 then 3 else if off || v.unsealed then 0 else if v.replayed then 2 else 1

/-- The 64 bytes of a verdict record (12 R358). -/
def Verdict.record (v : Verdict) (s : Nat) (off : Bool) : List Byte :=
  let n := fun (k x : Nat) => leBytes k (min x (2 ^ (8 * k) - 1))
  leBytes 4 s ++ leBytes 1 (v.result off) ++ leBytes 1 v.fail ++ leBytes 1 (v.notes off) ++ leBytes 1 0 ++ n 8 v.tilesChk ++ n 8 v.tilesUnchk ++ n 4 v.abft
    ++ n 4 v.replayFail ++ n 8 v.sealVer ++ n 4 v.sealFail ++ n 4 v.unsealedReads ++ n 4 v.digCmp ++ n 4 v.digFail ++ n 4 v.poison ++ leBytes 4 0

/-- The verdict record written, with CHK.NORECORD, CHK.VERDICT and the registers of 12 R361. -/
def Base.verdictWrite (b : Base) (p s : Nat) (v : Verdict) (off : Bool) : Base :=
  let a := b.catNum 0x4002 (p + 1)
  let b := if a = 0 then b
    else if a % 64 = 0 ∧ b.runOwned p a 64 = true then b.recordWrite 40 p a (v.record s off)
    else b.raise 0x0B09 (checkUnits 40) (some p)
  let res := v.result off
  let b := b.wr (BitVec.ofNat 64 (res + v.fail * 2 ^ 8 + v.notes off * 2 ^ 16 + s % 2 ^ 32 * 2 ^ 32)) .CHK_VD_LAST 40 0 p
  if res = 3 then (b.countSat 1 0 32 .CHK_VD_STEPS 40 0 p).raise 0x0B08 (checkUnits 40) (some p)
  else if res = 2 then b.countSat 1 32 32 .CHK_VD_STEPS 40 0 p
  else b

/-- FLAGS of a Daybook record (13 R383). -/
def dayFlags (a : StepAcc) (digest timed : Bool) : Nat :=
  b2n a.histfill + b2n digest * 2 + b2n a.invalid * 4 + b2n timed * 8 + b2n a.nonfinite * 16 + b2n a.trapped * 32 + b2n a.spared * 64
    + b2n a.ckpt * 128 + min a.drops 0xFFFF * 65536

/-- A Daybook record (13 R382). `H` is the scale-history pointer that the step used. -/
def Base.dayRecord (b : Base) (p s H : Nat) (a : StepAcc) (v : Verdict) (off : Bool) (f : NoiseFigures) : Base × List Byte :=
  let (b, ck) := b.ckNewest (dayReq p) p
  let n := a.timedCount + a.timedEvents + b2n v.late + f.late
  let body := leBytes 8 s ++ leBytes 8 (b.seedOf p) ++ leBytes 8 a.streamdig ++ leBytes 8 a.wbcount ++ leBytes 8 a.statedig ++ leBytes 4 (min a.slices (2 ^ 32 - 1))
    ++ leBytes 4 H ++ b.epochs ++ leBytes 4 f.q ++ leBytes 4 f.r ++ leBytes 8 f.elems ++ leBytes 8 f.dig
    ++ leBytes 1 (v.result off) ++ leBytes 1 v.fail ++ leBytes 1 (v.notes off) ++ leBytes 1 0 ++ leBytes 4 (dayFlags a (v.digest || a.digest) (n != 0))
    ++ leBytes 8 a.tstart ++ leBytes 8 b.time ++ leBytes 2 (min a.refreshed 65535) ++ leBytes 2 (min a.partials 65535) ++ leBytes 2 (min a.stale 65535)
    ++ leBytes 2 (min n 65535)
    ++ (match ck with
      | some (g, k) => leBytes 4 (g + 2) ++ leBytes 4 k
      | none => leBytes 8 0)
  (b, body ++ leBytes 8 (digest body))

/-- Two Daybook records agree in a group of fields. -/
def dayDiff (r o : List Byte) (fields : List (Nat × Nat)) : Bool := fields.any fun c => fieldAt r c.1 c.2 != fieldAt o c.1 c.2

/-- DIFF of a replayed record against its reference (13 R386). -/
def dayCompare (ref own : List Byte) (bad : Bool) : Nat :=
  let fl := fun (l : List Byte) => let f := fieldAt l 84 4; (f % 4, f / 16 % 4, f / 65536)
  let bits := [dayDiff ref own [(0, 8)], dayDiff ref own [(8, 8)], dayDiff ref own [(16, 8), (24, 8)], dayDiff ref own [(32, 8), (40, 4)],
    dayDiff ref own [(44, 4)], dayDiff ref own [(56, 4), (60, 4), (64, 8), (72, 8)], dayDiff ref own [(104, 2), (106, 2), (108, 2)],
    fl ref != fl own, bad || fieldAt ref 120 8 != digest (slice ref 0 120)]
  ((bits.zipIdx).map fun c => b2n c.1 * 2 ^ c.2).sum

/-- The Daybook record written, or in replay mode written beside its reference `ref` and compared (13 R381, R386). -/
def Base.dayWrite (b : Base) (p s : Nat) (rec_ : List Byte) (ref : Option (Nat × List Byte × Bool)) : Base :=
  match ref with
  | some (a, ref, bad) =>
    let b := b.storeBytes (dayReq p) (a + 128) rec_ false
    let d := dayCompare ref rec_ bad
    let b := b.wr (BitVec.ofNat 64 (d + 2 ^ 16 + s % 2 ^ 32 * 2 ^ 32)) .DOCK_DB_RPLRES 40 0 p
    if d = 0 then b else b.psprEvent p 3 0x0C0D io0
  | none => b.storeBytes (dayReq p) (b.rf 12 40 .DOCK_DB_BASE 40 0 p * 4096 + 128 * (s % 4096)) rec_ false

/-- What is left of the accumulators for the step that opens. -/
def StepAcc.opened (a : StepAcc) (histfill : Bool) (time : Nat) : StepAcc :=
  { a with refreshed := 0, partials := 0, stale := 0, spared := false, drops := 0, invalid := false, timedEvents := 0, histfill := histfill, tstart := time }

/-- The accumulators of the closed step with what is counted until its record is formed (log entry 64). -/
def StepAcc.closedWith (a late : StepAcc) : StepAcc :=
  { a with
    refreshed := late.refreshed
    partials := late.partials
    stale := late.stale
    spared := late.spared
    drops := late.drops
    invalid := late.invalid
    timedEvents := late.timedEvents }

/-- The step that opens, in the registers and the accumulators: HISTFILL as the closed step had it, the time that STEP took, the counts of what came
after the record was formed, TSTART, VERDICT_LATE on what was already in the next verdict, and the HSTEP write that waited (13 R378, R379, 07
R207). -/
def Base.openStep (b : Base) (p start : Nat) (acc late : StepAcc) (held : Option Nat) : Base :=
  let b := b.wf 13 1 (b2n acc.histfill) .DOCK_SCL_FILL 40 0 p
  let b := b.wf 0 32 (min (b.time - start) (2 ^ 32 - 1)) .DOCK_SCL_REFRESH 40 0 p
  let b := b.setStep p fun _ => late.opened (decide (b.unfilled p ≠ 0)) b.time
  let b := if b.verdict p = {} then b else b.setVerdict p fun v => { v with late := true }
  match held with
  | some v => b.wf 0 32 v .DOCK_SCL_HSTEP 40 0 p
  | none => b

/-- Noise groups of partition p that have begun are marked late (11 R326). -/
def lateNoise (p : Nat) (l : List (Nat × NoiseGroup)) : List (Nat × NoiseGroup) :=
  l.map fun c => if c.1 / 256 = p then (c.1, { c.2 with late := true }) else c

/-- STEP processing is over: what it held for partition p is given up. -/
def Work.closeStep (w : Work) (p : Nat) : Work :=
  let w := w.stepOver p
  { w with
    scale := { w.scale with heldHstep := Map.del p w.scale.heldHstep, lateRaised := w.scale.lateRaised.filter fun c => c.1 != p }
    ring := { w.ring with noise := lateNoise p w.ring.noise, ended := w.ring.ended.filter fun c => w.base.linePart c.1 != p } }

/-- STEP: the processing of 13 R378 after the accumulators were closed. -/
def Work.stepWb (w : Work) (id q seq : Nat) : Work :=
  match w.wb? id q seq with
  | none => w
  | some x =>
    let p := x.part
    match w.stepRun? p with
    | none => w
    | some run =>
      if x.phase = .running ∧ x.opcode = 0xF3 ∧ run.queue = q ∧ run.seq = seq then
        let s := w.base.stepOf p
        let H := w.base.hstep p
        let off := !w.base.verifiedMode p
        let w := w.foldStepEnd p s
        let b := (w.base.refresh p).watch p H
        let (b, f) := b.noiseTable p s run.noise
        let b := b.verdictWrite p s run.verdict off
        let late := b.stepAcc p
        let acc := run.acc.closedWith late
        let (b, rec_) := b.dayRecord p s H acc run.verdict off f
        let b := b.dayWrite p s rec_ run.ref
        let b := b.wr (BitVec.ofNat 64 (s + 1)) .DOCK_DB_STEP 40 0 p
        let b := b.boundary p
        let b := b.openStep p x.startTime acc late (Map.find p w.scale.heldHstep)
        let w := ({ w with base := b } : Work).closeStep p
        (((w.poolStep p).foldStepBegin p ((s + 1) % 2 ^ 64)).setWb id (x.endWith 1))
      else w

/-- The partition is quiet (13 R384). -/
def Work.quiet (w : Work) (p : Nat) : Bool :=
  (w.eng.units.all fun u => u.2.window.all fun x => x.part != p || x.phase == .issued)
    && (w.stepRun? p).isNone
    && (w.upd.pools.all fun c => c.2.all fun g => g.part != p)
    && (w.curv.engines.all fun c => c.2.held.all fun d => d.part != p)
    && (w.ring.held.all fun f => w.base.linePart f.frame.line != p)

/-- DB_STEP_WRITE (13 R384): the step number set while the partition is quiet; its held Catalogue writes apply (log entry 65). -/
def Work.dbStepWrite (w : Work) (p : Nat) (data : Word) : Work :=
  if p < 8 then
    if w.quiet p then
      let b := (w.base.wr data .DOCK_DB_STEP 40 0 p).boundary p
      let b := b.setStep p fun a => { a with histfill := decide (b.unfilled p ≠ 0) }
      ((({ w with base := b }.poolStep p).ringForget p).foldStepBegin p data.toNat)
    else { w with base := w.base.psprEvent p 1 0x0C0B io0 }
  else w

/-- DB_REPLAY_WRITE (13 R384, R397): DOCK_DB_CTL.REPLAY written, and RPL with it. REPLAY is stored only while the partition is quiet; otherwise
SPR.DBSTEP is raised whatever the value written. RPL is stored in any case. -/
def Work.dbCtlWrite (w : Work) (p : Nat) (data : Word) : Work :=
  if p < 8 then
    let b := w.base
    let old := b.rd .DOCK_DB_CTL 40 0 p
    let v := fput (fput 0 7 45 (fget data 7 45)) 0 1 (fget old 0 1)
    if w.quiet p then { w with base := b.wr (fput v 0 1 (fget data 0 1)) .DOCK_DB_CTL 40 0 p }
    else { w with base := (b.wr v .DOCK_DB_CTL 40 0 p).psprEvent p 1 0x0C0B io0 }
  else w

/-- AMAX_RECORD (07 R193, R196): the oldest maximum on its way reaches its die, during its entry's refresh where `during` says so. -/
def Work.amaxRecord (w : Work) (during : Bool) : Work :=
  match w.scale.amax with
  | [] => w
  | m :: r =>
    let w := { w with scale := { w.scale with amax := r } }
    if during && (w.stepRun? m.part).isSome
      then { w with scale := { w.scale with heldAmax := w.scale.heldAmax ++ [{ m with row := w.base.hstep m.part + 1 }] } }
    else { w with base := w.base.amaxApply m.part m.entry m.channel m.value (w.base.hstep m.part) }

/-- AMAX_HELD_APPLY (07 R196): the oldest held maximum whose refresh has ended is applied to the row after that refresh's. -/
def Work.amaxHeldApply (w : Work) : Work :=
  match w.scale.heldAmax.find? fun m => (w.stepRun? m.part).isNone with
  | none => w
  | some m =>
    let b := w.base.amaxApply m.part m.entry m.channel m.value m.row
    let b := b.countSat 1 32 32 .DOCK_SCL_REFRESH 40 0 m.part
    let first := !w.scale.lateRaised.contains (m.part, m.entry)
    let b := if first then (b.sclEvent m.part 7 0x0608 (b.dieReq m.part (b.histAddr m.part m.entry)).src).timedHit m.part else b
    { w with
      base := b
      scale := { w.scale with
        heldAmax := w.scale.heldAmax.erase m
        lateRaised := if first then (m.part, m.entry) :: w.scale.lateRaised else w.scale.lateRaised } }

/-- WATCH_REPORT (07 R200): the oldest count report is added; one that arrives while STEP processing evaluates its record is held until that is over. -/
def Work.watchReport (w : Work) (during : Bool) : Work :=
  match w.scale.watch with
  | [] => w
  | m :: r =>
    if during && (w.stepRun? m.part).isSome then { w with scale := { w.scale with watch := r, heldWatch := w.scale.heldWatch ++ [m] } }
    else { w with base := w.base.watchApply m.part m.counts, scale := { w.scale with watch := r } }

/-- HSTEP_WRITE (07 R207): applied at once, or after STEP processing if it arrives during it. -/
def Work.hstepWrite (w : Work) (p v : Nat) : Work :=
  if p < 8 then
    if (w.stepRun? p).isSome then { w with scale := { w.scale with heldHstep := Map.put p (v % 2 ^ 32) w.scale.heldHstep } }
    else { w with base := w.base.wf 0 32 v .DOCK_SCL_HSTEP 40 0 p }
  else w

end Sys2Proof.Machine
end

