-- ==== Sys2Proof/Machine/Start.lean ====
section
/-! DEFINITION. The start of a waybill: when it is startable, the checks of step 8 of 04 R537, and what starting does (04 R111, R115, R116). -/

namespace Sys2Proof.Machine

/-- A STATFEED or PRECOND that multiplies takes an AUTO set, and a filler both (03 R74, R94, 09 R253, R257). -/
def Work.productStart (w : Work) (id : Nat) (x : Wb) : StartRes :=
  let job : Job := { part := x.part, chain := none, members := [(x.queue, x.seq)], named := none, sets := [], pre := false,
                     decl := 0, int := false, long := false }
  let enter := fun (sets : List Nat) (st : Nat) =>
    let b := sets.foldl (fun (b : Base) k => b.setPut id k st false x.part 0 0) w.base
    StartRes.start ({ w with base := b }.setJobs id (w.jobs id ++ [{ job with sets := sets }]))
  if x.filler then enter [0, 1] sLENT
  else
    match w.freeSets id x.queue x.seq with
    | [] => .wait w
    | k :: _ => enter [k] sACCUM

/-- A CONVERT or THREADS runs on a tile position (04 R111). -/
def Work.vectorBusy (w : Work) (id : Nat) : Bool := (w.unit id).window.any fun y => y.phase == .running && (y.opcode == 4 || y.opcode == 8)

/-- The tile that holds a position starts no waybill now (13 R365, R372). -/
def Work.posStopped (w : Work) (id : Nat) : Bool := match w.base.tileOf id with | some (n, m) => w.tileStopped n m | none => true

/-- A filler starts: both sets LENT, and its lending noted (03 R94, R96). -/
def Work.lendTo (w : Work) (id : Nat) (x : Wb) : Work :=
  match w.base.tileOf id with
  | none => w
  | some (n, m) =>
    let b := [0, 1].foldl (fun (b : Base) k => b.setPut id k sLENT false x.part 0 0) w.base
    let b := (b.wf 0 2 1 .ACC_LEND (cd n) m).wf 3 3 x.part .ACC_LEND (cd n) m
    { w with base := b, tiles := { w.tiles with lends := Map.put id { queue := x.queue, seq := x.seq, borrower := x.part } w.tiles.lends } }

/-- The conditions of a tile waybill by its opcode (03 R73 to R89, 04 R111, 09 R253, R258). DESIGN CHOICE (log entry 126): every product that has
started and not ended counts among the two waybills that use sets, a spilled filler and one that waits for its replay too, though they hold no set;
R111 does not say. -/
def Work.tileStart (w : Work) (id : Nat) (x : Wb) : StartRes :=
  let users := (w.jobs id).length
  match x.opcode with
  | 1 => w.mmStart id x (decide (users ≥ 2))
  | 4 | 8 => if w.vectorBusy id then .wait w else .start w
  | 9 =>
    let full := w.base.effectiveMode x.part (x.oparg % 4) == 2
    if full && !x.filler && (decide (users ≥ 2) || (w.freeSets id x.queue x.seq).isEmpty) then .wait w
    else
      match w.base.precondStart x with
      | none => .reject 0x0303
      | some (b, y) =>
        let w := { w with base := b }.setWb id y
        if y.preFull then w.productStart id y else .start w
  | 0x0A =>
    if w.base.effectiveMode x.part x.sfMode = 0 then .start w
    else if users ≥ 2 then .wait w else w.productStart id x
  | _ => .start w

/-- A position as it is once its filler has spilled: both sets FREE, and its product holds none (03 R94). -/
def Work.unlent (w : Work) (id : Nat) : Work :=
  match w.lending id with
  | none => w
  | some l =>
    { w with base := if w.lent id then w.base.setsTo id sFREE [0, 1] else w.base }.setJobs id
      ((w.jobs id).map fun (j : Job) => if j.members == [(l.queue, l.seq)] then { j with sets := [] } else j)

/-- The conditions of a waybill on a tile position by its opcode, the common ones among them (04 R111). -/
def Work.opStart (w : Work) (id : Nat) (x : Wb) : StartRes :=
  if x.opcode < 0xF0 then w.tileStart id x
  else if x.opcode = 0xF3 ∧ w.stepBusy x.part then .wait w
  else .start w

/-- A start attempt waits. -/
def StartRes.waits (r : StartRes) : Bool := match r with | .wait _ => true | _ => false

/-- An owner waybill of a tile position is startable but for the sets that a filler holds (03 R94, 04 R111). -/
def Work.ownerReady (w : Work) (id : Nat) : Bool :=
  !w.posStopped id && (w.unit id).window.any fun x =>
    !x.filler && w.basicReady id x && !(x.hasDeadline && decide (x.deadline < w.base.time)) && !((w.unlent id).opStart id x).waits

/-- A filler may start on its position (03 R94, 11 R334). -/
def Work.fillerMay (w : Work) (id : Nat) : Bool :=
  (match w.base.tileOf id with
    | some (n, m) => w.base.eff 0 1 .TILE_LEND n m == 1
    | none => false)
    && w.base.setState id 0 == sFREE && w.base.setState id 1 == sFREE && (w.jobs id).isEmpty && (w.claimsOf id).isEmpty
    && (w.lending id).isNone && !w.ownerReady id

/-- Tile waybills: a stopped tile starts none; an owner waits for a filler to spill, a filler for its turn (03 R94, 13 R366, R372). -/
def Work.tileMay (w : Work) (id : Nat) (x : Wb) : StartRes :=
  match w.base.tileOf id with
  | none => .wait w
  | some (n, m) =>
    if w.tileStopped n m then .wait w
    else if x.filler then
      if w.fillerMay id then
        match w.tileStart id x with
        | .start w => .start (w.lendTo id x)
        | r => r
      else .wait w
    else if w.lent id then .wait w
    else w.tileStart id x

/-- The scratch area of an engine is too small for a block of the range, or not the partition's (10 R276). -/
def Work.scratchBad (w : Work) (e : Nat) (x : Wb) : Bool :=
  let b := w.base
  let size := b.rf 0 32 .CRV_SCRSIZE (cd (e / 4)) (e % 4)
  let c := w.crv e
  let blocks := (c.tt.drop x.refFirst).take x.refCount
  (blocks.any fun t => ttOp t != 0 && (let sd := c.sd.getD (ttSd t) []; decide (4096 * size < 16 * (sdM sd * sdM sd + sdN sd * sdN sd))))
    || !b.runOwned x.part (b.rf 12 40 .CRV_SCRATCH (cd (e / 4)) (e % 4) * 4096) (4096 * size)

/-- Curvature waybills (09 R263, R264, 10 R276, R289, R290). -/
def Work.crvStart (w : Work) (id e : Nat) (x : Wb) : StartRes :=
  let c := w.crv e
  let running := fun (p : Wb → Bool) => (w.unit id).window.any fun y => y.phase == .running && p y
  let fold := x.opcode == 0x20
  if c.installing.isSome then .wait w
  else if fold && running (fun y => y.opcode == 0x20) then .wait w
  else if !fold && running (fun y => y.opcode == 0x21 || y.opcode == 0x22) then .wait w
  else if !w.base.crvInstalled e then .reject 0x0802
  else if x.refFirst + x.refCount > w.base.rf 16 13 .CRV_TTCOUNT (cd (e / 4)) (e % 4) then .reject (if fold then 0x0803 else 0x0908)
  else if !fold && w.scratchBad e x then .reject 0x0909
  else .start w

/-- A waybill of unit u was accepted before one of unit id: by the timebase, in one tick by the units' order (log entry 135), in one unit by its
window's. -/
def Work.acceptedBefore (w : Work) (u : Nat) (y : Wb) (id : Nat) (x : Wb) : Bool :=
  if u = id then ((w.unit id).window.takeWhile fun z => !(z.queue == x.queue && z.seq == x.seq)).any fun z => z.queue == y.queue && z.seq == y.seq
  else decide (y.acceptTime < x.acceptTime ∨ (y.acceptTime = x.acceptTime ∧ u < id))

/-- Ring waybills (11 R319, R320, R330): a running place, and the order of a line's reshards on all ring engines. -/
def Work.ringStart (w : Work) (id : Nat) (x : Wb) : StartRes :=
  let mine := (w.unit id).window.filter fun y => y.phase == .running && decide (y.opcode < 0xF0)
  let p := x.part
  let line := fun (y : Wb) => y.phase == .running && decide (0x60 ≤ y.opcode ∧ y.opcode ≤ 0x64) && y.ringLine == x.ringLine
  let others := w.eng.units.any fun u => u.2.window.any fun y => line y && (x.opcode == 0x64 || y.opcode == 0x64)
  let before := w.eng.units.any fun u => u.2.window.any fun y =>
    y.phase == .accepted && y.opcode == 0x64 && y.ringLine == x.ringLine && w.acceptedBefore u.1 y id x
  if decide (mine.length ≥ 8) || decide ((mine.countP fun y => y.part == p) ≥ w.base.ringPlaces 8 p) || others || before then .wait w
  else if x.opcode = 0x64 then
    match x.desc 0 with
    | none => .reject 0x0A0F
    | some d =>
      let (b, l, bad) := w.base.readBytes (w.base.cx id x).req d.base 16
      if bad then .reject 0x0303
      else if b.recordBad x.ringLine l then .reject 0x0A0F
      else .start { w with base := b }
  else .start w

/-- The unit-specific conditions and checks of a waybill (04 R111, R537 step 8). -/
def Work.startOf (w : Work) (id : Nat) (x : Wb) : StartRes :=
  let op := x.opcode
  let common : StartRes := if op = 0xF3 ∧ w.stepBusy x.part then .wait w else .start w
  match unitOf id with
  | some (.tile, _) =>
    if op ≥ 0xF0 then (if w.posStopped id then .wait w else common)
    else w.tileMay id x
  | some (.crv, e) => if op ≥ 0xF0 then common else w.crvStart id e x
  | some (.upd, n) => if op = 0x40 ∨ op = 0x42 then w.updStart id n x else common
  | some (.ring, _) => if op ≥ 0xF0 then common else w.ringStart id x
  | _ => common

/-- A waybill is startable: its notices, its credits, and the conditions of its unit (04 R111). -/
def Work.startable (w : Work) (id : Nat) (x : Wb) : Bool :=
  w.basicReady id x && !(w.startOf id x).waits

/-- The next block to fetch for an accepted waybill: stack blocks at once, far-tier blocks once it is startable (05 R143, R144). -/
def Work.pfNext (w : Work) (id : Nat) (x : Wb) : Option (Nat × Bool) :=
  let l := w.tiles.pf id
  x.inputs.find? fun a =>
    !(l.any fun e => e.addr == a.1 && e.queue == x.queue && e.seq == x.seq) &&
      (match w.base.place a.1 with
        | .stack _ _ => true
        | .far _ _ => w.startable id x
        | _ => false)

/-- The controller of a tile position may fetch another block: an entry of the 64 is free, and the waybills that have not started hold fewer than
DEPTH (05 R143, R160). -/
def Work.pfMay (w : Work) (id n m : Nat) : Bool :=
  w.base.eff 0 1 .TILE_PF_CTL n m == 1 && decide ((w.tiles.pf id).countP (fun e => decide (e.check < 3)) < 64)
    && decide ((w.tiles.pf id).countP (fun e => e.check == 0) < w.base.pfDepth n m)

/-- The waybill whose block is fetched next, with the block's address and SEALCHK (05 R143). -/
def Work.pfWanted (w : Work) (id : Nat) : Option (Wb × Nat × Bool) :=
  ((w.unit id).window.filter fun x => x.phase == .accepted).findSome? fun x => (w.pfNext id x).map fun a => (x, a)

/-- PREFETCH_FETCH (05 R143): the controller of a tile position fetches the next block of its accepted waybills, in acceptance order. Poison that
it brings is consumed when the entry is read. -/
def Work.prefetchFetch (w : Work) (id : Nat) : Work :=
  match w.base.tileOf id with
  | none => w
  | some (n, m) =>
    if w.pfMay id n m then
      match w.pfWanted id with
      | none => w
      | some (x, a, sc) =>
        let c := w.base.cx id x
        let (b, l) := w.base.read { c.req sc with consumes := false } a 4096
        let e : PfEntry := { addr := a, queue := x.queue, seq := x.seq, time := b.time, gen := (b.genOf a).1, far := (b.genOf a).2, data := l }
        { w with base := b.pfSeen c .TILE_PF_FETCH a, tiles := w.tiles.setPf id (w.tiles.pf id ++ [e]) }
    else w

/-- A deadline of a waybill that is no curvature waybill has passed (04 R115). -/
def Base.expired (b : Base) (id : Nat) (x : Wb) : Bool :=
  x.hasDeadline && decide (x.deadline < b.time) && kindOf id != some .crv

/-- A waybill as it runs: its start, the values it runs under, and the credits it spends (02 R56, R64, 04 R116, 09 R260). -/
def Work.started (w : Work) (id : Nat) (x : Wb) : Wb :=
  { x with
    phase := .running, began := true, startTime := w.base.time, startNo := w.eng.starts, step := w.base.stepOf x.part, spent := sumByPort x.creds
    trapOn := w.base.catNum 0x7001 (x.part + 1) == 1, nfOn := w.base.catNum 0x7004 (x.part + 1) == 1
    seed := w.base.seedOf x.part, ceil := w.base.now 0x7030 x.part
    tile := match w.base.tileOf id with | some (n, m) => tileCode n m | none => x.tile }

/-- A unit's balances less credits spent by port (04 R116). -/
def UnitSt.spend (u : UnitSt) (l : List (Nat × Nat)) : UnitSt :=
  { u with balance := l.foldl (fun m c => Map.put c.1 ((Map.find c.1 m).getD 0 - c.2) m) u.balance }

/-- A waybill starts: its credits are spent, and its prefetch entries checked (02 R64, 04 R111, R114, R116, 05 R145). -/
def Work.begin (w : Work) (id : Nat) (x : Wb) : Work :=
  let w1 := (w.setUnit id ((w.unit id).spend (sumByPort x.creds))).setWb id (w.started id x)
  let w1 := { w1 with eng := { w1.eng with starts := w1.eng.starts + 1 } }
  let w1 := w1.pfStart id x.queue x.seq
  if x.opcode = 0xF3 then w1.stepClose id (w.started id x) else w1

/-- WAYBILL_START on a list of a window's waybills: the first in acceptance order that is startable starts, or is rejected by a check of step 8. -/
def Work.startFirst (id : Nat) : List Wb → Work → Work
  | [], w => w
  | x :: r, w =>
    if w.basicReady id x && !w.base.expired id x then
      match w.startOf id x with
      | .wait w => Work.startFirst id r w
      | .reject code => ({ w with base := w.base.rootLast id code }).reject id x code
      | .start w =>
        match w.wb? id x.queue x.seq with
        | some x => w.begin id x
        | none => w
    else Work.startFirst id r w

/-- WAYBILL_START (04 R111). -/
def Work.startWaybill (w : Work) (id : Nat) : Work := Work.startFirst id (w.unit id).window w

/-- WAIT_LIMIT_EXPIRY (04 R114): the first waybill of the unit that has waited beyond its queue's limit raises TOK.STARVE. -/
def Work.waitLimit (w : Work) (id : Nat) : Work :=
  match (w.unit id).window.find? fun x =>
      let lim := w.base.qrf x.queue 0 32 .DOCK_QLIMIT
      x.phase == .accepted && !x.starved && lim != 0 && decide (x.acceptTime + lim < w.base.time) with
  | none => w
  | some x =>
    let (b, x) := (w.base.qwf x.queue 4 1 1 .DOCK_QSTAT).each id x 0x0305
    { w with base := b }.setWb id { x with starved := true }

/-- DEADLINE_EXPIRY (04 R115): the first waybill of the unit whose deadline has passed before its start completes EXPIRED. -/
def Work.deadlineExpiry (w : Work) (id : Nat) : Work :=
  match (w.unit id).window.find? fun x => x.phase == .accepted && w.base.expired id x with
  | none => w
  | some x =>
    let (b, x) := w.base.each id x 0x0306
    { w with base := b }.setWb id (x.endWith 0x12)

end Sys2Proof.Machine
end

