-- ==== Sys2Proof/Machine/Lending.lean ====
section
/-! DEFINITION. Lending: the spill of a filler, its write-back, its resumption, and their limits (03 R94, 11 R334, R335). -/

namespace Sys2Proof.Machine

/-- Bytes of a spill (03 R94), and of a record of the spill area (11 R334). -/
def spillBytes : Nat := 139296
def spillRecord : Nat := 143360

/-- The bytes of a spill, from a count of the free-value counter on: their layout is not given (03 R94). -/
def spilledBytes (free : Nat) : List Byte := (List.range spillBytes).map fun k => Config.spillByte (free + k)

/-- FILLER_SPILL (03 R94): an owner waybill is startable, so the filler's sets and lane state go into the lend region, both sets return to FREE and
the owner waybill starts. A filler drain under way finishes first. Where the filler's record was still being reloaded, the reload stops, both sets
return to FREE, and the record stays valid (11 R334). -/
def Work.fillerSpill (w : Work) (id : Nat) : Work :=
  match w.lending id, w.base.tileOf id with
  | some l, some (n, m) =>
    if l.reload.isSome then
      if w.ownerReady id then
        let w := { w with base := (w.base.setsTo id sFREE [0, 1]).lendPhase id 0 }
        let w := w.setJobs id ((w.jobs id).map fun j => { j with sets := [] })
        (w.setLending id (some { l with spilled := l.reload, reload := none })).startWaybill id
      else w
    else if l.spilled.isNone && w.lent id && w.ownerReady id && (w.drains id).isEmpty then
      let lo := (w.base.lendRegion id).1
      let free := w.base.free
      let bytes := spilledBytes free
      let b := { w.base with free := free + spillBytes }
      let b := (b.setsTo id sFREE [0, 1]).lendPhase id 3
      let w := { w with base := b, tiles := w.tiles.localWrite (tileCode n m) lo bytes }
      let w := w.setJobs id ((w.jobs id).map fun j => { j with sets := [] })
      (w.setLending id (some { l with spillStart := some b.time, spilled := some b.time, slow := false, waitRaised := false, bytes := free })).startWaybill id
    else w
  | _, _ => w

/-- The record of a position in the borrower's spill area (11 R334). -/
def Base.spillAddr (b : Base) (id borrower : Nat) : Nat :=
  b.rf 12 40 .DOCK_LEND_SPILL 40 0 borrower * 4096 + spillRecord * (id / 8 % 512)

/-- SPILL_WRITEBACK_END (03 R94, 11 R334): the spilled bytes are in the borrower's memory, and the lend region is offered again. -/
def Work.spillEnd (w : Work) (id : Nat) : Work :=
  match w.lending id, w.base.tileOf id with
  | some l, some (n, m) =>
    match l.spillStart with
    | none => w
    | some t =>
      let bytes := w.tiles.localRead (tileCode n m) (w.base.lendRegion id).1 spillBytes
      let rq := unitReq l.borrower (w.base.unitSrc id) (waybillNumber l.queue l.seq)
      let b := w.base.storeBytes rq (w.base.spillAddr id l.borrower) bytes
      let b := (b.wf 32 32 (min (b.time - t) (2 ^ 32 - 1)) .ACC_LEND (cd n) m).lendPhase id 0
      ({ w with base := b }).setLending id (some { l with spillStart := none })
  | _, _ => w

/-- SPILL_SLOW_EXPIRY (03 R94): a write-back has not ended 9 µs after step 1. -/
def Work.spillSlow (w : Work) (id : Nat) : Work :=
  match w.lending id, w.base.tileOf id with
  | some l, some (n, m) =>
    match l.spillStart with
    | none => w
    | some t =>
      if !l.slow && decide (t + usTicks 9 < w.base.time) then
        let b := w.base.accEvent n m 11 0x020C (some l.borrower) (waybillNumber l.queue l.seq)
        ({ w with base := b }).setLending id (some { l with slow := true })
      else w
  | _, _ => w

/-- FILLER_RESUME (11 R334): the filler of a position resumes where R94 would let one start: both sets are LENT again, and the reload of its record
begins. It ends when the next slice is fed. -/
def Work.fillerResume (w : Work) (id : Nat) : Work :=
  match w.lending id, w.base.tileOf id with
  | some l, some (n, m) =>
    let mine := (w.jobs id).all fun j => j.members == [(l.queue, l.seq)]
    if l.spilled.isSome && l.spillStart.isNone && w.base.eff 0 1 .TILE_LEND n m == 1 && !w.tileStopped n m
        && w.base.setState id 0 == sFREE && w.base.setState id 1 == sFREE && mine && (w.claimsOf id).isEmpty && !w.ownerReady id then
      let b := [0, 1].foldl (fun (b : Base) k => b.setPut id k sLENT false l.borrower 0 0) w.base
      let w := { w with base := b.lendPhase id 1 }
      let w := w.setJobs id ((w.jobs id).map fun j => { j with sets := [0, 1] })
      w.setLending id (some { l with spilled := none, reload := l.spilled })
    else w
  | _, _ => w

/-- An output tile of a set reloaded from bytes that are not those spilled: free values, from a count of the free-value counter on. -/
def AccTile.reloaded (t : AccTile) (free : Nat) : AccTile :=
  let code := fun (k : Nat) => Config.reloadedCode (free + k) % 2 ^ 32
  { t with
    a := (List.range (t.rows * t.cols)).map code
    colL := t.colL.zipIdx.map fun c => f32v (code (16384 + c.2))
    rowL := t.rowL.zipIdx.map fun c => f32v (code (16512 + c.2))
    colM := t.colM.zipIdx.map fun c => f32v (code (16640 + c.2))
    rowM := t.rowM.zipIdx.map fun c => f32v (code (16768 + c.2)) }

/-- The reload of a filler's record ends (11 R334): the record is read back into both sets, which hold what was spilled if its bytes are unchanged. -/
def Work.reloadEnd (w : Work) (id : Nat) (l : LendSt) : Work :=
  let rq := unitReq l.borrower (w.base.unitSrc id) (waybillNumber l.queue l.seq) (cls := 4)
  let (b, d) := w.base.read rq (w.base.spillAddr id l.borrower) spillBytes
  let same := d == (spilledBytes l.bytes).map fun v => (v, false)
  let jobs := if same then w.jobs id else (w.jobs id).map fun j => { j with accs := j.accs.map fun a => (a.1, a.2.reloaded b.free) }
  let w := ({ w with base := if same then b else { b with free := b.free + 16896 } }).setJobs id jobs
  w.setLending id (some { l with reload := none, slow := false, waitRaised := false })

/-- A waybill's work, behind the checks of its prefetch entries and the reload of a filler's record (05 R145, 11 R334, R335). -/
def Work.whenFetched (w : Work) (id q seq : Nat) (f : Work → Work) : Work :=
  match w.gate id q seq with
  | .error w => w
  | .ok _ =>
    match w.lending id with
    | some l => if l.reload.isSome && l.queue == q && l.seq == seq then f (w.reloadEnd id l) else f w
    | none => f w

/-- LEND_WAIT_EXPIRY (11 R335): a filler has stayed spilled past DOCK_LEND_WAIT. -/
def Work.lendWait (w : Work) (id : Nat) : Work :=
  match w.lending id with
  | some l =>
    match l.spilled with
    | some t =>
      if !l.waitRaised && decide (t + w.base.rf 0 32 .DOCK_LEND_WAIT 40 < w.base.time) then
        match w.wb? id l.queue l.seq with
        | some x =>
          let (b, x) := w.base.each id x 0x0A12
          (({ w with base := b }).setWb id x).setLending id (some { l with waitRaised := true })
        | none => w
      else w
    | none => w
  | none => w

/-- A filler waybill ends, and its lending with it. -/
def Work.lendEnd (w : Work) (id : Nat) (x : Wb) : Work := w.lendOver id x.queue x.seq

end Sys2Proof.Machine
end

