-- ==== Sys2Proof/Machine/Tokens.lean ====
section
/-! DEFINITION. Token homes, presence notices, returned credits, and the waybills that any unit runs: NOP, TOKCLR and CREDIT_GRANT
(04 R107, R110 to R117). -/

namespace Sys2Proof.Machine

/-- A message handled by a token home of a die: event 0x26, of class FILLER where a filler sent it (17 R493, R494). -/
def Work.tokenSeen (w : Work) (p home : Nat) (filler : Bool) : Work :=
  { w with base := w.base.noteWork (unitReq p (logic (cd home)) 0 false (if filler then 4 else 3)) 0x26 1 }

/-- TOKEN_WATCH (04 R111): the home replies at once if the token is present, and otherwise watches it. -/
def Work.tokenWatch (w : Work) (id q seq p t : Nat) : Work :=
  let w := w.tokenSeen p (tokenHome t) ((w.wb? id q seq).any Wb.filler)
  let e := { w.eng with flying := w.eng.flying.erase (.watch id q seq p t) }
  if e.present p t then { w with eng := { e with flying := e.flying ++ [.notice id q seq p t] } }
  else
    let ws := (Map.find (tokenKey p t) e.watchers).getD []
    { w with eng := { e with watchers := Map.put (tokenKey p t) (ws ++ [(id, q, seq)]) e.watchers } }

/-- The notices of a waybill with those of a token added. -/
def Wb.noticed (x : Wb) (t : Nat) : Wb :=
  { x with notices := x.waits.zipIdx.foldl (fun m c => if c.1 = t then m ||| 2 ^ c.2 else m) x.notices }

/-- TOKEN_NOTICE (04 R111): a notice on its way reaches its waybill, and holds for it. -/
def Work.tokenNotice (w : Work) (id q seq p t : Nat) : Work :=
  if w.eng.flying.contains (.notice id q seq p t) then
    let w := { w with eng := { w.eng with flying := w.eng.flying.erase (.notice id q seq p t) } }
    match w.wb? id q seq with
    | some x => if x.part = p then w.setWb id (x.noticed t) else w
    | none => w
  else w

/-- A production on its way to a home. -/
def TokMsg.produces (p t : Nat) : TokMsg → Bool
  | .produce q s _ => q == p && s == t
  | _ => false

/-- TOKEN_PRODUCE (04 R112): the home marks the token present. The production is one on its way from a ring engine or a thread, or that of a
waybill whose record is written. -/
def Work.tokenProduce (w : Work) (p t : Nat) : Work :=
  match w.eng.flying.find? (TokMsg.produces p t) with
  | some m =>
    ({ w with eng := { w.eng with flying := w.eng.flying.erase m } }.tokenSeen p (tokenHome t) (m == TokMsg.produce p t true)).produce p t
  | none =>
    let filler := w.eng.units.any fun u => u.2.window.any fun x => x.phase == .issued && x.part == p && x.tokens.contains t && x.filler
    (({ w with eng := w.eng.produced p t w.eng.units }).tokenSeen p (tokenHome t) filler).produce p t

/-- A clear message on its way to a home. -/
def TokMsg.clearsAt (home : Nat) : TokMsg → Bool
  | .clear _ _ _ h _ => h == home
  | _ => false

/-- TOKEN_CLEAR (04 R113): the oldest clear message on its way to a home makes its tokens of that home absent. -/
def Work.tokenClear (w : Work) (home : Nat) : Work :=
  match w.eng.flying.find? (TokMsg.clearsAt home) with
  | some (.clear p first count h filler) =>
    let w := w.tokenSeen p home filler
    { w with eng := { w.eng with
        flying := w.eng.flying.erase (.clear p first count h filler)
        tokens := w.eng.tokens.filter fun k => !(decide (tokenKey p first ≤ k ∧ k < tokenKey p first + count) && k % 8 == home) } }
  | _ => w

/-- CREDIT_RETURN (04 R116): the oldest credits on their way back reach the unit that spent them. -/
def Work.creditReturn (w : Work) : Work :=
  match w.eng.returns with
  | [] => w
  | (spender, port, n) :: r => ({ w with eng := { w.eng with returns := r } }).setUnit spender ((w.unit spender).giveBack port n)

/-- The running waybill of an opcode that is not aborting. -/
def Work.running? (w : Work) (id q seq opcode : Nat) : Option Wb :=
  match w.wb? id q seq with
  | some x => if x.phase = .running ∧ x.opcode = opcode ∧ !x.aborting then some x else none
  | none => none

/-- NOP (04 R107). -/
def Work.nop (w : Work) (id q seq : Nat) : Work :=
  match w.running? id q seq 0xF0 with
  | some x => w.setWb id (x.endWith 1)
  | none => w

/-- First token and number of tokens of a TOKCLR (04 R107). -/
def Wb.clearRange (x : Wb) : Nat × Nat := (x.arg % 2 ^ 24, x.oparg + 1)

/-- TOKCLR (04 R107, R113): a clear message to each home of the range. -/
def Work.tokclr (w : Work) (id q seq : Nat) : Work :=
  match w.running? id q seq 0xF1 with
  | some x =>
    let (first, count) := x.clearRange
    let homes := (List.range (min 8 count)).map fun k => tokenHome (first + k)
    { w with eng := { w.eng with flying := w.eng.flying ++ homes.map fun h => TokMsg.clear x.part first count h x.filler } }.setWb id (x.endWith 1)
  | none => w

/-- A TOKCLR's clears are still on their way. -/
def Work.clearsOut (w : Work) (x : Wb) : Bool :=
  w.eng.flying.any fun m => match m with | .clear p f c _ _ => p == x.part && (f, c) == x.clearRange | _ => false

/-- Operands of CREDIT_GRANT (04 R117). -/
def Wb.grantTo (x : Wb) : Nat := x.arg % 65536
def Wb.grantPort (x : Wb) : Nat := x.arg / 65536 % 8
def Wb.grantCount (x : Wb) : Nat := x.oparg % 8192

/-- Capacity of a port of a unit (04 R98, 08 R210, 09 R254, 11 R320); `upd` is that of an update unit. -/
def portCapacity (id : Nat) (upd : Nat → Nat) : Nat :=
  match unitOf id with
  | some (.crv, _) => 4096
  | some (.upd, n) => upd n
  | _ => 0

/-- CREDIT_GRANT (04 R117): the recipient's allotment and balance grow, unless the port's grants would exceed its capacity. -/
def Work.creditGrant (w : Work) (upd : Nat → Nat) (id q seq : Nat) : Work :=
  match w.running? id q seq 0xF2 with
  | some x =>
    let port := id + x.grantPort
    let given := (Map.find x.grantPort (w.unit id).granted).getD 0 + x.grantCount
    if given > portCapacity id upd then w.reject id x 0x0309
    else
      let u := w.unit id
      let w := w.setUnit id { u with granted := Map.put x.grantPort given u.granted }
      let r := w.unit x.grantTo
      let add := fun (m : List (Nat × Nat)) => Map.put port ((Map.find port m).getD 0 + x.grantCount) m
      (w.setUnit x.grantTo { r with allot := add r.allot, balance := add r.balance }).setWb id (x.endWith 1)
  | none => w

end Sys2Proof.Machine
end

