-- ==== Sys2Proof/Machine/Aborts.lean ====
section
/-! DEFINITION. Aborts (04 R122, R123), the Siding's BRANCH (06 R178), and the completion of a waybill (04 R112, R119). -/

namespace Sys2Proof.Machine

/-- The unit and the waybill of a queue and sequence number, wherever it was accepted. -/
def Work.findWb (w : Work) (q seq : Nat) : Option (Nat × Wb) :=
  w.eng.units.findSome? fun u => (u.2.window.find? fun x => x.queue == q && x.seq == seq).map fun x => (u.1, x)

/-- A record already written is rewritten by a late abort: bytes 6 and 7 only (04 R123). -/
def Work.lateAbort (w : Work) (id : Nat) (x : Wb) : Work :=
  let x := { x with flags := x.flags ||| 32, status := if x.status = 1 then 2 else x.status }
  let b := w.base.storeBytes (w.base.cx id x).ownReq (w.base.qSlot x.queue x.seq + 6) (leBytes 1 x.status ++ leBytes 1 x.flags)
  { w with base := b }.setWb id x

/-- A waybill that has ended with its record not issued, and the members of its chain that have: an abort names them all (04 R122). -/
def Work.endedGroup (w : Work) (id : Nat) (x : Wb) : List Wb :=
  if x.chained then
    (mateGroup x false false [] ((w.unit id).window.filter fun y => y.phase == .ended && y.chained && y.part == x.part && y.chain == x.chain)).2
  else [x]

/-- One waybill named by an abort: what becomes of it, and the result that ABORTRES would report (04 R122, R123). One that has produced a token is
past its token production: a dependent may have started. -/
def Work.abortNow (w : Work) (q seq : Nat) (branch : Bool) : Work × Nat :=
  match w.findWb q seq with
  | some (id, x) =>
    match x.phase with
    | .accepted => (w.abortAccepted id x branch, 1)
    | .running =>
      if x.opcode = 0xF3 then (w.setWb id { x with aborting := true }, 2)
      else
        let (j, mates) := w.chainGroup id x
        let w := mates.foldl (fun (w : Work) y => w.setWb id ({ y with byBranch := branch }.endWith 0x11)) w
        (match j with | some j => w.markJob id j branch | none => w.markAbort id x branch, 1)
    | .ended =>
      if x.opcode = 0xF3 then (w.setWb id { x with aborting := true }, 2)
      else ((w.endedGroup id x).foldl (fun (w : Work) y => w.setWb id { y with status := 0x11, byBranch := branch, posA := y.done }) w, 1)
    | .issued => if x.tokens = x.issued.tokens then (w.lateAbort id x, 2) else (w, 3)
  | none =>
    let b := w.base
    let d := behind 32 (b.qTail q) seq
    let ahead := (b.qTail q + 2 ^ 32 - b.qHead q) % 2 ^ 32
    if 1 ≤ d ∧ d ≤ ahead then
      ({ w with eng := { w.eng with aborts := Map.put q ((seq, 1, branch) :: (Map.find q w.eng.aborts).getD []) w.eng.aborts } }, 1)
    else (w, 3)

/-- ABORT_ONE (04 R122). -/
def Work.abortOne (w : Work) (q seq : Nat) (branch : Bool := false) : Work :=
  let (w, r) := w.abortNow q seq branch
  { w with base := w.base.qwf q 6 2 r .DOCK_QSTAT }

/-- ABORT_ALL (04 R122): SEQ and every later waybill published when the write arrives. -/
def Work.abortAll (w : Work) (q seq : Nat) : Work :=
  let tail := w.base.qTail q
  let d := behind 32 tail seq
  if d = 0 ∨ d > 2 ^ 31 then { w with base := w.base.qwf q 6 2 3 .DOCK_QSTAT }
  else
    let named := (w.eng.units.flatMap fun u => u.2.window.filterMap fun x =>
      if x.queue = q ∧ x.seq ≠ seq ∧ (x.seq + 2 ^ 32 - seq) % 2 ^ 32 < d then some x.seq else none)
    let (w, r) := w.abortNow q seq false
    let w := named.foldl (fun (w : Work) s => (w.abortNow q s false).1) w
    let ahead := (tail + 2 ^ 32 - w.base.qHead q) % 2 ^ 32
    let n := min d ahead
    let w := if n = 0 then w else
      { w with eng := { w.eng with aborts := Map.put q (((tail + 2 ^ 32 - n) % 2 ^ 32, n, false) :: (Map.find q w.eng.aborts).getD []) w.eng.aborts } }
    { w with base := w.base.qwf q 6 2 r .DOCK_QSTAT }

/-- ABORT_STOP (04 R122): a running waybill that an abort has named reaches its unit's next boundary; a refresh whose pair waits has none before the
block concludes (10 R298). -/
def Work.abortStop (w : Work) (id q seq : Nat) : Work :=
  match w.wb? id q seq with
  | some x =>
    if x.phase = .running ∧ x.aborting ∧ x.opcode ≠ 0xF3 ∧ !w.pairWaits id x then w.stopWb id x 0x11 else w
  | none => w

/-- The entries of a skip list: none where it is malformed, and whether it was poisoned (06 R178). -/
def Work.skipList (w : Work) (c : Cx) (d : Desc) : Work × Option (List Nat) × Bool :=
  if d.fmt ≠ 6 ∨ d.isStage ∨ d.count % 2 ≠ 0 ∨ d.count > 8192 then (w, none, false)
  else
    let (w, l) := w.packed c d
    (w, some ((elements 8 (d.count / 2) l).map (·.1)), l.any (·.2))

/-- Queue and sequence number of a waybill number (02 R62). -/
def numberQueue (v : Nat) : Nat := v % 65536
def numberSeq (v : Nat) : Nat := v / 65536 % 2 ^ 32

/-- A listed waybill had started when BRANCH named it (06 R178): it runs or has run, or it is past and did not complete without starting. -/
def Work.branchLate (w : Work) (q seq : Nat) : Bool :=
  match w.findWb q seq with
  | some (_, x) => x.began
  | none =>
    let d := behind 32 (w.base.qTail q) seq
    decide ((w.base.qTail q + 2 ^ 32 - w.base.qHead q) % 2 ^ 32 < d ∧ d ≤ 2 ^ 31) && !((Map.find q w.eng.unstarted).getD []).contains seq

/-- A list names a waybill of another partition's queue (06 R178). -/
def Base.foreign (b : Base) (p : Nat) (l : List Nat) : Bool := l.any fun v => b.partOfQueue (numberQueue v) != some p

/-- A skip list aborted, entry by entry; a waybill that had started is reported (06 R178). -/
def Work.branchOne (id : Nat) (s : Work × Wb) (v : Nat) : Work × Wb :=
  let late := s.1.branchLate (numberQueue v) (numberSeq v)
  let w := s.1.abortOne (numberQueue v) (numberSeq v) true
  if late then
    let (b, x) := w.base.each id s.2 0x0509
    ({ w with base := b }, x)
  else (w, s.2)

def Work.branchTo (w : Work) (id : Nat) (x : Wb) (f : Frame) (l0 l1 : List Nat) : Work :=
  let (w, x) := (if f.dropped then l1 else l0).foldl (Work.branchOne id) (w, x)
  w.setWb id ({ x with prodMask := if f.dropped then 2 else 1 }.endWith 1)

/-- SID_BRANCH (06 R176, R178). -/
def Work.sidBranch (w : Work) (id q seq : Nat) : Work :=
  match w.sidReady id q seq 0x0C 2 with
  | none => w
  | some (x, n) =>
    match x.desc 0, x.desc 1, w.topFrame n x.part x.sidFrame true with
    | some d0, some d1, some f =>
      let (w, l0, bad0) := w.skipList (w.base.cx id x) d0
      let (w, l1, bad1) := w.skipList (w.base.cx id x) d1
      if bad0 || bad1 then w.reject id x 0x0303
      else
        match l0, l1 with
        | some l0, some l1 => if w.base.foreign x.part l0 || w.base.foreign x.part l1 then w.reject id x 0x0508 else w.branchTo id x f l0 l1
        | _, _ => w.reject id x 0x0508
    | _, _, _ => w.reject id x 0x0503

/-- The completion of an ended waybill waits: for maxima held during a refresh and counts held during an evaluation, for a TOKCLR's clears, and for
the chain members before it (03 R81, 04 R113, 07 R196, R200). -/
def Work.completeWaits (w : Work) (id : Nat) (x : Wb) : Bool :=
  w.scale.heldAmax.any (fun m => m.queue == x.queue && m.seq == x.seq)
    || w.scale.heldWatch.any (fun m => m.queue == x.queue && m.seq == x.seq)
    || (x.opcode == 0xF1 && isDone x.status && w.clearsOut x)
    || (x.chained && ((w.unit id).window.takeWhile fun y => !(y.queue == x.queue && y.seq == x.seq)).any fun y =>
          y.phase == .ended && y.chained && y.part == x.part && y.chain == x.chain)

/-- WAYBILL_COMPLETE (04 R112, R119): an ended waybill's record is written, with what its unit does at its end. -/
def Work.completeWaybill (w : Work) (id q seq : Nat) : Work :=
  match w.wb? id q seq with
  | none => w
  | some x =>
    if x.phase ≠ .ended ∨ w.completeWaits id x then w
    else
      let x := if x.opcode = 0xF3 ∧ x.aborting then
          { x with flags := x.flags ||| 32, status := if x.status = 1 then 2 else x.status } else x
      let w := if x.status = 0x16 then { w with base := w.base.reportOf x fun v => { v with lost := true } } else w
      let w := if x.began then w.updComplete id x else w
      let w := { w with base := w.base.precondRelease x }
      let w := w.lendEnd id x
      let w := w.setClaims id ((w.claimsOf id).filter fun c => !(c.2.1 == q && c.2.2 == seq))
      w.issue id x

end Sys2Proof.Machine
end

