-- ==== Sys2Proof/Machine/FreeUnits.lean ====
section
/-! DEFINITION. Free check units and failed die-to-die links (12 R341, R344 to R346, R349). -/

namespace Sys2Proof.Machine

/-- Free unit u exists on a die (12 R359). -/
def freeUnit (die u : Nat) : Bool := (decide (die < 8) && decide (u < 8)) || (decide (40 ≤ die ∧ die < 44) && decide (u < 4))

/-- The configuration of a free unit (12 R341). -/
def Base.fuCfg (b : Base) (die u : Nat) : CrcCfg :=
  let v := b.rd .CHK_FU_CFG die 0 u
  ⟨fget v 0 7, (b.rd .CHK_FU_POLY die 0 u).toNat, (b.rd .CHK_FU_INIT die 0 u).toNat, bget v 7, bget v 8, bget v 9⟩

def Base.fuMaster (b : Base) (die u : Nat) : Nat := b.rf 16 8 .CHK_FU_CFG die 0 u
def Base.fuAddr (b : Base) (die u : Nat) : Nat := b.rf 0 52 .CHK_FU_ADDR die 0 u
def Base.fuLen (b : Base) (die u : Nat) : Nat := b.rf 0 40 .CHK_FU_LEN die 0 u
def Base.fuState (b : Base) (die u : Nat) : Nat := b.rf 0 2 .CHK_FU_STATUS die 0 u
def Base.fuBusy (b : Base) (die u : Nat) : Bool := b.fuState die u == 1

/-- The partition whose identity a master is (01 R20). -/
def masterPart (m : Nat) : Option Nat := if 1 ≤ m ∧ m ≤ 8 then some (m - 1) else none

/-- The start is refused (12 R344): `from_` is the identity that writes START. -/
def Base.fuRefused (b : Base) (die u from_ : Nat) : Bool :=
  let c := b.fuCfg die u
  let fits := fun (v : Nat) => decide (v < 2 ^ c.width)
  let m := b.fuMaster die u
  let a := b.fuAddr die u
  let n := b.fuLen die u
  decide (c.width < 8 ∨ 64 < c.width) || !fits c.poly || !fits c.init || !fits (b.rd .CHK_FU_EXPECT die 0 u).toNat
    || n == 0
    || !(decide (a + n ≤ 0x0300_0000_0000) || decide (0x4000_0000_0000 ≤ a ∧ a + n ≤ 0x8000_0000_0000))
    || !(m == 0 || (masterPart m).isSome)
    || ((masterPart from_).isSome && m != from_)
    || (m == 0 && from_ != 0)

/-- An event of a free unit, which none of the cases of 15 R453 attributes to a partition. -/
def Base.fuEvent (b : Base) (die bit code : Nat) : Base := b.chkEvent die bit code (checkUnits die) none

/-- FU_START (12 R344, R345). -/
def Base.fuStart (b : Base) (die u from_ : Nat) : Base :=
  if !freeUnit die u then b
  else if b.fuBusy die u || b.fuRefused die u from_ then b.fuEvent die 1 0x0B06
  else (b.wr 1 .CHK_FU_STATUS die 0 u).wr 0 .CHK_FU_DONE die 0 u

/-- The interrupt of a job that ended (12 R345, 14 R413). -/
def Base.fuIrq (b : Base) (die u : Nat) : Base :=
  if b.rf 11 1 .CHK_FU_CFG die 0 u = 1 then
    match masterPart (b.fuMaster die u) with
    | some p => b.msixPart p 2034
    | none => { b with sent := .checkUnit (b.fuMaster die u) :: b.sent }
  else b

/-- FU_STOP (12 R345): the job ends without comparison, and its interrupt is signalled. -/
def Base.fuStop (b : Base) (die u : Nat) : Base :=
  if freeUnit die u && b.fuBusy die u then (b.wf 0 2 0 .CHK_FU_STATUS die 0 u).fuIrq die u else b

/-- A memory request of a free unit (12 R344, R355): MGMT for the management controller, and otherwise without a cause, as no waybill runs it (17 R494). -/
def Base.fuReq (b : Base) (die u : Nat) : MemReq :=
  { who := b.whoIs (b.fuMaster die u), src := checkUnits die, master := b.fuMaster die u, byUnit := false, consumes := false,
    cls := if b.whoIs (b.fuMaster die u) = .management then 5 else 6 }

/-- The reads of a job, piece by piece: the check register at the end, or the bytes before the first read that fails and its cause (12 R346).
`far` is the offset from which far-tier reads fail. -/
def Base.fuRun (rq : MemReq) (c : CrcCfg) (a0 len : Nat) (far : Option Nat) : Nat → Base → Nat → Nat → Base × (Nat ⊕ Nat × Nat)
  | 0, b, _, reg => (b, .inl reg)
  | k + 1, b, off, reg =>
    if len ≤ off then (b, .inl reg)
    else
      let a := a0 + off
      let n := min (len - off) (256 - a % 256)
      if !b.served rq a then (b.refuseMem rq a, .inr (off, 2))
      else
        let farFail := match b.place a, far with
          | .far _ _, some o => decide (o < off + n)
          | _, _ => false
        if farFail then (b, .inr (off, 3))
        else
          let (b, l) := b.pieceRead rq a n false
          if l.any (·.2) then (b, .inr (off, match b.place a with | .far _ _ => 3 | _ => 1))
          else Base.fuRun rq c a0 len far k b (off + n) (c.feed reg (l.map (·.1)))

def Base.fuJob (b : Base) (die u : Nat) (far : Option Nat) : Base × (Nat ⊕ Nat × Nat) :=
  let c := b.fuCfg die u
  Base.fuRun (b.fuReq die u) c (b.fuAddr die u) (b.fuLen die u) far (b.fuLen die u / 256 + 2) b 0 c.init

/-- FU_JOB_END (12 R345): a job all of whose reads are good ends. -/
def Base.fuJobEnd (b : Base) (die u : Nat) : Base :=
  if freeUnit die u && b.fuBusy die u then
    match b.fuJob die u none with
    | (b', .inl reg) =>
      let r := (b.fuCfg die u).finish reg
      let b' := b'.wr (BitVec.ofNat 64 r) .CHK_FU_RESULT die 0 u
      let b' := b'.wr (BitVec.ofNat 64 (b.fuLen die u)) .CHK_FU_DONE die 0 u
      let cmp := b.rf 10 1 .CHK_FU_CFG die 0 u = 1
      let same := r = (b.rd .CHK_FU_EXPECT die 0 u).toNat
      let b' := b'.wr (BitVec.ofNat 64 (2 + b2n (decide (cmp ∧ same)) * 4 + b2n (decide (cmp ∧ ¬same)) * 8)) .CHK_FU_STATUS die 0 u
      let b' := if cmp ∧ ¬same then b'.fuEvent die 0 0x0B05 else b'
      b'.fuIrq die u
    | (_, .inr _) => b
  else b

/-- FU_JOB_ERROR (12 R346): the job ends at its first failing read; `far` gives the offset at which a far-tier read fails. -/
def Base.fuJobError (b : Base) (die u : Nat) (far : Option Nat) : Base :=
  if freeUnit die u && b.fuBusy die u then
    match b.fuJob die u far with
    | (_, .inl _) => b
    | (b, .inr (off, cause)) =>
      let b := b.wr 0 .CHK_FU_RESULT die 0 u
      let b := b.wr (BitVec.ofNat 64 off) .CHK_FU_DONE die 0 u
      let b := b.wr (BitVec.ofNat 64 (3 + cause * 16)) .CHK_FU_STATUS die 0 u
      (b.fuEvent die 2 0x0B07).fuIrq die u
  else b

/-- The links of a die that CHK_D2D_STATE numbers exist (12 R359). -/
def d2dLink (die link : Nat) : Bool :=
  if die < 8 then
    match link with
    | 0 | 1 => true
    | 2 => true
    | l => decide (l < 7)
  else decide (40 ≤ die ∧ die < 44) && link == 0

/-- The other end of a link where it has a number of its own (01 R14, 12 R359). -/
def d2dOther (die link : Nat) : Option (Nat × Nat) :=
  if die < 8 then
    match link with
    | 0 => some (if die % 4 = 0 then (if die = 0 then 40 else 41, 0) else (die - 1, 1))
    | 1 => some (if die % 4 = 3 then (if die = 3 then 42 else 43, 0) else (die + 1, 0))
    | 2 => some ((die + 4) % 8, 2)
    | _ => none
  else some (nearCompute die, if die < 42 then 0 else 1)

/-- Link l of die d marked as failed. -/
def Base.d2dMark (b : Base) (d l : Nat) : Base := b.wf l 1 1 .CHK_D2D_STATE d

/-- D2D_LINK_FAIL (12 R349): a link has failed. Both ends mark it where both have a bit for it. -/
def Base.d2dFail (b : Base) (die link : Nat) : Base :=
  if !d2dLink die link || bget (b.rd .CHK_D2D_STATE die) link then b
  else
    let b := b.d2dMark die link
    let b := match d2dOther die link with
      | some (d, l) => b.d2dMark d l
      | none => b
    b.chkEvent die 3 0x0B04 (logic die) none

end Sys2Proof.Machine
end

