-- ==== Sys2Proof/Machine/Links.lean ====
section
/-! DEFINITION. Bornor links: frames as they arrive (11 R307 to R310, R315, 12 R347, R348), training, spares, loss and recovery (R303 to R305, R312 to
R314), and the coupler (R316, 19 R532). -/

namespace Sys2Proof.Machine

/-- The fields of a frame as its bytes give them (11 R307). -/
def frameFields (l : List Byte) (body : FrameBody) : OutFrame :=
  let L := l.length
  { type := fieldAt l 0 1 % 16, vc := fieldAt l 0 1 / 32, line := fieldAt l 2 2 / 512 % 4, src := some (fieldAt l 4 1 % 64), dst := fieldAt l 5 1 % 64,
    epoch := fieldAt l 6 2, tag := fieldAt l 8 3, kind := fieldAt l 11 1 % 16, offset := fieldAt l 12 4, step := fieldAt l 16 2,
    origin := fieldAt l 18 1 % 64, aux := fieldAt l 20 4, payload := slice l 24 (L - 32), body := body }

def frameFolded (l : List Byte) : Bool := (fieldAt l 0 1).testBit 4

/-- A frame of an invalid type, length or with a nonzero zero field (11 R306 to R308). -/
def frameMalformed (l : List Byte) : Bool :=
  let L := l.length
  L % 32 != 0 || decide (L < 256 ∨ 16384 < L) || fieldAt l 2 2 % 512 + 1 != L / 32 || fieldAt l 2 2 ≥ 2048 || fieldAt l 0 1 % 16 ≥ 8
    || fieldAt l 4 1 ≥ 64 || fieldAt l 5 1 ≥ 64 || fieldAt l 11 1 ≥ 16 || fieldAt l 18 1 ≥ 64 || fieldAt l 19 1 != 0
    || fieldAt l (L - 8) 4 ≥ 512 || (frameFolded l && fieldAt l 1 1 != 0)
    || (!(fieldAt l 0 1 % 16 == 0 || fieldAt l 0 1 % 16 == 5 || fieldAt l 0 1 % 16 == 6) && fieldAt l 6 2 != 0)

/-- The check of a frame matches (12 R347, R348); `prefix_` is the fold prefix of a folded frame. -/
def frameChecked (l prefix_ : List Byte) : Bool :=
  frameCfg.check ((if frameFolded l then prefix_ else []) ++ l.take (l.length - 4)) == fieldAt l (l.length - 4) 4

/-- The fold prefix of a frame that is neither TRAIN nor TEST, and of a TEST frame by its index (12 R348). -/
def Base.foldPrefix (b : Base) (e n : Nat) : List Byte := foldAt b.ringId n b.ringPos e

/-- A link leaves service: RING.LINKDOWN, and it retrains (11 R314). -/
def Work.linkLeaves (w : Work) (e : Nat) : Work :=
  if w.base.inService e then
    let b := (w.base.engSet e 0 3 5 .RING_LINKST).ringEvent e 2 0x0A03 none
    { w with base := b }.setOpt e { w.opt e with downSince := some b.time, retrying := false, fails := 0, trains := 0, tests := 0 }
  else w

/-- A frame that is not good (11 R309): discarded, a RETRY frame sent, and after eight failures in a row the link leaves service. -/
def Work.frameFails (w : Work) (e : Nat) : Work :=
  let x := w.opt e
  let w := { w with base := w.base.engCount e 1 .RING_CNT_CHKFAIL }.setOpt e { x with retrying := true, fails := x.fails + 1 }
  if x.fails + 1 ≥ 8 then w.linkLeaves e
  else w.ringQueue e { type := 2, body := .retry x.rxSeq }

/-- The frames that an ACK field acknowledges leave the retry buffer (11 R309). -/
def RingEng.acked (x : RingEng) (ack : Nat) : RingEng :=
  match x.sent.findIdx? fun f => f.1 % 256 == ack with
  | some i => { x with sent := x.sent.drop (i + 1) }
  | none => x

/-- The answer to a put, by its number (11 R322). -/
def Work.putAnswered (w : Work) (f : OutFrame) (number : Nat) (refused : Bool) : Work :=
  match w.ringOp? fun o => o.opcode == 0x60 && o.line == f.line && o.tag == f.tag && o.step % 65536 == f.step && o.number == number with
  | none => w
  | some o =>
    if !refused then w.opEnd o 1
    else
      match w.opWb o with
      | some x =>
        let (b, x) := w.base.each o.unit x 0x0A10
        ({ w with base := b }.setWb o.unit x).opEnd o 0x10
      | none => w

/-- A CONTROL frame for this device on engine e: what asks the transmitter to move a lane, answers a transfer, or carries figures (11 R304, R322 to
R325). Answers whether it is held. -/
def Work.controlFrame (w : Work) (e : Nat) (f : OutFrame) : Work × Bool :=
  let op := w.ringOp? fun o => o.opcode != 0x60 && o.line == f.line && o.tag == f.tag && o.step % 65536 == f.step
  match f.body, op with
  | .laneMove fibre lane, _ => (w.setOpt e { w.opt e with txWave := Map.put fibre lane (w.opt e).txWave }, false)
  | .refusal number, _ => (w.putAnswered f number true, false)
  | .ack origin number, some o =>
    if number = 0 ∧ o.opcode = 0x61 then
      let o := { o with acks := NSet.add origin o.acks }
      (match w.opWb o with
        | some x => ((w.setOp o).relayCheck o x, false)
        | none => (w, false))
    else (w.putAnswered f number false, false)
  | .ack _ number, none => (w.putAnswered f number false, false)
  | .figures r, some o =>
    if o.opcode ≠ 0x62 then (w, false)
    else
      let o := { o with figQ := some f.aux, figR := r }
      let w := w.setOp o
      match r, w.opWb o with
      | none, some x => (w.reduceFigures o x, false)
      | some _, some _ =>
        let (w, o) := if o.rank = 0 then (w, o) else w.opSend o false { o.frame 7 (o.pos (o.rank - 1)) with aux := f.aux, body := .figures r }
        (w.reduceCheck o, false)
      | _, none => (w, false)
  | .figures _, none =>
    (w, !(older 16 f.step (w.base.stepOf (w.base.linePart f.line)) || w.ring.ended.contains (f.line, f.tag, f.step)))
  | _, _ => (w, false)

/-- The request to move a lane belongs to its link and to no line (11 R304). -/
def OutFrame.ofLink (f : OutFrame) : Bool := match f.body with | .laneMove _ _ => true | _ => false

/-- A frame for this device acts; one whose line is disabled is dropped (11 R315, R318). Answers whether it is held. -/
def Work.ownFrame (w : Work) (e : Nat) (f : OutFrame) : Work × Bool :=
  let src := f.src.getD 0
  if !w.base.lineOn f.line && !f.ofLink then (w.ringDrop e 2 f none, false)
  else match f.type with
  | 0 => w.ringDeliver e src f
  | 5 =>
    let w := { w with ring := { w.ring with ends := (f.line, f.epoch, src, e, f.vc) :: w.ring.ends } }
    (match w.ringOp? fun o => o.line == f.line && o.waitStart.isSome with
      | some o => (w.reshardCheck o, false)
      | none => (w, false))
  | 6 => (match f.body with
    | .record c =>
      if w.base.lineEpoch f.line = f.epoch then (w.beginCheck e f.line f.epoch c, false)
      else ({ w with ring := { w.ring with begins := w.ring.begins ++ [(f.line, f.epoch, c)] } }, false)
    | _ => (w, false))
  | _ => w.controlFrame e f

/-- A frame acts, or is held with its credits (11 R321). -/
def Work.takeFrame (w : Work) (e : Nat) (f : OutFrame) : Work :=
  let (w, held) := w.ownFrame e f
  if held then { w with ring := { w.ring with held := w.ring.held ++ [{ engine := e, src := f.src.getD 0, frame := f, time := w.base.time }] } }
  else w.owe e f.vc f.units

/-- The held frames are tried again, in the order they came: a waybill has begun, or a layout was installed (11 R321, R331). -/
def Work.ringFeed (w : Work) : Work :=
  let l := w.ring.held
  l.foldl (fun (w : Work) h =>
    let (w, held) := w.ownFrame h.engine h.frame
    if held then { w with ring := { w.ring with held := w.ring.held ++ [h] } } else w.owe h.engine h.frame.vc h.frame.units)
    { w with ring := { w.ring with held := [] } }

/-- A good DATA, CONTROL, EPOCH_END or EPOCH_BEGIN frame: delivered, forwarded, or dropped for a bypassed destination (11 R315). A forwarded frame
keeps its credits until it leaves on the onward engine (R310). -/
def Work.routeFrame (w : Work) (e : Nat) (f : OutFrame) : Work :=
  let b := w.base
  let n := b.ringSize
  let npos := b.eng e 4 6 .RING_LINKST
  let h := b.eng e 10 3 .RING_LINKST
  let d := if facesEast e then (npos + n - f.dst % n) % n else (f.dst % n + n - npos % n) % n
  if f.dst = b.ringPos then w.takeFrame e f
  else if 0 < d ∧ d < h then (w.ringDrop e 3 f none).owe e f.vc f.units
  else
    { w with base := (b.noteRing e f 0x62 f.length).engCount e 1 .RING_CNT_FWD }.ringQueue (if facesEast e then e - 8 else e + 8) { f with via := some e }

/-- A frame that a link in service does not accept: malformed, with a wrong check, or out of sequence (11 R308, R309, 12 R348). -/
def Work.frameBad (w : Work) (e : Nat) (l : List Byte) : Bool :=
  frameMalformed l || !frameChecked l (w.base.foldPrefix e (w.opt e).rxSeq) || (!frameFolded l && fieldAt l 1 1 != (w.opt e).rxSeq % 256)

/-- What the ACK field of a good frame acknowledges (11 R307, R309). -/
def RingEng.acks (x : RingEng) (l : List Byte) : RingEng :=
  let ack := fieldAt l (l.length - 8) 4
  if ack.testBit 8 then x.acked (ack % 256) else x

/-- A link after a good frame: the next sequence number, and what its ACK field acknowledges (11 R309). -/
def RingEng.received (x : RingEng) (l : List Byte) : RingEng :=
  { x with rxSeq := (x.rxSeq + 1) % 2 ^ 32, retrying := false, fails := 0, heard := true }.acks l

/-- A good frame counted, and the frames that may now be sent sent. -/
def Work.frameTaken (w : Work) (e : Nat) (f : OutFrame) (l : List Byte) : Work :=
  ({ w with base := (w.base.noteRing e f 0x61 l.length).engCount e 1 .RING_CNT_RX }.setOpt e ((w.opt e).received l)).ringPump e

/-- Credits given, at most 4,096 on a virtual channel (11 R310). -/
def RingEng.credited (x : RingEng) (c : List (Nat × Nat)) : RingEng :=
  { x with credits := c.foldl (fun (k : List Nat) v => setAt k v.1 (min 4096 (k.getD v.1 0 + v.2))) x.credits }

/-- The held frames from sequence number n on (11 R309). -/
def RingEng.again (x : RingEng) (n : Nat) : List (Nat × OutFrame) := x.sent.filter fun s => !(older 32 s.1 n)

/-- A RETRY frame names n: the frames from it on are sent again in folded mode, and counted (11 R309, R337). -/
def Work.resendFrom (w : Work) (e : Nat) (f : OutFrame) (n : Nat) : Work :=
  let l := (w.opt e).again n
  ({ w with base := (w.base.noteRing e f 0x63 l.length).engCount e l.length .RING_CNT_RETRY }).emit e (l.map fun (s : Nat × OutFrame) => (s.1, true, s.2))

/-- A frame that is neither TRAIN nor TEST arrives on a link in service (11 R308 to R310, R315). -/
def Work.serviceFrame (w : Work) (e : Nat) (l : List Byte) (body : FrameBody) : Work :=
  if !w.base.inService e || ((w.opt e).retrying && !frameFolded l) then w
  else if w.frameBad e l then w.frameFails e
  else
    let f := frameFields l body
    let w := w.frameTaken e f l
    match f.type with
    | 1 => (match body with
      | .credits c => (w.setOpt e ((w.opt e).credited c)).ringPump e
      | _ => w)
    | 2 => (match body with
      | .retry n => w.resendFrom e f n
      | _ => w)
    | _ => w.routeFrame e f

/-- Training fails: the link stays out of service, and RING.TRAIN or RING.BUDGET is raised (11 R312, R313). -/
def Work.trainFails (w : Work) (e bit : Nat) : Work :=
  let x := w.opt e
  let b := w.base.engSet e 0 3 0 .RING_LINKST
  let b := if bit = 0 ∧ x.trainRaised then b else b.ringEvent e bit (0x0A01 + bit) none
  { w with base := b }.setOpt e { x with trainFailed := some b.time, trainRaised := x.trainRaised || bit == 0, trains := 0, tests := 0 }

/-- A TRAIN frame that is not good. -/
def trainBad (x : RingEng) (l : List Byte) : Bool := frameMalformed l || !frameFolded l || !frameChecked l (foldTrain x.trains)

/-- What this end's TRAIN frames carry (11 R312 step 2). -/
def Base.trainInfo (b : Base) (e : Nat) : TrainInfo :=
  { ringId := b.ringId, size := b.ringSize, pos := b.ringPos, east := facesEast e, engine := e, stepping := stepping, shares := (List.range 8).map b.vcShare
    loss := Config.opticalPower e }

/-- A TRAIN frame goes out, folded with the count of those sent before it (11 R312, 12 R348). -/
def Work.trainSend (w : Work) (e : Nat) : Work :=
  let n := (w.opt e).trainsOut
  (w.setOpt e { w.opt e with trainsOut := n + 1 }).emit e [(n, true, { type := 3, dst := w.base.eng e 4 6 .RING_LINKST, body := .train (w.base.trainInfo e) })]

/-- Step 2 of training begins: the counts start again, and a TRAIN frame goes out (11 R312). -/
def Work.trainBegin (w : Work) (e : Nat) : Work :=
  ({ w with base := w.base.engSet e 0 3 2 .RING_LINKST }.setOpt e
    { w.opt e with trains := 0, trainsOut := 0, tests := 0, testsOut := 0, lockSince := none }).trainSend e

/-- The coupler routes into the device (11 R316). -/
def Base.senses (b : Base) : Bool := b.rf 2 1 .RING_BYPASS 40 == 1

/-- A link in LOCK goes on to TRAIN. -/
def Work.lockEnd (w : Work) (e : Nat) : Work := if w.base.linkState e = 1 ∧ w.base.senses then w.trainBegin e else w

/-- Step 1 of training ends after 5 ms (11 R312). -/
def Work.locksEnd (w : Work) : Work :=
  (w.ring.engines.filter fun c => match c.2.lockSince with | some t => decide (t + msTicks 5 ≤ w.base.time) | none => false).foldl
    (fun (w : Work) c => w.lockEnd c.1) w

/-- The payload of TEST frame n (11 R312). -/
def testPattern (n : Nat) : List Byte := (List.range 16352).map fun j => BitVec.ofNat 8 (n + j)

/-- The next TEST frame goes out, folded with its index (11 R312 step 4, 12 R348). -/
def Work.testSend (w : Work) (e : Nat) : Work :=
  let n := (w.opt e).testsOut
  (w.setOpt e { w.opt e with testsOut := n + 1 }).emit e [(n, true, { type := 4, dst := w.base.eng e 4 6 .RING_LINKST, payload := testPattern n })]

/-- The hops of a link whose other end is at position pos (11 R313). -/
def Base.hops (b : Base) (e pos : Nat) : Nat :=
  if facesEast e then (pos + b.ringSize - b.ringPos) % b.ringSize else (b.ringPos + b.ringSize - pos % b.ringSize) % b.ringSize

/-- What a TRAIN frame says does not fit this end: the ring, its size, the position, the facing, the engine or the shares (11 R312). -/
def Base.trainWrong (b : Base) (e : Nat) (t : TrainInfo) : Bool :=
  decide (t.ringId ≠ b.ringId ∨ t.size ≠ b.ringSize ∨ t.pos = b.ringPos ∨ t.east = facesEast e ∨ t.engine ≠ (if facesEast e then e - 8 else e + 8)
    ∨ t.shares ≠ (List.range 8).map b.vcShare)

/-- The link after a fitting TRAIN frame: TEST, with its neighbour, hops and loss; RING.PATH where the hops have changed (11 R312, R313). -/
def Base.trained (b : Base) (e : Nat) (last : Option Nat) (t : TrainInfo) : Base :=
  let b' := if last.isSome ∧ last ≠ some (b.hops e t.pos) then b.ringEvent e 7 0x0A08 none else b
  (((b'.engSet e 0 3 3 .RING_LINKST).engSet e 4 6 t.pos .RING_LINKST).engSet e 10 3 (b.hops e t.pos) .RING_LINKST).engSet e 20 12 t.loss .RING_LINKST

/-- A good TRAIN or TEST frame counted (11 R337). Its ACK field says what the neighbour had received before the link left service (R307, R314). -/
def Work.trainTaken (w : Work) (e : Nat) (l : List Byte) : Work :=
  { w with base := (w.base.noteRing e (frameFields l .none) 0x61 l.length).engCount e 1 .RING_CNT_RX }.setOpt e ((w.opt e).acks l)

/-- The first TRAIN frame of a new attempt of the neighbour's reaches an end in TEST: both are back in step 2 (11 R312). -/
def Work.trainAgain (w : Work) (e : Nat) (l : List Byte) : Work :=
  if w.base.linkState e = 3 && w.base.senses && !(frameMalformed l || !frameFolded l || !frameChecked l (foldTrain 0)) then w.trainBegin e else w

/-- A TRAIN frame is checked for the link (11 R312 steps 2 and 3, R313). It counts whether good or not (12 R348); after one that is not good this end
sends another of its own, after a fitting one its first TEST frame. The neighbour's first one ends LOCK (log entry 136), and brings an end in TEST
back to step 2. No link trains while SENSE is 0 (R316). -/
def Work.trainFrame (w : Work) (e : Nat) (l : List Byte) (body : FrameBody) : Work :=
  let w := (w.lockEnd e).trainAgain e l
  let x := w.opt e
  if w.base.linkState e ≠ 2 ∨ !w.base.senses then w
  else
    let w := w.setOpt e { x with trains := x.trains + 1 }
    if trainBad x l then ({ w with base := w.base.engCount e 1 .RING_CNT_CHKFAIL }).trainSend e
    else
      match body with
      | .train t =>
        let w := w.trainTaken e l
        if w.base.trainWrong e t then w.trainFails e 0
        else if 5 ≤ w.base.hops e t.pos ∨ 800 < t.loss then w.trainFails e 1
        else ({ w with base := w.base.trained e x.lastHops t }.setOpt e { w.opt e with tests := 0, testsOut := 0 }).testSend e
      | _ => w

/-- A TEST frame that is not good. -/
def Base.testBad (b : Base) (e n : Nat) (l : List Byte) : Bool :=
  frameMalformed l || !frameFolded l || !frameChecked l (b.foldPrefix e n) || slice l 24 (l.length - 32) != testPattern n

/-- An engine whose link has entered service: from the start of its link everything starts afresh, after a LINKDOWN its retry buffer stands
(11 R309, R312, R314). -/
def RingEng.inUse (x : RingEng) (hops : Nat) : RingEng :=
  let y := { x with tests := 0, trains := 0, trainFailed := none, trainRaised := false, lastHops := some hops, downSince := none, retrying := false, fails := 0 }
  if x.downSince.isNone then { y with txSeq := 0, rxSeq := 0, heard := false, credits := List.replicate 8 4096, owed := List.replicate 8 0 }
  else y

/-- What a retry buffer holds is sent again in folded mode, and counted (11 R309, R314, R337). -/
def Work.resendHeld (w : Work) (e : Nat) : Work :=
  let l := (w.opt e).sent
  if l.isEmpty then w
  else ({ w with base := w.base.engCount e l.length .RING_CNT_RETRY }).emit e (l.map fun (s : Nat × OutFrame) => (s.1, true, s.2))

/-- A link enters service (11 R312 step 5). After a LINKDOWN the sender resends from the receiver's expected sequence number, which the ACK fields of
training have told it (R307, R314, log entry 137). -/
def Work.linkServes (w : Work) (e : Nat) : Work :=
  let x := w.opt e
  let w := { w with base := w.base.engSet e 0 3 4 .RING_LINKST }.setOpt e (x.inUse (w.base.eng e 10 3 .RING_LINKST))
  if x.downSince.isSome then (w.resendHeld e).ringPump e else w.ringPump e

/-- A TEST frame is checked against its pattern, and this end sends its next; the last one puts the link in service, a bad one sends it back to step
2 (11 R312 steps 4 and 5). -/
def Work.testFrame (w : Work) (e : Nat) (l : List Byte) : Work :=
  let x := w.opt e
  if w.base.linkState e ≠ 3 ∨ !w.base.senses then w
  else if w.base.testBad e x.tests l then ({ w with base := w.base.engCount e 1 .RING_CNT_CHKFAIL }).trainBegin e
  else
    let w := w.trainTaken e l
    if x.tests + 1 < 65536 then (w.setOpt e { w.opt e with tests := x.tests + 1 }).testSend e else w.linkServes e

/-- A frame of no valid type counts as a check failure, in the state that the link is in (11 R308). -/
def Work.typelessFrame (w : Work) (e : Nat) (l : List Byte) : Work :=
  match w.base.linkState e with
  | 2 => w.trainFrame e l .none
  | 3 => w.testFrame e l
  | _ => w.serviceFrame e l .none

/-- A frame of a type arrives on engine e. A frame whose TYPE is another valid one is another command's. -/
def Work.frame (w : Work) (type e : Nat) (l : List Byte) (body : FrameBody) : Work :=
  if 16 ≤ e then w
  else if 8 ≤ fieldAt l 0 1 % 16 then w.typelessFrame e l
  else if fieldAt l 0 1 % 16 = type then
    if type = 3 then w.trainFrame e l body
    else if type = 4 then w.testFrame e l
    else w.serviceFrame e l body
  else w

/-- CREDIT_FRAME_SEND (11 R309, R310): with nothing else that it could send, an engine's CREDIT frame gives back the credits of freed buffer space. -/
def Work.creditFrameSend (w : Work) (e : Nat) : Work :=
  let x := w.opt e
  if e < 16 ∧ w.base.inService e ∧ (x.nextFrame [] x.queue).isNone then
    (w.setOpt e { x with owed := List.replicate 8 0 }).ringQueue e
      { type := 1, body := .credits ((x.owed.zipIdx.filter fun c => c.1 != 0).map fun c => (c.2, c.1)) }
  else w

/-- A held frame of the same line and TAG. -/
def HeldFrame.same (h g : HeldFrame) : Bool := g.frame.line == h.frame.line && g.frame.tag == h.frame.tag

/-- A held frame that has passed the limit: RING.UNMATCHED once for its line and TAG (11 R321). -/
def Work.matchOne (w : Work) (h : HeldFrame) : Work :=
  if h.time + w.base.rf 0 32 .RING_MATCHLIMIT 40 ≤ w.base.time ∧ !(w.ring.held.any fun g => h.same g && g.raised) then
    { w with
      base := (w.base.ringFault h.engine 5 h.frame).ringEvent h.engine 13 0x0A0E (some (w.base.linePart h.frame.line))
      ring := { w.ring with held := w.ring.held.map fun g => if h.same g then { g with raised := true } else g } }
  else w

/-- MATCH_LIMIT_EXPIRY (11 R321): RING.UNMATCHED once for a line and TAG whose frames have been held past the limit. -/
def Work.matchLimit (w : Work) : Work := w.ring.held.foldl Work.matchOne w

/-- RING_EPOCHSTAT: the line, and the members whose EPOCH_END is missing (11 R331). -/
def epochStat (line : Nat) (missing : List Nat) : Word :=
  BitVec.ofNat 64 (line + 4 * (missing.filter (· < 62)).foldl (fun m p => m + 2 ^ p) 0)

/-- A reshard that has waited RING_EPOCHWAIT completes with RING.EPOCHTO (11 R331). -/
def Work.epochOne (w : Work) (o : RingOp) : Work :=
  match o.waitStart with
  | some t =>
    if t + w.base.rf 0 32 .RING_EPOCHWAIT 40 ≤ w.base.time then
      let b := w.base.wr (epochStat o.line (w.missingEnds o)) .RING_EPOCHSTAT 40
      match w.opWb o with
      | some x =>
        let (b, x) := b.once o.unit x 0x0A0A
        ({ w with base := b }.setWb o.unit x).opEnd o 1
      | none => { w with base := b }.opEnd o 1
    else w
  | none => w

/-- EPOCH_WAIT_EXPIRY (11 R331): reshards that have waited RING_EPOCHWAIT complete, with RING.EPOCHTO. -/
def Work.epochWait (w : Work) : Work := w.ring.ops.foldl Work.epochOne w

/-- The spare wavelength of a receive fibre is in use (11 R304). -/
def Base.spared (b : Base) (e fibre : Nat) : Bool := b.eng e (5 * fibre + 4) 1 .RING_WAVE == 1

/-- A receive fibre in service leaves it: RING.DEGRADED (11 R305). -/
def Base.fibreOff (e : Nat) (b : Base) (fibre : Nat) : Base :=
  (b.engSet e 16 4 (b.eng e 16 4 .RING_LINKST - 2 ^ fibre) .RING_LINKST).ringEvent e 5 0x0A06 none

/-- A lane in service of a receive fibre fails: it moves to the spare wavelength with RING.WAVESPARE, or takes its fibre out of service where the
spare is in use (11 R304, R305). The idle spare, and a lane that has moved, carry nothing and fail without effect. -/
def Base.laneFails (e : Nat) (b : Base) (c : Nat × Nat) : Base :=
  if c.1 < 4 ∧ c.2 < 9 ∧ (b.eng e 16 4 .RING_LINKST).testBit c.1 then
    if b.spared e c.1 then (if c.2 = b.eng e (5 * c.1) 4 .RING_WAVE then b else b.fibreOff e c.1)
    else if c.2 = 8 then b
    else (b.engSet e (5 * c.1) 5 (c.2 + 16) .RING_WAVE).ringEvent e 4 0x0A05 none
  else b

/-- WAVELENGTH_SPARE (11 R304, R305): a failing lane of a receive fibre moves to the spare wavelength, and a CONTROL frame asks the transmitter for
it; or its fibre leaves service, and an engine with no fibre left leaves service too. -/
def Work.waveSpare (w : Work) (e fibre lane : Nat) : Work :=
  if e < 16 then
    let b := Base.laneFails e w.base (fibre, lane)
    let w' := { w with base := b }
    if b.spared e fibre && !w.base.spared e fibre then
      w'.ringQueue e { type := 7, dst := b.eng e 4 6 .RING_LINKST, body := .laneMove fibre lane }
    else if b.eng e 16 4 .RING_LINKST = 0 then w'.linkLeaves e
    else w'
  else w

/-- The laser module of an engine serves it: present, unalarmed, and at 12 dBm or more on each fibre (11 R303, 19 R530). -/
def Base.laserOk (b : Base) (e : Nat) : Bool :=
  let v := b.rd .RING_LASER 40 0 (e / 2)
  bget v 0 && bget v 1 && !bget v 2 && decide (1200 ≤ sext 16 (fget v 16 16))

/-- An engine leaves service at once, with no recovery of its own: its link goes DOWN. -/
def Work.linkOff (w : Work) (e : Nat) : Work :=
  let w := w.linkLeaves e
  if w.base.linkState e = 6 then w else { w with base := w.base.engSet e 0 3 0 .RING_LINKST }

/-- RING_LASER of a module in a state (11 R303). A module is read only while it is present: an absent one leaves the alarm and the power as last read
(19 R533). -/
def laserWord (old : Word) (present alarm : Bool) (power : Nat) : Word :=
  if present then BitVec.ofNat 64 (1 + 2 * b2n (!alarm) + 4 * b2n alarm + power % 2 ^ 16 * 2 ^ 16) else fput old 0 2 0

/-- An engine loses its laser: RING.LASER, and it leaves service (11 R303). -/
def Work.laserOff (w : Work) (e : Nat) : Work := { w with base := w.base.ringEvent e 6 0x0A07 none }.linkOff e

/-- LASER_STATE (11 R303, 19 R533): a module becomes absent, alarmed or weak; its engines leave service and its laser is turned off unless it
is present and unalarmed. -/
def Work.laserState (w : Work) (j : Nat) (present alarm : Bool) (power : Nat) : Work :=
  if 8 ≤ j then w
  else
    let w := { w with base := w.base.wr (laserWord (w.base.rd .RING_LASER 40 0 j) present alarm power) .RING_LASER 40 0 j }
    if w.base.laserOk (2 * j) then w else (w.laserOff (2 * j)).laserOff (2 * j + 1)

/-- LASER_MODULE_RESTORED (19 R533): the module is present, unalarmed and above training power again. -/
def Work.laserRestored (w : Work) (j power : Nat) : Work :=
  if 8 ≤ j ∨ !(decide (1200 ≤ sext 16 power)) then w
  else { w with base := w.base.wr (BitVec.ofNat 64 (3 + power % 2 ^ 16 * 2 ^ 16)) .RING_LASER 40 0 j }

/-- A link that may begin training (11 R312, R316). -/
def Work.mayTrain (w : Work) (e fibres : Nat) : Bool :=
  decide (e < 16) && !w.ring.outs.contains e && decide (1 < w.base.ringSize) && w.base.senses
    && (w.base.linkState e == 0 || w.base.linkState e == 5) && (w.opt e).trainFailed.isNone && fibres % 16 != 0

/-- What locks in step 1 of training: the fibres of the mask, each of the others leaving service with RING.DEGRADED; then the lanes that fail to lock,
as fibre and lane (11 R304, R305, R312). -/
def Base.lockLanes (b : Base) (e fibres : Nat) (lanes : List (Nat × Nat)) : Base :=
  let b := ((List.range 4).filter fun f => !fibres.testBit f).foldl (Base.fibreOff e) (b.engSet e 16 4 15 .RING_LINKST)
  lanes.foldl (Base.laneFails e) b

/-- LINK_TRAIN (11 R312 step 1): a link with stable light locks its wavelengths. A link left with no fibre does not train. -/
def Work.linkTrain (w : Work) (e fibres : Nat) (lanes : List (Nat × Nat)) : Work :=
  let b := w.base
  let x := w.opt e
  if w.mayTrain e fibres then
    if b.laserOk e then
      let b := b.lockLanes e fibres lanes
      if b.eng e 16 4 .RING_LINKST = 0 then { w with base := b }
      else { w with base := b.engSet e 0 3 1 .RING_LINKST }.setOpt e { x with lockSince := some b.time }
    else
      let w := { w with base := b.ringEvent e 6 0x0A07 none }
      w.setOpt e { x with trainFailed := some b.time }
  else w

/-- TRAIN_RETRY_EXPIRY (11 R312): a link that failed training tries again 100 ms later. -/
def Work.trainRetry (w : Work) (e : Nat) : Work :=
  let x := w.opt e
  match x.trainFailed with
  | some t => if t + msTicks 100 ≤ w.base.time then w.setOpt e { x with trainFailed := none } else w
  | none => w

/-- LINK_DOWN (11 R314): loss of light or of lock. -/
def Work.linkDown (w : Work) (e : Nat) : Work := if e < 16 then w.linkLeaves e else w

/-- The frames that move to the other engines of the direction: those held and those waiting, but for the link's own CREDIT and RETRY frames (11 R309,
R314). -/
def RingEng.moving (x : RingEng) : List OutFrame := (x.sent.map (fun (s : Nat × OutFrame) => { s.2 with via := none }) ++ x.queue).filter fun f => takesCredit f.type && !f.ofLink

/-- Frames of an engine spread over the other engines of its direction. Those that had been sent are counted as resent on the engine that leaves
(11 R309, R314, R337, log entry 138). -/
def Work.framesMove (w : Work) (e : Nat) : Work :=
  let x := w.opt e
  let n := x.sent.countP fun s => takesCredit s.2.type && !s.2.ofLink
  let w := { w with base := w.base.engCount e n .RING_CNT_RETRY }.setOpt e { x with downSince := none, queue := [], sent := [] }
  x.moving.zipIdx.foldl (fun (w : Work) f => w.ringSpread (facesEast e) f.2 f.1) w

/-- LINK_RECOVERY_EXPIRY (11 R314): a link not back in service within 100 ms; its held frames go to the direction's other engines. -/
def Work.linkRecovery (w : Work) (e : Nat) : Work :=
  match (w.opt e).downSince with
  | none => w
  | some t =>
    if t + msTicks 100 ≤ w.base.time ∧ !w.base.inService e then
      Work.framesMove { w with base := (w.base.engSet e 0 3 6 .RING_LINKST).ringEvent e 3 0x0A04 none } e
    else w

/-- A failed engine may train again, unless management has taken it out (11 R316, 15 R459). -/
def Work.engineBack (w : Work) (e : Nat) : Work :=
  if w.base.linkState e = 6 ∧ !w.ring.outs.contains e then { w with base := w.base.engSet e 0 3 0 .RING_LINKST } else w

/-- RING_BYPASS.JOIN written (11 R316, 19 R532): the hold follows it, unless VAUX is low; a failed engine may train again. -/
def Work.joinWrite (w : Work) (join vauxLow : Bool) : Work :=
  let on := join && !vauxLow
  let b := (w.base.wf 0 1 (b2n on) .RING_BYPASS 40).wf 1 1 (b2n on) .RING_BYPASS 40
  let w := { w with base := b }
  if on then (List.range 16).foldl Work.engineBack w else w

/-- A link that trains stops (11 R316). -/
def Work.trainStops (w : Work) (e : Nat) : Work :=
  if w.base.linkState e = 1 ∨ w.base.linkState e = 2 ∨ w.base.linkState e = 3 then
    { w with base := w.base.engSet e 0 3 0 .RING_LINKST }.setOpt e { w.opt e with lockSince := none, trains := 0, tests := 0 }
  else w

/-- COUPLER_SENSE (11 R316, 19 R532): the switch's position; closed, the links in service lose light, and those that train stop. It opens only while
the hold is driven. -/
def Work.couplerSense (w : Work) (open_ : Bool) : Work :=
  if open_ then
    if w.base.rf 1 1 .RING_BYPASS 40 = 1 then { w with base := w.base.wf 2 1 1 .RING_BYPASS 40 } else w
  else
    (List.range 16).foldl (fun (w : Work) e => (w.trainStops e).linkLeaves e) { w with base := w.base.wf 2 1 0 .RING_BYPASS 40 }

end Sys2Proof.Machine
end

