-- ==== Sys2Proof/Machine/Memory.lean ====
section
/-! DEFINITION. Requests at the memory-side dies and the far tier: slots, tickets and hot banks (05 R148, R149), errors, sparing and retirement
(05 R151 to R154), and the far-tier links (05 R155, R156). -/

namespace Sys2Proof.Machine

/-- The pseudo-channel and the bank of a stack offset, as pseudo-channel × 64 + bank (05 R137). -/
def bankOf (s : Nat) : Nat :=
  Nat.xor (s / 256 % 64) (s / 2 ^ 20 % 64) * 64 + Nat.xor (s / 2 ^ 14 % 64) (s / 2 ^ 26 % 64)

/-- The key of the row that holds a stack offset: its bank and its row. -/
def rowOf (n s : Nat) : Nat := Config.memRow (pieceKey n s) * 4096 + bankOf s

/-- Spare rows of a bank (05 R152, R158 DOCK_MS_ROWSPARE). -/
def spareRows : Nat := 16

/-- A memory-side die and a link of the far tier. -/
def MemSys.die (m : MemSys) (n : Nat) : MemDie := (Map.find n m.dies).getD {}
def MemSys.setDie (m : MemSys) (n : Nat) (d : MemDie) : MemSys :=
  { m with dies := if d = {} then Map.del n m.dies else Map.put n d m.dies }
def MemSys.link (m : MemSys) (L : Nat) : FarLink := (Map.find L m.links).getD {}
def MemSys.setLink (m : MemSys) (L : Nat) (l : FarLink) : MemSys :=
  { m with links := if l = {} then Map.del L m.links else Map.put L l m.links }

/-- Requests of a bank that hold a slot. -/
def MemDie.count (d : MemDie) (bank : Nat) : Nat := (d.held.filter (· == bank)).length

/-- A bank is hot (05 R149). -/
def MemDie.hot (d : MemDie) (bank : Nat) : Bool :=
  decide (64 ≤ d.count bank) && d.waiting.any fun w => w.order == some bank

/-- A row replacement runs in the bank (05 R152). -/
def MemDie.spares (d : MemDie) (bank : Nat) : Bool := d.sparing.any fun s => s.1 == bank

/-- The ticket order that a request to a bank joins, or none where it is admitted; `slots` is how many slots its command takes in all (05 R148). -/
def MemDie.queueFor (d : MemDie) (slots bank : Nat) : Option (Option Nat) :=
  if 4096 < d.held.length + slots ∨ d.waiting.any (fun w => w.order == none) then some none
  else if 64 ≤ d.count bank ∨ d.spares bank = true ∨ d.waiting.any (fun w => w.order == some bank) then some (some bank)
  else none

/-- The registers and dwell times that follow a change of slots or tickets (05 R149, R158). -/
def settle (b : Base) (n : Nat) (d : MemDie) (peak : Nat := 0) : Base × MemDie :=
  let b := b.wf 0 13 d.held.length .DOCK_MS_SLOTS (ms n)
  let b := b.wf 16 13 (max (b.rf 16 13 .DOCK_MS_SLOTS (ms n)) (max peak d.held.length)) .DOCK_MS_SLOTS (ms n)
  let banks := (d.waiting.filterMap fun w => w.order).eraseDups
  let hot := banks.filter fun k => d.hot k && !d.spares k
  let full := decide (4096 ≤ d.held.length)
  (b, { d with
    hotSince := hot.foldl (fun m k => Map.put k ((Map.find k d.hotSince).getD b.time) m)
      (d.hotSince.filter fun e => hot.contains e.1 || d.spares e.1)
    hotSeen := d.hotSeen.filter fun k => decide (64 ≤ d.count k) || d.waiting.any fun w => w.order == some k
    fullSince := if full then some (d.fullSince.getD b.time) else none
    fullSeen := d.fullSeen && (full || d.waiting.any fun w => w.order == none) })

/-- A stack is fenced (05 R154). -/
def Base.stackFence (b : Base) (n : Nat) : Base :=
  if b.stackFenced n then b else (b.wf 9 2 2 .DOCK_MS_ID (ms n)).msEvent n 5 0x0408

/-- The data path fences a stack on its own (05 R154, 15 R458). -/
def Base.stackLost (b : Base) (n : Nat) : Base := if b.stackFenced n then b else (b.stackFence n).wantsFence (8 + n) 1 0

/-- A pseudo-channel is retired: its copy to a spare begins; a third retirement fences the stack (05 R153, R154). -/
def retire (b : Base) (n : Nat) (d : MemDie) (pc : Nat) : Base × MemDie :=
  let v := b.rd .DOCK_MS_PCRET (ms n)
  let start (b : Base) : Base × MemDie :=
    (((b.wf 14 1 1 .DOCK_MS_PCRET (ms n)).wf 9 2 1 .DOCK_MS_ID (ms n)).msEvent n 4 0x0407,
      { d with copying := d.copying ++ [pc], badRows := d.badRows.filter fun r => r.1 != pc })
  if d.copying.contains pc then (b, d)
  else if !bget v 6 then start ((b.wf 0 6 pc .DOCK_MS_PCRET (ms n)).wf 6 1 1 .DOCK_MS_PCRET (ms n))
  else if !bget v 13 then start ((b.wf 7 6 pc .DOCK_MS_PCRET (ms n)).wf 13 1 1 .DOCK_MS_PCRET (ms n))
  else (b.stackLost n, d)

/-- Ticks of 24 hours (05 R153). -/
def dayTicks : Nat := sTicks 86400

/-- A corrected error at a stack offset: counted, and its row replaced at the threshold (05 R151, R152). -/
def corrected (b : Base) (n : Nat) (d : MemDie) (s : Nat) : Base × MemDie :=
  let b := b.countSat 1 0 48 .DOCK_MS_CECNT (ms n)
  let row := rowOf n s
  let bank := bankOf s
  let c := (Map.find row d.rowErrs).getD 0 + 1
  if c < max 1 (b.rf 0 8 .DOCK_MS_CETHRESH (ms n)) then (b, { d with rowErrs := Map.put row c d.rowErrs })
  else
    let d := { d with rowErrs := Map.del row d.rowErrs }
    if (Map.find bank d.rowUsed).getD 0 + (d.sparing.filter fun e => e.1 == bank).length < spareRows then (b, { d with sparing := d.sparing ++ [(bank, b.time)] })
    else (b.msEvent n 3 0x0406, d)

/-- An uncorrectable error at a stack offset: counted, recorded and reported, and its block no longer sealed (05 R151, 12 R351). A request that
meets one counts its row toward retirement (05 R153). -/
def uncorrectable (b : Base) (n : Nat) (d : MemDie) (s : Nat) (request : Bool) : Base × MemDie :=
  let b := b.countSat 1 0 48 .DOCK_MS_UECNT (ms n)
  let b := b.wr (BitVec.ofNat 64 (s / 256 * 256 % 2 ^ 37 + 2 ^ 63)) .DOCK_MS_ERRADDR (ms n)
  let b := b.msEvent n 2 0x0405
  let b := { b with seals := Map.del (n * 2 ^ 25 + s / 4096) b.seals }
  if request then
    let pc := bankOf s / 64
    let row := rowOf n s
    let rows : List (Nat × Nat × Nat) := (d.badRows.filter fun r => decide (b.time < r.2.2 + dayTicks) && r.2.1 != row) ++ [(pc, row, b.time)]
    let d := { d with badRows := rows }
    if (rows.filter fun r => r.1 == pc).length ≥ 16 then retire b n d pc else (b, d)
  else (b, d)

/-- The cells of a piece hold other bytes than were written: the stored seal no longer matches (12 R351, R353). -/
def Base.alter (b : Base) (n s : Nat) (l : List Byte) : Base :=
  let at_ := s / 256 * 256
  let l := l.take 256
  let old := Memory.run b.mem (memKey n at_) l.length
  let blk := n * 2 ^ 25 + s / 4096
  { b with
    mem := Memory.put b.mem (memKey n at_) l
    seals := match Map.find blk b.seals with
      | some d => Map.put blk (Nat.xor d (sealDelta at_ (List.zipWith (fun x y => x ^^^ y) old l))) b.seals
      | none => b.seals }

/-- What a request shows of itself to the memory operations. -/
def reqOf (b : Base) (op : MemOp) : MemReq :=
  { who := (match op.part with
      | some p => .part p
      | none => b.whoIs op.master)
    src := ⟨op.die, op.unit⟩
    master := op.master
    waybill := op.waybill
    sealchk := op.sealchk && op.requester == .unit
    byUnit := match op.requester with | .unit | .core _ => true | _ => false
    consumes := op.requester == .unit || op.requester == .thread
    cls := (match op.requester with
      | .core m => m
      | .freeUnit => if b.whoIs op.master = .management then 5 else 6
      | .port _ => 6
      | _ => 3) }

/-- Address of a job. -/
def MemJob.addr : MemJob → Nat
  | .read a _ => a
  | .write a _ _ => a
  | .block a _ _ => a

/-- The banks in which a job takes a slot. -/
def MemJob.banks (j : MemJob) (s : Nat) : List Nat :=
  match j with
  | .block _ _ _ => (List.range 16).map fun i => bankOf (s / 4096 * 4096 + 256 * i)
  | _ => [bankOf s]

/-- The read of a piece of a served stack (05 R136, R150, R151, 12 R352). -/
def readPiece (b : Base) (n : Nat) (d : MemDie) (op : MemOp) (a s len : Nat) : Base × MemDie :=
  let rq := reqOf b op
  let go (b : Base) (d : MemDie) : Base × MemDie :=
    let (b, bad) := b.sealCheck rq n s a
    let (b, l) := b.pieceRead rq a len bad
    ({ b with resp := .bytes (l.map (·.1)) (l.any (·.2)) }, d)
  match op.err with
  | .none => go b d
  | .corrected =>
    let (b, d) := corrected b n d s
    go b d
  | .uncorrectable _ =>
    let (b, d) := uncorrectable b n d s true
    let (b, _) := b.sealCheck rq n s a
    ({ b.consumePoison rq with resp := .bytes (List.replicate len 0) true }, d)
  | .altered l => go (b.alter n s l) d

/-- The write of a piece of a served stack, with the reads that it makes (05 R141, R151, 12 R351). -/
def writePiece (b : Base) (n : Nat) (d : MemDie) (op : MemOp) (s : Nat) (data : List Byte) (bad : Bool) : Base × MemDie :=
  let isSealed := (Map.find (n * 2 ^ 25 + s / 4096) b.seals).isSome
  let reads := isSealed || decide (data.length < 256)
  match op.err with
  | .none => (b.pieceWrite n s data bad, d)
  | .corrected =>
    let (b, d) := corrected b n d s
    (b.pieceWrite n s data bad, d)
  | .uncorrectable k =>
    if reads || k % 16 == s / 256 % 16 then
      let b := if isSealed then b.countSat 1 0 48 .CHK_SEAL_CNT_RMW (ms n) else b
      let (b, d) := uncorrectable b n d s true
      (b.pieceWrite n s data (bad || reads), d)
    else
      let (b, d) := uncorrectable b n d (s / 4096 * 4096 + 256 * (k % 16)) true
      let b := b.pieceWrite n s data bad
      ({ b with seals := Map.del (n * 2 ^ 25 + s / 4096) b.seals }, d)
  | .altered l => ((b.alter n s l).pieceWrite n s data bad, d)

/-- The bytes of a block write, each with its poison. -/
def blockBytes (data : List Byte) (bad : List Nat) : List (Byte × Bool) :=
  ((data ++ List.replicate 4096 0).take 4096).zipIdx.map fun (x : Byte × Nat) => (x.1, bad.contains (x.2 / 256))

/-- An admitted request is served. -/
def serve (b : Base) (n : Nat) (d : MemDie) (op : MemOp) (job : MemJob) (s : Nat) : Base × MemDie :=
  match job with
  | .read a len => readPiece b n d op a s len
  | .write a data bad => writePiece (b.noteReq (reqOf b op) (ms n) 0 0x51 data.length a) n d op s data bad
  | .block a data bad => (b.blockArrives (reqOf b op) n s a (blockBytes data bad), d)

/-- An admitted request is served and holds its slots while it stays (05 R148). -/
def MemSys.takeIn (m : MemSys) (b : Base) (n : Nat) (op : MemOp) (job : MemJob) (s : Nat) : Base × MemSys :=
  let (b, d) := serve b n (m.die n) op job s
  let peak := d.held.length + (job.banks s).length
  let d := if op.stays then { d with held := d.held ++ job.banks s } else d
  let (b, d) := settle b n d peak
  (b, m.setDie n d)

/-- A request refused (05 R134, R139): a read is poisoned and a write dropped; a host's access gets an error response. -/
def Base.refused (b : Base) (op : MemOp) (job : MemJob) : Base :=
  let b := b.refuseMem (reqOf b op) job.addr
  match op.requester, job with
  | .port _, _ => { b with resp := .error }
  | _, .read _ len => { b.consumePoison (reqOf b op) with resp := .bytes (List.replicate len 0) true }
  | _, _ => { b with resp := .ok }

/-- A far-tier request arrives at the I/O die of its link (05 R155, R156). -/
def MemSys.farSubmit (m : MemSys) (b : Base) (op : MemOp) (job : MemJob) (p x : Nat) : Base × MemSys :=
  let L := b.farLink p
  let r : FarReq :=
    { part := p
      offset := x
      len := (match job with
        | .read _ len => len
        | .write _ data _ => data.length
        | .block _ _ _ => 4096)
      data := (match job with
        | .read _ _ => none
        | .write _ data bad => some (data.map fun v => (v, bad))
        | .block _ data bad => some (blockBytes data bad))
      op := op }
  let l := m.link L
  ({ b with resp := .held }, m.setLink L { l with waiting := l.waiting ++ [r] })

/-- A request over a failed link, or to a fenced stack: a read is poisoned and a write dropped (05 R154, 12 R349). -/
def Base.lostJob (b : Base) (op : MemOp) (job : MemJob) : Base :=
  match job with
  | .read _ len =>
    let (b, l) := b.pieceRead (reqOf b op) job.addr len false
    { b with resp := .bytes (l.map (·.1)) true }
  | _ => { b.pieceStore (reqOf b op) job.addr [] with resp := .ok }

/-- A request is answered with a ticket: event 0x53 of the die (05 R148, 17 R493). -/
def Base.ticketed (b : Base) (rq : MemReq) (n : Nat) : Base :=
  b.note { die := ms n, unit := 0, event := 0x53, adds := 1, cls := rq.class, identity := rq.identity, part := rq.part, waybill := rq.waybill }

/-- A request of at most one piece, or a block write, reaches its target (05 R134 to R156). -/
def MemSys.submit (m : MemSys) (b : Base) (op : MemOp) (job : MemJob) : Base × MemSys :=
  let rq := reqOf b op
  let a := job.addr
  match b.place a with
  | .control => (b, m)
  | .unmapped => (b.refused op job, m)
  | .stack n s =>
    if !b.served rq a then (b.refused op job, m)
    else if b.routeBroken rq.src.die (ms n) || b.stackFenced n then (b.lostJob op job, m)
    else
      let d := m.die n
      match (job.banks s).findSome? fun k => d.queueFor (job.banks s).length k with
      | none => m.takeIn { b with resp := .ok } n op job s
      | some o =>
        let b := b.ticketed rq n
        let (b, d) := settle b n { d with waiting := d.waiting ++ [{ order := o, op := op, job := job }] }
        ({ b with resp := .held }, m.setDie n d)
  | .far p x =>
    if !b.served rq a then (b.refused op job, m)
    else if b.routeBroken rq.src.die (io (b.farLink p / 2)) then (b.lostJob op job, m)
    else m.farSubmit b op job p x

/-- The requests that a read of n bytes from a makes: one for each piece it touches (05 R137). -/
def readJobs : Nat → Nat → Nat → List MemJob
  | 0, _, _ => []
  | k + 1, a, n => if n = 0 then [] else .read a (min n (256 - a % 256)) :: readJobs k (a + min n (256 - a % 256)) (n - min n (256 - a % 256))

/-- The requests that a write makes (05 R137). -/
def writeJobs (bad : Bool) : Nat → Nat → List Byte → List MemJob
  | 0, _, _ => []
  | k + 1, a, l =>
    if l.isEmpty then [] else .write a (l.take (256 - a % 256)) bad :: writeJobs bad k (a + (256 - a % 256)) (l.drop (256 - a % 256))

/-- Requests sent one after another; their answers are joined, and one that waits or fails stands for all. -/
def MemSys.sendAll (m : MemSys) (b : Base) (op : MemOp) (jobs : List MemJob) : Base × MemSys :=
  jobs.foldl (fun (s : Base × MemSys) j =>
    let before := s.1.resp
    let (b, m) := s.2.submit s.1 op j
    let joined : Resp := match before, b.resp with
      | .none, r => r
      | .bytes x p, .bytes y q => .bytes (x ++ y) (p || q)
      | .error, _ => .error
      | _, .error => .error
      | .held, _ => .held
      | _, r => r
    ({ b with resp := joined }, m)) ({ b with resp := .none }, m)

/-- STACK_READ: a read of n bytes (05 R136). -/
def MemSys.read (m : MemSys) (b : Base) (op : MemOp) (a n : Nat) : Base × MemSys := m.sendAll b op (readJobs (n / 256 + 2) a n)

/-- STACK_WRITE: a write of bytes (05 R141). -/
def MemSys.write (m : MemSys) (b : Base) (op : MemOp) (a : Nat) (l : List Byte) (bad : Bool) : Base × MemSys :=
  m.sendAll b op (writeJobs bad (l.length / 256 + 2) a l)

/-- BLOCK_WRITE: the 16 requests of a block have arrived (12 R351). Vector threads and the PCIe ports send none. -/
def MemSys.blockWrite (m : MemSys) (b : Base) (op : MemOp) (a : Nat) (l : List Byte) (bad : List Nat) : Base × MemSys :=
  if a % 4096 = 0 ∧ l.length = 4096 ∧ (op.requester = .unit ∨ op.requester = .freeUnit) then m.submit b op (.block a l bad) else (b, m)

/-- The stack offset of a job on a stack. -/
def MemJob.offset (j : MemJob) (b : Base) : Nat :=
  match b.place j.addr with
  | .stack _ s => s
  | _ => 0

/-- The holder of the oldest ticket of an order resends its request: it is served, or joins the other order in its place (05 R148); a stack fenced
or no longer reached poisons or drops it (05 R154, 12 R349). -/
def MemSys.resend (m : MemSys) (b : Base) (n : Nat) (order : Option Nat) : Base × MemSys :=
  let d := m.die n
  match d.waiting.findIdx? fun w => w.order == order with
  | none => (b, m)
  | some i =>
    match d.waiting[i]? with
    | none => (b, m)
    | some w =>
      let s := w.job.offset b
      let banks := w.job.banks s
      if b.stackFenced n || b.routeBroken w.op.die (ms n) then (b.lostJob w.op w.job, m.setDie n { d with waiting := d.waiting.eraseIdx i })
      else if 4096 < d.held.length + banks.length then (b, m.setDie n { d with waiting := d.waiting.set i { w with order := none } })
      else
        match banks.find? fun k => decide (64 ≤ d.count k) || d.spares k with
        | some k => (b, m.setDie n { d with waiting := d.waiting.set i { w with order := some k } })
        | none => (m.setDie n { d with waiting := d.waiting.eraseIdx i }).takeIn { b with resp := .ok } n w.op w.job s

/-- TICKET_NOTIFY: a request of the bank leaves its slot, where one holds one; the oldest ticket of the bank's order and of the slot pool's are
notified (05 R148). -/
def MemSys.ticketNotify (m : MemSys) (b : Base) (n bank : Nat) : Base × MemSys :=
  let d := m.die n
  let (b, d) := settle b n { d with held := d.held.erase bank }
  let (b, m) := (m.setDie n d).resend b n (some bank)
  let (b, m) := m.resend b n none
  let (b, d) := settle b n (m.die n)
  (b, m.setDie n d)

/-- HOTBANK_DWELL_EXPIRY (05 R149). -/
def MemSys.hotDwell (m : MemSys) (b : Base) (n bank : Nat) : Base × MemSys :=
  let d := m.die n
  match Map.find bank d.hotSince with
  | some t =>
    if t + b.rf 0 32 .DOCK_MS_HOTDWELL (ms n) ≤ b.time ∧ !d.hotSeen.contains bank ∧ !d.spares bank then
      let b := b.countSat 1 16 48 .DOCK_MS_HOTBANK (ms n)
      let b := b.wf 0 13 (bank / 64 % 64 + bank % 64 * 64 + 4096) .DOCK_MS_HOTBANK (ms n)
      (b.msEvent n 0 0x0403, m.setDie n { d with hotSeen := NSet.add bank d.hotSeen })
    else (b, m)
  | none => (b, m)

/-- SLOTFULL_DWELL_EXPIRY (05 R149): the episode counts whether or not its event is raised. -/
def MemSys.fullDwell (m : MemSys) (b : Base) (n : Nat) : Base × MemSys :=
  let d := m.die n
  match d.fullSince with
  | some t =>
    if t + b.rf 0 32 .DOCK_MS_HOTDWELL (ms n) ≤ b.time ∧ !d.fullSeen then
      (b.msEvent n 1 0x0404, m.setDie n { d with fullSeen := true, fulls := d.fulls + 1 })
    else (b, m)
  | none => (b, m)

/-- A request of patrol scrubbing. -/
def scrubReq (n : Nat) : MemReq :=
  { who := .management, src := logic (ms n), sealchk := true, byUnit := false, consumes := false, cls := 6 }

/-- The seal of a scrubbed piece's block verified; a failure is marked as found by scrubbing (12 R352, R353). -/
def Base.scrubCheck (b : Base) (n s : Nat) : Base :=
  let (b, bad) := b.sealCheck (scrubReq n) n s (b.stackAddr n s)
  if bad then b.wf 25 1 1 .CHK_SEAL_LAST (ms n) else b

/-- PATROL_SCRUB: one piece read by patrol scrubbing (05 R151, 12 R352, R353). A bank with a row replacement running admits no read (05 R152). -/
def MemSys.scrub (m : MemSys) (b : Base) (n off : Nat) (err : MemErr) : Base × MemSys :=
  let s := off / 256 * 256
  if n < 32 ∧ s < 96 * 2 ^ 30 ∧ !b.stackFenced n ∧ !(m.die n).spares (bankOf s) then
    let d := m.die n
    match err with
    | .none => (b.scrubCheck n s, m)
    | .corrected =>
      let (b, d) := corrected b n d s
      (b.scrubCheck n s, m.setDie n d)
    | .uncorrectable _ =>
      let (b, d) := uncorrectable b n d s false
      (Base.scrubCheck { b with poison := NSet.add (pieceKey n s) b.poison } n s, m.setDie n d)
    | .altered l => ((b.alter n s l).scrubCheck n s, m)
  else (b, m)

/-- A die after a row replacement: one spare row more used in the bank, and the time it took left out of the bank's hot time (05 R149, R152). -/
def MemDie.rowSpared (d : MemDie) (e : Nat × Nat) (time : Nat) : MemDie :=
  { d with
    sparing := d.sparing.erase e
    rowUsed := Map.put e.1 ((Map.find e.1 d.rowUsed).getD 0 + 1) d.rowUsed
    hotSince := d.hotSince.map fun h => if h.1 = e.1 then (h.1, h.2 + (time - e.2)) else h }

/-- The least number of spare rows left in a bank. -/
def MemDie.leastSpares (d : MemDie) : Nat := d.rowUsed.foldl (fun k u => min k (spareRows - u.2)) spareRows

/-- The tickets of a bank's order notified, once for each that waits (05 R148, R152). -/
def MemSys.notifyBank (m : MemSys) (b : Base) (n bank : Nat) : Base × MemSys :=
  (List.range ((m.die n).waiting.filter fun w => w.order == some bank).length).foldl (fun (s : Base × MemSys) _ =>
    let (b, m) := s.2.resend s.1 n (some bank)
    let (b, d) := settle b n (m.die n)
    (b, m.setDie n d)) (b, m)

/-- ROW_SPARE_END: a replacement ends and the bank admits requests again (05 R152). -/
def MemSys.rowSpareEnd (m : MemSys) (b : Base) (n bank : Nat) : Base × MemSys :=
  let d := m.die n
  match d.sparing.find? fun s => s.1 == bank with
  | none => (b, m)
  | some e =>
    let d := d.rowSpared e b.time
    let b := ((b.countSat 1 0 16 .DOCK_MS_ROWSPARE (ms n)).wf 16 16 d.leastSpares .DOCK_MS_ROWSPARE (ms n)).msEvent n 3 0x0406
    (m.setDie n d).notifyBank b n bank

/-- PC_COPY_END: the copy of a pseudo-channel ends (05 R153). -/
def MemSys.pcCopyEnd (m : MemSys) (b : Base) (n pc : Nat) : Base × MemSys :=
  let d := m.die n
  if d.copying.contains pc then
    let d := { d with copying := d.copying.erase pc }
    ((b.wf 14 1 (b2n (!d.copying.isEmpty)) .DOCK_MS_PCRET (ms n)).msEvent n 4 0x0407, m.setDie n d)
  else (b, m)

/-- Far-tier reads that a link carries at once (05 R156). -/
def Base.farLimit (b : Base) (L : Nat) : Nat := if bget (b.rd .DOCK_PCIE_CFG (io (L / 2))) 0 then 512 else 1024

/-- A request that a unit makes of a stack or of the far tier, as the counters see it, is admitted now. A stack: a free slot and a free place at its
bank, with no ticket of either order waiting and no row replacement in the bank (05 R148, R152). The far tier: its link is up, no earlier request
waits, and a read has a place on the link (R155, R156). -/
def MemSys.admits (m : MemSys) (b : Base) (o : Occur) : Bool :=
  match o.event, o.addr.map b.place with
  | 0x50, some (.stack n s) | 0x51, some (.stack n s) => (m.die n).queueFor 1 (bankOf s) == none
  | 0x71, some (.far p _) => b.linkUp (b.farLink p) && (m.link (b.farLink p)).waiting.isEmpty
  | 0x72, some (.far p _) => b.linkUp (b.farLink p) && (m.link (b.farLink p)).waiting.isEmpty && decide ((m.link (b.farLink p)).out.length < b.farLimit (b.farLink p))
  | _, _ => true

/-- The device address of a far-tier request (05 R134). -/
def FarReq.address (r : FarReq) : Nat := 0x4000_0000_0000 + r.part * 2 ^ 43 + r.offset

/-- FAR_REQUEST_ISSUE: the oldest request that waits is sent; a read takes one of the link's places, a write is posted (05 R155, R156). -/
def MemSys.farIssue (m : MemSys) (b : Base) (L : Nat) : Base × MemSys :=
  let l := m.link L
  match l.waiting with
  | [] => (b, m)
  | r :: rest =>
    if !b.linkUp L then (b, m)
    else
      match r.data with
      | some data => ((b.noteReq (reqOf b r.op) (io (L / 2)) 5 0x71 data.length r.address).farWrite (b.hostAddr r.part r.offset) data, m.setLink L { l with waiting := rest })
      | none =>
        if l.out.length < b.farLimit L then (b, m.setLink L { waiting := rest, out := l.out ++ [r] }) else (b, m)

/-- A far-tier read fails: its data is poisoned and MEM.FARERR raised (05 R155). -/
def Base.farFail (b : Base) (L : Nat) (r : FarReq) : Base :=
  let rq := reqOf b r.op
  let b := (b.farUnsealed rq r.part L).farError rq r.part L
  { b.consumePoison rq with resp := .bytes (List.replicate r.len 0) true }

/-- FAR_COMPLETION: the completion of the i-th read that the link carries; none where it is unsuccessful or poisoned (05 R155). -/
def MemSys.farComplete (m : MemSys) (b : Base) (L i : Nat) (data : Option (List Byte)) : Base × MemSys :=
  let l := m.link L
  match l.out[i]? with
  | none => (b, m)
  | some r =>
    let m := m.setLink L { l with out := l.out.eraseIdx i }
    match data with
    | none => (b.farFail L r, m)
    | some bytes =>
      if bytes.length = r.len then
        let b := (b.farUnsealed (reqOf b r.op) r.part L).noteReq (reqOf b r.op) (io (L / 2)) 5 0x72 1 r.address
        ({ b.farWrite (b.hostAddr r.part r.offset) (bytes.map fun v => (v, false)) with resp := .bytes bytes false }, m)
      else (b.farFail L r, m)

/-- FAR_COMPLETION_TIMEOUT: no completion within the PCIe completion timeout (05 R155). -/
def MemSys.farTimeout (m : MemSys) (b : Base) (L i : Nat) : Base × MemSys := m.farComplete b L i none

/-- Some bank of the die is hot (05 R149). -/
def MemDie.anyHot (d : MemDie) : Bool := (d.waiting.filterMap fun w => w.order).any d.hot

/-- A read that a link carries, counted in a tick: event 0x73 (17 R493). -/
def FarReq.waitNote (r : FarReq) (L : Nat) (b : Base) : Base :=
  let rq := reqOf b r.op
  b.note { die := io (L / 2), unit := 5, event := 0x73, adds := 1, cls := rq.class, identity := rq.identity, part := rq.part, waybill := rq.waybill }

/-- What a tick counts at the memory-side dies and the links: HOT_TICKS and FAR_WAIT (17 R493). -/
def MemSys.tickNotes (m : MemSys) (b : Base) : Base :=
  let b := m.dies.foldl (fun (b : Base) d =>
    if d.2.anyHot then b.note { die := ms d.1, unit := 0, event := 0x54, adds := 1, cls := 6, part := b.partOfStack d.1 } else b) b
  m.links.foldl (fun (b : Base) l => l.2.out.foldl (fun (b : Base) r => r.waitNote l.1 b) b) b

end Sys2Proof.Machine
end

