-- ==== Sys2Proof/Machine/Dock.lean ====
section
/-! DEFINITION. The Dock: host accesses through BAR2 (14 R414, R415), bay tags and bay commands (R416 to R418). -/

namespace Sys2Proof.Machine

def Device.base (v : Device) : Base := v.work.base
def Device.setBase (v : Device) (b : Base) : Device := { v with work := { v.work with base := b } }
def Device.onBase (v : Device) (f : Base → Base) : Device := v.setBase (f v.work.base)
/-- An effect on the data path alone. -/
def Device.onWork (v : Device) (f : Work → Work) : Device := { v with work := f v.work }

def Device.answer (v : Device) (r : Resp) : Device := v.onBase fun b => { b with resp := r }

/-- A unit's transfer is put off: a stack answers it with a ticket, and a far-tier request waits at the I/O die (05 R148, R156). -/
def Device.putOff (v : Device) (o : Occur) : Device :=
  (if o.event = 0x50 ∨ o.event = 0x51 then v.onBase fun b => b.note { o with event := 0x53, adds := 1, addr := none } else v).answer .held

/-- The data path's work becomes w, made of the requests that w counts. Where one of them is not admitted the work is put off whole: its sender makes
it again (log entry 14). -/
def Device.take (v : Device) (w : Work) : Device :=
  match (w.base.occurs.take (w.base.occurs.length - v.base.occurs.length)).reverse.find? fun o => !v.mem.admits v.base o with
  | none => { v with work := w }
  | some o => v.putOff o

/-- The work of a command of the data path. -/
def Device.doWork (v : Device) (f : Work → Work) : Device := v.take (f v.work)

/-- A memory request by the device's own path. -/
def Device.onMem (v : Device) (f : MemSys → Base → Base × MemSys) : Device :=
  let (b, m) := f v.mem v.work.base
  { v.setBase b with mem := m }

/-- The bays of partition p. -/
def Device.bays (v : Device) (p : Nat) : BaySt := (Map.find p v.dock.bays).getD {}
def Device.setBays (v : Device) (p : Nat) (s : BaySt) : Device :=
  { v with dock := { v.dock with bays := if s = {} then Map.del p v.dock.bays else Map.put p s v.dock.bays } }

/-- The tag of a bay in force on I/O die n (14 R415, R417). -/
def BaySt.tag (s : BaySt) (n bay : Nat) : Nat := (Map.find (n * 65536 + bay) s.tags).getD s.base

/-- A tag set on I/O die n. -/
def BaySt.setTag (s : BaySt) (n bay t : Nat) : BaySt :=
  { s with tags := if t = s.base then Map.del (n * 65536 + bay) s.tags else Map.put (n * 65536 + bay) t s.tags }

/-- The Dock of partition p: base address and number of bays (14 R414, R425). -/
def Base.dockBase (b : Base) (p : Nat) : Nat := (b.rd .DOCK_PT_DOCK 40 0 p).toNat % 2 ^ 52
def Base.dockBays (b : Base) (p : Nat) : Nat := b.rf 0 16 .DOCK_PT_DOCKSIZE 40 0 p

/-- A logged access of the Dock (14 R415, R427). -/
def Base.dockLog (b : Base) (p bay : Nat) (write : Bool) (L : Nat) (range : Bool) : Base :=
  let b := b.countSat 1 32 32 .DOCK_DOCKLOG 40 0 p
  b.wf 0 32 (bay % 2 ^ 15 + b2n write * 2 ^ 15 + L * 2 ^ 16 + b2n range * 2 ^ 19) .DOCK_DOCKLOG 40 0 p

/-- The PCIe port of a link's I/O die as a source (15 R452). -/
def portSrc (L : Nat) : Src := ⟨io (L / 2), 5⟩

/-- The link serves its partition's requests: the lock is set and the link is in service (14 R410). -/
def Base.linkServes (b : Base) (L : Nat) : Option Nat := if b.locked && b.linkUp L then b.partOfLink L else none

/-- What an access through BAR2 meets: an address to serve, or the state in which it ends (14 R414, R415). A write of more than the maximum payload,
or an access that no packet can make, is none (R401). -/
def Device.dockCheck (v : Device) (L off n : Nat) (write : Bool) : Option Nat × Device :=
  match v.base.linkServes L with
  | none => (none, v)
  | some p =>
    if n = 0 ∨ 4096 < off % 4096 + n ∨ 2 ^ 36 ≤ off ∨ (write ∧ 512 < n) then (none, v)
    else
      let bay := off / 2 ^ 21
      if v.base.dockBays p ≤ bay then
        (none, v.onBase fun b => { (b.dockLog p bay write L true).hostEvent p 2 0x0D04 (portSrc L) with resp := .error })
      else if (v.bays p).tag (L / 2) bay = 1 then (some (v.base.dockBase p + off), v)
      else
        (none, v.onBase fun b =>
          { (b.dockLog p bay write L false).hostEvent p 1 0x0D03 (portSrc L) with
            resp := if write then .error else .bytes (List.replicate n 0) true })

/-- The memory request of a host access (14 R405, R414). -/
def hostOp (p L : Nat) (err : MemErr) (stays : Bool) : MemOp :=
  { master := hostMaster p
    part := none
    die := io (L / 2)
    unit := 5
    waybill := 0
    sealchk := false
    requester := .port L
    err := err
    stays := stays }

/-- Payload bytes of requests received or of completions sent by a PCIe port: events 0x70 and 0x71 (17 R493). -/
def Base.notePort (b : Base) (L event n a : Nat) : Base :=
  b.note { die := io (L / 2), unit := 5, event := event, adds := n, cls := 6, identity := none, part := b.partOfLink L, addr := some a, waybill := 0 }

/-- A posted write of a link that met an error response: the port signals an Unsupported Request (14 R405). DEDUCED (log entry 166): a write that a
rule drops with an event of its own met one. -/
def Device.signalled (v : Device) (L : Nat) : Device :=
  if v.base.resp = .error then v.onBase fun b => b.setLink L { b.link L with aerUncor := (b.link L).aerUncor ||| 2 ^ 20 } else v

/-- A read of a link that met an error response completes with Unsupported Request status (14 R405): an advisory error, which Advanced Error Reporting
counts among the correctable ones and reports unless it is masked (log entry 151). -/
def Device.advised (v : Device) (L : Nat) : Device :=
  if v.base.resp = .error then
    v.onBase fun b =>
      let l := b.link L
      let b := b.setLink L { l with aerCor := l.aerCor ||| 2 ^ 13 }
      if l.aerMask.testBit 13 then b else b.countSat 1 0 48 .DOCK_PCIE_CERR (io (L / 2)) 0 (L % 2)
  else v

/-- DOCK_HOST_READ (14 R405, R414, R415). -/
def Device.hostRead (v : Device) (L off n : Nat) (err : MemErr) (stays : Bool) : Device :=
  (match v.dockCheck L off n false with
  | (none, v) => v
  | (some a, v) =>
    (v.onBase fun b => b.notePort L 0x71 n a).onMem fun m b => m.read b (hostOp ((v.base.partOfLink L).getD 0) L err stays) a n).advised L

/-- DOCK_HOST_WRITE (14 R405, R414, R415). -/
def Device.hostWrite (v : Device) (L off : Nat) (data : List Byte) (bad : Bool) (err : MemErr) (stays : Bool) : Device :=
  (match v.dockCheck L off data.length true with
  | (none, v) => v
  | (some a, v) =>
    (v.onBase fun b => b.notePort L 0x70 data.length a).onMem fun m b =>
      m.write b (hostOp ((v.base.partOfLink L).getD 0) L err stays) a data bad).signalled L

/-- Fields of a DOCK_BAYCMD value (14 R427). -/
def bayFirst (d : Nat) : Nat := d % 2 ^ 15
def bayCount (d : Nat) : Nat := d / 2 ^ 15 % 2 ^ 15 + 1
def bayExpect (d : Nat) : Nat := d / 2 ^ 30 % 4
def bayNew (d : Nat) : Nat := d / 2 ^ 32 % 4
def bayAny (d : Nat) : Bool := d.testBit 34
def bayQuery (d : Nat) : Bool := d.testBit 35

/-- A command is checked on the fields it uses (14 R416). -/
def Base.bayBad (b : Base) (p d : Nat) : Bool :=
  if bayQuery d then decide (b.dockBays p ≤ bayFirst d)
  else decide (b.dockBays p < bayFirst d + bayCount d) || bayNew d == 3 || (!bayAny d && bayExpect d == 3)

/-- The bays that a command matches, on I/O die n (14 R416). -/
def BaySt.hits (s : BaySt) (n d : Nat) : List Nat :=
  (upto (bayCount d) (bayFirst d)).filter fun bay => bayAny d || s.tag n bay == bayExpect d

/-- DOCK_BAYRES after a command, from the tags that the last I/O die n to take it still holds (14 R416, R427). -/
def BaySt.result (s : BaySt) (n d : Nat) : Nat :=
  let bays := upto (bayCount d) (bayFirst d)
  let changed := (bays.filter fun bay => (bayAny d || s.tag n bay == bayExpect d) && s.tag n bay != bayNew d).length
  let miss := if bayAny d then none else bays.find? fun bay => s.tag n bay != bayExpect d
  changed + (match miss with
    | some m => m * 2 ^ 16 + 2 ^ 31
    | none => 0) + 2 ^ 34

/-- What an access reads of a register: all of it (0), or its lower (1) or upper (2) half (00 R6). -/
def regPart (part : Nat) (x : Word) : Word :=
  if part = 0 then x else BitVec.ofNat 64 (if part = 2 then x.toNat / 2 ^ 32 else x.toNat % 2 ^ 32)

/-- The part of a register that an access of a size at an address covers. -/
def accessPart (addr size : Nat) : Nat := if size = 8 then 0 else if addr % 8 = 4 then 2 else 1

/-- A command of the partition has been written into DOCK_BAYRES: the reads held for it are answered (14 R417). -/
def Device.bayDone (v : Device) (p res : Nat) : Device :=
  let s := v.bays p
  let v := v.onBase fun b => b.wr (BitVec.ofNat 64 res) .DOCK_BAYRES 40 0 p
  let v := v.setBays p { s with running := none, readers := (s.readers.filter fun k => 1 < k.1).map fun k => (k.1 - 1, k.2) }
  match s.readers.find? fun k => decide (k.1 ≤ 1) with
  | some k => v.answer (.value (regPart k.2 (BitVec.ofNat 64 res)))
  | none => v

/-- The commands of a partition are taken one at a time: those that change no tag run at once (14 R416, R417). -/
def Device.bayNext (v : Device) (p : Nat) : Nat → Device
  | 0 => v
  | k + 1 =>
    let s := v.bays p
    match s.running, s.waiting with
    | none, d :: rest =>
      let v' := v.setBays p { s with waiting := rest }
      if v.base.bayBad p d then ((v'.bayDone p (2 ^ 34 + 2 ^ 35)).onBase fun b => b.hostEvent p 3 0x0D05 io0).bayNext p k
      else if bayQuery d then (v'.bayDone p (s.tag 0 (bayFirst d) * 2 ^ 32 + 2 ^ 34)).bayNext p k
      else v.setBays p { s with waiting := rest, running := some (d, []) }
    | _, _ => v

/-- BAY_COMMAND, BAY_QUERY: a write to DOCK_BAYCMD arrives at IO0 (14 R416, R417). -/
def Device.bayCommand (v : Device) (p d : Nat) : Device :=
  let s := v.bays p
  (v.setBays p { s with waiting := s.waiting ++ [d] }).bayNext p (s.waiting.length + 1)

/-- BAY_TAG_IN_FORCE: the command that runs takes force on I/O die n; with the fourth die, DOCK_BAYRES is written (14 R417). -/
def Device.bayInForce (v : Device) (p n : Nat) : Device :=
  let s := v.bays p
  match s.running with
  | some (d, dies) =>
    if 4 ≤ n ∨ dies.contains n then v
    else
      let after := (s.hits n d).foldl (fun (t : BaySt) bay => t.setTag n bay (bayNew d)) s
      if dies.length = 3 then
        ((v.setBays p { after with running := some (d, n :: dies) }).bayDone p (s.result n d)).bayNext p (s.waiting.length + 1)
      else v.setBays p { after with running := some (d, n :: dies) }
  | none => v

/-- A read of DOCK_BAYRES, or of a half of it, waits for the commands that arrived before it (14 R417). -/
def Device.bayRead (v : Device) (p part : Nat) : Device :=
  let s := v.bays p
  let ahead := s.waiting.length + (if s.running.isSome then 1 else 0)
  if ahead = 0 then v.answer (.value (regPart part (v.base.rd .DOCK_BAYRES 40 0 p)))
  else (v.setBays p { s with readers := s.readers ++ [(ahead, part)] }).answer .held

end Sys2Proof.Machine
end

