-- ==== Sys2Proof/Machine/Mailbox.lean ====
section
/-! DEFINITION. Mailbox channels (14 R419 to R424, R428). -/

namespace Sys2Proof.Machine

/-- Fields of MBX_BIND (14 R428). -/
def Base.mbxA (b : Base) (c : Nat) : Nat := b.rf 0 8 .MBX_BIND 40 0 c
def Base.mbxB (b : Base) (c : Nat) : Nat := b.rf 8 8 .MBX_BIND 40 0 c
def Base.mbxPart (b : Base) (c : Nat) : Nat := b.rf 16 3 .MBX_BIND 40 0 c

/-- The channel is in use (14 R419). -/
def Base.mbxInUse (b : Base) (c : Nat) : Bool := bget (b.rd .MBX_BIND 40 0 c) 19 && b.locked

/-- The master at the sending and at the receiving end of a direction. -/
def Base.mbxSender (b : Base) (c d : Nat) : Nat := if d = 0 then b.mbxA c else b.mbxB c
def Base.mbxReceiver (b : Base) (c d : Nat) : Nat := if d = 0 then b.mbxB c else b.mbxA c

/-- A register of a direction. -/
def Base.mbxTx (b : Base) (c d : Nat) : Word := b.rd .MBX_TXSTAT 40 0 c d

/-- The partition in whose status a master's mailbox event is recorded (14 R427). -/
def Base.mbxEventPart (b : Base) (c master : Nat) : Nat := if 1 ≤ master ∧ master ≤ 8 then master - 1 else b.mbxPart c

/-- A refused mailbox access: an error response and its event (14 R419 to R423). -/
def Base.mbxRefuse (b : Base) (c master bit code : Nat) : Base :=
  { b.hostEvent (b.mbxEventPart c master) bit code io0 with resp := .error }

/-- The direction is PENDING (14 R428). -/
def Base.mbxPending (b : Base) (c d : Nat) : Bool := fget (b.mbxTx c d) 0 2 == 1

/-- A core identity 0x10 + 9n + k has a core (13 R369, R396 DOCK_WT_CORE). -/
def Base.coreRuns (b : Base) (n k : Nat) : Bool :=
  let v := b.rd .DOCK_WT_CORE (cd n)
  (decide (k < 8) && bget v k) || (bget v 8 && fget v 18 4 == k)

/-- The effective power state of a die (16 R466). -/
def Base.dieState (b : Base) (d : Nat) : Nat := b.rf 0 3 .PWR_DIE_STATE d

/-- A master's domain is down (14 R424). -/
def Base.domainDown (b : Base) (m : Nat) : Bool :=
  if 1 ≤ m ∧ m ≤ 8 then !(List.range 8).any fun L => b.partOfLink L == some (m - 1) && b.linkUp L
  else if 0x10 ≤ m ∧ m ≤ 0x57 then
    decide (2 ≤ b.dieState ((m - 0x10) / 9)) || !b.coreRuns ((m - 0x10) / 9) ((m - 0x10) % 9)
  else false

/-- A mailbox notice to a master (14 R413, R424). -/
def Base.mbxNotify (b : Base) (m c : Nat) : Base :=
  if 1 ≤ m ∧ m ≤ 8 then b.msixPart (m - 1) 2033 else { b with sent := .mailbox m c :: b.sent }

/-- State and cause of a direction (14 R428 MBX_TXSTAT). -/
def Base.mbxState (b : Base) (c d st cause : Nat) : Base := b.wf 0 5 (st + 4 * cause) .MBX_TXSTAT 40 0 c d

/-- A pending message is withdrawn (14 R423, R424). -/
def Device.mbxWithdraw (v : Device) (c d cause : Nat) : Device :=
  let v := v.onBase fun b => (b.mbxState c d 3 cause).wf 6 1 0 .MBX_RXHDR 40 0 c d
  { v with
    dock := { v.dock with sentAt := Map.del (2 * c + d) v.dock.sentAt }
    mgt := if v.base.mbxSender c d = 0 then { v.mgt with outbox := Map.del c v.mgt.outbox } else v.mgt }

/-- MBX_DATA_WRITE: word w of a direction's message, in a channel in use (14 R420). -/
def Device.mbxDataWrite (v : Device) (master c d w : Nat) (x : Word) : Device :=
  let b := v.base
  if master ≠ b.mbxSender c d then v.onBase fun b => b.mbxRefuse c master 4 0x0D06
  else if b.mbxPending c d then v.onBase fun b => b.mbxRefuse c master 5 0x0D07
  else (v.onBase fun b => b.wr x .MBX_DATA 40 0 c (16 * d + w)).answer .ok

/-- The message bytes in the data registers of a direction (14 R420). -/
def Base.mbxBytes (b : Base) (c d n : Nat) : List Byte :=
  ((List.range 7).flatMap fun w => leBytes 8 (b.rd .MBX_DATA 40 0 c (16 * d + w)).toNat).take n

/-- The check value of a message (14 R422). -/
def Base.mbxCheck (b : Base) (c d len tag : Nat) : Nat :=
  mbxCfg.check (leBytes 1 len ++ leBytes 1 tag ++ b.mbxBytes c d len)

/-- A message is delivered: the direction is PENDING, MBX_RXHDR holds its header, and the receiver is notified (14 R421). -/
def Device.mbxDeliver (v : Device) (c d len tag check : Nat) : Device :=
  let v' := v.onBase fun b =>
    let b := b.mbxState c d 1 0
    let b := b.wf 32 32 ((b.rf 32 32 .MBX_TXSTAT 40 0 c d + 1) % 2 ^ 32) .MBX_TXSTAT 40 0 c d
    let b := b.wr (BitVec.ofNat 64 (len + 64 + tag * 256 + check * 65536)) .MBX_RXHDR 40 0 c d
    { b.mbxNotify (b.mbxReceiver c d) c with resp := .ok }
  { v' with dock := { v'.dock with sentAt := Map.put (2 * c + d) v.base.time v'.dock.sentAt } }

/-- LEN, TAG, CHKEN and CHECK of an MBX_SEND value (14 R428). -/
def mbxLen (x : Nat) : Nat := x % 64
def mbxTag (x : Nat) : Nat := x / 256 % 256
def mbxDiffers (x check : Nat) : Bool := x.testBit 16 && x / 2 ^ 32 % 65536 != check

/-- MBX_SEND (14 R421). -/
def Device.mbxSend (v : Device) (master c d x : Nat) : Device :=
  let b := v.base
  let check := b.mbxCheck c d (mbxLen x) (mbxTag x)
  if master ≠ b.mbxSender c d then v.onBase fun b => b.mbxRefuse c master 4 0x0D06
  else if 56 < mbxLen x then v.onBase fun b => b.mbxRefuse c master 4 0x0D06
  else if b.mbxPending c d then v.onBase fun b => b.mbxRefuse c master 5 0x0D07
  else if mbxDiffers x check then v.onBase fun b => (b.mbxState c d 3 3).mbxRefuse c master 7 0x0D09
  else if b.domainDown (b.mbxReceiver c d) then v.onBase fun b => (b.mbxState c d 3 1).mbxRefuse c master 6 0x0D08
  else v.mbxDeliver c d (mbxLen x) (mbxTag x) check

/-- The direction of a mailbox channel on which master 0x00 sends, where it is one of the two masters (15 R440). -/
def Base.mgtSends (b : Base) (c : Nat) : Option Nat :=
  if 256 ≤ c ∨ !b.mbxInUse c then none
  else if b.mbxA c = 0 then (if b.mbxB c = 0 then none else some 0)
  else if b.mbxB c = 0 then some 1
  else none

/-- The next message of a channel's response is sent; if it cannot be, the rest of the response is dropped (15 R440). -/
def Device.outboxSend (v : Device) (c : Nat) : Device :=
  match v.base.mgtSends c, Map.find c v.mgt.outbox with
  | some d, some (m :: rest) =>
    if v.base.mbxPending c d then v
    else
      let b := (List.range 7).foldl (fun (b : Base) w => b.wr (BitVec.ofNat 64 (fieldAt m (8 * w) 8)) .MBX_DATA 40 0 c (16 * d + w)) v.base
      let v := (v.setBase b).mbxSend 0 c d m.length
      { v with mgt := { v.mgt with
          outbox := if rest.isEmpty || !v.base.mbxPending c d then Map.del c v.mgt.outbox else Map.put c rest v.mgt.outbox } }
  | _, _ => v

/-- A message is acknowledged with a return code, and its sender notified (14 R423). -/
def Device.mbxAcked (v : Device) (c d code : Nat) : Device :=
  let v := v.onBase fun b =>
    let b := (b.mbxState c d 2 0).wf 16 16 code .MBX_TXSTAT 40 0 c d
    let b := b.wf 6 1 0 .MBX_RXHDR 40 0 c d
    { b.mbxNotify (b.mbxSender c d) c with resp := .ok }
  { v with dock := { v.dock with sentAt := Map.del (2 * c + d) v.dock.sentAt } }

/-- MBX_ACK (14 R423). A 4-byte write to its upper half, which holds no field, acknowledges with RETCODE 0 too (log entry 163). A client's
acknowledgement lets the management controller send the next message of a response (15 R440). -/
def Device.mbxAck (v : Device) (master c d x : Nat) : Device :=
  let b := v.base
  if master ≠ b.mbxReceiver c d then v.onBase fun b => b.mbxRefuse c master 4 0x0D06
  else if !b.mbxPending c d then v.onBase fun b => b.mbxRefuse c master 9 0x0D0B
  else if b.mbxSender c d = 0 then ((v.mbxAcked c d (x % 65536)).outboxSend c).answer .ok
  else v.mbxAcked c d (x % 65536)

/-- MBX_TIMEOUT (14 R423). -/
def Device.mbxTimeout (v : Device) (c d : Nat) : Device :=
  let b := v.base
  let limit := b.rf 0 32 .MBX_CFG 40 0 c
  match Map.find (2 * c + d) v.dock.sentAt with
  | some t =>
    if b.mbxPending c d ∧ limit ≠ 0 ∧ t + limit ≤ b.time then
      (v.mbxWithdraw c d 2).onBase fun b => b.hostEvent (b.mbxPart c) 8 0x0D0A io0
    else v
  | none => v

/-- The directions with a pending message, as channel × 2 + direction. -/
def Device.mbxPendings (v : Device) : List Nat := v.dock.sentAt.map (·.1)

/-- The message of a direction is withdrawn because the domain of its receiver m has gone down (14 R424). -/
def Device.mbxDownOne (m : Nat) (v : Device) (k : Nat) : Device :=
  if v.base.mbxReceiver (k / 2) (k % 2) = m ∧ v.base.mbxPending (k / 2) (k % 2) then
    (v.mbxWithdraw (k / 2) (k % 2) 1).onBase fun b => b.hostEvent (b.mbxPart (k / 2)) 6 0x0D08 io0
  else v

/-- MBX_DOMAIN_DOWN: the domain of a master has gone down (14 R424). -/
def Device.mbxDomainDown (v : Device) (m : Nat) : Device :=
  if v.base.domainDown m then v.mbxPendings.foldl (Device.mbxDownOne m) v else v

/-- The channels bound to partition p. -/
def Base.mbxOf (b : Base) (p : Nat) : List Nat :=
  (List.range 256).filter fun c => bget (b.rd .MBX_BIND 40 0 c) 19 && b.mbxPart c == p

/-- A reset withdraws the pending messages of channels with cause RESET and clears their direction registers (14 R424, R428, 16 R484). -/
def Device.mbxReset (v : Device) (channels : List Nat) : Device :=
  channels.foldl (fun (v : Device) c =>
    let v := { v with mgt := { v.mgt with inbox := Map.del c v.mgt.inbox } }
    [0, 1].foldl (fun (v : Device) d =>
      let v := if v.base.mbxPending c d then v.mbxWithdraw c d 4 else v
      v.onBase fun b =>
        let b := (List.range 7).foldl (fun (b : Base) w => b.regReset .MBX_DATA 40 0 c (16 * d + w)) b
        (b.regReset .MBX_TXSTAT 40 0 c d).regReset .MBX_RXHDR 40 0 c d) v) v

end Sys2Proof.Machine
end

