-- ==== Sys2Proof/Machine/Lock.lean ====
section
/-! DEFINITION. The checks of the partition-table lock (14 R408, R409, 05 R138, R159, 06 R169, 11 R319, R338, 13 R381, R388). -/

namespace Sys2Proof.Machine

/-- A binding field names a partition that is not valid (14 R409). -/
def Base.badBinding (b : Base) (field : Nat) : Bool := decide (8 ≤ field) && !b.partValid (field % 8)

/-- The registers that hold binding fields: register, instance, and number of fields (14 R425). -/
def bindingRegs : List (Reg × Nat × Nat) :=
  (upto 8).map (fun i => (Reg.DOCK_PT_LINK, i, 1)) ++ (upto 8).map (fun i => (Reg.DOCK_PT_QUEUE, i, 16)) ++
  (upto 8).map (fun i => (Reg.DOCK_PT_TILE, i, 8)) ++ (upto 8).map (fun i => (Reg.DOCK_PT_CORE, i, 9)) ++
  (upto 2).map (fun i => (Reg.DOCK_PT_STACK, i, 16)) ++ (upto 2).map (fun i => (Reg.DOCK_PT_CRV, i, 16))

/-- A port runs as two x8 links (14 R402). -/
def Base.bifur (b : Base) (n : Nat) : Bool := bget (b.rd .DOCK_PCIE_CFG (io n)) 0

/-- A master may be an end of a channel of partition p (14 R409). -/
def Base.mbxMasterOk (b : Base) (p m : Nat) : Bool :=
  m == 0 || m == 1 + p || (decide (0x10 ≤ m ∧ m ≤ 0x57) && b.partOfCore ((m - 0x10) / 9) ((m - 0x10) % 9) == some p)

/-- The first partition-table register at fault for a valid partition's own registers (14 R409). -/
def Base.ptPartBad (b : Base) (p : Nat) : Option Nat :=
  if !b.partValid p then none
  else
    let bays := b.dockBays p
    let tab := (b.rd .DOCK_PT_IRQTAB 40 0 p).toNat % 2 ^ 52
    if b.partOfLink (b.rf 1 3 .DOCK_PT_PART 40 0 p) ≠ some p then some (regAddr .DOCK_PT_PART 40 0 p)
    else if bget (b.rd .DOCK_PT_PART 40 0 p) 7 ∧ b.partOfLink (b.farLink p) ≠ some p then some (regAddr .DOCK_PT_PART 40 0 p)
    else if 0 < bays ∧ bays ≤ 32768 ∧ !b.runOwned p (b.dockBase p) (bays * 2 ^ 21) then some (regAddr .DOCK_PT_DOCK 40 0 p)
    else if 32768 < bays then some (regAddr .DOCK_PT_DOCKSIZE 40 0 p)
    else if tab ≠ 0 ∧ !b.memOwned p tab 32768 then some (regAddr .DOCK_PT_IRQTAB 40 0 p)
    else none

/-- HOST.PTBIND: the address of the register at fault (14 R409). -/
def Base.ptBind (b : Base) : Option Nat :=
  (bindingRegs.findSome? fun (e : Reg × Nat × Nat) =>
    if (List.range e.2.2).any (fun k => b.badBinding (b.rf (4 * k) 4 e.1 40 0 e.2.1)) ||
        (e.1 == .DOCK_PT_LINK && e.2.1 % 2 == 1 && !b.bifur (e.2.1 / 2) && bget (b.rd .DOCK_PT_LINK 40 0 e.2.1) 3)
    then some (regAddr e.1 40 0 e.2.1) else none)
  |>.orElse fun _ => (List.range 8).findSome? b.ptPartBad
  |>.orElse fun _ => (List.range 256).findSome? fun c =>
    let ma := b.mbxA c
    let mb := b.mbxB c
    let p := b.mbxPart c
    if bget (b.rd .MBX_BIND 40 0 c) 19 && (!b.partValid p || ma == mb || !b.mbxMasterOk p ma || !b.mbxMasterOk p mb)
    then some (regAddr .MBX_BIND 40 0 c) else none

/-- The raw share of a virtual channel and of a partition on the mesh (05 R159, 11 R338). -/
def share64 (v : Nat) : Nat := if 64 < v then 64 else v

/-- MEM.BANDBIND: the address of the register at fault (05 R138, R159, 11 R319, R338). -/
def Base.bandBind (b : Base) : Option Nat :=
  let fields := (List.range 32).filterMap fun n =>
    let f := b.rf (4 * (n % 16)) 4 .DOCK_PT_STACK 40 0 (n / 16)
    if 8 ≤ f then some (f % 8) else none
  let several := fields.any fun p => p != fields.headD 0
  let bad := if several then (List.range 96).find? fun k => bget (b.rd .DOCK_BAND 40 0 k) 0 else none
  let mesh := ((List.range 8).map fun p => share64 (b.rf (7 * p) 7 .DOCK_MESHSHARE 40)).sum
  let vcs := ((List.range 8).map fun v => share64 (b.rf 4 7 .RING_VC 40 0 v)).sum
  let places (all : Nat) := ((List.range 8).map fun p => b.ringPlaces all p).sum
  match bad with
  | some k => some (regAddr .DOCK_BAND 40 0 k)
  | none =>
    if 64 < mesh then some (regAddr .DOCK_MESHSHARE 40)
    else if 64 < vcs ∨ 16 < places 16 ∨ 8 < places 8 then some (regAddr .RING_VC 40)
    else none

/-- SID.BIND: the partition and the register at fault (06 R169). -/
def Base.sidBind (b : Base) : Option (Nat × Nat) :=
  (List.range 64).findSome? fun k =>
    let n := k / 8
    let p := k % 8
    let blocks := b.rf 0 24 .DOCK_SID_SIZE (cd n) 0 p
    if blocks ≠ 0 ∧ !b.runOwned p ((b.rd .DOCK_SID_BASE (cd n) 0 p).toNat % 2 ^ 52) (4096 * blocks)
    then some (p, regAddr .DOCK_SID_BASE (cd n) 0 p) else none

/-- Bytes of a Daybook and of a generation header (13 R381, R390). -/
def daybookBytes : Nat := 524_288
def ckHeaderBytes : Nat := 4_198_400

/-- SPR.DBBIND: the partition and the register at fault (13 R381, R388). -/
def Base.dbBind (b : Base) : Option (Nat × Nat) :=
  (List.range 8).findSome? fun p =>
    if !b.partValid p then none
    else if !b.runOwned p ((b.rd .DOCK_DB_BASE 40 0 p).toNat % 2 ^ 52) daybookBytes then some (p, regAddr .DOCK_DB_BASE 40 0 p)
    else if !b.memOwned p ((b.rd .DOCK_CK_GENA 40 0 p).toNat % 2 ^ 52) ckHeaderBytes then some (p, regAddr .DOCK_CK_GENA 40 0 p)
    else if !b.memOwned p ((b.rd .DOCK_CK_GENB 40 0 p).toNat % 2 ^ 52) ckHeaderBytes then some (p, regAddr .DOCK_CK_GENB 40 0 p)
    else none

/-- The checks of the lock in their order: event code and register at fault, with the partition that a check names (14 R408). -/
def Base.lockFaults (b : Base) : List (Nat × Nat × Option Nat) :=
  (match b.ptBind with | some a => [(0x0D01, a, none)] | none => []) ++
  (match b.bandBind with | some a => [(0x040A, a, none)] | none => []) ++
  (match b.sidBind with | some (p, a) => [(0x050A, a, some p)] | none => []) ++
  (match b.dbBind with | some (p, a) => [(0x0C0C, a, some p)] | none => [])

/-- A refused lock request: the first fault recorded, the event of each raised once (14 R408, R425). -/
def Base.lockRefuse (b : Base) (faults : List (Nat × Nat × Option Nat)) : Base :=
  match faults with
  | [] => b
  | (code, addr, _) :: _ =>
    let b := b.wr (BitVec.ofNat 64 (4 + code * 2 ^ 16 + (addr - controlBase) / 8 * 2 ^ 32)) .DOCK_PT_LOCK 40
    faults.foldl (fun (b : Base) (f : Nat × Nat × Option Nat) =>
      match f.2.2 with
      | some p => if f.1 = 0x0C0C then b.psprEvent p 2 0x0C0C io0 else b.raise f.1 io0 (some p)
      | none => b.raise f.1 io0) b

/-- A link goes down: one that was up has left DL_Active, which DOWNS counts (14 R426). -/
def Base.linkFalls (b : Base) (L : Nat) : Base :=
  let b := if b.rf 0 3 .DOCK_PCIE_LNK (io (L / 2)) 0 (L % 2) != 0 then b.countSat 1 32 32 .DOCK_PCIE_LNK (io (L / 2)) 0 (L % 2) else b
  b.wf 0 9 0 .DOCK_PCIE_LNK (io (L / 2)) 0 (L % 2)

/-- LOCKED is set: a link bound to no valid partition is placed in the Disabled state (14 R408, R410). -/
def Base.lockSet (b : Base) : Base :=
  let b := b.wr 2 .DOCK_PT_LOCK 40
  (List.range 8).foldl (fun (b : Base) L =>
    if (b.partOfLink L).isNone then
      (b.setLink L { b.link L with disabled := true }).linkFalls L
    else b) b

end Sys2Proof.Machine
end

