-- ==== Sys2Proof/Machine/Reset.lean ====
section
/-! DEFINITION. Partition, die and tile resets (16 R483 to R486), and the part of a warm reset that they share. -/

namespace Sys2Proof.Machine

/-- The LK fields of a register's value over its reset value (16 R485). -/
def keepLocked (r : RegAt) (v : Word) : Word :=
  (r.reg.spec.fields.filter fun f => f.acc == .lk).foldl (fun (x : Word) f => fput x f.lo f.width (fget v f.lo f.width)) (r.reg.reset r.die r.unit)

/-- The registers that `sel` selects take their reset values; LK fields keep theirs. -/
def Base.resetRegs (b : Base) (sel : RegAt → Bool) : Base :=
  { b with
    regs := b.regs.filterMap fun e =>
      match placeOf e.1 with
      | .reg r =>
        if sel r then
          let x := keepLocked r e.2
          if x = r.reg.reset r.die r.unit then none else some (e.1, x)
        else some e
      | _ => some e }

/-- The register sets of a partition, at index p (14 R411). -/
def partSets : List Reg :=
  [.DOCK_SID_BASE, .DOCK_SID_SIZE, .DOCK_SID_PLAN, .DOCK_SID_TOP, .DOCK_SID_PEAK, .DOCK_SID_CNT, .DOCK_SID_STATUS, .DOCK_SID_EVENT_EN,
   .DOCK_SCL_HSTEP, .DOCK_SCL_FILL, .DOCK_SCL_REFRESH, .DOCK_SCL_LAST, .DOCK_SCL_STATUS, .DOCK_SCL_EVENT_EN,
   .CHK_VD_CUR, .CHK_VD_LAST, .CHK_VD_STEPS, .DOCK_DB_BASE, .DOCK_DB_STEP, .DOCK_DB_CTL, .DOCK_DB_RPLRES, .DOCK_CK_GENA, .DOCK_CK_GENB,
   .DOCK_PSPR_STATUS, .DOCK_PSPR_EVENT_EN, .RING_NOISE, .DOCK_BAYCMD, .DOCK_BAYRES, .DOCK_DOCKLOG, .DOCK_HOST_STATUS, .DOCK_HOST_EVENT_EN]

/-- The Catalogue entries whose Meaning names partition reset (02 R63 0x7005, 15 R461 0x1040, 17 R502 0x5001). -/
def partEntries : List Nat := [0x7005, 0x1040, 0x5001]

/-- A table without the keys that `f` names. -/
def dropKeys {α : Type} (f : Nat → Bool) (l : List (Nat × α)) : List (Nat × α) := l.filter fun e => !f e.1

/-- Queues, units and tokens of partition p at its reset (16 R484). -/
def Work.resetQueues (w : Work) (p : Nat) : Work :=
  let mine (q : Nat) : Bool := w.base.partOfQueue q == some p
  let ours := (w.eng.units.map fun u => (u.1, u.2.window.filter fun x => x.part == p))
  let w := ours.foldl (fun (w : Work) u => u.2.foldl (fun (w : Work) x => w.freePrefetch u.1 x.queue x.seq) w) w
  let qs := (List.range 128).filter (fun k => mine (128 * k)) |>.flatMap fun k => upto 128 (128 * k)
  let b := qs.foldl (fun (b : Base) q => (b.qwf q 4 1 0 .DOCK_QCFG).qwf q 0 4 7 .DOCK_QSTAT) w.base
  let e := w.eng
  { w with
    base := b
    eng := { e with
      units := e.units.map fun (u : Nat × UnitSt) =>
        let st := { u.2 with window := u.2.window.filter fun x => x.part != p }
        (u.1, if w.base.partOfUnit u.1 = some p then { st with allot := [], balance := [], granted := [] }
              else { st with
                allot := dropKeys (fun k => w.base.partOfUnit (k / 8 * 8) == some p) st.allot
                balance := dropKeys (fun k => w.base.partOfUnit (k / 8 * 8) == some p) st.balance })
      queuesOn := e.queuesOn.filter fun q => !mine q
      aborts := dropKeys mine e.aborts
      tokens := e.tokens.filter fun t => t / 2 ^ 24 != p
      watchers := dropKeys (fun t => t / 2 ^ 24 == p) e.watchers
      flying := e.flying.filter fun m => match m with
        | .watch _ _ _ q _ => q != p
        | .notice _ _ _ q _ => q != p
        | .produce q _ _ => q != p
        | .clear q _ _ _ _ => q != p
      returns := e.returns.filter fun r => w.base.partOfUnit (r.1 / 8 * 8) != some p } }

/-- What the tiles do for partition p stops: its sets are FREE and its fillers discarded; another partition's filler is not affected (16 R484). -/
def Work.resetTiles (w : Work) (p : Nat) : Work :=
  let mine (q : Nat) : Bool := w.base.partOfQueue q == some p
  let w := w.tiles.jobs.foldl (fun (w : Work) u => u.2.foldl (fun (w : Work) j =>
    if j.part = p then { w with base := w.base.setsTo u.1 sFREE j.sets } else w) w) w
  let w := w.tiles.drains.foldl (fun (w : Work) u => u.2.foldl (fun (w : Work) (d : Nat × Nat × Nat × Nat) =>
    let sets := (match w.jobWith u.1 d.2.2.1 d.2.2.2 with
      | some j => j.spread d.1
      | none => [d.1])
    if mine d.2.2.1 then { w with base := w.base.setsTo u.1 sFREE sets } else w) w) w
  let w := w.tiles.lends.foldl (fun (w : Work) u =>
    if u.2.borrower = p then { w with base := (w.base.setsTo u.1 sFREE [0, 1]).lendPhase u.1 0 } else w) w
  let t := w.tiles
  let busy (id : Nat) : Bool := (w.unit id).window.any fun x => x.opcode == 8 && x.phase == .running
  { w with
    tiles := { t with
      jobs := (t.jobs.map fun u => (u.1, u.2.filter fun j => j.part != p)).filter fun u => !u.2.isEmpty
      drains := (t.drains.map fun u => (u.1, u.2.filter fun d => !mine d.2.2.1)).filter fun u => !u.2.isEmpty
      claims := (t.claims.map fun u => (u.1, u.2.filter fun d => !mine d.2.1)).filter fun u => !u.2.isEmpty
      consists := t.consists.filter fun u => busy u.1
      lends := t.lends.filter fun u => u.2.borrower != p } }

/-- What the other units hold for partition p is discarded (16 R484, 08 R219, 09 R263, 11 R321, 06 R182, 07 R197). -/
def Work.resetUnits (w : Work) (p : Nat) : Work :=
  let mine (q : Nat) : Bool := w.base.partOfQueue q == some p
  let w := (List.range 8).foldl (fun (w : Work) n => w.setFrames n p []) w
  let w := (List.range 32).foldl (fun (w : Work) e => if w.base.partOfCrv e = some p then w.crvReset e else w) w
  let w := w.upd.farWait.foldl (fun (w : Work) m => w.setFarSlots m.1 (m.2.filter fun s => !mine s.queue)) w
  let line (l : Nat) : Bool := decide (l < 4) && w.base.linePart l == p
  let r := w.ring
  { w with
    scale :=
      { amax := w.scale.amax.filter fun m => m.part != p
        watch := w.scale.watch.filter fun m => m.part != p
        heldAmax := w.scale.heldAmax.filter fun m => m.part != p
        heldWatch := w.scale.heldWatch.filter fun m => m.part != p
        heldHstep := dropKeys (fun k => k == p) w.scale.heldHstep
        lateRaised := w.scale.lateRaised.filter fun m => m.1 != p }
    upd :=
      { partials := dropKeys (fun k => mine (numberQueue (k / 2 ^ 40))) w.upd.partials
        flying := w.upd.flying.filter fun g => g.part != p
        pools := (w.upd.pools.map fun m => (m.1, m.2.filter fun g => g.part != p)).filter fun m => !m.2.isEmpty
        freed := dropKeys (fun k => w.base.partOfUnit (k % 65536 / 8 * 8) == some p) w.upd.freed
        farWait := w.upd.farWait
        norms := dropKeys (fun k => mine (numberQueue k)) w.upd.norms }
    curv := { w.curv with flying := w.curv.flying.filter fun d => d.part != p }
    ring := { r with
      engines := r.engines.map fun e => (e.1, { e.2 with queue := e.2.queue.filter fun f => !(f.src.isNone && (f.type == 0 || f.type == 7) && line f.line) })
      ops := r.ops.filter fun o => o.part != p
      held := r.held.filter fun h => !line h.frame.line
      puts := r.puts.filter fun g => g.part != p
      noise := dropKeys (fun k => k / 256 == p) r.noise }
    stepping := dropKeys (fun k => k == p) w.stepping }

/-- A step of partition p begins by a reset: the entries apply, and the step's HISTFILL flag is formed under them (07 R205, 13 R378, 16 R484). -/
def Base.formStep (b : Base) (p : Nat) : Base :=
  let b := b.boundary p
  b.setStep p fun a => { a with histfill := decide (b.unfilled p ≠ 0) }

/-- The registers, entries and accumulators of partition p at its reset; its next step starts at once (16 R484, 13 R377, R382, 15 R455). -/
def Base.resetPart (b : Base) (p : Nat) : Base :=
  let b := (b.uncoverPart p).resetRegs fun r => partSets.contains r.reg && r.i == p
  let b := partEntries.foldl (fun (b : Base) i => b.catPut i (p + 1) (catDefault i (p + 1))) b
  let b := { b with
    verdicts := Map.del p b.verdicts
    steps := Map.put p ({ tstart := b.time } : StepAcc) b.steps
    rings := Map.del p b.rings }
  b.formStep p

/-- Die counters that entry 0x5001 grants to partition p, as die × 64 + counter (17 R502). -/
def Base.grantedTo (b : Base) (p : Nat) : List Nat :=
  let l := ofLe (b.cat 0x5001 (p + 1))
  if l = 0 then [] else (List.range (44 * 64)).filter fun k => l.testBit k

/-- A die counter at its reset values, its control included (17 R492, R502). -/
def Device.counterReset (v : Device) (k : Nat) : Device :=
  let d := k / 64
  let i := k % 64
  let v := v.onBase fun b =>
    let b := (b.regReset .DOCK_PMC_CTL d 0 i).regReset .DOCK_PMC_VAL d 0 i
    let b := b.wf i 1 0 .DOCK_PMC_BAD d
    (b.wf i 1 0 .DOCK_PMC_SAT d).wf i 1 0 .DOCK_PMC_OVF d
  { v with pmc := { v.pmc with latched := Map.del k v.pmc.latched } }

/-- The counters of a partition at its reset: those granted to it, and the tile counters of its positions (17 R502). -/
def Device.countersReset (v : Device) (p : Nat) : Device :=
  let v := (v.base.grantedTo p).foldl (fun (v : Device) k => v.counterReset k) v
  v.onBase fun b => (List.range 8).foldl (fun (b : Base) n => (List.range 68).foldl (fun (b : Base) m =>
    if b.partOfTile n m = some p then b.pmcTileReset n m else b) b) b

/-- The sessions that `f` names close (15 R443). PWR_MGT_SESS follows. -/
def Device.closeSessions (v : Device) (f : Session → Bool) : Device :=
  let l := v.mgt.sessions.filter fun s => !f s
  let v := v.onBase fun b =>
    (b.wf 0 4 (l.countP fun s => s.transport != 3) .PWR_MGT_SESS 40).wf 8 9 (l.countP fun s => s.transport == 3) .PWR_MGT_SESS 40
  { v with mgt := { v.mgt with
      sessions := l
      update := match v.mgt.update with
        | some u => if l.any (fun s => s.id == u.session) then some u else none
        | none => none } }

/-- The channel of a mailbox session (15 R444). -/
def Session.channel (s : Session) : Nat := ofLe (s.source.take 2)

/-- The far-tier and stack requests of partition p that wait are dropped. -/
def MemSys.dropPart (m : MemSys) (p : Nat) : MemSys :=
  { dies := m.dies.map fun d => (d.1, { d.2 with waiting := d.2.waiting.filter fun w => w.op.part != some p })
    links := m.links.map fun l => (l.1,
      { waiting := l.2.waiting.filter fun r => r.part != p
        out := l.2.out.filter fun r => r.part != p }) }

/-- The sequence of a partition reset but for its flag and event (16 R484). -/
def Device.partCore (v : Device) (p : Nat) : Device :=
  let v := v.countersReset p
  let w := ((v.work.resetTiles p).resetQueues p).resetUnits p
  let v := { v with work := { w with base := w.base.resetPart p }, mem := v.mem.dropPart p }
  let v := v.setBays p { base := 1 }
  let channels := v.base.mbxOf p
  let v := v.mbxReset channels
  v.closeSessions fun s => s.transport == 3 && channels.contains s.channel

/-- A reset's flag and PWR.RESET (16 R484, R489, R490), which none of the cases of 15 R453 attributes to a partition. -/
def Base.resetDone (b : Base) (lo w x : Nat) : Base := (b.wf lo w x .PWR_RST_FLAGS 40).pwrEvent 5 0x0F06

/-- A reset command is refused (16 R483). -/
def Device.resetDeny (v : Device) : Device := v.onBase fun b => b.pwrEvent 6 0x0F07

/-- A partition reset (16 R484); of a partition that is not valid it is refused (R483). -/
def Device.partReset (v : Device) (p : Nat) : Device :=
  if v.base.partValid p then (v.partCore p).onBase fun b => b.resetDone (8 + p) 1 1 else v.resetDeny

/-- A link event resets the partition bound to the link, and raises HOST.LINKRESET afterwards (14 R406). -/
def Device.linkReset (v : Device) (L : Nat) : Device :=
  match v.base.partOfLink L with
  | some p => (v.partReset p).onBase fun b => b.hostEvent p 10 0x0D0C (portSrc L)
  | none => v

/-- The link of a port exists: an x16 port has its even link only (14 R400). -/
def Base.linkExists (b : Base) (L : Nat) : Bool := decide (L < 8) && (decide (L % 2 = 0) || b.bifur (L / 2))

/-- The widths to which a link trains: as its port is strapped, or degraded to x4, x2 or x1 (14 R401). -/
def Base.linkWidth (b : Base) (L width : Nat) : Bool := width == (if b.bifur (L / 2) then 8 else 16) || width == 4 || width == 2 || width == 1

/-- The state in which a link trains, or none where it stays down: rate 1 to 6, width, and FLIT mode, which 64.0 GT/s requires (14 R401). -/
def Base.linkState' (b : Base) (L : Nat) (t : Option (Nat × Nat × Bool)) : Base :=
  match t with
  | some (rate, width, flit) =>
    if b.linkExists L && !(b.link L).disabled && decide (1 ≤ rate ∧ rate ≤ 6) && b.linkWidth L width then
      let l := b.link L
      (b.setLink L { l with l2 := false }).wf 0 9 (rate + width % 32 * 8 + b2n (flit || rate == 6) * 256) .DOCK_PCIE_LNK (io (L / 2)) 0 (L % 2)
    else b.wf 0 9 0 .DOCK_PCIE_LNK (io (L / 2)) 0 (L % 2)
  | none => b.wf 0 9 0 .DOCK_PCIE_LNK (io (L / 2)) 0 (L % 2)

/-- The configuration of a function at its reset: its error status and mask are sticky (14 R401; log entry 151). -/
def LinkSt.reset (l : LinkSt) : LinkSt := { disabled := l.disabled, aerUncor := l.aerUncor, aerCor := l.aerCor, aerMask := l.aerMask }

/-- A conventional reset of a link's function: its configuration is lost, and the link is down; one that was up has left DL_Active (14 R401, R426). -/
def Base.linkDrop (b : Base) (L : Nat) : Base :=
  let b := (b.linkFalls L).wf 9 1 0 .DOCK_PCIE_LNK (io (L / 2)) 0 (L % 2)
  let b := { b with vectors := Map.delRange (L * 2048) ((L + 1) * 2048) b.vectors }
  b.setLink L (b.link L).reset

/-- The same with the sticky error registers: PERST_N, or the loss of the I/O rails (14 R401; log entry 151). -/
def Base.linkCold (b : Base) (L : Nat) : Base := (b.linkDrop L).setLink L { disabled := (b.link L).disabled }

/-- The pins of port n. -/
def Device.port (v : Device) (n : Nat) : PortPins := (Map.find n v.dock.pins).getD {}
def Device.setPort (v : Device) (n : Nat) (p : PortPins) : Device :=
  { v with dock := { v.dock with pins := if p = {} then Map.del n v.dock.pins else Map.put n p v.dock.pins } }

/-- The level of the bifurcation strap of port n (14 R402). -/
def PortPins.strap (p : PortPins) (n : Nat) : Bool := p.bifur.getD (Config.bifurStrap n)

/-- The links of port n train, PERST_N being high and IORDY too (14 R402, 19 R522). -/
def Device.portTrain (v : Device) (n : Nat) : Device :=
  let pins := v.port n
  if pins.perstHigh && v.pwr.iordy then
    [0, 1].foldl (fun (v : Device) h => v.onBase fun b => b.linkState' (2 * n + h) ((pins.train[h]?).getD none)) v
  else v

/-- Every partition bound to a link of port n is reset, once (14 R406). -/
def Device.portReset (v : Device) (n : Nat) : Device :=
  let v := [0, 1].foldl (fun (v : Device) h => v.onBase fun b => b.linkDrop (2 * n + h)) v
  let p0 := v.base.partOfLink (2 * n)
  let v := v.linkReset (2 * n)
  if v.base.partOfLink (2 * n + 1) = p0 then v else v.linkReset (2 * n + 1)

/-- Registers that a compute-die reset keeps in a tile's block (16 R485). -/
def keptTile : List Reg := [.TILE_ID, .TILE_POS, .TILE_STATE]

/-- Registers that a memory-side die keeps in its stack controller block (16 R485). -/
def keptStack : List Reg :=
  [.DOCK_MS_ID, .DOCK_MS_WRAPTIME, .DOCK_MS_PCRET, .DOCK_MS_ROWSPARE, .DOCK_MS_CECNT, .DOCK_MS_UECNT, .DOCK_MS_ERRADDR]

/-- The reset of a compute die (16 R485). -/
def Work.resetCompute (w : Work) (n : Nat) : Work :=
  let fenced := (List.range 4).filter fun j => w.base.unitFenced (crvUnit (4 * n + j))
  let w := (List.range 64).foldl (fun (w : Work) pos =>
    let id := tileUnit n pos
    let w := w.loseWindow id
    let w := ((w.setJobs id []).setDrains id []).setConsists id []
    { w with tiles := { w.tiles with
        claims := Map.del id w.tiles.claims
        lends := Map.del id w.tiles.lends
        prefetch := Map.del id w.tiles.prefetch } }) w
  let w := (List.range 4).foldl (fun (w : Work) j => ((w.loseWindow (crvUnit (4 * n + j))).crvGiveBack (4 * n + j)).crvReset (4 * n + j)) w
  let w := { w with tiles := (List.range 68).foldl (fun (t : Tiles) m => t.clearStore (tileCode n m)) w.tiles }
  let b := w.base.resetRegs fun r =>
    r.die == cd n && (match r.reg.spec.block with
      | .tile => !keptTile.contains r.reg
      | .crv => true
      | .chk => true
      | .die => r.reg == .DOCK_PMC_CTL || r.reg == .DOCK_PMC_VAL || r.reg == .DOCK_PMC_BAD || r.reg == .DOCK_SID_PEAK
      | _ => false)
  let b := fenced.foldl (fun (b : Base) j => b.wf 0 2 2 .CRV_STATE (cd n) j) b
  let b := { b with waitIdle := b.waitIdle.filter fun e => !(decide (controlBase + n * 0x1000_0000 ≤ e.1 ∧ e.1 < controlBase + (n + 1) * 0x1000_0000)) }
  (List.range 8).foldl (fun (w : Work) p => w.setFrames n p []) { w with base := b }

/-- The reset of a memory-side die but for its requests (16 R485). -/
def Work.resetStack (w : Work) (n : Nat) : Work :=
  let lost := [updUnit n, ckptUnit n].filter fun id => w.base.unitFenced id
  let w := (w.loseWindow (updUnit n)).loseWindow (ckptUnit n)
  let w := { w with
    upd := { w.upd with farWait := Map.del n w.upd.farWait }
    spare := { w.spare with tests := w.spare.tests.filter fun t => t.die != ms n } }
  let b := w.base.resetRegs fun r =>
    r.die == ms n && (match r.reg.spec.block with
      | .upd => true
      | .ck => true
      | .seal => true
      | .die => !keptStack.contains r.reg
      | _ => false)
  let b := if lost.contains (updUnit n) then b.wf 0 2 2 .UPD_STATE (ms n) else b
  let b := if lost.contains (ckptUnit n) then b.wf 0 2 2 .DOCK_CK_STATE (ms n) else b
  { w with base := b }

/-- The requests of a memory-side die at its reset: those admitted and those that wait are gone; what describes the stack stays (16 R485). -/
def MemSys.resetDie (m : MemSys) (n : Nat) : MemSys :=
  let d := m.die n
  m.setDie n
    { rowErrs := d.rowErrs
      rowUsed := d.rowUsed
      badRows := d.badRows
      copying := d.copying
      sparing := d.sparing }

/-- The ring engines and check units of an I/O die at its reset, the counts of its port (16 R485), and its counters (17 R492). -/
def Work.resetIo (w : Work) (n : Nat) : Work :=
  let mine (e : Nat) : Bool := e / 4 == n
  let b := w.base
  let w := { w with
    ring := { w.ring with
      engines := w.ring.engines.filter fun e => !mine e.1
      held := w.ring.held.filter fun h => !mine h.engine } }
  let up := (upto 4 (4 * n)).filter fun e => b.linkState e == 4
  let w := up.foldl (fun (w : Work) e => w.setOpt e { w.opt e with downSince := some b.time }) w
  let b := b.resetRegs fun r =>
    r.die == io n && (match r.reg.spec.block with
      | .ring => true
      | .chk => true
      | .die => r.reg == .DOCK_PMC_CTL || r.reg == .DOCK_PMC_VAL || r.reg == .DOCK_PMC_BAD || r.reg == .DOCK_SID_PEAK
      | _ => false)
  let b := [0, 1].foldl (fun (b : Base) h => (b.wf 32 32 0 .DOCK_PCIE_LNK (io n) 0 h).regReset .DOCK_PCIE_CERR (io n) 0 h) b
  { w with base := b }

/-- The reset of a die but for its flag and event; `alone` where no warm reset covers the partitions of its links (16 R485). -/
def Device.dieCore (v : Device) (d : Nat) (alone : Bool) : Device :=
  let v := { v with pmc := { v.pmc with latched := v.pmc.latched.filter fun e => e.1 / 64 ≠ d } }
  if d < 8 then
    { v with work := v.work.resetCompute d }
  else if d < 40 then
    { v with work := v.work.resetStack (d - 8), mem := v.mem.resetDie (d - 8) }
  else
    let n := d - 40
    let v := if alone then v.portReset n else [0, 1].foldl (fun (v : Device) h => v.onBase fun b => b.linkDrop (2 * n + h)) v
    { v with work := v.work.resetIo n }.portTrain n

/-- A die reset; of IO0, or of a die that does not exist, it is refused (16 R483, R485). -/
def Device.dieReset (v : Device) (d : Nat) : Device :=
  if d < 44 ∧ d ≠ 40 then (v.dieCore d true).onBase fun b => (b.wf 18 6 d .PWR_RST_FLAGS 40).resetDone 16 1 1
  else v.resetDeny

/-- A tile that a tile reset may name (16 R483). -/
def Base.tileMayReset (b : Base) (n m : Nat) : Bool :=
  decide (n < 8 ∧ m < 68) && [tSPARE, tFENCED, tRETIRED].contains (b.tileState n m)

/-- A tile reset: its counters, prefetch counts and local store (16 R483). -/
def Device.tileReset (v : Device) (n m : Nat) : Device :=
  if v.base.tileMayReset n m then
    let v := { v with work := { v.work with tiles := v.work.tiles.clearStore (tileCode n m) } }
    v.onBase fun b =>
      let b := [Reg.ACC_CNT_CHK, .ACC_CNT_UNCHK, .ACC_CNT_FAIL, .TILE_PF_FETCH, .TILE_PF_USED, .TILE_PF_LATE, .TILE_PF_STALE,
        .TILE_PF_UNUSED, .TILE_PF_MISS].foldl (fun (b : Base) r => b.regReset r (cd n) m) b
      let b := b.pmcTileReset n m
      (((b.wf 24 7 m .PWR_RST_FLAGS 40).wf 31 3 n .PWR_RST_FLAGS 40)).resetDone 17 1 1
  else v.resetDeny

/-- Registers of the always-on domain, which no reset but a cold one changes (16 R485, R489). -/
def alwaysOn : List Reg := [.PWR_TIMEBASE, .PWR_RST_FLAGS, .PWR_HS_LAST, .PWR_WAKE, .PWR_BRINGUP]

/-- A warm reset: every partition, every die, IO0's own blocks, the entries that are not persistent and the device log (16 R483, R485). The
management core restarts. `bit` is its flag. The security counter stands as the fuses have it (15 R463). -/
def Device.warmCore (v : Device) (bit : Nat) : Device :=
  let fuses := v.base.rf 40 6 .PWR_MGT_FW 40
  let v := (List.range 8).foldl (fun (v : Device) p => v.partCore p) v
  let v := (List.range 44).foldl (fun (v : Device) d => v.dieCore d false) v
  let v := v.mbxReset (List.range 256)
  let v := v.closeSessions fun _ => true
  let b := v.base.resetRegs fun r =>
    r.die == 40 && (r.reg == .MBX_CFG || r.reg == .RING_BYPASS || r.reg == .RING_EPOCHWAIT || r.reg == .RING_MATCHLIMIT || r.reg == .RING_NOISE
      || (r.reg.spec.block == .mgt && !alwaysOn.contains r.reg))
  let b := { b with
    catVals := b.catVals.filter fun e => match catRow (e.1 / 256) (e.1 % 256) with
      | some d => d.persist
      | none => false
    verdicts := []
    log := []
    logNext := 0
    inbandOn := false
    inbandLast := none }
  let b := (List.range 8).foldl (fun (b : Base) p => b.formStep p) b
  let v := v.setBase ((b.wf 40 6 fuses .PWR_MGT_FW 40).resetDone bit 1 1)
  { v with
    work := (List.range 8).foldl (fun (w : Work) n => w.tapEnable n (w.base.tapOn n)) { v.work with ring := { v.work.ring with noise := [] } }
    mgt := { v.mgt with
      up := false
      nonces := []
      failures := []
      lockout := none
      update := none
      inbox := []
      diverge := []
      requests := [] } }

end Sys2Proof.Machine
end

