-- ==== Sys2Proof/Machine/Boot.lean ====
section
/-! DEFINITION. The persistent store (15 R434, R448), firmware images and the boot of the management core (R449, R450), and the cold reset (16 R483). -/

namespace Sys2Proof.Machine

/-- The values of the persistent entries, where they differ from their defaults (15 R434). -/
def Base.persistent (b : Base) : List (Nat × List Byte) :=
  b.catVals.filter fun e => match catRow (e.1 / 256) (e.1 % 256) with
    | some d => d.persist
    | none => false

/-- The store copy in use, where it is valid (15 R448). -/
def Mgt.store (m : Mgt) : Option StoreCopy := (if m.storeUsed = 0 then m.store0 else m.store1).filter StoreCopy.valid

/-- The persistent entries as the flash holds them. -/
def Base.toStore (b : Base) : List (Nat × List Byte) := b.persistent.map toFlash

/-- The whole store written into the other copy with the next sequence number, which is then used (15 R448). -/
def Device.persist (v : Device) : Device :=
  let next := match v.mgt.store with
    | some c => c.seq + 1
    | none => 1
  let copy := some (StoreCopy.written next v.base.toStore)
  { v with mgt :=
      if v.mgt.storeUsed = 0 then { v.mgt with store1 := copy, storeUsed := 1 } else { v.mgt with store0 := copy, storeUsed := 0 } }

/-- The store follows persistent entries that the data path has changed (13 R368, R369, R376). -/
def Device.syncStore (v : Device) : Device :=
  if v.mgt.up then
    match v.mgt.store with
    | some c => if c.entries = v.base.toStore then v else v.persist
    | none => if v.base.persistent = [] then v else v.persist
  else v

/-- At cold reset, the valid copy with the larger sequence number gives the persistent entries; with none, they take their defaults (15 R434,
R448). -/
def Device.loadStore (v : Device) : Device :=
  let use (k : Nat) (c : StoreCopy) : Device :=
    let v := v.onBase fun b => { b with catVals := (c.entries.filterMap fromFlash).foldl (fun m e => Map.put e.1 e.2 m) b.catVals }
    { v with mgt := { v.mgt with storeUsed := k } }
  match v.mgt.store0.filter StoreCopy.valid, v.mgt.store1.filter StoreCopy.valid with
  | some a, some c => if c.seq ≤ a.seq then use 0 a else use 1 c
  | some a, none => use 0 a
  | none, some c => use 1 c
  | none, none => v.onBase fun b => b.mgtEvent 6 0x0E07

/-- Bytes lo to hi of an image are zero. -/
def zeroBytes (img : List Byte) (lo hi : Nat) : Bool := (slice img lo (hi + 1 - lo)).all fun x => x == 0

/-- The greatest body of an image (15 R449). -/
def bodyMax : Nat := 28 * 2 ^ 20 - 4096

/-- Where the flash holds a copy of the store, and a firmware slot (15 R447). -/
def storeOffset (k : Nat) : Nat := 0x0001_0000 + 2 ^ 20 * k
def slotOffset (k : Nat) : Nat := 0x0040_0000 + 28 * 2 ^ 20 * k

/-- The byte of the flash at an offset (15 R447): a byte of a copy or a slot, erased where nothing has been programmed there, and zero in the first
64 KiB; none in the reserved regions, whose contents the manual does not give, and beyond. -/
def Mgt.flash (m : Mgt) (a : Nat) : Option Byte :=
  let copy := fun (c : Option StoreCopy) => (match c with | some c => c.bytes | none => [])
  let part := fun (o n : Nat) (l : List Byte) => if o ≤ a ∧ a < o + n then some (l.getD (a - o) 0xFF) else none
  if a < 0x0001_0000 then some 0
  else (((part (storeOffset 0) (2 ^ 20) (copy m.store0)).or (part (storeOffset 1) (2 ^ 20) (copy m.store1))).or
    (part (slotOffset 0) (28 * 2 ^ 20) m.slotA)).or (part (slotOffset 1) (28 * 2 ^ 20) m.slotB)

/-- The security counter of the fuses (15 R449, R463). -/
def Base.secCounter (b : Base) : Nat := b.rf 40 6 .PWR_MGT_FW 40

/-- What the slot holds from offset 4,096 on: programmed bytes, and ones where nothing has been programmed since the erasure. -/
def slotBody (img : List Byte) (n : Nat) : List Byte :=
  let t := (img.drop 4096).take n
  t ++ List.replicate (n - t.length) 0xFF

/-- An image is valid (15 R449, R450). -/
def Base.imageValid (b : Base) (img : List Byte) : Bool :=
  let n := fieldAt img 12 4
  fieldAt img 0 4 == 0x464E_5731 && zeroBytes img 17 63 && zeroBytes img 112 127 && zeroBytes img 224 4095
    && decide (fieldAt img 16 1 < 4) && !(Config.revokedKeys.toNat.testBit (fieldAt img 16 1))
    && ecdsaOk (Config.publicKey (fieldAt img 16 1)) (img.take 128) (ofBe (slice img 128 48)) (ofBe (slice img 176 48)) && decide (b.secCounter ≤ fieldAt img 8 4)
    && n % 4096 == 0 && decide (n ≤ bodyMax)
    && slice img 64 48 == sha384 (slotBody img n)

/-- The image that a slot runs, or recovery, which is slot 3 of PWR_MGT_FW (15 R450, R463). -/
def Base.bootChoice (b : Base) (a c : List Byte) : Option Nat :=
  match b.imageValid a, b.imageValid c with
  | true, true => some (if fieldAt a 4 4 = fieldAt c 4 4 then 0 else b.catNum 0x1005 1 % 2)
  | true, false => some 0
  | false, true => some 1
  | false, false => none

/-- The management core boots (15 R450). -/
def Device.mgtBoot (v : Device) : Device :=
  let b := v.base
  let a := v.mgt.slotA
  let c := v.mgt.slotB
  let bad := (b.imageValid a && !b.imageValid c && !c.isEmpty) || (b.imageValid c && !b.imageValid a && !a.isEmpty)
  let b' := if bad then b.mgtEvent 3 0x0E04 else b
  match b.bootChoice a c with
  | some s =>
    let b' := (b'.wf 0 2 s .PWR_MGT_FW 40).wf 8 32 (fieldAt (if s = 0 then a else c) 4 4) .PWR_MGT_FW 40
    { v.setBase b' with mgt := { v.mgt with up := true, recovery := false } }
  | none =>
    let b' := (b'.wf 0 2 3 .PWR_MGT_FW 40).wf 8 32 0 .PWR_MGT_FW 40
    { v.setBase (b'.mgtEvent 4 0x0E05) with mgt := { v.mgt with up := true, recovery := true } }

/-- After bring-up, the security counter advances to the SECVER of the running image (15 R450). -/
def Device.advanceCounter (v : Device) : Device :=
  let s := fieldAt (if v.base.rf 0 2 .PWR_MGT_FW 40 = 0 then v.mgt.slotA else v.mgt.slotB) 8 4 % 64
  if v.mgt.recovery ∨ s ≤ v.base.secCounter then v else v.onBase fun b => b.wf 40 6 s .PWR_MGT_FW 40

/-- What a cold reset keeps of memory and of what the model numbers: the contents of the stacks (16 R483) and of the hosts' memory. -/
def Device.coldBase (v : Device) : Base :=
  { Base.initial with
    free := v.base.free
    mem := v.base.mem
    poison := v.base.poison
    far := v.base.far
    sent := v.base.sent }

/-- The registers that a cold reset does not leave at their reset values: bit 0, 1 or 2 of PWR_RST_FLAGS says why; the fuses' security counter; the
record of a bring-up that stopped unseen (16 R478); and the straps (14 R402). -/
def Device.coldRegs (v : Device) (bit : Nat) : Base :=
  let b := v.coldBase.wr (BitVec.ofNat 64 (2 ^ bit)) .PWR_RST_FLAGS 40
  let b := b.wf 40 6 v.base.secCounter .PWR_MGT_FW 40
  let b := if v.pwr.unreported then b.wf 3 15 (v.base.rf 3 15 .PWR_BRINGUP 40) .PWR_BRINGUP 40 else b
  v.dock.pins.foldl (fun (b : Base) c => if c.2.bifur.isSome then b.wf 0 1 (b2n (c.2.strap c.1)) .DOCK_PCIE_CFG (io c.1) else b) b

/-- A cold reset begins (16 R483). Every register and entry takes its reset value or default; the contents of the stacks, the flash, the fuses and
the pins stay. -/
def Device.coldReset (v : Device) (bit : Nat) : Device :=
  { work := { base := { v.coldBase with regs := (v.coldRegs bit).regs } }
    dock := { pins := v.dock.pins }
    mgt := { slotA := v.mgt.slotA, slotB := v.mgt.slotB, store0 := v.mgt.store0, store1 := v.mgt.store1, storeUsed := v.mgt.storeUsed }
    pwr := { Pwr.initial with
      rails := v.pwr.rails
      volts := v.pwr.volts
      unreported := v.pwr.unreported
      vauxLow := v.pwr.vauxLow
      ioLow := v.pwr.ioLow } }

/-- A cold reset from power-on: every rail was off, and what the stacks held is lost (16 R483, 19 R523). -/
def Device.powerOn (v : Device) : Device :=
  let v := { v with pwr := { v.pwr with rails := [], volts := [], unreported := false, vauxLow := false, ioLow := false } }
  (v.onBase fun b => { b with mem := [], poison := [] }).coldReset 0

end Sys2Proof.Machine
end

