-- ==== Sys2Proof/Machine/Rails.lean ====
section
/-! DEFINITION. Rails and AVSBus requests (16 R475, R476), the stages of bring-up and its stop (R477, R478), and the states of dies (R465, R466). -/

namespace Sys2Proof.Machine

/-- The device is powered: VDD_AON is in its range (19 R523). -/
def Device.alive (v : Device) : Bool := !v.pwr.dead

/-- The device heeds its 1.8 V inputs (19 R526). -/
def Device.heeds (v : Device) : Bool := v.alive && !v.pwr.ioLow

/-- The requests of an AVSBus, the current one first (16 R476). -/
def Pwr.bus (p : Pwr) (k : Nat) : List RailReq := (Map.find k p.buses).getD []
def Pwr.setBus (p : Pwr) (k : Nat) (l : List RailReq) : Pwr :=
  { p with buses := if l.isEmpty then Map.del k p.buses else Map.put k l p.buses }

/-- The set point of rail r, in mV: entry 0x2010 (16 R475, R487). -/
def Base.setPoint (b : Base) (r : Nat) : Nat := b.catNum 0x2010 (r + 1)

/-- A rail is requested on, at its set point (16 R487), or off, on its bus behind the requests already made (16 R475, R476). -/
def Pwr.ask (p : Pwr) (b : Base) (rail : Nat) (on : Bool) : Pwr :=
  let l := p.bus (rail / 10)
  p.setBus (rail / 10) (l ++ [{ rail := rail, on := on, mv := if on then b.setPoint rail else 0, time := b.time, began := b.time }])

def Pwr.askAll (p : Pwr) (b : Base) (rails : List Nat) (on : Bool) : Pwr := rails.foldl (fun (p : Pwr) r => p.ask b r on) p

/-- The rails that are on, and those whose request to go on is the current one of its bus. -/
def Pwr.risen (p : Pwr) (r : Nat) : Bool := p.rails.contains r || (p.bus (r / 10)).head?.any fun q => q.rail == r && q.on

/-- Requests to go on that are not yet current on their buses are dropped (16 R482). -/
def Pwr.dropOn (p : Pwr) : Pwr :=
  { p with buses := p.buses.map fun k => (k.1, k.2.take 1 ++ (k.2.drop 1).filter fun q => !q.on) }

/-- The current request of a bus is over, and the next one begins (16 R476). -/
def Pwr.nextRequest (p : Pwr) (now k : Nat) : Pwr :=
  p.setBus k (match (p.bus k).drop 1 with
    | [] => []
    | r :: l => { r with time := now, began := now } :: l)

/-- Rails of a compute die n and its stacks, in the order in which bring-up asks for them (16 R475, R477). -/
def computeRails (n : Nat) : List Nat := [24 + n, 16 + n, 8 + n, n]

/-- The rails of a die (16 R475). -/
def dieRails (d : Nat) : List Nat :=
  if d < 8 then [d]
  else if d < 40 then (let n := (d - 8) / 4; [8 + n, 16 + n, 24 + n])
  else [32 + (d - 40), 36 + (d - 40)]

/-- A rail that feeds a die is on and no request for it waits (16 R476, R477). -/
def Pwr.railReady (p : Pwr) (r : Nat) : Bool := p.rails.contains r && !((p.bus (r / 10)).any fun q => q.rail == r)

/-- Stages a die has completed: 4 is in service (16 R477). -/
def Pwr.stageOf (p : Pwr) (d : Nat) : Nat := (Map.find d p.stage).getD 0
def Pwr.inService (p : Pwr) (d : Nat) : Bool := p.stageOf d == 4
def Pwr.setStage (p : Pwr) (d s now : Nat) : Pwr :=
  { p with
    stage := if s = 0 then Map.del d p.stage else Map.put d s p.stage
    since := Map.put d now p.since }

/-- Every I/O die has ended its logic stage (16 R477). -/
def Pwr.ioDies (p : Pwr) : Bool := (upto 4 40).all p.inService

/-- A compute die and the memory-side dies of its stacks. -/
def dieGroup (n : Nat) : List Nat := n :: upto 4 (8 + 4 * n)

/-- The dies that the bring-up under way covers (16 R477, R480). -/
def Pwr.bringing (p : Pwr) : List Nat :=
  match p.bring with
  | some 2 => p.leaving.flatMap dieGroup
  | some _ => if p.ioDies then List.range 40 else upto 4 40
  | none => []

/-- STAGE of PWR_BRINGUP: the last stage that every die has completed (16 R489). -/
def Device.showStage (v : Device) : Device :=
  let s := (List.range 44).foldl (fun m d => min m (v.pwr.stageOf d)) 4
  v.onBase fun b => b.wf 0 3 s .PWR_BRINGUP 40

/-- Clock domains of a die, one PLL each (16 R472). -/
def dieDomains (d : Nat) : Nat := if d < 8 then 16 else if d < 40 then 2 else if d = 40 then 7 else 6

/-- A die completes a stage (16 R477). With its PLLs locked its domains start from level 3 (R473, R488). -/
def Device.stageTo (v : Device) (d s : Nat) : Device :=
  let v := { v with pwr := v.pwr.setStage d s v.base.time }
  let starts := if v.pwr.bring = some 2 ∧ d < 8 then 15 else if d = 40 then 6 else dieDomains d
  let v := if s = 2 then v.onBase fun b => b.countSat starts 0 48 .PWR_DOM_STARTS d else v
  if v.pwr.bring = some 2 then v else v.showStage

/-- Bring-up stops at a stage (16 R478): 0 rail, 1 PLL, 2 memory, 3 logic. The rails of the dies not through their logic stage are released. -/
def Device.bringStop (v : Device) (fstage die rail : Nat) : Device :=
  let p := v.pwr
  let off := (List.range 40).reverse.filter fun r =>
    p.rails.contains r && (List.range 44).any fun d => (dieRails d).contains r && !p.inService d
  let v := v.onBase fun b => b.wf 3 15 (1 + fstage * 2 + die * 8 + rail * 512) .PWR_BRINGUP 40
  let seen := p.inService 40
  let v := if seen then v.onBase fun b => b.pwrEvent 3 0x0F04 else v
  { v with pwr := ({ p with bring := none, stopped := true, unreported := !seen, fault := true, buses := [], leaving := [], aim := none } : Pwr).askAll v.base off false }

/-- What a stack held is gone with its DRAM rail (16 R465, R481). -/
def Base.dropStacks (b : Base) (n : Nat) : Base :=
  (upto 4 (4 * n)).foldl (fun (b : Base) st =>
    { b with
      mem := Map.delRange (st * 2 ^ 37) ((st + 1) * 2 ^ 37) b.mem
      poison := b.poison.filter fun k => k / 2 ^ 29 != st }) b

/-- A rail's Voltage write was acknowledged and its transition is done (16 R476): the request is over, and dies whose rails are all ready end
their rail stage (R477). -/
def Device.railDone (v : Device) (k : Nat) : Device :=
  match v.pwr.bus k with
  | [] => v
  | q :: _ =>
    let now := v.base.time
    let p := v.pwr
    let p := { p with
      rails := if q.on then NSet.add q.rail p.rails else NSet.remove q.rail p.rails
      volts := if q.on then Map.put q.rail q.mv p.volts else Map.del q.rail p.volts }
    let p := p.nextRequest now k
    let v := { v with pwr := p }
    let v := if 24 ≤ q.rail ∧ q.rail < 32 ∧ !q.on then v.onBase fun b => b.dropStacks (q.rail - 24) else v
    (p.bringing.filter fun d => p.stageOf d == 0 && (dieRails d).contains q.rail && (dieRails d).all p.railReady).foldl
      (fun (v : Device) d => v.stageTo d 1) v

/-- The die that a failing rail stops, for the record (16 R475, R489). -/
def railDie (r : Nat) : Nat := if r < 8 then r else if r < 32 then 8 + 4 * (r % 8) else 40 + (r - 32) % 4

/-- The partition table binds something of a compute die, or one of its stacks, to a valid partition (16 R465). -/
def Base.holdsTable (b : Base) (n : Nat) : Bool :=
  (List.range 8).any (fun k => (b.partOfPos n (8 * k)).isSome) || (List.range 9).any (fun k => (b.partOfCore n k).isSome)
    || (List.range 4).any (fun j => (b.partOfCrv (4 * n + j)).isSome) || (List.range 16).any (fun k => (b.partOfQueue (2048 * n + 128 * k)).isSome)
    || (List.range 4).any (fun j => (b.partOfStack (4 * n + j)).isSome)

/-- A compute die holds a partition: none before the lock (16 R465). -/
def Base.holds (b : Base) (n : Nat) : Bool := b.locked && b.holdsTable n

/-- Requested states of the device and of a die (16 R466, R487). -/
def Base.wantDevice (b : Base) : Nat := b.catNum 0x2001 1
def Base.wantDie (b : Base) (d : Nat) : Nat := b.catNum (0x6000 + 16 * d) 1

/-- The target of a compute die while the device goes to state s (16 R466). -/
def Base.computeTarget (b : Base) (s n : Nat) : Nat :=
  if 3 ≤ s then s
  else if s = 2 ∧ !b.holds n then 2
  else max (b.wantDie n) (if s = 1 then 1 else 0)

/-- The effective state of a die (16 R465, R466). -/
def Device.dieState (v : Device) (d : Nat) : Nat :=
  if 3 ≤ v.pwr.effective then v.pwr.effective
  else if d < 8 then
    if v.pwr.parked.contains d then 2 else if v.pwr.dozing.contains d then 1 else 0
  else if d < 40 then (if v.pwr.parked.contains ((d - 8) / 4) then 2 else 0)
  else 0

/-- RUN or DOZE of compute die n takes effect with the device in state s; a die whose target is PARK stays as it is until it is parked (16 R466). -/
def Device.settleDie (v : Device) (s n : Nat) : Device :=
  let t := v.base.computeTarget s n
  if t = 1 then { v with pwr := { v.pwr with dozing := NSet.add n v.pwr.dozing } }
  else if t = 0 then { v with pwr := { v.pwr with dozing := NSet.remove n v.pwr.dozing } }
  else v

/-- The device state that was aimed at takes effect, and the dies' states with it (16 R466, R471). -/
def Device.reach (v : Device) : Device :=
  match v.pwr.aim with
  | some s => (List.range 8).foldl (fun (v : Device) n => v.settleDie s n) { v with pwr := { v.pwr with aim := none, effective := s } }
  | none => v

/-- The target of a die (16 R466). -/
def Device.dieTarget (v : Device) (d : Nat) : Nat :=
  let s := v.base.wantDevice
  if 3 ≤ s then s
  else if d < 8 then v.base.computeTarget s d
  else if d < 40 then (if v.pwr.parked.contains ((d - 8) / 4) then 2 else 0)
  else 0

/-- PWR_DIE_STATE and PWR_DEV_STATE follow the power controller (16 R488, R489). `asked` are the dies whose blocks are asked or hold a grant. -/
def Device.showStates (v : Device) : Device :=
  let busy := v.pwr.hs.isSome || v.pwr.trans.isSome || v.pwr.bring == some 2
  let asked (d : Nat) : Bool := match v.pwr.hs, v.pwr.trans with
    | some h, _ => 3 ≤ h.target || h.dies.any fun n => (dieGroup n).contains d
    | none, some t => 3 ≤ t || v.pwr.parking.any fun n => (dieGroup n).contains d
    | none, none => false
  let b := (List.range 44).foldl (fun (b : Base) d =>
    b.wf 0 7 (v.dieState d + v.dieTarget d * 8 + b2n (asked d) * 64) .PWR_DIE_STATE d) v.base
  v.setBase (b.wf 0 7 (v.pwr.effective + v.base.wantDevice * 8 + b2n busy * 64) .PWR_DEV_STATE 40)

end Sys2Proof.Machine
end

