-- ==== Sys2Proof/Machine/Handshake.lean ====
section
/-! DEFINITION. The entry handshake (16 R469, R470), the transitions into PARK, HOLD and OFF (R471, R481), and the resets that meet them (R483, R486). -/

namespace Sys2Proof.Machine

/-- What a block answers (16 R469): a refusal and a delay carry their reason. -/
inductive Answer where
  | grant
  | delay (reason : Nat)
  | refuse (reason : Nat)
  deriving DecidableEq, Repr

/-- A block that is asked: its row in the table of 16 R469, its die, and its unit within the die (or a channel, for row 9). -/
structure Block16 where
  row : Nat
  die : Nat
  unit : Nat
  deriving DecidableEq, Repr

/-- The blocks that an entry asks, in order (16 R469): for PARK, those of the dies to park. -/
def blocksOf (target : Nat) (dies : List Nat) : List Block16 :=
  let all := decide (3 ≤ target)
  let cds := if all then List.range 8 else dies
  let mss := if all then upto 32 8 else dies.flatMap fun n => upto 4 (8 + 4 * n)
  let ios := if all then upto 4 40 else []
  let each (row : Nat) (ds us : List Nat) : List Block16 := ds.flatMap fun d => us.map fun u => Block16.mk row d u
  each 1 cds [81] ++ each 2 cds (List.range 68) ++ each 3 cds [0, 1, 2, 3] ++ each 4 mss [1] ++ each 5 mss [2] ++ each 6 ios [0, 1, 2, 3]
    ++ each 7 (cds ++ mss ++ ios) [0] ++ each 8 cds (List.range 9) ++ (if all then each 9 [40] (List.range 256) else [])
    ++ each 10 ios [5] ++ each 11 mss [0] ++ (if all then [Block16.mk 12 40 0] else [])

/-- A block in the SOURCE layout (15 R452, 16 R470). -/
def Block16.source (k : Block16) : Nat :=
  (match k.row with
    | 2 => Src.mk k.die k.unit
    | 3 => Src.mk k.die (68 + k.unit)
    | 4 | 5 | 6 | 10 | 11 => Src.mk k.die k.unit
    | 7 => if 40 ≤ k.die then Src.mk k.die 6 else logic k.die
    | 8 => Src.mk k.die (72 + k.unit)
    | _ => logic k.die).code

/-- What an engine answers from its window: a waybill accepted and not started refuses with 3, a running one delays with 2 (16 R469). -/
def windowAnswer (l : List Wb) (more : Bool) : Answer :=
  if more || l.any (fun x => x.phase == .accepted) then .refuse 3
  else if l.isEmpty then .grant
  else .delay 2

/-- What a tile answers (16 R469 row 2). -/
def Work.tileAnswer (w : Work) (n m : Nat) : Answer :=
  match w.base.posOfTile n m with
  | none => .grant
  | some p =>
    let id := tileUnit n p
    let held := [0, 1].any fun k => w.base.setState id k == sHELD
    match w.lending id with
    | some l =>
      if l.spilled.isSome then .refuse 3
      else if l.spillStart.isSome then .delay 2
      else windowAnswer (w.unit id).window held
    | none => windowAnswer (w.unit id).window held

/-- What an update unit answers (16 R469 row 4). -/
def Work.updAnswer (w : Work) (n : Nat) : Answer :=
  let started := (w.unit (updUnit n)).window.any fun x => x.phase != .accepted
  let held := (w.pool (n / 4)).any fun g => match w.base.place g.addr with
    | .stack st _ => st == n
    | _ => false
  if started || !(w.farSlots n).isEmpty || held then .refuse 4 else .grant

/-- What a ring engine answers (16 R469 row 6). -/
def Work.ringAnswer (w : Work) (e : Nat) : Answer :=
  let runs := (w.unit (ringUnit e)).window.any fun x => x.phase != .accepted
  if runs || w.ring.held.any (fun h => h.engine == e) || !(w.opt e).sent.isEmpty then .delay 5 else .grant

/-- What a block answers (16 R469). `cores` are the physical cores that run their identity and are not in a WFI with every interrupt masked. -/
def Device.answerOf (v : Device) (cores : List Nat) (k : Block16) : Answer :=
  let w := v.work
  let b := w.base
  match k.row with
  | 1 => if w.eng.queuesOn.any fun q => q / 2048 == k.die && b.qTail q != b.qHead q then .refuse 1 else .grant
  | 2 => w.tileAnswer k.die k.unit
  | 3 => windowAnswer (w.unit (crvUnit (4 * k.die + k.unit))).window (!(w.crv (4 * k.die + k.unit)).held.isEmpty)
  | 4 => w.updAnswer (k.die - 8)
  | 5 => windowAnswer (w.unit (ckptUnit (k.die - 8))).window false
  | 6 => w.ringAnswer (4 * (k.die - 40) + k.unit)
  | 7 =>
    let tap := decide (k.die < 8) && b.tapPhase k.die != 0 && b.tapPhase k.die != 4
    let jobs := (List.range 8).any fun u => freeUnit k.die u && b.fuBusy k.die u
    if tap || w.spare.tests.any (fun t => t.die == k.die) || jobs then .delay 6 else .grant
  | 8 => if cores.contains (9 * k.die + k.unit) then .refuse 7 else .grant
  | 9 => if [0, 1].any fun d => b.mbxPending k.unit d then .refuse 8 else .grant
  | 10 =>
    let up := [0, 1].any fun h =>
      let L := 2 * (k.die - 40) + h
      (b.partOfLink L).isSome && b.rf 0 3 .DOCK_PCIE_LNK k.die 0 h != 0 && !(b.link L).l2 && !(b.link L).disabled
    if up then .refuse 9 else .grant
  | 11 => if (v.mem.die (k.die - 8)).held.isEmpty then .grant else .delay 10
  | _ => if v.mgt.update.isSome then .delay 11 else .grant

/-- The record of an entry that is abandoned, and its event (16 R470). -/
def Device.abandon (v : Device) (target source reason : Nat) (refused : Bool) : Device :=
  let x := source + reason * 2 ^ 16 + target * 2 ^ 24 + b2n refused * 2 ^ 27 + 2 ^ 28 + v.base.time % 2 ^ 32 * 2 ^ 32
  let v := { v with pwr := { v.pwr with hs := none, aim := none } }
  v.onBase fun b =>
    let b := b.wr (BitVec.ofNat 64 x) .PWR_HS_LAST 40
    if reason = 12 then b else if refused then b.pwrEvent 0 0x0F01 else b.pwrEvent 1 0x0F02

/-- The LK registers, for the retention copy (16 R471). -/
def Base.lkRegs (b : Base) : List (Nat × Word) :=
  b.regs.filter fun e => match placeOf e.1 with
    | .reg r => r.reg.spec.fields.any fun f => f.acc == .lk
    | _ => false

/-- The memory-side dies and a compute die as a die reset leaves them; the die counters of the compute die stay where `keep` is set
(16 R473, R480, 17 R492). -/
def Device.groupReset (v : Device) (n : Nat) (keep : Bool) : Device :=
  let kept := v.base.regs.filter fun e => match placeOf e.1 with
    | .reg r => r.die == n && (r.reg == .DOCK_PMC_CTL || r.reg == .DOCK_PMC_VAL || r.reg == .DOCK_PMC_BAD)
    | _ => false
  let v := (dieGroup n).foldl (fun (v : Device) d => v.dieCore d false) v
  if keep then v.onBase fun b => { b with regs := kept.foldl (fun m e => Map.put e.1 e.2 m) b.regs } else v

/-- Past the point of no return the rails are released in the reverse of the bring-up order (16 R471): first those of the compute dies. -/
def Device.release (v : Device) (rails : List Nat) : Device :=
  { v with pwr := v.pwr.askAll v.base (rails.filter v.pwr.risen) false }

/-- The transition that every block has granted, or that a thermal trip forces, passes its point of no return (16 R471, R481, R482). A rail that was
to come on stays off. -/
def Device.transition (v : Device) (target : Nat) (dies : List Nat) : Device :=
  let v := { v with pwr := { v.pwr with hs := none, trans := some target, parking := if target = 2 then dies else [] } }
  if target = 2 then
    v.release ((dies.reverse) ++ (dies.reverse.map fun n => 8 + n) ++ (dies.reverse.map fun n => 16 + n))
  else
    let v := v.closeSessions fun _ => true
    let v := { v with work := (List.range 8).foldl (fun (w : Work) n => w.tapPause n) v.work }
    let copy := (v.base.lkRegs, v.base.i3cAddr)
    let v := { v with
      mgt := { v.mgt with up := false }
      pwr := { v.pwr.dropOn with ready := false, bring := none, parking := [], leaving := [], aim := none, ioOff := false, retention := if target = 3 then some copy else none } }
    let order := (List.range 8).reverse ++ (upto 8 8).reverse ++ (upto 8 16).reverse ++ (if target = 4 then (upto 8 24).reverse else [])
    v.release order

/-- The handshake asks its blocks from the first that has not granted (16 R469, R470). -/
def Device.askBlocks (v : Device) (h : Handshake) : Device :=
  let rest := (blocksOf h.target h.dies).drop h.granted
  let answers := rest.map fun k => (k, v.answerOf h.cores k)
  let granted := h.granted + (answers.takeWhile fun a => a.2 == .grant).length
  match answers.find? fun a => a.2 != .grant with
  | some (k, .refuse r) => v.abandon h.target k.source r true
  | some _ => { v with pwr := { v.pwr with hs := some { h with granted := granted, askedAt := v.base.time } } }
  | none => v.transition h.target h.dies

/-- Bring-up of parked compute dies begins, beside those already on their way (16 R480); none once a bring-up has stopped (R478). -/
def Device.leavePark (v : Device) (dies : List Nat) : Device :=
  let new := dies.filter fun n => !v.pwr.leaving.contains n
  if v.pwr.stopped || new.isEmpty then v
  else
    let p := { v.pwr with bring := some 2, leaving := v.pwr.leaving ++ new }
    { v with pwr := p.askAll v.base ((new.map fun n => 24 + n) ++ (new.map fun n => 16 + n) ++ (new.map fun n => 8 + n) ++ new) true }

/-- The power controller takes up the requested state of the device (16 R466, R467). -/
def Device.takeUpDevice (v : Device) (cores : List Nat) : Device :=
  let want := v.base.wantDevice
  let ask (dies : List Nat) (v : Device) : Device :=
    v.askBlocks { target := max 2 want, start := v.base.time, dies := dies, askedAt := v.base.time, cores := cores }
  if 3 ≤ want then if v.pwr.effective = want then v else ask [] v
  else
    let v := { v with pwr := { v.pwr with aim := some want } }
    let back := v.pwr.parked.filter fun n => v.base.computeTarget want n != 2
    let park := (List.range 8).filter fun n => want == 2 && !v.pwr.parked.contains n && v.base.computeTarget 2 n == 2
    if !park.isEmpty then ask park v else if back.isEmpty then v.reach else v.leavePark back

/-- The power controller takes up the requested state of a die; that of a memory-side or I/O die is RUN (16 R466, R467). -/
def Device.takeUpDie (v : Device) (n : Nat) (cores : List Nat) : Device :=
  let t := v.base.computeTarget v.pwr.effective n
  if 8 ≤ n then v
  else if t = 2 then
    if v.pwr.parked.contains n then v
    else v.askBlocks { target := 2, start := v.base.time, dies := [n], askedAt := v.base.time, cores := cores }
  else
    let v := v.settleDie v.pwr.effective n
    if v.pwr.parked.contains n then v.leavePark [n] else v

/-- The power controller takes up a request: that of a die, or of the device (44). `cores` are the cores that its sender found running. -/
def Device.takeUp (v : Device) (subject : Nat) (cores : List Nat) : Device :=
  if subject = 44 then v.takeUpDevice cores else v.takeUpDie subject cores

/-- No handshake, transition or bring-up is under way, and none is excluded by a bring-up that stopped (16 R467, R478). -/
def Pwr.idle (p : Pwr) : Bool := p.hs.isNone && p.trans.isNone && p.bring.isNone && p.ready

/-- Requests that were written during a transition are taken up when it has ended, one at a time in their order (16 R467). -/
def Device.settlePower (v : Device) : Device :=
  (v.pwr.again.foldl (fun (v : Device) a =>
    if v.pwr.idle then v.takeUp a.1 a.2 else { v with pwr := { v.pwr with again := v.pwr.again ++ [a] } })
    { v with pwr := { v.pwr with again := [] } }).showStates

/-- The memory stage of memory-side dies runs again; a die that is off takes it as it comes back (16 R485). -/
def Device.retrainAll (v : Device) (dies : List Nat) : Device :=
  let on := dies.filter fun d => v.pwr.inService d
  { v with pwr := { v.pwr with retrain := on.foldl (fun m d => Map.put d v.base.time m) v.pwr.retrain } }

/-- A warm reset takes place (16 R483, R486): requested and effective states are RUN, parked dies come back, and the management core boots. -/
def Device.warmNow (v : Device) (bit : Nat) : Device :=
  let v := { v with pwr := { v.pwr with
    hs := none
    aim := none
    again := []
    doze := []
    gated := []
    dozing := []
    effective := if v.pwr.effective ≤ 2 then 0 else v.pwr.effective } }
  let v := v.warmCore bit
  let v := if v.pwr.ready then v.retrainAll (upto 32 8) else v
  let v := if v.pwr.inService 40 then v.mgtBoot else v
  v.leavePark v.pwr.parked

/-- HOLD ends (16 R480): bring-up from the rail stage. `bit` is the flag of the warm reset, `source` the wake source. Once a bring-up has stopped
nothing but a cold reset starts one (R478). -/
def Device.holdExit (v : Device) (bit : Nat) (source : Option Nat) : Device :=
  if v.pwr.stopped then v
  else
  let v := match source with
    | some s => v.onBase fun b => b.wf 8 6 (2 ^ s) .PWR_WAKE 40
    | none => v
  { v with pwr := ({ v.pwr with bring := some 1, exitBit := bit, wake := none, stage := [], since := [] } : Pwr).askAll v.base ioRails true }

/-- A reset proceeds (16 R483). -/
def Device.resetNow (v : Device) (k : ResetKind) : Device :=
  match k with
  | .cold bit => v.coldReset bit
  | .warm bit =>
    if v.pwr.effective = 3 ∧ v.pwr.bring.isNone then v.holdExit bit none
    else if 3 ≤ v.pwr.effective then v
    else v.warmNow bit
  | .part p => v.partReset p
  | .die d => (v.dieReset d).retrainAll (if 8 ≤ d ∧ d < 40 then [d] else [])
  | .tile n m => v.tileReset n m
  | .link L => v.linkReset L

/-- A reset that a command asks for is refused (16 R483); a link bound to no partition resets none (14 R406). -/
def Device.resetRefused (v : Device) (k : ResetKind) : Bool :=
  match k with
  | .part p => !v.base.partValid p
  | .die d => !decide (d < 44 ∧ d ≠ 40)
  | .tile n m => !v.base.tileMayReset n m
  | _ => false

/-- A reset is asked for (16 R471, R486): one that is refused changes nothing else (R483), a handshake is abandoned without a record, a transition
past its point of no return first releases its rails, and a cold reset ends everything at once. -/
def Device.resetAsk (v : Device) (k : ResetKind) : Device :=
  match k with
  | .cold bit => v.coldReset bit
  | _ =>
    if v.resetRefused k then v.resetDeny
    else if v.pwr.trans.isSome then
      if v.pwr.resets.contains k then v else { v with pwr := { v.pwr with resets := v.pwr.resets ++ [k] } }
    else ({ v with pwr := { v.pwr with hs := none, aim := if v.pwr.hs.isSome then none else v.pwr.aim } }.resetNow k).settlePower

/-- A link event resets the partition bound to the link, where there is one (14 R406). -/
def Device.linkEvent (v : Device) (L : Nat) : Device := if (v.base.partOfLink L).isSome then v.resetAsk (.link L) else v

/-- PERST_N of port n asserted: its links drop, and every partition bound to one of them is reset, once (14 R406). -/
def Device.portEvent (v : Device) (n : Nat) : Device :=
  let v := [0, 1].foldl (fun (v : Device) h => v.onBase fun b => b.linkCold (2 * n + h)) v
  let p0 := v.base.partOfLink (2 * n)
  let v := v.linkEvent (2 * n)
  if v.base.partOfLink (2 * n + 1) = p0 then v else v.linkEvent (2 * n + 1)

/-- The resets that waited for the rails (16 R471); a warm reset absorbs the others (R486). -/
def Device.resetsDue (v : Device) : Device :=
  let l := v.pwr.resets
  let v := { v with pwr := { v.pwr with resets := [] } }
  match l.find? fun k => match k with | .warm _ => true | _ => false with
  | some k => v.resetNow k
  | none => l.foldl (fun (v : Device) k => v.resetNow k) v

/-- Compute dies are parked: their units and their stacks' dies lose their state (16 R465, R473, 17 R492). -/
def Device.parkDone (v : Device) : Device :=
  let dies := v.pwr.parking
  let v := dies.foldl (fun (v : Device) n =>
    let v := v.groupReset n true
    let v := { v with work := v.work.tapPause n }
    { v with pwr := { v.pwr with
        parked := NSet.add n v.pwr.parked
        retrain := (dieGroup n).foldl (fun m d => Map.del d m) v.pwr.retrain
        stage := (dieGroup n).foldl (fun m d => Map.del d m) v.pwr.stage } }) v
  { v with pwr := { v.pwr with trans := none, parking := [] } }.reach

/-- HOLD or OFF is reached (16 R471, R481). -/
def Device.offDone (v : Device) (target : Nat) : Device :=
  let v := { v with pwr := { v.pwr with trans := none, ioOff := false, stage := [], since := [], retrain := [], parked := [] } }
  let v := { v with pwr := { v.pwr with effective := target, dozing := [], doze := [], gated := [] } }
  let v := if target = 4 then { v with pwr := { v.pwr with sysOff := true } } else v
  match v.pwr.wake, target with
  | some s, 3 => v.holdExit 5 (some s)
  | _, _ => v

/-- What a transition does once no rail request waits (16 R471). IORDY falls, and the links and the coupler hold with it, when the I/O rails are
released (19 R522). -/
def Device.transStep (v : Device) : Device :=
  if !v.pwr.buses.isEmpty then v
  else
    match v.pwr.trans with
    | none => v
    | some t =>
      if t = 2 then (v.parkDone.resetsDue).settlePower
      else if v.pwr.ioOff then ((v.offDone t).resetsDue).settlePower
      else
        let v := { v with pwr := { v.pwr with ioOff := true, iordy := false } }
        let v := (List.range 8).foldl (fun (v : Device) L => v.onBase fun b => b.linkCold L) v
        let v := { v with work := v.work.joinWrite false false }
        let v := v.release ioRails.reverse
        if v.pwr.buses.isEmpty then ((v.offDone t).resetsDue).settlePower else v

end Sys2Proof.Machine
end

