-- ==== Sys2Proof/Machine/Counters.lean ====
section
/-! DEFINITION. Configurable performance counters: controls and their validity (17 R497 to R499), ownership (R491, R502), and counting (R493 to R501). -/

namespace Sys2Proof.Machine

/-- The units that have an event: the die kinds 0 compute, 1 memory-side, 2 I/O, and first and last unit (17 R493). -/
def eventUnits (ev : Nat) : Option (Nat × Nat × Nat) :=
  if 0x01 ≤ ev ∧ ev ≤ 0x14 then some (0, 0, 67)
  else if 0x20 ≤ ev ∧ ev ≤ 0x28 then some (0, 81, 81)
  else if 0x30 ≤ ev ∧ ev ≤ 0x34 then some (0, 68, 71)
  else if 0x40 ≤ ev ∧ ev ≤ 0x45 then some (0, 72, 80)
  else if 0x50 ≤ ev ∧ ev ≤ 0x56 then some (1, 0, 0)
  else if 0x58 ≤ ev ∧ ev ≤ 0x5B then some (1, 1, 1)
  else if ev = 0x5C then some (1, 2, 2)
  else if 0x60 ≤ ev ∧ ev ≤ 0x64 then some (2, 0, 3)
  else if ev = 0x68 then some (2, 4, 4)
  else if 0x70 ≤ ev ∧ ev ≤ 0x73 then some (2, 5, 5)
  else none

def dieKind (d : Nat) : Nat := if d < 8 then 0 else if d < 40 then 1 else 2

/-- The pair of source and event is valid on a die (17 R493). -/
def eventOk (d src ev : Nat) : Bool :=
  match eventUnits ev with
  | some (k, lo, hi) => k == dieKind d && (src == 0xFF || decide (lo ≤ src ∧ src ≤ hi))
  | none => false

/-- Traffic events (17 R493, R498). -/
def trafficEvent (ev : Nat) : Bool :=
  [0x0A, 0x0B, 0x20, 0x21, 0x22, 0x23, 0x24, 0x25, 0x28, 0x50, 0x51, 0x5B, 0x5C, 0x60, 0x61, 0x62, 0x70, 0x71].contains ev

/-- PEXP of a sampling control is allowed (17 R499). -/
def pexpOk (x : Nat) : Bool := decide (10 ≤ x ∧ x ≤ 40)

/-- The partition to which counter i of die d is granted (17 R502). -/
def Base.counterOwner (b : Base) (d i : Nat) : Option Nat := (List.range 8).find? fun p => (ofLe (b.cat 0x5001 (p + 1))).testBit (64 * d + i)

/-- Counters of a die (17 R491). -/
def dieCounters (d : Nat) : Nat := if d < 8 then 64 else 16

/-- A tile control is invalid (17 R497, R499). -/
def tileCtlBad (v : Word) : Bool :=
  !(decide (1 ≤ fget v 0 8 ∧ fget v 0 8 ≤ 0x14)) || (bget v 9 && !pexpOk (fget v 10 6))

/-- A die control is invalid (17 R497 to R499). -/
def Base.dieCtlBad (b : Base) (d i : Nat) (v : Word) : Bool :=
  let ev := fget v 0 8
  let src := fget v 8 8
  let chain := bget v 24
  !eventOk d src ev || decide (4 < fget v 48 3)
    || (bget v 17 && !(decide (0x40 ≤ ev ∧ ev ≤ 0x45) && src != 0xFF && pexpOk (fget v 18 6)))
    || (chain && (i % 2 == 1 || !trafficEvent ev || bget v 17 || (b.counterOwner d i).isSome))

/-- The value that SAMPLE loads (17 R499). -/
def sampleLoad (pexp : Nat) : Nat := 2 ^ 48 - 2 ^ pexp

/-- TILE_PMC_CTL of counter i of tile m written, its RW fields as v gives them (17 R497, R499). -/
def Base.tileCtl (b : Base) (n m i : Nat) (v : Word) : Base :=
  let bad := tileCtlBad v
  let b := b.wr v .TILE_PMC_CTL (cd n) m i
  let b := b.wf (8 + i) 1 (b2n bad) .TILE_PMC_STATUS (cd n) m
  let b := if bad then b.pmcEvent (cd n) 5 0x1006 ⟨cd n, m⟩ (b.partOfTile n m) else b
  if bget v 9 ∧ !bad then b.wf 0 48 (sampleLoad (fget v 10 6)) .TILE_PMC_VAL (cd n) m i else b

/-- DOCK_PMC_CTL of counter i of die d written (17 R497, R499). -/
def Base.dieCtl (b : Base) (d i : Nat) (v : Word) : Base :=
  let bad := b.dieCtlBad d i v
  let b := b.wr v .DOCK_PMC_CTL d 0 i
  let b := b.wf i 1 (b2n bad) .DOCK_PMC_BAD d
  let b := if bad then b.pmcEvent d 5 0x1006 (logic d) (b.counterOwner d i) else b
  if bget v 17 ∧ !bad then b.wf 0 48 (sampleLoad (fget v 18 6)) .DOCK_PMC_VAL d 0 i else b

/-- Counter i is the lower counter of a chain (17 R498). -/
def Base.chained (b : Base) (d i : Nat) : Bool :=
  decide (i % 2 = 0) && bget (b.rd .DOCK_PMC_CTL d 0 i) 24 && !bget (b.rd .DOCK_PMC_BAD d) i

/-- PMC_VAL_READ (17 R498): a read of the lower counter of a chain latches the upper one, and the next read of that one returns what was latched. -/
def Device.counterRead (v : Device) (d i : Nat) : Word × Device :=
  let b := v.base
  match Map.find (64 * d + i) v.pmc.latched with
  | some x => (BitVec.ofNat 64 x, { v with pmc := { v.pmc with latched := Map.del (64 * d + i) v.pmc.latched } })
  | none =>
    let w := b.rd .DOCK_PMC_VAL d 0 i
    if b.chained d i then
      (w, { v with pmc := { v.pmc with latched := Map.put (64 * d + i + 1) (b.rf 0 48 .DOCK_PMC_VAL d 0 (i + 1)) v.pmc.latched } })
    else (w, v)

/-- The filters of a device counter (17 R494, R495): PRIV, MASTER and MMASK, and the range. -/
def Occur.passes (o : Occur) (priv master mmask : Nat) (range : Option (Nat × Nat)) : Bool :=
  priv.testBit o.cls
    && (match o.identity with
      | some x => (x ^^^ master) &&& mmask == 0
      | none => mmask == 0)
    && (match range with
      | none => true
      | some (lo, hi) => match o.addr with
        | some a => decide (lo ≤ a ∧ a ≤ hi)
        | none => false)

/-- The partition that a unit belongs to, for an occurrence without a cause (14 R407): a PCIe port's is that of the link. -/
def Base.partOfSrc (b : Base) (o : Occur) : Option Nat :=
  if o.die < 8 then
    if o.unit < 68 then b.partOfTile o.die o.unit
    else if o.unit < 72 then b.partOfCrv (4 * o.die + (o.unit - 68))
    else if o.unit < 81 then (upto 8).findSome? fun k => if b.coreOf o.die k == some (o.unit - 72) then b.partOfCore o.die k else none
    else none
  else if o.die < 40 then b.partOfStack (o.die - 8)
  else if o.unit = 5 then o.part else none

/-- The filters of a partition counter of p (17 R495, R496). Of an occurrence without a cause, the source unit must belong to p. -/
def Base.passesPart (b : Base) (o : Occur) (p priv : Nat) (range : Option (Nat × Nat)) : Bool :=
  (if o.cls = 6 then b.partOfSrc o else o.part) == some p && (o.cls == 4 || o.cls == 5 || priv.testBit o.cls)
    && (match range with
      | none => true
      | some (lo, hi) => match o.addr with
        | some a => decide (lo ≤ a ∧ a ≤ hi)
        | none => false)

/-- The waybill that a tile's sample is charged to (17 R499): the running one, or one of the next two to start. -/
def Work.charged (w : Work) (n m : Nat) (now : Nat) (k : Nat) : Nat :=
  match w.base.posOfTile n m with
  | none => now
  | some p =>
    let next := ((w.unit (tileUnit n p)).window.filter fun x => x.phase == .accepted).map Wb.number
    (now :: next).getD (Config.skid k % 3) now

/-- A tile counter reloads (17 R499). -/
def Device.sample (v : Device) (n m waybill : Nat) : Device :=
  let now := v.base.time
  let code := tileCode n m
  let early := match Map.find code v.pmc.sampled with
    | some t => decide (now < t + usTicks 1)
    | none => false
  let part := v.base.partOfTile n m
  if early then
    let v := v.onBase fun b => b.countSat 1 32 16 .TILE_PMC_STATUS (cd n) m
    let quiet := match Map.find code v.pmc.lost with
      | some t => decide (now < t + msTicks 1)
      | none => false
    if quiet then v
    else { v.onBase fun b => b.pmcEvent (cd n) 3 0x1004 ⟨cd n, m⟩ part with pmc := { v.pmc with lost := Map.put code now v.pmc.lost } }
  else
    let (k, b) := v.base.fresh
    let wb := v.work.charged n m waybill k
    { v.setBase (b.flag .DOCK_PMC_STATUS .DOCK_PMC_EVENT_EN 2 false 0x1003 (cd n) 0 0 ⟨cd n, m⟩ part wb) with
      pmc := { v.pmc with sampled := Map.put code now v.pmc.sampled } }

/-- Counter i of tile m of CDn counts events `ev`: it is enabled, its control is valid, and the tile holds a position (17 R497, R500). -/
def Base.tileSelects (b : Base) (n m i ev : Nat) : Bool :=
  let c := b.rd .TILE_PMC_CTL (cd n) m i
  bget c 8 && fget c 0 8 == ev && !bget (b.rd .TILE_PMC_STATUS (cd n) m) (8 + i) && (b.partOfTile n m).isSome

/-- An addition to counter i of tile m of CDn, charged to a waybill (17 R498, R499). -/
def Device.tileAdd (v : Device) (n m i adds waybill : Nat) : Device :=
  let c := v.base.rd .TILE_PMC_CTL (cd n) m i
  let x := v.base.rf 0 48 .TILE_PMC_VAL (cd n) m i + adds
  if x < 2 ^ 48 then v.onBase fun b => b.wf 0 48 x .TILE_PMC_VAL (cd n) m i
  else if bget c 9 then (v.onBase fun b => b.wf 0 48 (sampleLoad (fget c 10 6)) .TILE_PMC_VAL (cd n) m i).sample n m waybill
  else v.onBase fun b =>
    let was := bget (b.rd .TILE_PMC_STATUS (cd n) m) i
    let b := (b.wf 0 48 (2 ^ 48 - 1) .TILE_PMC_VAL (cd n) m i).wf i 1 1 .TILE_PMC_STATUS (cd n) m
    if was then b else b.pmcEvent (cd n) 1 0x1002 ⟨cd n, m⟩ (b.partOfTile n m)

/-- An occurrence at counter i of its tile (17 R496, R498, R499). -/
def Device.tileCount (v : Device) (o : Occur) (i : Nat) : Device :=
  let b := v.base
  let n := o.die
  let m := o.unit
  let c := b.rd .TILE_PMC_CTL (cd n) m i
  let range := if bget c 23 then some (b.rf 0 52 .TILE_PMC_RBASE (cd n) m, b.rf 0 52 .TILE_PMC_RLIMIT (cd n) m) else none
  if b.tileSelects n m i o.event && b.passesPart o ((b.partOfTile n m).getD 8) (fget c 16 7) range then v.tileAdd n m i o.adds o.waybill else v

/-- A device counter that wraps (17 R498, R501). -/
def Base.counterWraps (b : Base) (d i x : Nat) : Base :=
  let b := (b.wf 0 48 x .DOCK_PMC_VAL d 0 i).wf i 1 1 .DOCK_PMC_OVF d
  let b := b.pmcEvent d 0 0x1001 (logic d) none
  if bget (b.rd .DOCK_PMC_GLOBAL d) 1 then b.wf 0 1 1 .DOCK_PMC_GLOBAL d else b

/-- A core's sample (17 R499): DOCK_PMC_CSAMPLE is written, or LOST counts where its record is unread, and the core's counter-overflow interrupt
is signalled. The program counter and the mode are free values: no row runs a core (log entries 85 and 160). -/
def Base.coreSample (b : Base) (d i k : Nat) : Base :=
  let b := { b with sent := .coreOverflow d k :: b.sent }
  if bget (b.rd .DOCK_PMC_CSAMPLE_INFO d 0 k) 8 then b.countSat 1 16 16 .DOCK_PMC_CSAMPLE_INFO d 0 k
  else
    let (x, b) := b.fresh
    let mode := [0, 1, 3].getD (Config.sampleMode x % 3) 0
    let b := b.wf 0 64 (Config.samplePc x) .DOCK_PMC_CSAMPLE_PC d 0 k
    (((b.wf 0 6 i .DOCK_PMC_CSAMPLE_INFO d 0 k).wf 6 2 mode .DOCK_PMC_CSAMPLE_INFO d 0 k).wf 8 1 1 .DOCK_PMC_CSAMPLE_INFO d 0 k)

/-- Counter i of a die counts events `ev` of a unit: it is enabled, its control is valid and not ignored as that of a chain's upper counter, and
FREEZE does not stop it (17 R493, R497, R498, R501). -/
def Base.dieSelects (b : Base) (d i unit ev : Nat) : Bool :=
  let c := b.rd .DOCK_PMC_CTL d 0 i
  let src := fget c 8 8
  bget c 16 && !(decide (i % 2 = 1) && b.chained d (i - 1)) && fget c 0 8 == ev && (src == 0xFF || src == unit)
    && !bget (b.rd .DOCK_PMC_BAD d) i && ((b.counterOwner d i).isSome || !bget (b.rd .DOCK_PMC_GLOBAL d) 0)

/-- An addition to counter i of a die (17 R498, R499). -/
def Base.dieAdd (b : Base) (d i adds : Nat) : Base :=
  let c := b.rd .DOCK_PMC_CTL d 0 i
  let x := b.rf 0 48 .DOCK_PMC_VAL d 0 i + adds
  if x < 2 ^ 48 then b.wf 0 48 x .DOCK_PMC_VAL d 0 i
  else if bget c 17 then (b.wf 0 48 (sampleLoad (fget c 18 6)) .DOCK_PMC_VAL d 0 i).coreSample d i (fget c 8 8 - 72)
  else
    match b.counterOwner d i with
    | some p =>
      let was := bget (b.rd .DOCK_PMC_SAT d) i
      let b := (b.wf 0 48 (2 ^ 48 - 1) .DOCK_PMC_VAL d 0 i).wf i 1 1 .DOCK_PMC_SAT d
      if was then b else b.pmcEvent d 1 0x1002 (logic d) (some p)
    | none =>
      if b.chained d i then
        let b := b.wf 0 48 (x % 2 ^ 48) .DOCK_PMC_VAL d 0 i
        let y := b.rf 0 48 .DOCK_PMC_VAL d 0 (i + 1) + 1
        if y < 2 ^ 48 then b.wf 0 48 y .DOCK_PMC_VAL d 0 (i + 1) else b.counterWraps d (i + 1) 0
      else b.counterWraps d i (x % 2 ^ 48)

/-- An occurrence passes the filters of counter i of its die (17 R494 to R496). -/
def Base.dieFilters (b : Base) (o : Occur) (i : Nat) : Bool :=
  let d := o.die
  let c := b.rd .DOCK_PMC_CTL d 0 i
  let range := fget c 48 3
  let window := if range = 0 then none else some (b.rf 0 52 .DOCK_PMC_RBASE d 0 (range - 1), b.rf 0 52 .DOCK_PMC_RLIMIT d 0 (range - 1))
  match b.counterOwner d i with
  | some p => b.passesPart o p (fget c 25 7) window
  | none => o.passes (fget c 25 7) (fget c 32 8) (fget c 40 8) window

/-- An addition to counter i sets FREEZE of the die: the counter is the device's, and it wraps with PMC.OVF (17 R501). -/
def Base.freezes (b : Base) (d i adds : Nat) : Bool :=
  let full (k n : Nat) : Bool := decide (2 ^ 48 ≤ b.rf 0 48 .DOCK_PMC_VAL d 0 k + n)
  bget (b.rd .DOCK_PMC_GLOBAL d) 1 && (b.counterOwner d i).isNone && !bget (b.rd .DOCK_PMC_CTL d 0 i) 17 && full i adds
    && (!b.chained d i || full (i + 1) 1)

/-- What the counters of a die add in one cycle: the additions of an increment that sets FREEZE come first, and a device counter that meets FREEZE
counts nothing (17 R501). Of two that would set it in one cycle, the lowest-numbered does (log entry 161). -/
def Base.countAll (b : Base) (d : Nat) (l : List (Nat × Nat)) : Base :=
  let first := (l.filter fun x => b.freezes d x.1 x.2).take 1
  (first ++ l.filter fun x => !first.contains x).foldl (fun (b : Base) x =>
    if (b.counterOwner d x.1).isNone && bget (b.rd .DOCK_PMC_GLOBAL d) 0 then b else b.dieAdd d x.1 x.2) b

/-- A counter control is stored somewhere. -/
def Base.counting (b : Base) : Bool :=
  b.regs.any fun e => match placeOf e.1 with
    | .reg r => r.reg == .TILE_PMC_CTL || r.reg == .DOCK_PMC_CTL
    | _ => false

/-- An occurrence is counted by the counters of its tile and of its die (17 R493). -/
def Device.occur (v : Device) (o : Occur) : Device :=
  if v.base.counting && decide (0 < o.adds) then
    let v := if o.die < 8 ∧ o.unit < 68 then (List.range 8).foldl (fun (v : Device) i => v.tileCount o i) v else v
    v.onBase fun b => b.countAll o.die
      (((List.range (dieCounters o.die)).filter fun i => b.dieSelects o.die i o.unit o.event && b.dieFilters o i).map fun i => (i, o.adds))
  else v

/-- The events that no command brings about (17 R493): those of clock cycles, of a core, of the mesh and of row activations. What one adds in a
tick is a free value (log entry 85). -/
def freeEvent (ev : Nat) : Bool :=
  [0x01, 0x02, 0x03, 0x06, 0x07, 0x12, 0x20, 0x21, 0x22, 0x23, 0x24, 0x25, 0x30, 0x31, 0x40, 0x41, 0x42, 0x43, 0x44, 0x45, 0x52, 0x55, 0x58,
    0x64].contains ev

/-- The waybill that runs on a tile, 0 if none does. -/
def Work.tileWaybill (w : Work) (n m : Nat) : Nat :=
  match w.base.posOfTile n m with
  | some p => (((w.unit (tileUnit n p)).window.find? fun x => x.phase == .running).map Wb.number).getD 0
  | none => 0

/-- What a counter whose control names a free event adds in a tick: a free value, and a multiple of INUSE for SLOT_SUM (17 R493, log entry 85). -/
def Base.freeAdds (b : Base) (d ev : Nat) : Nat × Base :=
  let (k, b) := b.fresh
  (if ev = 0x55 then b.rf 0 13 .DOCK_MS_SLOTS d * (Config.tickAdds k % 2 ^ 32) else Config.tickAdds k % 2 ^ 32, b)

/-- A tick at the counters that count free events, on the dies of a list (17 R492, R493). -/
def Device.freeTick (v : Device) (dies : Nat → Bool) : Device :=
  let ctls := v.base.regs.filterMap fun e => match placeOf e.1 with
    | .reg r => if (r.reg == .TILE_PMC_CTL || r.reg == .DOCK_PMC_CTL) && freeEvent (fget e.2 0 8) && dies r.die then some (r, fget e.2 0 8) else none
    | _ => none
  let v := ctls.foldl (fun (v : Device) x =>
    if x.1.reg = .TILE_PMC_CTL ∧ v.base.tileSelects x.1.die x.1.unit x.1.i x.2 then
      let (n, b) := v.base.freeAdds x.1.die x.2
      (v.setBase b).tileAdd x.1.die x.1.unit x.1.i n (v.work.tileWaybill x.1.die x.1.unit)
    else v) v
  (upto 44).foldl (fun (v : Device) d =>
    let at_ := ctls.filter fun x => x.1.reg == .DOCK_PMC_CTL && x.1.die == d && v.base.dieSelects d x.1.i (fget (v.base.rd .DOCK_PMC_CTL d 0 x.1.i) 8 8) x.2
    let (adds, b) := at_.foldl (fun (a : List (Nat × Nat) × Base) x =>
      let (n, b) := a.2.freeAdds d x.2
      (a.1 ++ [(x.1.i, n)], b)) ([], v.base)
    if at_.isEmpty then v else v.setBase (b.countAll d adds)) v

/-- The counters of a host-class core that software on the core reads, by CSR number (17 R492): time reads the timebase, mhpmcounter3 to
mhpmcounter31 read zero, and cycle and instret are free values, since no row of the table runs a core (log entry 85). -/
def Device.coreCounter (v : Device) (n k csr : Nat) : Option Word :=
  if csr = 0xC01 then some (BitVec.ofNat 64 v.base.time)
  else if csr = 0xC00 ∨ csr = 0xC02 then some (BitVec.ofNat 64 (Config.coreCounter (9 * n + k) csr v.base.time))
  else if 0xB03 ≤ csr ∧ csr ≤ 0xB1F then some 0
  else none

end Sys2Proof.Machine
end

