-- ==== Sys2Proof/Machine/Access.lean ====
section
/-! DEFINITION. Register accesses as they arrive (00 R6 to R10, 14 R403 to R405, R408, R411, R412): who may reach which register, what a read
returns, and what a write does. -/

namespace Sys2Proof.Machine

/-- What a waybill unit's STATE field reads: FENCED where it is, else BUSY while a waybill of its window runs (08 R245, 09 R270, 13 R398). -/
def Work.unitBusy (w : Work) (id stored : Nat) : Nat :=
  if stored = 2 then 2 else if (w.unit id).window.any (fun x => x.phase == .running) then 1 else 0

/-- A binding as fields of a state register: partition, and bound. -/
def partField (p : Option Nat) : Nat := p.getD 0

/-- A tile domain of a compute die has a startable waybill or work in progress (16 R473): tiles 8k to 8k + 7, and 64 + k for k below 4. -/
def Work.domainBusy (w : Work) (n k : Nat) : Bool :=
  (upto 8 (8 * k) ++ (if k < 4 then [64 + k] else [])).any fun m =>
    match w.base.posOfTile n m with
    | some p => (w.unit (tileUnit n p)).window.any fun x => x.phase != .accepted || w.basicReady (tileUnit n p) x
    | none => false

/-- A unit has a startable waybill or work in progress (16 R473): for an engine, also what its fold path, its far-wait slots, its receiver or its retry
buffer holds. -/
def Work.unitBusyNow (w : Work) (id : Nat) : Bool :=
  (w.unit id).window.any (fun x => x.phase != .accepted || w.basicReady id x) ||
    match unitOf id with
    | some (.crv, n) => !(w.crv n).held.isEmpty || (w.crv n).installing.isSome
    | some (.upd, n) => !(w.farSlots n).isEmpty
    | some (.ring, n) => w.ring.held.any (fun h => h.engine == n) || !(w.opt n).sent.isEmpty
    | _ => false

/-- The level of domain i of a die (16 R473, R488). What the model does not hold of a domain's units is free (log entry 71). -/
def Device.domainLevel (v : Device) (d i : Nat) : Nat :=
  let w := v.work
  let idle (l : List Nat) : Nat := if l.any w.unitBusyNow then 0 else 1
  if 3 ≤ v.pwr.effective ∨ (v.pwr.stageOf d < 2 ∧ !(d < 8 ∧ v.pwr.parked.contains d)) then 3
  else if d < 8 ∧ v.pwr.parked.contains d ∧ i ≠ 14 then 3
  else if d < 8 ∧ i < 8 then
    if v.pwr.doze.contains (8 * d + i) then 2 else if w.domainBusy d i then 0 else 1
  else if d < 8 ∧ i < 12 then idle [crvUnit (4 * d + i - 8)]
  else if 8 ≤ d ∧ d < 40 ∧ i = 1 then idle [updUnit (d - 8), ckptUnit (d - 8)]
  else if 40 ≤ d ∧ i < 4 then idle [ringUnit (4 * (d - 40) + i)]
  else b2n (Config.domainGated w.base.time d i)

/-- Domains of a die that PWR_DOM_LEVEL has a field for (16 R472, R488). -/
def levelFields (d : Nat) : Nat := if d < 8 then 16 else if d < 40 then 2 else 6

/-- What a register reads: its stored contents, and the fields that report other state. -/
def Device.view (v : Device) (r : RegAt) : Word :=
  let w := v.work
  let b := w.base
  let x := b.rd r.reg r.die r.unit r.i r.j
  let put (x : Word) (lo k y : Nat) : Word := fput x lo k y
  match r.reg with
  | .TILE_STATE =>
    let p := b.partOfTile r.die r.unit
    put (put x 3 1 (b2n p.isSome)) 4 3 (partField p)
  | .DOCK_QCFG =>
    let p := b.partOfQueue (2048 * r.die + r.unit)
    put (put x 24 3 (partField p)) 27 1 (b2n p.isSome)
  | .DOCK_MS_ID =>
    let p := b.partOfStack (r.die - 8)
    put (put x 5 3 (partField p)) 8 1 (b2n p.isSome)
  | .CRV_STATE =>
    let id := crvUnit (4 * r.die + r.unit)
    let p := b.partOfCrv (4 * r.die + r.unit)
    put (put (put (put x 0 2 (w.unitBusy id (fget x 0 2))) 3 3 (partField p)) 6 1 (b2n p.isSome)) 7 4 (w.windowUsed id)
  | .UPD_STATE =>
    let id := updUnit (r.die - 8)
    put (put (put x 0 2 (w.unitBusy id (fget x 0 2))) 2 5 (w.windowUsed id)) 8 13 (w.readySlices (r.die - 8))
  | .UPD_POOL =>
    let n := r.die - 8
    let l := w.pool (n / 4)
    let free := if b.updCapacity n = 0 then 0 else 1024 - poolUsed l
    let late := if n % 4 = 0 then l.countP (fun g => g.unmatched) else 0
    put (put x 0 11 free) 32 15 late
  | .DOCK_CK_STATE =>
    let id := ckptUnit (r.die - 8)
    let p := b.partOfStack (r.die - 8)
    put (put (put (put x 0 2 (w.unitBusy id (fget x 0 2))) 2 3 (partField p)) 5 1 (b2n p.isSome)) 6 3 (w.windowUsed id)
  | .RING_VC => if 64 < fget x 4 7 then put x 4 7 64 else x
  | .CHK_VD_CUR =>
    let a := b.verdict r.i
    let off := !b.verifiedMode r.i
    put (put (put x 0 6 a.fail) 8 5 (a.notes off)) 32 32 (b.stepOf r.i % 2 ^ 32)
  | .PWR_TIMEBASE => BitVec.ofNat 64 b.time
  | .PWR_MGT_SESS =>
    let left := match v.mgt.lockout with
      | some t => t + sTicks 60 - b.time
      | none => 0
    put x 32 32 left
  | .PWR_MGT_DIVERGE => put x 24 8 (min 255 (v.mgt.diverge.countP fun e => e.2.2))
  | .PWR_DOM_LEVEL =>
    (List.range (levelFields r.die)).foldl (fun (y : Word) i => fput y (2 * i) 2 (v.domainLevel r.die i)) 0
  | .DOCK_PMC_CTL =>
    let p := b.counterOwner r.die r.i
    put (put x 52 3 (partField p)) 55 1 (b2n p.isSome)
  | _ => x

/-- The register of a memory-side die that its stack's partition reaches (14 R411). -/
def stackReg (r : Reg) : Bool :=
  match r.spec.block with
  | .upd | .ck | .seal => true
  | _ => [Reg.DOCK_MS_ID, .DOCK_MS_SLOTS, .DOCK_MS_HOTDWELL, .DOCK_MS_HOTBANK, .DOCK_MS_WRAPTIME, .DOCK_MS_PCRET, .DOCK_MS_CECNT, .DOCK_MS_UECNT,
      .DOCK_MS_ERRADDR, .DOCK_MS_ROWSPARE, .DOCK_MS_CETHRESH, .DOCK_MS_STATUS, .DOCK_MS_EVENT_EN].contains r

/-- Free check unit registers (12 R359). -/
def fuRegs : List Reg :=
  [.CHK_FU_CFG, .CHK_FU_POLY, .CHK_FU_INIT, .CHK_FU_ADDR, .CHK_FU_LEN, .CHK_FU_EXPECT, .CHK_FU_CTL, .CHK_FU_RESULT, .CHK_FU_STATUS, .CHK_FU_DONE]

/-- A master of partition p, or of none, reaches a register (14 R411). Mailbox registers are judged by the channel's binding. -/
def Base.reaches (b : Base) (master : Nat) (r : RegAt) (write : Bool) : Bool :=
  match b.whoIs master with
  | .management => true
  | who =>
    let mine (q : Option Nat) : Bool := match who, q with
      | .part p, some k => p == k
      | _, _ => false
    let some_ := match who with | .part _ => true | _ => false
    let core := decide (0x10 ≤ master ∧ master ≤ 0x57)
    match r.reg.spec.block with
    | .queue => mine (b.partOfQueue (2048 * r.die + r.unit))
    | .tile => mine (b.partOfTile r.die r.unit)
    | .crv => mine (b.partOfCrv (4 * r.die + r.unit))
    | .mbx => b.mbxA r.i == master || b.mbxB r.i == master
    | _ =>
      if stackReg r.reg && decide (8 ≤ r.die ∧ r.die < 40) then mine (b.partOfStack (r.die - 8))
      else if partSets.contains r.reg then mine (some r.i)
      else if fuRegs.contains r.reg then some_ || (core && !write)
      else !write && (some_ || core)

/-- A register with an LK field (00 R9). -/
def hasLk (r : Reg) : Bool := r.spec.fields.any fun f => f.acc == .lk

/-- A register access is refused (14 R408, R411). -/
def Base.regDeny (b : Base) (master die : Nat) : Base :=
  let b := match b.whoIs master with
    | .part p => b.hostEvent p 0 0x0D02 (logic die)
    | _ => b.raise 0x0D02 (logic die)
  { b with resp := .error }

/-- The bits of a register that an access of a size at an address covers. -/
def accessMask (addr size : Nat) : Nat := if size = 8 then 2 ^ 64 - 1 else if addr % 8 = 4 then 2 ^ 64 - 2 ^ 32 else 2 ^ 32 - 1

/-- The data of a write, in its place in the register. -/
def accessData (addr size data : Nat) : Nat := if size = 8 then data % 2 ^ 64 else if addr % 8 = 4 then data % 2 ^ 32 * 2 ^ 32 else data % 2 ^ 32

/-- A register after a write: each field by its access type (00 R9). `x` is the data in its place, `mask` the bits written. -/
def writeFields (fs : List Fld) (old : Word) (x mask : Nat) (locked : Bool) : Word :=
  let merged := BitVec.ofNat 64 ((old.toNat &&& (mask ^^^ (2 ^ 64 - 1))) ||| (x &&& mask))
  fs.foldl (fun (v : Word) f =>
    let put (y : Nat) : Word := fput v f.lo f.width y
    match f.acc with
    | .rw => put (fget merged f.lo f.width)
    | .lk => if locked then v else put (fget merged f.lo f.width)
    | .w1c => put (fget old f.lo f.width &&& (fget (BitVec.ofNat 64 x) f.lo f.width ^^^ (2 ^ f.width - 1)))
    | .w1s => put (fget old f.lo f.width ||| fget (BitVec.ofNat 64 x) f.lo f.width)
    | .ro | .wo | .rc => v) old

/-- The lock is set, once no compute die that the table makes hold a partition is parked (14 R408, 16 R468). -/
def Device.lockSettle (v : Device) : Device :=
  if v.dock.lockWaits && v.pwr.hs.isNone && v.pwr.trans.isNone && v.pwr.bring.isNone then
    let back := v.pwr.parked.filter v.base.holdsTable
    if back.isEmpty then
      let v := { v with dock := { v.dock with lockWaits := false } }
      (v.onBase fun b => if b.lockFaults.isEmpty then b.lockSet else b.lockRefuse b.lockFaults).showStates
    else
      let v := v.onBase fun b => back.foldl (fun (b : Base) n => if b.wantDie n = 2 then b.catSet (0x6000 + 16 * n) 1 1 0 else b) b
      (v.leavePark back).showStates
  else v

/-- PT_LOCK_REQUEST: 1 written to DOCK_PT_LOCK.REQ (14 R408, 16 R468). -/
def Device.lockRequest (v : Device) : Device :=
  if v.base.locked then v
  else if v.base.lockFaults.isEmpty then { v with dock := { v.dock with lockWaits := true } }.lockSettle
  else v.onBase fun b => b.lockRefuse b.lockFaults

/-- The reset that a value of PWR_RST_CMD asks for (16 R483, R489). -/
def resetOf (x : Nat) : Option ResetKind :=
  match nget x 0 3 with
  | 1 => some (.warm 4)
  | 2 => some (.part (nget x 3 3))
  | 3 => some (.die (nget x 6 6))
  | 4 => some (.tile (nget x 6 6) (nget x 12 7))
  | 5 => some (.cold 2)
  | _ => none

/-- PWR_RST_CMD written (16 R483, R489). -/
def Device.resetCommand (v : Device) (x : Nat) : Device :=
  if x.testBit 19 then
    match resetOf x with
    | some k => v.resetAsk k
    | none => v
  else v

/-- A write to a held field of an enabled queue (04 R101). -/
def Work.heldWrite (w : Work) (q : Nat) (r : RegAt) (new : Word) : Work :=
  let b := w.base
  if b.qEnabled q then
    if new = b.rd r.reg r.die r.unit then w else { w with base := b.raise 0x030C (queueSrc q) (b.partOfQueue q) }
  else { w with base := b.wr new r.reg r.die r.unit }

/-- A write to a register by a master that reaches it. -/
def Device.regApply (v : Device) (master : Nat) (r : RegAt) (x mask : Nat) : Device :=
  let w := v.work
  let b := w.base
  let old := b.rd r.reg r.die r.unit r.i r.j
  let new := writeFields r.reg.spec.fields old x mask b.locked
  let plain := v.setBase (b.wr new r.reg r.die r.unit r.i r.j)
  let work (w : Work) : Device := { v with work := w }
  let q := 2048 * r.die + r.unit
  match r.reg with
  | .DOCK_QCFG => work (w.qcfgWrite q new)
  | .DOCK_QTAIL => work (w.doorbell q new)
  | .DOCK_QBASE | .DOCK_QCOMP | .DOCK_QDESC | .DOCK_QDCNT => work (w.heldWrite q r new)
  | .DOCK_QABORT => work (if x.testBit 0 then w.abortAll q (nget x 16 32) else w.abortOne q (nget x 16 32))
  | .TILE_LEND | .TILE_PF_CTL => work (w.idleWrite r.reg r.die r.unit new)
  | .DOCK_MS_CETHRESH => v.setBase (b.wr (if fget new 0 8 = 0 then fput new 0 8 1 else new) .DOCK_MS_CETHRESH r.die)
  | .DOCK_SCL_HSTEP => if mask.testBit 0 then work (w.hstepWrite r.i (fget new 0 32)) else v
  | .DOCK_DB_STEP => work (w.dbStepWrite r.i new)
  | .DOCK_DB_CTL => if mask.testBit 0 then work (w.dbCtlWrite r.i new) else plain
  | .CRV_TTCTL => if x.testBit 0 then work (w.timetableInstall (4 * r.die + r.unit)) else v
  | .DOCK_WT_FENCE => if x.testBit 7 then work (w.tileFence r.die (nget x 0 7)) else v
  | .DOCK_ST_CMD => if x.testBit 13 then { plain with work := plain.work.selfTestStart r.die } else plain
  | .CHK_FU_CFG | .CHK_FU_POLY | .CHK_FU_INIT | .CHK_FU_ADDR | .CHK_FU_LEN | .CHK_FU_EXPECT =>
    if b.fuBusy r.die r.i then v.setBase (b.fuEvent r.die 1 0x0B06) else plain
  | .CHK_FU_CTL =>
    let b := if x.testBit 0 then b.fuStart r.die r.i master else b
    v.setBase (if x.testBit 1 then b.fuStop r.die r.i else b)
  | .RING_BYPASS => if mask.testBit 0 then work (w.joinWrite (x.testBit 0) v.pwr.vauxLow) else v
  | .DOCK_PT_LOCK => if x.testBit 0 then v.lockRequest else v
  | .DOCK_BAYCMD => v.bayCommand r.i x
  | .PWR_RST_CMD => v.resetCommand x
  | .TILE_PMC_CTL => v.setBase (b.tileCtl r.die r.unit r.i new)
  | .DOCK_PMC_CTL => v.setBase (b.dieCtl r.die r.i new)
  | _ => plain

/-- A write to a mailbox register (14 R408, R411, R419 to R423): the management controller and the test access port write MBX_BIND and MBX_CFG of any
channel; every other write needs a channel in use and one of its two masters. -/
def Device.mbxApply (v : Device) (master : Nat) (r : RegAt) (x mask : Nat) : Device :=
  let b := v.base
  let own := b.mbxA r.i == master || b.mbxB r.i == master
  let cfg := r.reg == .MBX_BIND || r.reg == .MBX_CFG
  if cfg && (master == 0 || master == 0xF0) then (v.regApply master r x mask).answer .ok
  else if !(b.mbxInUse r.i && own) then
    v.onBase fun b => (if b.reaches master r true && (b.locked || !hasLk r.reg) then b else b.regDeny master r.die).mbxRefuse r.i master 4 0x0D06
  else
    match r.reg with
    | .MBX_DATA =>
      let old := b.rd .MBX_DATA r.die 0 r.i r.j
      v.mbxDataWrite master r.i (r.j / 16) (r.j % 16) (writeFields r.reg.spec.fields old x mask b.locked)
    | .MBX_SEND => v.mbxSend master r.i r.j x
    | .MBX_ACK => v.mbxAck master r.i r.j x
    | _ => (v.regApply master r x mask).answer .ok

/-- A write by a master to a register (00 R9, 04 R102, 14 R408, R411). -/
def Device.regStore (v : Device) (master : Nat) (r : RegAt) (x mask : Nat) : Device :=
  let b := v.base
  if r.reg.spec.block = .mbx then v.mbxApply master r x mask
  else if !b.reaches master r true then
    v.onBase fun b =>
      let b := if r.reg = .DOCK_QTAIL then b.raise 0x030D (queueSrc (2048 * r.die + r.unit)) (b.partOfQueue (2048 * r.die + r.unit)) else b
      b.regDeny master r.die
  else if hasLk r.reg && !b.locked && b.whoIs master != .management then v.onBase fun b => b.regDeny master r.die
  else (v.regApply master r x mask).answer .ok

/-- The flits that the die's links retried since CHK_D2D_RETRY was last read are counted (12 R349): no row of the table retries one, so their number
is a free value (log entry 162). -/
def Base.flitsRetried (b : Base) (d : Nat) : Base :=
  let (k, b) := b.fresh
  b.countSat (Config.retriedFlits k) 0 48 .CHK_D2D_RETRY d

/-- A read by a master of a register (00 R9, R10): RC fields clear; a read of DOCK_BAYRES may be held (14 R417), and a counter may latch (17 R498). -/
def Device.regLoad (v : Device) (master : Nat) (r : RegAt) (addr size : Nat) : Device :=
  let b := v.base
  let part := regPart (accessPart addr size)
  let own := b.mbxA r.i == master || b.mbxB r.i == master
  let managed := b.whoIs master == .management
  if r.reg.spec.block = .mbx ∧ !managed ∧ !(b.mbxInUse r.i && own) then
    v.onBase fun b => (if own then b else b.regDeny master r.die).mbxRefuse r.i master 4 0x0D06
  else if !b.reaches master r false then v.onBase fun b => b.regDeny master r.die
  else
    match r.reg with
    | .DOCK_BAYRES => v.bayRead r.i (accessPart addr size)
    | .DOCK_PMC_VAL =>
      let (x, v) := v.counterRead r.die r.i
      v.answer (.value (part x))
    | .CHK_D2D_RETRY =>
      let v := v.onBase fun b => b.flitsRetried r.die
      v.answer (.value (part (v.base.rd .CHK_D2D_RETRY r.die)))
    | _ =>
      let x := v.view r
      let old := b.rd r.reg r.die r.unit r.i r.j
      let shown := r.reg.spec.fields.foldl (fun (y : Word) f => if f.acc == .wo then fput y f.lo f.width 0 else y) x
      let mask := accessMask addr size
      let new := r.reg.spec.fields.foldl (fun (y : Word) f => if f.acc == .rc && mask.testBit f.lo then fput y f.lo f.width 0 else y) old
      let b := if r.reg = .PWR_TEMP && mask.testBit 16 then { b with peaks := NSet.remove r.die b.peaks } else b
      (v.setBase (if new = old then b else b.wr new r.reg r.die r.unit r.i r.j)).answer (.value (part shown))

/-- The master and control-space address of an access (14 R403, R405). None: the link does not serve it. -/
def Device.routed (v : Device) (rt : Route) (off : Nat) : Option (Nat × Nat) :=
  match rt with
  | .master m => some (m, off)
  | .bar0 L => match v.base.linkServes L with
    | some p => some (hostMaster p, controlBase + off)
    | none => none
  | .bar4 _ => none

/-- An access of an allowed size and alignment (00 R6). -/
def sizeOk (addr size : Nat) : Bool := (size == 8 && addr % 8 == 0) || (size == 4 && addr % 4 == 0)

/-- The MSI-X table entry and byte that BAR4 offset `off` names, and the pending bits from offset 0x8000 (14 R403, R413). -/
def Vec.entry (e : Vec) : Nat := e.addr % 2 ^ 64 + e.data % 2 ^ 32 * 2 ^ 64 + b2n e.masked * 2 ^ 96

/-- A read through BAR4 (14 R403). -/
def Device.bar4Read (v : Device) (L off size : Nat) : Device :=
  let vec (k : Nat) : Vec := (Map.find (L * 2048 + k) v.base.vectors).getD {}
  if (v.base.linkServes L).isNone then v
  else if !sizeOk off size ∨ 65536 ≤ off then v.answer .error
  else if off < 0x8000 then v.answer (.value (BitVec.ofNat 64 (nget (vec (off / 16)).entry (8 * (off % 16)) (8 * size))))
  else if off < 0x8100 then
    v.answer (.value (BitVec.ofNat 64 ((List.range (8 * size)).foldl (fun (m : Nat) i => m + b2n (vec (8 * (off - 0x8000) + i)).pending * 2 ^ i) 0)))
  else v.answer (.value 0)

/-- A write through BAR4 (14 R403, R413): a vector that is unmasked with its pending bit set sends its message. -/
def Device.bar4Write (v : Device) (L off size data : Nat) : Device :=
  if (v.base.linkServes L).isNone ∨ !sizeOk off size ∨ 0x8000 ≤ off then v
  else
    let k := L * 2048 + off / 16
    let e := (Map.find k v.base.vectors).getD {}
    let lo := 8 * (off % 16)
    let old := e.entry
    let new := old / 2 ^ (lo + 8 * size) * 2 ^ (lo + 8 * size) + data % 2 ^ (8 * size) * 2 ^ lo + old % 2 ^ lo
    let e := { e with addr := nget new 0 64 / 4 * 4, data := nget new 64 32, masked := new.testBit 96 }
    v.onBase fun b => ({ b with vectors := if e = {} then Map.del k b.vectors else Map.put k e b.vectors, resp := .ok } : Base).msixFlush L

/-- A register write by a master (00 R6, R8). -/
def Device.masterWrite (v : Device) (master addr size data : Nat) : Device :=
  if sizeOk addr size then
    match placeOf addr with
    | .outside => v.answer .error
    | .hole => v.answer .ok
    | .reg r => v.regStore master r (accessData addr size data) (accessMask addr size)
  else v.answer .error

/-- A register write as it arrives (00 R6, R8, 14 R403 to R405). A write through BAR0 that meets an error response is
signalled as an Unsupported Request. -/
def Device.regWrite (v : Device) (rt : Route) (off size data : Nat) : Device :=
  match rt, v.routed rt off with
  | .bar4 L, _ => v.bar4Write L off size data
  | .bar0 L, some (master, addr) =>
    let v := v.onBase fun b => b.notePort L 0x70 size addr
    (v.masterWrite master addr size data).signalled L
  | .master _, some (master, addr) => v.masterWrite master addr size data
  | _, none => v

/-- A read through BAR0 that met an error response is reported on its link (14 R405). -/
def Device.readFailed (v : Device) (rt : Route) : Device :=
  match rt with
  | .bar0 L => v.advised L
  | _ => v

/-- A register read as it arrives (00 R6, R8, 14 R403 to R405). -/
def Device.regRead (v : Device) (rt : Route) (off size : Nat) : Device :=
  match rt with
  | .bar4 L => v.bar4Read L off size
  | _ =>
    match v.routed rt off with
    | none => v
    | some (master, addr) =>
      let v := match rt with | .bar0 L => v.onBase fun b => b.notePort L 0x71 size addr | _ => v
      if sizeOk addr size then
        match placeOf addr with
        | .outside => (v.answer .error).readFailed rt
        | .hole => v.answer (.value 0)
        | .reg r => (v.regLoad master r addr size).readFailed rt
      else (v.answer .error).readFailed rt

end Sys2Proof.Machine
end

