-- ==== Sys2Proof/Machine/Power.lean ====
section
/-! DEFINITION. The power controller as its events arrive: AVSBus frames and bring-up (16 R476 to R478), the partition plan (14 R429), wake and exit
(R479, R480), temperature (R482), resets by pin and link events (14 R406, 16 R483), and the supplies (19 R523, R526). -/

namespace Sys2Proof.Machine

/-- The power controller goes on after a change: a transition may end, and what waited for its end is taken up. -/
def Device.powerStep (v : Device) : Device := ((v.transStep).settlePower).lockSettle

/-- A rail request fails for good (16 R471, R476, R478). -/
def Device.railFails (v : Device) (k : Nat) : Device :=
  match v.pwr.bus k with
  | [] => v
  | q :: _ =>
    let v := v.onBase fun b => b.pwrEvent 2 0x0F03
    if v.pwr.bring.isSome then (v.bringStop 0 (railDie q.rail) q.rail).showStates
    else
      let v := { v with pwr := v.pwr.nextRequest v.base.time k }
      let v := match v.pwr.hs with
        | some h => v.abandon h.target io0.code 12 true
        | none => v
      v.powerStep

/-- A Voltage write was not acknowledged, or not answered in time: it is sent again later, or has failed for the third time (16 R476). -/
def Device.railAgain (v : Device) (k : Nat) (q : RailReq) : Device :=
  if 2 ≤ q.fails then v.railFails k
  else { v with pwr := v.pwr.setBus k ({ q with fails := q.fails + 1, phase := 1, time := v.base.time } :: (v.pwr.bus k).drop 1) }

/-- AVS_RESPONSE (16 R476). -/
def Device.avsResponse (v : Device) (k : Nat) (r : AvsReply) : Device :=
  if v.heeds then
    match v.pwr.bus k with
    | [] => v
    | q :: l =>
      match r, q.phase with
      | .ack, 0 => { v with pwr := v.pwr.setBus k ({ q with phase := 2, time := v.base.time } :: l) }
      | .nack, 0 => v.railAgain k q
      | .done, 2 => (v.railDone k).powerStep
      | _, _ => v
  else v

/-- AVS_RESEND_EXPIRY (16 R476): 10 µs without a response, or 100 µs after a failure. -/
def Device.avsResend (v : Device) (k : Nat) : Device :=
  match v.pwr.bus k with
  | [] => v
  | q :: l =>
    if q.phase = 0 ∧ q.time + usTicks 10 ≤ v.base.time then v.railAgain k q
    else if q.phase = 1 ∧ q.time + usTicks 100 ≤ v.base.time then
      { v.onBase fun b => b.countSat 1 0 48 .PWR_AVS_ERR 40 with pwr := v.pwr.setBus k ({ q with phase := 0, time := v.base.time } :: l) }
    else v

/-- RAIL_DONE_EXPIRY (16 R476): the rail has not reported its transition done within 10 ms. -/
def Device.railDoneExpiry (v : Device) (k : Nat) : Device :=
  match v.pwr.bus k with
  | [] => v
  | q :: _ => if q.phase = 2 ∧ q.time + msTicks 10 ≤ v.base.time then v.railFails k else v

/-- RAIL_TELEMETRY (16 R476): the voltage in mV and the current in A of a rail that is on, in entry 0x2011. -/
def Device.railTelemetry (v : Device) (r mv amps : Nat) : Device :=
  if v.heeds && v.pwr.rails.contains r then v.onBase fun b => b.catSet 0x2011 (r + 1) 4 (mv % 65536 + amps % 65536 * 65536) else v

/-- A port takes the deassertion of its PERST_N into effect: the strap is sampled, and its links train (14 R402, 19 R522). -/
def Device.portUp (v : Device) (n : Nat) : Device :=
  if (v.port n).perstHigh then (v.onBase fun b => b.wf 0 1 (b2n ((v.port n).strap n)) .DOCK_PCIE_CFG (io n)).portTrain n else v

/-- The retention copy goes back into the LK registers (16 R471, R480). -/
def Device.restoreCopy (v : Device) : Device :=
  match v.pwr.retention with
  | some (l, a) =>
    let v := v.onBase fun b => { b with regs := l.foldl (fun m e => Map.put e.1 e.2 m) b.regs, i3cAddr := a }
    { v with pwr := { v.pwr with retention := none } }
  | none => v

/-- Every I/O die has ended its logic stage (16 R477, R480, 15 R434, R450, 19 R522). -/
def Device.ioUp (v : Device) : Device :=
  let v := if v.pwr.bring = some 1 then ((v.restoreCopy).warmCore v.pwr.exitBit).onBase fun b => b.wf 5 1 1 .PWR_RST_FLAGS 40
    else
      let v := v.loadStore
      v.onBase fun b => b.wf 0 6 (b.catNum 0x2004 1) .PWR_WAKE 40
  let v := { v with pwr := { v.pwr with iordy := true } }
  let v := (List.range 4).foldl (fun (v : Device) n => v.portUp n) v
  let v := v.mgtBoot
  let v := if v.pwr.unreported then { v.onBase fun b => b.pwrEvent 3 0x0F04 with pwr := { v.pwr with unreported := false } } else v
  { v with pwr := v.pwr.askAll v.base (upto 8 24 ++ upto 8 16 ++ upto 8 8 ++ List.range 8) true }

/-- Units that the persistent entries name are out of service from cold reset (13 R368, R369, R376, 05 R154). -/
def Device.coldUnits (v : Device) : Device :=
  let w := (List.range 8).foldl (fun (w : Work) n =>
    let l := ofLe (w.base.cat 0x4030 (n + 1))
    let named := (List.range 68).filter fun m => l.testBit m
    let w := named.foldl (fun (w : Work) m => (w.tileFence n m).positionMove n m) w
    named.foldl (fun (w : Work) m => { w with base := w.base.retire n m }) w) v.work
  let lost := w.base.catNum 0x4031 1
  let w := { w with base := ((List.range 32).filter fun n => lost.testBit n).foldl (fun (b : Base) n => b.stackLost n) w.base }
  let cores := ofLe (w.base.cat 0x4032 1)
  { v with work := ((List.range 72).filter fun k => cores.testBit k).foldl (fun (w : Work) k => w.coreFail (k / 9) (k % 9)) w }

/-- The records of the partition plan, up to the one that ends it (14 R429). -/
def planRecords (l : List Byte) : List (Nat × Nat) :=
  ((List.range 256).map fun k => (fieldAt l (16 * k) 8, fieldAt l (16 * k + 8) 8)).takeWhile fun r => r.1 != 0

/-- The plan's records are written in order as master 0x00; one that receives an error response ends the plan (14 R429). -/
def Device.planRun (v : Device) : List (Nat × Nat) → Device × Bool
  | [] => (v, true)
  | r :: l =>
    let v := v.regWrite (.master 0) r.1 8 r.2
    if v.base.resp = .error then (v.onBase fun b => b.raise 0x0D0D io0, false) else v.planRun l

/-- Cold bring-up has ended: the firmware retires and fences what it must, writes the plan and requests the lock (14 R429, 15 R450, 16 R477). -/
def Device.coldEnd (v : Device) : Device :=
  let v := v.coldUnits
  let v := if v.mgt.recovery then v
    else
      let (v, ok) := v.planRun (planRecords (v.base.cat 0x3001 1))
      if ok ∧ v.base.catNum 0x3002 1 = 1 then v.lockRequest else v
  (v.advanceCounter).answer .none

/-- The device has left HOLD (16 R480, R482). -/
def Device.holdEnd (v : Device) : Device :=
  let v := { v with work := (List.range 8).foldl (fun (w : Work) n => w.tapResume n) v.work }
  let trip := v.pwr.tripped
  let v := { v with pwr := { v.pwr with effective := 0, tripped := false } }
  v.onBase fun b =>
    let b := b.pwrEvent 4 0x0F05
    if trip then (b.wf 6 1 1 .PWR_RST_FLAGS 40).pwrEvent 8 0x0F09 else b

/-- Every die that bring-up covers is in service (16 R477, R480). -/
def Device.bringEnd (v : Device) : Device :=
  match v.pwr.bring with
  | some 2 =>
    let dies := v.pwr.leaving
    let v := dies.foldl (fun (v : Device) n => { v.groupReset n true with work := (v.groupReset n true).work.tapResume n }) v
    let v := { v with pwr := { v.pwr with bring := none, leaving := [], parked := v.pwr.parked.filter fun n => !dies.contains n } }.reach
    dies.foldl (fun (v : Device) n => v.settleDie v.pwr.effective n) v
  | some k =>
    let v := { v with pwr := { v.pwr with bring := none, ready := true } }
    if k = 1 then v.holdEnd else v.coldEnd
  | none => v

/-- A die completes its stage; with the last of the I/O dies IORDY rises (16 R477). -/
def Device.stageDone (v : Device) (d : Nat) : Device :=
  let w := v.stageTo d (v.pwr.stageOf d + 1)
  if w.pwr.ioDies && !v.pwr.ioDies then w.ioUp else w

/-- Every die that bring-up covers is in service. -/
def Device.allUp (v : Device) : Bool := v.pwr.bringing.all v.pwr.inService && v.pwr.ioDies

/-- BRINGUP_STAGE_READY (16 R477): the PLL, memory or logic stage of a die; its rail stage ends with its rails. A memory stage that runs again after
a die's reset ends (R485). -/
def Device.stageReady (v : Device) (d : Nat) : Device :=
  if v.alive && (Map.find d v.pwr.retrain).isSome then { v with pwr := { v.pwr with retrain := Map.del d v.pwr.retrain } }
  else if v.alive && v.pwr.bringing.contains d && decide (1 ≤ v.pwr.stageOf d ∧ v.pwr.stageOf d ≤ 3) then
    let v := v.stageDone d
    if v.allUp then (v.bringEnd).powerStep else v.showStates
  else v

/-- Ticks that a stage of a die may take (16 R477): 100 µs for each PLL; 200 ms for a stack and 1 ms for another die; 5 ms. -/
def stageLimit (d s : Nat) : Nat :=
  if s = 1 then usTicks (100 * dieDomains d)
  else if s = 2 then (if 8 ≤ d ∧ d < 40 then msTicks 200 else msTicks 1)
  else msTicks 5

/-- BRINGUP_STAGE_TIMEOUT (16 R477, R478). A stack that misses its memory stage is fenced, and bring-up goes on. -/
def Device.stageTimeout (v : Device) (d : Nat) : Device :=
  let s := v.pwr.stageOf d
  let now := v.base.time
  if v.alive && (Map.find d v.pwr.retrain).any fun t => decide (t + stageLimit d 2 ≤ now) then
    (v.onBase fun b => b.stackLost (d - 8)).stageReady d
  else if v.alive && v.pwr.bringing.contains d then
    if s = 0 then
      match (dieRails d).find? fun r => match v.pwr.bus (r / 10) with
          | q :: _ => q.rail == r && decide (q.began + msTicks 10 ≤ now)
          | [] => false with
      | some r => (v.bringStop 0 d r).showStates
      | none => v
    else if s ≤ 3 ∧ (Map.find d v.pwr.since).getD 0 + stageLimit d s ≤ now then
      if s = 2 ∧ 8 ≤ d ∧ d < 40 then (v.onBase fun b => b.stackLost (d - 8)).stageReady d
      else (v.bringStop s d 0).showStates
    else v
  else v

/-- A 10BASE-T1S wake frame (16 R479): the destination address, the source address, the EtherType and the payload in the order sent, and the FCS, which
is the check of 12 R343's frames, in four bytes (log entry 152). The identifier stands in the payload most significant byte first, as an IPv6
address carries it. -/
def wakeFrame (ident : Nat) (l : List Byte) : Bool :=
  let n := l.length - 4
  decide (30 ≤ l.length) && (l.take 6).all (· == 0xFF) && slice l 12 2 == [0x88, 0xB5] && slice l 14 4 == [0x46, 0x4E, 0x57, 0x4B]
    && slice l 18 8 == (leBytes 8 ident).reverse && fieldAt l n 4 == frameCfg.check (l.take n)

/-- The wake source of an event that the detectors accept (16 R479). -/
def Device.wakeSource (v : Device) (e : WakeEvent) : Option Nat :=
  match e with
  | .i3c a =>
    let held := match v.pwr.retention with
      | some (_, x) => x
      | none => v.base.i3cAddr
    if v.heeds && (a == v.base.catNum 0x1011 2 || some a == held) && a != 0x7E then some 0 else none
  | .t1s frame => if wakeFrame (v.base.catNum 0x1010 4) frame then some 1 else none
  | .perst n _ _ => if v.heeds && decide (n < 4) && !(v.port n).perstHigh then some (2 + n) else none

/-- A rising edge of PERST_N during HOLD, OFF or their entry is kept at the pin, and the port takes it when IORDY rises (19 R522). -/
def Device.wakePins (v : Device) (e : WakeEvent) : Device :=
  match e with
  | .perst n bifur train =>
    if v.heeds ∧ n < 4 ∧ (3 ≤ v.pwr.effective ∨ v.pwr.trans.isSome) then v.setPort n { perstHigh := true, bifur := some bifur, train := train } else v
  | _ => v

/-- An enabled wake source is seen (16 R471, R479): latched past the point of no return, an entry abandoned before it, and HOLD left. -/
def Device.woken (v : Device) (source : Nat) : Device :=
  match v.pwr.trans, v.pwr.hs with
  | some 3, _ => if v.pwr.wake.isSome then v else { v with pwr := { v.pwr with wake := some source } }
  | some _, _ => v
  | none, some h => if h.target = 3 then { v with pwr := { v.pwr with hs := none, aim := none } }.powerStep else v
  | none, none => if v.pwr.effective = 3 ∧ v.pwr.bring.isNone then (v.holdExit 5 (some source)).showStates else v

/-- HOLD_WAKE (16 R471, R479, R480). -/
def Device.holdWake (v : Device) (e : WakeEvent) : Device :=
  match v.wakeSource e with
  | none => v.wakePins e
  | some k => if v.alive && bget (v.base.rd .PWR_WAKE 40) k then (v.wakePins e).woken k else v.wakePins e

/-- Handshakes go on by themselves: HANDSHAKE_REASK asks the block that answered DELAY again after 10 µs (16 R469). -/
def Device.hsReask (v : Device) (cores : List Nat) : Device :=
  match v.pwr.hs with
  | some h => if h.askedAt + usTicks 10 ≤ v.base.time then (v.askBlocks { h with cores := cores }).powerStep else v
  | none => v

/-- HANDSHAKE_TIMEOUT (16 R470). -/
def Device.hsTimeout (v : Device) : Device :=
  match v.pwr.hs with
  | some h =>
    if h.start + v.base.rf 0 32 .PWR_HS_TIMEOUT 40 ≤ v.base.time then
      match (blocksOf h.target h.dies).drop h.granted with
      | k :: _ =>
        match v.answerOf h.cores k with
        | .delay r => (v.abandon h.target k.source r false).powerStep
        | _ => v
      | [] => v
    else v
  | none => v

/-- The hottest sensor of a die reads t, in 0.1 °C (16 R487, R488): NOW, and PEAK where it is higher or where nothing has been read since it was
cleared (00 R10). -/
def Base.sensed (b : Base) (d : Nat) (t : Int) : Base :=
  let b := b.wf 0 16 (tc 16 t) .PWR_TEMP d
  if !b.peaks.contains d || decide (sext 16 (b.rf 16 16 .PWR_TEMP d) < t) then
    { b.wf 16 16 (tc 16 t) .PWR_TEMP d with peaks := NSet.add d b.peaks }
  else b

/-- The warning of a die, once for its episode, and the end of the episode (16 R482). -/
def Device.warned (v : Device) (d : Nat) (t : Int) : Device :=
  if t ≤ v.base.catNum 0x2012 1 then { v with pwr := { v.pwr with hot := v.pwr.hot.filter (· ≠ d) } }
  else if v.pwr.hot.contains d then v
  else { v.onBase fun b => b.pwrEvent 7 0x0F08 with pwr := { v.pwr with hot := NSet.add d v.pwr.hot } }

/-- A die above 115.0 °C trips a device that is not in HOLD or OFF, nor past the point of no return towards them (16 R482). -/
def Device.trips (v : Device) (t : Int) : Bool := !(decide (t ≤ 1150) || decide (3 ≤ v.pwr.effective) || v.pwr.trans.any (3 ≤ ·))

/-- The device enters HOLD at once, without the handshake (16 R482). -/
def Device.trip (v : Device) : Device := ({ v.transition 3 [] with pwr := { (v.transition 3 []).pwr with tripped := true } }).powerStep

/-- The sensors of a die read t (16 R482): the warning, its end, and the trip. -/
def Device.temperature (v : Device) (d : Nat) (t : Int) : Device :=
  if v.alive && decide (d < 44) then
    let v := (v.onBase fun b => b.sensed d t).warned d t
    if v.trips t then v.trip else v
  else v

/-- SYS_RST_N (16 R481, R483). -/
def Device.sysReset (v : Device) : Device := if v.heeds then v.coldReset 1 else v

/-- WARM_RST_N (16 R483). -/
def Device.warmPin (v : Device) : Device := if v.heeds then v.resetAsk (.warm 3) else v

/-- VAUX_LOW (19 R526): the voltage of VAUX, in mV. -/
def Device.vaux (v : Device) (mv : Nat) : Device :=
  if mv < 3135 then { v with work := v.work.joinWrite false true, pwr := { v.pwr with vauxLow := true } }
  else { v with pwr := { v.pwr with vauxLow := false } }

/-- VDDIO_MGT_LOW and its return (19 R526). -/
def Device.ioDrop (v : Device) : Device := if v.alive then { v with pwr := { v.pwr with ioLow := true } } else v
def Device.ioReturn (v : Device) : Device :=
  if v.alive && v.pwr.ioLow then { v with pwr := { v.pwr with ioLow := false } }.coldReset 1 else v

/-- VDD_AON_LOSS (19 R523): everything stops, and the board turns every requested rail off. -/
def Device.aonLoss (v : Device) : Device :=
  let v := v.closeSessions fun _ => true
  { v with
    mgt := { v.mgt with up := false }
    pwr := { slotPwr with dead := true } }
where
  /-- The power controller without its supply. -/
  slotPwr : Pwr := {}

/-- PERST_ASSERT (14 R406, 19 R522). -/
def Device.perstAssert (v : Device) (n : Nat) : Device :=
  if v.heeds ∧ n < 4 then
    let was := (v.port n).perstHigh
    let v := v.setPort n { v.port n with perstHigh := false }
    if was ∧ v.pwr.iordy then v.portEvent n else v
  else v

/-- PERST_DEASSERT (14 R402, 19 R522): with IORDY low it takes effect when IORDY rises. A rising edge is a wake source where it is enabled
(16 R471, R479). -/
def Device.perstDeassert (v : Device) (n : Nat) (bifur : Bool) (train : List (Option (Nat × Nat × Bool))) : Device :=
  if v.heeds ∧ n < 4 then
    let rises := !(v.port n).perstHigh
    let v := v.setPort n { perstHigh := true, bifur := some bifur, train := train }
    let v := if v.pwr.iordy then v.portUp n else v
    if rises && bget (v.base.rd .PWR_WAKE 40) (2 + n) then v.woken (2 + n) else v
  else v

/-- The data link of a link is up. -/
def Device.linkActive (v : Device) (L : Nat) : Bool :=
  v.pwr.iordy && decide (L < 8) && v.base.rf 0 3 .DOCK_PCIE_LNK (io (L / 2)) 0 (L % 2) != 0 && !(v.base.link L).disabled

/-- LINK_HOT_RESET (14 R406): hot reset, link disable, or DL_Active left. The link retrains to what `train` says, or stays down. -/
def Device.linkHotReset (v : Device) (L : Nat) (train : Option (Nat × Nat × Bool)) : Device :=
  if v.pwr.iordy ∧ L < 8 ∧ (v.port (L / 2)).perstHigh then
    let v := if v.linkActive L then (v.onBase fun b => b.linkDrop L).linkEvent L else v
    v.onBase fun b => b.linkState' L train
  else v

/-- A function as its reset leaves it: configuration and vectors at their defaults. -/
def Base.functionReset (b : Base) (L : Nat) : Base :=
  let b := b.wf 9 1 0 .DOCK_PCIE_LNK (io (L / 2)) 0 (L % 2)
  let b := { b with vectors := Map.delRange (L * 2048) ((L + 1) * 2048) b.vectors }
  b.setLink L { (b.link L).reset with l2 := (b.link L).l2 }

/-- Size of a base address register's window and its type bits (14 R403). -/
def barShape (i : Nat) : Option (Nat × Nat) :=
  if i = 0 then some (2 ^ 34, 12) else if i = 2 then some (2 ^ 36, 12) else if i = 4 then some (2 ^ 16, 0) else none

/-- CONFIG_REQUEST (14 R401, R403, R410). With its turn-off the link enters L2 and leaves DL_Active (R406; log entry 93). -/
def Device.config (v : Device) (L : Nat) (r : CfgReq) : Device :=
  let b := v.base
  let l := b.link L
  if b.rf 0 3 .DOCK_PCIE_LNK (io (L / 2)) 0 (L % 2) = 0 ∨ l.disabled = true ∨ l.l2 = true ∨ 8 ≤ L then v
  else if !b.locked then v.answer .retry
  else
    match b.partOfLink L with
    | none => v
    | some _ =>
      match r with
      | .readIdentity =>
        v.answer (.value (BitVec.ofNat 64 (Config.vendorId.toNat + 0x9632 * 2 ^ 16 + stepping * 2 ^ 32 + 0x120000 * 2 ^ 40)))
      | .readBar i =>
        (match barShape i with
          | some (size, ty) => v.answer (.value (BitVec.ofNat 64 ((Map.find i l.bars).getD 0 / size * size + ty)))
          | none => v.answer (.value 0))
      | .writeBar i x =>
        (match barShape i with
          | some (size, _) =>
            let x := x % 2 ^ (if i = 4 then 32 else 64) / size * size
            (v.onBase fun b => b.setLink L { l with bars := if x = 0 then Map.del i l.bars else Map.put i x l.bars }).answer .ok
          | none => v.answer .ok)
      | .readCommand => v.answer (.value (BitVec.ofNat 64 l.command))
      | .writeCommand x => (v.onBase fun b => b.setLink L { l with command := x % 65536 }).answer .ok
      | .readMsix => v.answer (.value (BitVec.ofNat 64 (2047 + b2n l.msixMask * 2 ^ 14 + b2n l.msixOn * 2 ^ 15)))
      | .writeMsix e m => (v.onBase fun b => (b.setLink L { l with msixOn := e, msixMask := m }).msixFlush L).answer .ok
      | .toD3hot => (v.onBase fun b => b.wf 9 1 1 .DOCK_PCIE_LNK (io (L / 2)) 0 (L % 2)).answer .ok
      | .readUncorrectable => v.answer (.value (BitVec.ofNat 64 l.aerUncor))
      | .clearUncorrectable x => (v.onBase fun b => b.setLink L { l with aerUncor := l.aerUncor &&& (x % 2 ^ 32 ^^^ (2 ^ 32 - 1)) }).answer .ok
      | .readCorrectable => v.answer (.value (BitVec.ofNat 64 l.aerCor))
      | .clearCorrectable x => (v.onBase fun b => b.setLink L { l with aerCor := l.aerCor &&& (x % 2 ^ 32 ^^^ (2 ^ 32 - 1)) }).answer .ok
      | .readCorrectableMask => v.answer (.value (BitVec.ofNat 64 l.aerMask))
      | .writeCorrectableMask x => (v.onBase fun b => b.setLink L { l with aerMask := x % 2 ^ 16 }).answer .ok
      | .turnOff =>
        if bget (b.rd .DOCK_PCIE_LNK (io (L / 2)) 0 (L % 2)) 9 then
          (v.onBase fun b => let b := b.linkDrop L; b.setLink L { b.link L with l2 := true }).linkEvent L
        else v

/-- FUNCTION_LEVEL_RESET (14 R406). -/
def Device.flr (v : Device) (L : Nat) : Device :=
  if v.linkActive L ∧ v.base.locked ∧ !(v.base.link L).l2 then (v.onBase fun b => b.functionReset L).linkEvent L else v

/-- D3HOT_TO_D0 (14 R401, R406): No_Soft_Reset is 0, so the function comes back reset. -/
def Device.d3ToD0 (v : Device) (L : Nat) : Device :=
  if v.linkActive L ∧ !(v.base.link L).l2 ∧ bget (v.base.rd .DOCK_PCIE_LNK (io (L / 2)) 0 (L % 2)) 9 then
    (v.onBase fun b => b.functionReset L).linkEvent L
  else v

/-- DOZE_DWELL_EXPIRY (16 R473): a tile domain of a die in DOZE has been gated for PWR_DOZE_DWELL. -/
def Device.dozeExpiry (v : Device) (n k : Nat) : Device :=
  if n < 8 ∧ k < 8 ∧ v.dieState n = 1 ∧ !v.pwr.doze.contains (8 * n + k) ∧ !v.work.domainBusy n k then
    match Map.find (8 * n + k) v.pwr.gated with
    | some t =>
      if t + v.base.rf 0 32 .PWR_DOZE_DWELL n ≤ v.base.time then { v with pwr := { v.pwr with doze := NSet.add (8 * n + k) v.pwr.doze } } else v
    | none => v
  else v

/-- A tile domain with its PLL off starts when one of its tiles has a startable waybill, or its die leaves DOZE (16 R473, R488). -/
def Device.dozeWake (v : Device) : Device :=
  v.pwr.doze.foldl (fun (v : Device) x =>
    if v.work.domainBusy (x / 8) (x % 8) || v.dieState (x / 8) != 1 then
      { v.onBase fun b => b.countSat 1 0 48 .PWR_DOM_STARTS (x / 8) with pwr := { v.pwr with doze := NSet.remove x v.pwr.doze } }
    else v) v

/-- Since when the tile domains of the dies in DOZE have been gated (16 R473). -/
def Device.gatedTick (v : Device) : Device :=
  let dozing := (List.range 8).filter fun n => v.pwr.ready && v.dieState n == 1
  let idle := (dozing.flatMap fun n => (List.range 8).map fun k => (n, k)).filter fun x => !v.work.domainBusy x.1 x.2
  { v with pwr := { v.pwr with gated := idle.map fun x =>
      (8 * x.1 + x.2, (Map.find (8 * x.1 + x.2) v.pwr.gated).getD v.base.time) } }

/-- What a tick counts: waits of folds (09 R270) and of slices (08 R239), hot ticks and reads outstanding (17 R493). -/
def Device.tickCounts (v : Device) : Device :=
  ({ v with work := v.work.foldWaitTick.farStallTick }).onBase v.mem.tickNotes

/-- One tick of 40 ns: the timebase, and what counts ticks (16 R474, 09 R270). -/
def Device.tick (v : Device) : Device :=
  if v.pwr.dead then v
  else
    let v := v.onBase fun b => { b with time := (b.time + 1) % 2 ^ 64 }
    (v.tickCounts.gatedTick).freeTick fun d => v.pwr.ready && v.dieState d != 2

end Sys2Proof.Machine
end

