-- ==== Sys2Proof/Machine/Units.lean ====
section
/-! DEFINITION. Requested and effective unit states (15 R456 to R460), and what the device does by itself between commands. -/

namespace Sys2Proof.Machine

/-- Codes of unit states (15 R457). -/
def uSERVICE : Nat := 0
def uFENCED : Nat := 1
def uFAILED : Nat := 2
def uRETIRED : Nat := 3
def uTEST : Nat := 4
def uSPARE : Nat := 5
def uLOST : Nat := 6

/-- The key of the requested sub-index of unit u of the entry of die d and kind k (15 R456). -/
def unitKey (d k u : Nat) : Nat := catKey (0x6000 + 16 * d + k) (2 * u + 1)

/-- Die, kind and unit of a requested sub-index. -/
def keyUnit (key : Nat) : Nat × Nat × Nat := ((key / 256 - 0x6000) / 16, (key / 256 - 0x6000) % 16, (key % 256 - 1) / 2)

/-- The identifier of an engine that a unit-state entry names: curvature engines, update units, checkpoint engines and ring engines. -/
def engineOf (d k u : Nat) : Option Nat :=
  if d < 8 then (if k = 2 then some (crvUnit (4 * d + u)) else none)
  else if d < 40 then (if k = 2 then some (updUnit (d - 8)) else if k = 3 then some (ckptUnit (d - 8)) else none)
  else if k = 1 then some (ringUnit (4 * (d - 40) + u))
  else none

/-- The effective state of a unit (15 R456, R457). -/
def Work.unitState (w : Work) (d k u : Nat) : Nat :=
  let b := w.base
  if d < 8 then
    if k = 1 then
      (match b.tileState d u with
        | 0 => uSERVICE
        | 1 => uSPARE
        | 2 => uTEST
        | 3 => uFENCED
        | _ => uRETIRED)
    else if k = 2 then (if b.unitFenced (crvUnit (4 * d + u)) then uFENCED else uSERVICE)
    else
      let v := b.rd .DOCK_WT_CORE (cd d)
      if bget v (9 + u) then uLOST else if u = 8 ∧ !bget v 8 then uSPARE else uSERVICE
  else if d < 40 then
    if k = 1 then (if b.stackFenced (d - 8) then uLOST else uSERVICE)
    else (match engineOf d k u with
      | some id => if b.unitFenced id then uFENCED else uSERVICE
      | none => uSERVICE)
  else
    let e := 4 * (d - 40) + u
    if w.ring.outs.contains e then uFENCED else if b.linkState e = 6 then uLOST else uSERVICE

/-- A unit that no longer serves: FENCED, RETIRED or LOST (15 R457, R458). -/
def outOfService (s : Nat) : Bool := s == uFENCED || s == uRETIRED || s == uLOST

/-- The requested state of a unit: FENCED once the data path has taken a unit out of service whose request was SERVICE (15 R458). -/
def Work.unitWanted (w : Work) (d k u : Nat) : Nat :=
  let r := w.base.catNum (0x6000 + 16 * d + k) (2 * u + 1)
  if r = uSERVICE ∧ outOfService (w.unitState d k u) then uFENCED else r

/-- The two sub-indexes of a unit agree (15 R457). -/
def Work.unitAgrees (w : Work) (d k u : Nat) : Bool :=
  let r := w.unitWanted d k u
  let s := w.unitState d k u
  if r = uSERVICE then s == uSERVICE || s == uTEST || s == uSPARE else outOfService s

/-- A pair of a requested and an effective sub-index agrees, the power states' among them (15 R460, 16 R466). -/
def Device.pairAgrees (v : Device) (key : Nat) : Bool :=
  if key = catKey 0x2001 1 then v.pwr.effective == v.base.wantDevice
  else
    let (d, k, u) := keyUnit key
    if k = 0 then v.dieState d == v.dieTarget d else v.work.unitAgrees d k u

/-- A write of a requested unit state is refused (15 R458). -/
def Work.unitRefuses (w : Work) (d k u x : Nat) : Bool :=
  let s := w.unitState d k u
  decide (2 < x) || (x == uSERVICE && outOfService s) || (decide (x < 2) && w.unitWanted d k u == uFAILED && !outOfService s)

/-- A ring engine is taken out of service: its frames move to the other engines of its direction (15 R459, 11 R314). -/
def Work.ringOut (w : Work) (e : Nat) : Work :=
  Work.framesMove { w with
    base := w.base.engSet e 0 3 6 .RING_LINKST
    ring := { w.ring with outs := NSet.add e w.ring.outs } } e

/-- The last member of a job has its whole chain before it: no CONTINUE is to come (03 R79). -/
def Work.jobWhole (w : Work) (id : Nat) (j : Job) : Bool :=
  match j.members.getLast? with
  | some m => match w.wb? id m.1 m.2 with
    | some x => x.phase == .running && !x.keep
    | none => false
  | none => false

/-- A chain that has not its last member yet is orphaned as its tile FAILS: its replay delivers it to the output of its last KEEP member, as its drain
would (03 R82, 15 R459). DESIGN CHOICE (log entry 156): R459 does not say where such a chain delivers. -/
def Work.orphaned (w : Work) (id : Nat) (x : Wb) : Work :=
  match w.base.tileOf id with
  | some (n, m) =>
    let w := { w with base := w.base.accEvent n m 4 0x0205 (some x.part) x.number }
    w.setWb id { x with event := if x.event = 0 then 0x0205 else x.event, aux := [5] }
  | none => w

/-- A product that runs or is held on a FAILED tile stops at its output-tile boundary and waits to be replayed whole (15 R459). -/
def Work.moveJob (w : Work) (id : Nat) (j : Job) : Work :=
  match j.members.getLast? with
  | none => w
  | some m =>
    match w.wb? id m.1 m.2 with
    | none => w
    | some x =>
      let w := if w.jobWhole id j || j.chain.isNone then w else w.orphaned id x
      let mine (d : Nat × Nat × Nat × Nat) : Bool := j.members.contains (d.2.2.1, d.2.2.2)
      let sets := ((w.drains id).filter mine).flatMap (fun d => j.spread d.1) ++ j.sets
      let b := if x.filler then w.base else w.base.setsTo id sFREE sets
      let w := { w with base := b }.setDrains id ((w.drains id).filter fun d => !mine d)
      w.parkJob id { j with chain := if x.keep then none else j.chain, failed := true, moved := true, accs := [], heldSince := none }

/-- A FAILED request for a tile (15 R459): what runs or is held on it is replayed whole, and its position then moves. The waybills of the common
opcodes do no work on the tile, and end where they are. -/
def Work.failTile (w : Work) (n m : Nat) : Work :=
  match w.base.posOfTile n m with
  | none => w.tileFence n m
  | some p =>
    let id := tileUnit n p
    let w := (w.jobs id).foldl (fun (w : Work) j => if j.failed then w else w.moveJob id j) w
    let again := (w.unit id).window.filter fun x => x.phase == .running && decide (x.opcode < 0xF0) && (w.jobWith id x.queue x.seq).isNone
    let w := again.foldl (fun (w : Work) x => w.setWb id { x with handed := true }) w
    let w := if again.any fun x => x.opcode == 8 then w.setConsists id [] else w
    w.tileFence n m

/-- A FENCED or FAILED request of an engine or a stack takes effect once nothing runs on it (15 R459). -/
def Device.unitDue (v : Device) (d k u : Nat) : Device :=
  let w := v.work
  if 8 ≤ d ∧ d < 40 ∧ k = 1 then
    if (v.mem.die (d - 8)).held.isEmpty then v.onBase fun b => b.stackFence (d - 8) else v
  else
    match engineOf d k u with
    | none => v
    | some id =>
      if (w.unit id).window.any fun x => x.phase == .running then v
      else if 40 ≤ d then { v with work := w.ringOut (4 * (d - 40) + u) }
      else { v with work := w.fenceUnit id }

/-- A FAILED request takes effect (15 R459): engines stop at their abort boundary, and cores and ring engines at once. -/
def Device.unitFails (v : Device) (d k u : Nat) : Device :=
  let w := v.work
  if d < 8 ∧ k = 1 then { v with work := w.failTile d u }
  else if d < 8 ∧ k = 3 then { v with work := w.coreFail d u }
  else if 8 ≤ d ∧ d < 40 ∧ k = 1 then v.unitDue d k u
  else
    match engineOf d k u with
    | none => v
    | some id => if 40 ≤ d then { v with work := w.ringOut (4 * (d - 40) + u) } else { v with work := w.fenceUnit id }

/-- A requested state as it is stored; FAILED raises MGT.FAILREQ (15 R459). -/
def Device.unitStored (v : Device) (d k u x : Nat) : Device :=
  let v := v.onBase fun b => b.catSet (0x6000 + 16 * d + k) (2 * u + 1) 1 x
  if x = uFAILED then v.onBase fun b => b.mgtEvent 7 0x0E08 else v

/-- A request that has not taken effect is withdrawn (15 R457). -/
def Device.unitWithdrawn (v : Device) (d k u : Nat) : Device :=
  if v.mgt.requests.contains (unitKey d k u) then
    let spare := v.work.spare
    let spare := if d < 8 ∧ k = 1 then { spare with fencing := NSet.remove (tileCode d u) spare.fencing } else spare
    { v with work := { v.work with spare := spare }, mgt := { v.mgt with requests := NSet.remove (unitKey d k u) v.mgt.requests } }
  else v

/-- A request waits for its unit. -/
def Device.unitAsked (v : Device) (d k u : Nat) : Device := { v with mgt := { v.mgt with requests := NSet.add (unitKey d k u) v.mgt.requests } }

/-- A unit's requested state is written (15 R457 to R459). -/
def Device.unitWrite (v : Device) (d k u x : Nat) : Device :=
  let v := v.unitStored d k u x
  if x = uSERVICE then v.unitWithdrawn d k u
  else if outOfService (v.work.unitState d k u) then v
  else if x = uFAILED then (v.unitAsked d k u).unitFails d k u
  else if d < 8 ∧ k = 1 then (v.unitAsked d k u).onWork fun w => w.tileFence d u
  else v.unitAsked d k u

/-- An engine has a request that keeps it from accepting and starting waybills (15 R459). -/
def Device.unitHeld (v : Device) (id : Nat) : Bool :=
  v.mgt.requests.any fun key => let (d, k, u) := keyUnit key; engineOf d k u == some id

/-- Requests whose units have come to rest take effect, and those in effect are done (15 R459). -/
def Device.unitsSettle (v : Device) : Device :=
  v.mgt.requests.foldl (fun (v : Device) key =>
    let (d, k, u) := keyUnit key
    let v := if outOfService (v.work.unitState d k u) then v else v.unitDue d k u
    if outOfService (v.work.unitState d k u) then { v with mgt := { v.mgt with requests := NSet.remove key v.mgt.requests } } else v) v

/-- The pairs that may disagree (15 R460). -/
def Device.pairs (v : Device) : List Nat :=
  let power := v.pwr.effective != 0 || !v.pwr.parked.isEmpty || v.base.catVals.any fun e =>
    e.1 == catKey 0x2001 1 || (decide (catKey 0x6000 0 ≤ e.1 ∧ e.1 < catKey 0x62C0 0) && e.1 / 256 % 16 == 0)
  v.mgt.requests ++ (if power then catKey 0x2001 1 :: (List.range 44).map fun d => catKey (0x6000 + 16 * d) 1 else [])
    ++ v.mgt.diverge.map (·.1)

/-- Since when each pair has disagreed without a break (15 R460). -/
def Device.watchPairs (v : Device) : Device :=
  if v.mgt.up then
    { v with mgt := { v.mgt with diverge := v.pairs.foldl (fun (m : List (Nat × Nat × Bool)) key =>
        if v.pairAgrees key then Map.del key m
        else if (Map.find key m).isSome then m
        else Map.put key (v.base.time, false) m) v.mgt.diverge } }
  else v

/-- DIVERGENCE_EXPIRY (15 R460): a pair has disagreed for 100 ms. -/
def Device.divergence (v : Device) (index sub : Nat) : Device :=
  let key := catKey index sub
  match Map.find key v.mgt.diverge with
  | some (t, false) =>
    if v.mgt.up ∧ t + msTicks 100 ≤ v.base.time ∧ !v.pairAgrees key then
      let v := { v with mgt := { v.mgt with diverge := Map.put key (t, true) v.mgt.diverge } }
      v.onBase fun b =>
        let b := (b.wf 0 16 index .PWR_MGT_DIVERGE 40).wf 16 8 sub .PWR_MGT_DIVERGE 40
        (b.countSat 1 32 32 .PWR_MGT_DIVERGE 40).mgtEvent 0 0x0E01
    else v
  | _ => v

/-- The occurrences that a command noted are counted, oldest first (17 R493). -/
def Device.countNoted (v : Device) : Device :=
  let l := v.base.occurs.reverse
  if l.isEmpty then v else l.foldl Device.occur (v.onBase fun b => { b with occurs := [] })

end Sys2Proof.Machine
end

