-- ==== Sys2Proof/Machine/Manage.lean ====
section
/-! DEFINITION. The Catalogue protocol (15 R431 to R446): transports, sessions, reads and writes of entries, and firmware updates (R451). -/

namespace Sys2Proof.Machine

/-- An operation of the protocol with its request body (15 R445). -/
inductive ReqOp where
  | hello
  | auth (role : Nat) (cnonce proof : List Byte)
  | close
  | read (index sub offset maxlen : Nat)
  | write (index sub : Nat) (type : CatType) (value : List Byte)
  | describe (index sub : Nat)
  | list (index sub : Nat)
  | fwBegin (length : Nat)
  | fwData (offset : Nat) (data : List Byte)
  | fwEnd
  deriving DecidableEq, Repr

/-- Operation codes (15 R445). -/
def ReqOp.code : ReqOp → Nat
  | .hello => 0x01
  | .auth .. => 0x02
  | .close => 0x03
  | .read .. => 0x04
  | .write .. => 0x05
  | .describe .. => 0x06
  | .list .. => 0x07
  | .fwBegin _ => 0x10
  | .fwData .. => 0x11
  | .fwEnd => 0x12

/-- STATUS values (15 R446). -/
def stOK : Nat := 0x00
def stMALFORMED : Nat := 0x01
def stNOSESSION : Nat := 0x02
def stAUTHFAIL : Nat := 0x03
def stLOCKOUT : Nat := 0x04
def stDENIED : Nat := 0x05
def stNOENTRY : Nat := 0x06
def stTYPE : Nat := 0x07
def stRANGE : Nat := 0x08
def stREADONLY : Nat := 0x09
def stWRITEONLY : Nat := 0x0A
def stBUSY : Nat := 0x0B
def stREPLAY : Nat := 0x0C
def stTAG : Nat := 0x0D
def stFLASH : Nat := 0x0E
def stVERIFY : Nat := 0x0F

/-- The place of a type in the table of 00 R12. -/
def typePlace : CatType → Nat
  | .u8 => 0
  | .u16 => 1
  | .u32 => 2
  | .u64 => 3
  | .i32 => 4
  | .f32 => 5
  | .bool => 6
  | .str => 7
  | .blob => 8
  | .i16 => 9

/-- The TYPE byte. -/
def typeByte (t : CatType) : Byte := Config.typeCode (typePlace t)

/-- The body of a request (15 R445). -/
def ReqOp.body : ReqOp → List Byte
  | .hello => []
  | .auth role c p => leBytes 1 role ++ leBytes 3 0 ++ c ++ p
  | .close => []
  | .read i s o m => leBytes 2 i ++ leBytes 1 s ++ leBytes 1 0 ++ leBytes 4 o ++ leBytes 4 m
  | .write i s t x => leBytes 2 i ++ leBytes 1 s ++ [typeByte t] ++ leBytes 4 x.length ++ x
  | .describe i s => leBytes 2 i ++ leBytes 1 s ++ leBytes 1 0
  | .list i s => leBytes 2 i ++ leBytes 1 s ++ leBytes 1 0
  | .fwBegin n => leBytes 4 n
  | .fwData o x => leBytes 4 o ++ x
  | .fwEnd => []

/-- A body that fits 15 R445. -/
def ReqOp.fits : ReqOp → Bool
  | .auth _ c p => c.length == 32 && p.length == 32
  | _ => true

/-- The header that a TAG covers: that of fragment 0, with FLAGS, FRAG and LEN zero (15 R441, R442). -/
def tagHeader (op txid session status : Nat) : List Byte :=
  leBytes 1 1 ++ leBytes 1 op ++ leBytes 2 txid ++ leBytes 2 session ++ leBytes 1 status ++ leBytes 5 0

/-- TAG under the session key (15 R442); mailbox messages carry none. -/
def Session.tag (s : Session) (op txid status : Nat) (body : List Byte) : List Byte :=
  if s.transport = 3 then [] else (hmac s.key (tagHeader op txid s.id status ++ body)).take 16

/-- The longest message of a transport (15 R438 to R440). -/
def Mgt.limit (m : Mgt) (transport : Nat) : Nat := if transport = 1 then 1232 else if transport = 2 then m.i3cMwl else 56

/-- The header and the fragments fit (15 R441). -/
def Mgt.fits (m : Mgt) (h : ReqHead) (op : ReqOp) : Bool :=
  h.ver == 1 && h.zeros && op.fits && h.frags.all (fun f => decide (f.2.1 + 12 ≤ m.limit h.transport))
    && (h.frags.map (·.2.1)).sum == op.body.length + h.tag.length && decide (op.body.length + h.tag.length ≤ 8192)

/-- Every fragment of the request has arrived: FRAG counts from 0, and MORE is set on all but the last (15 R441). -/
def fragsWhole (h : ReqHead) : Bool :=
  !h.frags.isEmpty && (List.range h.frags.length).all fun i => h.frags.any fun f => f.1 == i && f.2.2 == decide (i + 1 < h.frags.length)

/-- The link-local prefix (15 R438). -/
def linkLocal (a : List Byte) : Bool := a.length == 16 && a.take 8 == [0xFE, 0x80, 0, 0, 0, 0, 0, 0]

/-- The channel of a mailbox SOURCE (15 R444). -/
def sourceChannel (source : List Byte) : Nat := ofLe (source.take 2)

/-- The link-local address of the 10BASE-T1S port, and the address of all nodes (15 R438, R461). -/
def Base.t1sAddress (b : Base) : List Byte := [0xFE, 0x80, 0, 0, 0, 0, 0, 0] ++ (leBytes 8 (b.catNum 0x1010 4)).reverse
def allNodes : List Byte := [0xFF, 0x02] ++ List.replicate 13 0 ++ [0x01]

/-- The 10BASE-T1S port takes a packet of a source, without an extension header (15 R438). -/
def Device.t1sHears (v : Device) (source : List Byte) (extension : Bool) : Bool :=
  v.mgt.up && v.base.catNum 0x1010 1 == 1 && linkLocal source && !extension

/-- A message of the protocol; none where its header is malformed (15 R440, R441). -/
def ProtoMsg.parse (l : List Byte) : Option ProtoMsg :=
  if 12 ≤ l.length ∧ fieldAt l 0 1 = 1 ∧ fieldAt l 1 1 < 128 ∧ fieldAt l 6 1 = 0 ∧ fieldAt l 7 1 < 2 ∧ fieldAt l 10 2 = l.length - 12 then
    some { op := fieldAt l 1 1, txid := fieldAt l 2 2, session := fieldAt l 4 2, more := fieldAt l 7 1 == 1, frag := fieldAt l 8 2, body := l.drop 12 }
  else none

/-- The message that a client has pending for the management controller on channel c: the direction, and its bytes (15 R440). -/
def Device.mailPending (v : Device) (c : Nat) : Option (Nat × List Byte) :=
  match v.base.mgtSends c with
  | some d =>
    if v.mgt.up && v.base.mbxPending c (1 - d) then some (1 - d, v.base.mbxBytes c (1 - d) (v.base.rf 0 6 .MBX_RXHDR 40 0 c (1 - d))) else none
  | none => none

/-- A fragment put behind those of its request taken before it; none where it is out of order (15 R440, R441). -/
def Device.mailJoin (v : Device) (c : Nat) (m : ProtoMsg) : Option ProtoMsg :=
  match Map.find c v.mgt.inbox with
  | some i =>
    if m.frag = 0 ∧ m.txid ≠ i.txid then some m
    else if m.txid = i.txid ∧ m.op = i.op ∧ m.session = i.session ∧ m.frag = i.frag + 1 then some { m with body := i.body ++ m.body } else none
  | none => if m.frag = 0 then some m else none

/-- The request whose last message is pending on channel c. -/
def Device.mailed (v : Device) (c : Nat) : Option ProtoMsg :=
  (((v.mailPending c).bind fun x => ProtoMsg.parse x.2).filter fun m => !m.more).bind (v.mailJoin c)

/-- The port that carries the request hears it (15 R438 to R440). What comes through a mailbox is what its messages say. -/
def Device.hears (v : Device) (h : ReqHead) (op : ReqOp) : Bool :=
  v.mgt.up &&
    (match h.transport with
      | 1 => v.t1sHears h.source h.extension && h.port == v.base.catNum 0x1010 5
          && (h.dest == v.base.t1sAddress || (h.dest == allNodes && op.code == 0x01))
      | 2 => v.base.catNum 0x1011 1 == 1 && v.heeds && v.base.i3cAddr.isSome
      | 3 => v.mgt.fits h op && (match v.mailed (sourceChannel h.source) with
        | some m => m.op == op.code && m.txid == h.txid && m.session == h.session && m.body == op.body
        | none => false)
      | _ => false)

/-- A list cut into runs of n. -/
def fragments (n : Nat) : Nat → List Byte → List (List Byte)
  | 0, _ => []
  | k + 1, l => l.take n :: (if l.length ≤ n then [] else fragments n k (l.drop n))

/-- The longest response message of a transport (15 R438 to R440). -/
def Mgt.answerLimit (m : Mgt) (transport : Nat) : Nat := if transport = 1 then 1232 else if transport = 2 then m.i3cMrl else 56

/-- The messages of a response whose body with its TAG is given: fragments within the transport's limit, each behind its header (15 R440, R441). -/
def messages (limit op txid session status : Nat) (body : List Byte) : List (List Byte) :=
  let n := max 1 (limit - 12)
  let parts := fragments n (body.length / n + 1) body
  parts.zipIdx.map fun p =>
    leBytes 1 1 ++ leBytes 1 op ++ leBytes 2 txid ++ leBytes 2 session ++ leBytes 1 status ++ leBytes 1 (b2n (p.2 + 1 < parts.length))
      ++ leBytes 2 p.2 ++ leBytes 2 p.1.length ++ p.1

/-- The messages of a response set out on mailbox channel c (15 R440). -/
def Device.mailOut (v : Device) (c : Nat) (l : List (List Byte)) : Device :=
  ({ v with mgt := { v.mgt with outbox := Map.put c l v.mgt.outbox } } : Device).outboxSend c

/-- A response leaves by the transport of its request (15 R438 to R442). On I3C private reads fetch its messages one by one (log entry 159). -/
def Device.reply (v : Device) (h : ReqHead) (op status session : Nat) (body tag : List Byte) : Device :=
  let l := messages (v.mgt.answerLimit h.transport) (op + 0x80) h.txid session status (body ++ tag)
  (if h.transport = 3 then v.mailOut (sourceChannel h.source) l else v).answer (.reply status session body tag l)

/-- The management controller takes the last message of a request from its channel (15 R440). -/
def Device.mbxTake (v : Device) (h : ReqHead) : Device :=
  let c := sourceChannel h.source
  match if h.transport = 3 then v.base.mgtSends c else none with
  | some d => ({ v with mgt := { v.mgt with inbox := Map.del c v.mgt.inbox } } : Device).mbxAck 0 c (1 - d) 0
  | none => v

/-- A request body has the length and the zeros of its operation (15 R445); the TYPE byte apart. -/
def bodyFits (op : Nat) (l : List Byte) : Bool :=
  match op with
  | 0x01 | 0x03 | 0x12 => l.isEmpty
  | 0x02 => l.length == 68 && fieldAt l 1 3 == 0
  | 0x04 => l.length == 12 && fieldAt l 3 1 == 0
  | 0x05 => decide (8 ≤ l.length) && fieldAt l 4 4 == l.length - 8
  | 0x06 | 0x07 => l.length == 4 && fieldAt l 3 1 == 0
  | 0x10 => l.length == 4
  | 0x11 => decide (4 ≤ l.length)
  | _ => false

/-- What the management controller does with a client's message that does not end a request it serves (15 R440, R441): it acknowledges it with a return
code, keeps the fragment, and answers a malformed request. The last message of a well-formed request stays until the request is served. -/
def Device.mailTake (v : Device) (c d : Nat) (l : List Byte) : Device :=
  let drop (v : Device) : Device := { v with mgt := { v.mgt with inbox := Map.del c v.mgt.inbox } }
  let bad (v : Device) : Device :=
    v.mailOut c (messages 56 (fieldAt l 1 1 % 128 + 0x80) (fieldAt l 2 2) (fieldAt l 4 2) stMALFORMED [])
  if v.base.mbxPending c (1 - d) || (Map.find c v.mgt.outbox).isSome then v.mbxAck 0 c d 3
  else
    match ProtoMsg.parse l with
    | none => bad (v.mbxAck 0 c d 1)
    | some m =>
      match v.mailJoin c m with
      | none => (drop v).mbxAck 0 c d 2
      | some r =>
        if 8192 < r.body.length ∨ (!m.more ∧ !bodyFits r.op r.body) then bad ((drop v).mbxAck 0 c d 0)
        else if m.more then ({ v with mgt := { v.mgt with inbox := Map.put c r v.mgt.inbox } } : Device).mbxAck 0 c d 0
        else v

/-- The client's message of a direction, where one waits for the management controller, is taken; the command that brought it keeps its answer. -/
def Device.mailIn (v : Device) (k : Nat) : Device :=
  match v.mailPending (k / 2) with
  | some (d, l) => if d = k % 2 then (v.mailTake (k / 2) d l).answer v.base.resp else v
  | none => v

/-- Every message that waits for the management controller is taken (15 R440). -/
def Device.mails (v : Device) : Device := v.mbxPendings.foldl Device.mailIn v

/-- HELLO (15 R444, R445): a nonce for this source, kept for 10 s. -/
def Device.hello (v : Device) (h : ReqHead) : Device :=
  let (k, b) := v.base.fresh
  let nonce := (List.range 32).map (Config.nonceByte k)
  let l := v.mgt.nonces.filter fun n => !(n.transport == h.transport && n.source == h.source)
  let v := { v.setBase b with mgt := { v.mgt with nonces := ⟨h.transport, h.source, nonce, b.time⟩ :: l } }
  v.reply h 0x01 stOK 0 (nonce ++ leBytes 1 0x10 ++ leBytes 3 0 ++ slice Config.serialNumber 0 16) []

/-- A role's key: none where it has never been written (15 R435). -/
def Base.roleKey (b : Base) (role : Nat) : Option (List Byte) :=
  if role = 3 then some (List.ofFn Config.factoryKey)
  else if role = 1 ∨ role = 2 then (let k := b.cat 0x1030 role; if k.isEmpty then none else some k)
  else none

/-- AUTH is locked out (15 R444). -/
def Device.lockedOut (v : Device) : Bool :=
  match v.mgt.lockout with
  | some t => decide (v.base.time < t + sTicks 60)
  | none => false

/-- An AUTH that fails: counted, reported, and after eight failures within 60 s a lockout (15 R444). -/
def Device.authFailed (v : Device) : Device :=
  let now := v.base.time
  let v := v.onBase fun b => (b.catSet 0x1021 1 4 (satAdd 32 (b.catNum 0x1021 1) 1)).mgtEvent 1 0x0E02
  let l := now :: v.mgt.failures.filter fun t => decide (now < t + sTicks 60)
  if l.length < 8 then { v with mgt := { v.mgt with failures := l } }
  else
    let v := { v with mgt := { v.mgt with failures := [], lockout := some now } }
    v.onBase fun b => b.mgtEvent 2 0x0E03

/-- A session number at or after x, in a circle from 1 to 65,535, that no open session has. -/
def Mgt.freeNumber (m : Mgt) : Nat → Nat → Nat
  | 0, x => x
  | k + 1, x => if m.sessions.any (fun s => s.id == x) then m.freeNumber k (x % 65535 + 1) else x

/-- The session limits are reached (15 R443). -/
def Mgt.full (m : Mgt) (h : ReqHead) : Bool :=
  if h.transport = 3 then m.sessions.any fun s => s.transport == 3 && s.source == h.source
  else decide (8 ≤ m.sessions.countP fun s => s.transport != 3)

/-- The nonce given to a request's source, while it is kept (15 R444). -/
def Nonce.isFor (n : Nonce) (h : ReqHead) : Bool := n.transport == h.transport && n.source == h.source
def Device.nonceOf (v : Device) (h : ReqHead) : Option Nonce := v.mgt.nonces.find? fun n => n.isFor h && decide (v.base.time < n.time + sTicks 10)

/-- A nonce is used once (15 R444). -/
def Device.nonceUsed (v : Device) (h : ReqHead) : Device :=
  { v with mgt := { v.mgt with nonces := v.mgt.nonces.filter fun n => !n.isFor h } }

/-- The proof that a client gives, and the one that the device answers (15 R444). -/
def authProof (key nonce cnonce : List Byte) (role : Nat) (h : ReqHead) : List Byte :=
  hmac key (nonce ++ cnonce ++ leBytes 1 role ++ leBytes 1 h.transport ++ h.source)
def deviceProof (key nonce cnonce : List Byte) (role : Nat) : List Byte := hmac key (cnonce ++ nonce ++ leBytes 1 role)

/-- A session opens (15 R444). -/
def Device.authOpens (v : Device) (h : ReqHead) (role : Nat) (key nonce cnonce : List Byte) : Device :=
  let (k, b) := v.base.fresh
  let id := v.mgt.freeNumber 300 (Config.sessionNumber k % 65535 + 1)
  let s : Session :=
    { id := id, role := role, transport := h.transport, source := h.source, key := hmac key (nonce ++ cnonce ++ [0x01]), time := b.time }
  let v := { v.setBase b with mgt := { v.mgt with sessions := s :: v.mgt.sessions } }
  let v := v.closeSessions fun _ => false
  v.reply h 0x02 stOK id (deviceProof key nonce cnonce role) []

/-- AUTH (15 R444). -/
def Device.auth (v : Device) (h : ReqHead) (role : Nat) (cnonce proof : List Byte) : Device :=
  if v.lockedOut then v.reply h 0x02 stLOCKOUT 0 [] []
  else
    match v.nonceOf h, v.base.roleKey role with
    | some n, some key =>
      if proof = authProof key n.value cnonce role h then
        if v.mgt.full h then (v.nonceUsed h).reply h 0x02 stBUSY 0 [] []
        else (v.nonceUsed h).authOpens h role key n.value cnonce
      else (v.nonceUsed h).authFailed.reply h 0x02 stAUTHFAIL 0 [] []
    | _, _ => (v.nonceUsed h).authFailed.reply h 0x02 stAUTHFAIL 0 [] []

/-- What the tables say of an existing sub-index (15 R431, R456): the row's type, access, role, persistence, length, and its partition, if it is an
entry of partitions. -/
structure CatInfo where
  name : List Byte
  type : CatType
  acc : CatAcc
  role : Nat
  persist : Bool
  len : Nat
  part : Option Nat
  default : List Byte
  deriving DecidableEq, Repr

/-- The characters of a name, which are all ASCII. -/
def nameBytes (s : String) : List Byte := s.toList.map fun c => BitVec.ofNat 8 c.toNat

/-- An existing sub-index of the Catalogue (15 R431, R456, R462). -/
def catInfo (index sub : Nat) : Option CatInfo :=
  match catRow index sub with
  | some d =>
    some { name := nameBytes d.name, type := d.type, acc := d.acc, role := d.role, persist := d.persist, len := d.len,
           part := if d.perPart then some (sub - 1) else none, default := d.defaultBytes sub }
  | none =>
    match stateEntry index with
    | some (d, k, n) =>
      if sub ≤ 2 * n then
        let spare := d < 8 ∧ ((k = 1 ∧ 64 < sub / 2) ∨ (k = 3 ∧ sub = 18)) ∧ sub % 2 = 0
        some { name := Config.entryName (catKey index sub), type := .u8, acc := if sub % 2 = 1 then .rw else .ro, role := if sub % 2 = 1 then 2 else 0,
               persist := false, len := 1, part := none,
               default := [BitVec.ofNat 8 (if sub = 0 then 2 * n else if spare then uSPARE else 0)] }
      else none
    | none => none

/-- The entries that recovery serves: identity and communication (15 R450). -/
def recoveryServes (index : Nat) : Bool := decide ((0x1000 ≤ index ∧ index ≤ 0x1006) ∨ index = 0x1010 ∨ index = 0x1011)

/-- An entry that the running firmware serves. -/
def Device.entry (v : Device) (index sub : Nat) : Option CatInfo :=
  if v.mgt.recovery && !recoveryServes index then none else catInfo index sub

/-- The partition of a mailbox session's channel (15 R437). -/
def Device.sessionPart (v : Device) (s : Session) : Nat := v.base.mbxPart s.channel

/-- A session may read an entry (15 R437, R445). -/
def Device.mayRead (v : Device) (s : Session) (e : CatInfo) : Bool :=
  s.transport != 3 || (match e.part with
    | some p => p == v.sessionPart s
    | none => true)

/-- A session may write an entry, its access apart (15 R436, R437). -/
def Device.mayWrite (v : Device) (s : Session) (e : CatInfo) : Bool :=
  decide (e.role ≤ s.role) && (s.transport != 3 || e.part == some (v.sessionPart s))

/-- VERSION of the image in a slot, 0 if it is not valid (15 R461). -/
def Base.slotVersion (b : Base) (img : List Byte) : Nat := if b.imageValid img then fieldAt img 4 4 else 0

/-- The value of an entry at this instant (15 R433, and the Meaning of each entry). -/
def Device.catValue (v : Device) (index sub : Nat) : List Byte :=
  let b := v.base
  match index with
  | 0x1004 =>
    if sub = 1 then leBytes 4 (b.rf 8 32 .PWR_MGT_FW 40)
    else if sub = 2 then leBytes 1 b.secCounter
    else (let s := b.rf 0 2 .PWR_MGT_FW 40; leBytes 1 (if s = 3 then 0xFF else s))
  | 0x1006 => leBytes 4 (b.slotVersion (if sub = 1 then v.mgt.slotA else v.mgt.slotB))
  | 0x1020 => if sub = 2 then leBytes 1 (b.rf 0 4 .PWR_MGT_SESS 40) else b.cat index sub
  | 0x1030 =>
    if sub = 3 then leBytes 1 (b2n (!(b.cat 0x1030 1).isEmpty) + 2 * b2n (!(b.cat 0x1030 2).isEmpty)) else b.cat index sub
  | 0x1050 => leBytes 8 b.logNext
  | 0x1052 =>
    (match b.log.find? fun r => r.seq == b.catNum 0x1051 1 with
      | some r => r.encode r.seq
      | none => List.replicate 32 0)
  | 0x2001 => if sub = 2 then leBytes 1 v.pwr.effective else b.cat index sub
  | 0x2003 => leBytes 8 (b.rd .PWR_HS_LAST 40).toNat
  | 0x2005 => leBytes 8 (b.rd .PWR_RST_FLAGS 40).toNat
  | 0x2013 => leBytes 2 (b.rf 0 16 .PWR_TEMP (sub - 1))
  | 0x3003 => leBytes 8 (b.rd .DOCK_PT_LOCK 40).toNat
  | _ =>
    match stateEntry index with
    | some (d, k, n) =>
      if sub = 0 then leBytes 1 (2 * n)
      else
        let u := (sub - 1) / 2
        if k = 0 then (if sub = 2 then leBytes 1 (v.dieState d) else b.cat index sub)
        else leBytes 1 (if sub % 2 = 1 then v.work.unitWanted d k u else v.work.unitState d k u)
    | none =>
      match catInfo index sub with
      | some e => (let x := b.cat index sub; if e.type = .str then x else slice x 0 e.len)
      | none => []

/-- READ (15 R436, R437, R445). -/
def Device.readEntry (v : Device) (s : Session) (index sub offset maxlen : Nat) : Nat × List Byte :=
  match v.entry index sub with
  | none => (stNOENTRY, [])
  | some e =>
    if !v.mayRead s e then (stDENIED, [])
    else if e.acc = .wo then (stWRITEONLY, [])
    else
      let x := v.catValue index sub
      (stOK, [typeByte e.type] ++ leBytes 3 0 ++ leBytes 4 x.length ++ (x.drop offset).take maxlen)

/-- DESCRIBE (15 R445). The default of the firmware's version and security counter is that of the running image and of the fuses (R461). -/
def Device.describe (v : Device) (s : Session) (index sub : Nat) : Nat × List Byte :=
  match v.entry index sub with
  | none => (stNOENTRY, [])
  | some e =>
    if !v.mayRead s e then (stDENIED, [])
    else
      let dflt := if index = 0x1004 ∧ sub ≤ 2 then v.catValue index sub else e.default
      let acc := (match e.acc with | .ro => 0 | .rw => 1 | .wo => 2) + 4 * e.role + 16 * b2n e.persist
      (stOK, [typeByte e.type] ++ leBytes 1 acc ++ leBytes 2 0 ++ leBytes 4 e.len ++ slice dflt 0 e.len ++ e.name)

/-- The keys of all existing sub-indexes from a key on, in ascending order (15 R431, R445). -/
def catKeys (first : Nat) : List Nat :=
  let rows := catDefs.flatMap fun d => (upto (d.hi + 1 - d.lo) d.lo).map fun s => catKey d.index s
  let states := (List.range 0x2C0).flatMap fun i => match stateEntry (0x6000 + i) with
    | some (_, _, n) => (List.range (2 * n + 1)).map fun s => catKey (0x6000 + i) s
    | none => []
  ((rows ++ states).filter fun k => decide (first ≤ k)).foldl (fun l k => NSet.add k l) []

/-- LIST (15 R437, R445): at most 64 pairs; the end pair follows once no entry remains. -/
def Device.listEntries (v : Device) (s : Session) (index sub : Nat) : Nat × List Byte :=
  let l := (catKeys (catKey index sub)).filter fun k => match v.entry (k / 256) (k % 256) with
    | some e => v.mayRead s e
    | none => false
  let pair (k : Nat) : List Byte := leBytes 2 (k / 256) ++ leBytes 1 (k % 256) ++ leBytes 1 0
  (stOK, (l.take 64).flatMap pair ++ (if l.length ≤ 64 then pair 0xFFFFFF else []))

/-- The length of a value fits its type (15 R445). -/
def CatInfo.lengthOk (e : CatInfo) (n : Nat) : Bool := if e.type = .str then decide (n ≤ e.len) else n == e.len

/-- A number is a power of two from 64 to 65,536 (15 R461). -/
def ringSizeOk (x : Nat) : Bool := (upto 11 6).any fun k => x == 2 ^ k

/-- An address that 15 R461 refuses as the static address of the I3C port. -/
def i3cAddrBad (x : Nat) : Bool := decide (x < 0x08 ∨ 0x78 ≤ x) || (List.range 7).any fun k => x == 0x7E ^^^ 2 ^ k

/-- The counters named by a grant that 17 R502 refuses: absent, or granted to another partition. -/
def Base.grantBad (b : Base) (p x : Nat) : Bool :=
  (List.range 44).any fun d => (List.range 64).any fun i =>
    x.testBit (64 * d + i) && (decide (dieCounters d ≤ i) || (match b.counterOwner d i with | some q => q != p | none => false))

/-- The value of an entry lies within what its Meaning allows (15 R433). -/
def Device.inRange (v : Device) (index sub : Nat) (e : CatInfo) (value : List Byte) : Bool :=
  let b := v.base
  let x := ofLe value
  let p := sub - 1
  if e.type = .bool then decide (x ≤ 1)
  else
    match index with
    | 0x1010 => if sub = 3 then decide (2 ≤ x) else if sub = 5 then decide (1 ≤ x) else true
    | 0x1011 => !i3cAddrBad x
    | 0x1020 => decide (10 ≤ x ∧ x ≤ 3600)
    | 0x1040 => x % 4096 == 0
    | 0x1041 => ringSizeOk x
    | 0x2001 => decide (x ≤ 4)
    | 0x2010 => decide ((railRange p).1 ≤ x ∧ x ≤ (railRange p).2)
    | 0x2012 => decide (600 ≤ x ∧ x ≤ 1100)
    | 0x4011 => decide (60 ≤ x ∧ x ≤ 86400)
    | 0x4012 => decide (1 ≤ x ∧ x ≤ 60000)
    | 0x5001 => !b.grantBad p x
    | 0x5002 =>
      let d := fieldAt value 0 1
      let i := fieldAt value 1 1
      fieldAt value 2 6 == 0 && decide (d < 44 ∧ i < dieCounters d) && b.counterOwner d i == some p && !(fieldAt value 8 8).testBit 24
    | 0x5003 =>
      let d := fieldAt value 0 1
      let i := fieldAt value 1 1
      decide (d < 44 ∧ i < dieCounters d) && b.counterOwner d i == some p
    | 0x7010 => x % 32 == 0
    | 0x7011 => decide (x ≤ 4096)
    | 0x7012 => x % 256 == 0
    | 0x7016 => decide (1 ≤ x ∧ x ≤ 1000)
    | 0x7020 => x % 128 == 0
    | 0x7021 => decide (x ≤ 1024)
    | 0x7030 => decide (x ≤ 2)
    | _ =>
      match stateEntry index with
      | some (d, k, _) =>
        if k ≠ 0 then !v.work.unitRefuses d k (p / 2) x
        else if d < 8 then decide (x ≤ 2) && !(x == 2 && b.holds d)
        else x == 0
      | none => true

/-- Entries whose write is a command and is not stored (16 R487, 17 R502). -/
def commandEntry (index : Nat) : Bool := index == 0x2006 || index == 0x5002 || index == 0x5003

/-- The requested power state of a die, or of the device (44), was written (16 R467). One written while another is under way waits; the state already
requested starts nothing, but for an entry that was abandoned (log entry 76). -/
def Device.powerWrite (v : Device) (subject : Nat) (cores : List Nat) (same : Bool) : Device :=
  if v.pwr.idle then (v.takeUp subject cores).powerStep
  else if same then v
  else ({ v with pwr := { v.pwr with again := (v.pwr.again.filter fun (a : Nat × List Nat) => a.1 != subject) ++ [(subject, cores)] } }).showStates

/-- COUNTER_GRANT (17 R502): counters granted or withdrawn take their reset values. -/
def Device.grantWrite (v : Device) (p old new : Nat) : Device :=
  let changed := (List.range (44 * 64)).filter fun k => old.testBit k != new.testBit k
  (changed.foldl (fun (v : Device) k => v.counterReset k) v).onBase fun b => b.catSet 0x5001 (p + 1) 352 new

/-- What a stored write does beyond being stored (15 R433, and the rule of each entry); `same` where the entry held the value already. -/
def Device.entryEffect (v : Device) (index sub : Nat) (value : List Byte) (env : WriteEnv) (same : Bool) : Device :=
  let x := ofLe value
  let p := sub - 1
  match index with
  | 0x2001 => v.powerWrite 44 env.cores same
  | 0x2004 => v.onBase fun b => b.wf 0 6 x .PWR_WAKE 40
  | 0x2006 => v.resetCommand x
  | 0x4010 => { v with work := v.work.tapEnable p (x == 1) }
  | 0x5002 =>
    let d := fieldAt value 0 1
    let i := fieldAt value 1 1
    v.onBase fun b => b.dieCtl d i (writeFields Reg.DOCK_PMC_CTL.spec.fields (b.rd .DOCK_PMC_CTL d 0 i) (fieldAt value 8 8) (2 ^ 64 - 1) true)
  | 0x5003 =>
    let d := fieldAt value 0 1
    let i := fieldAt value 1 1
    v.onBase fun b => (b.wf 0 48 0 .DOCK_PMC_VAL d 0 i).wf i 1 0 .DOCK_PMC_SAT d
  | _ =>
    match stateEntry index with
    | some (d, 0, _) => v.powerWrite d env.cores same
    | _ => v

/-- A checked write is stored and takes effect (15 R433, R434). -/
def Device.entryWrite (v : Device) (index sub : Nat) (e : CatInfo) (value : List Byte) (env : WriteEnv) : Device :=
  match stateEntry index with
  | some (d, k + 1, _) => v.unitWrite d (k + 1) ((sub - 1) / 2) (ofLe value)
  | _ =>
    if index = 0x5001 then v.grantWrite (sub - 1) (v.base.catNum 0x5001 sub) (ofLe value)
    else
      let same := decide (v.base.cat index sub = value)
      let v := if commandEntry index then v else v.onBase fun b => b.catPut index sub value
      let v := if e.persist then v.persist else v
      v.entryEffect index sub value env same

/-- WRITE (15 R433 to R437, R445). -/
def Device.writeEntry (v : Device) (s : Session) (index sub : Nat) (type : CatType) (value : List Byte) (env : WriteEnv) : Device × Nat :=
  match v.entry index sub with
  | none => (v, stNOENTRY)
  | some e =>
    if v.mgt.recovery || !v.mayWrite s e then (v, stDENIED)
    else if e.acc = .ro then (v, stREADONLY)
    else if type ≠ e.type ∨ !e.lengthOk value.length then (v, stTYPE)
    else if !v.inRange index sub e value then (v, stRANGE)
    else if e.persist && !env.flashOk then (v.onBase fun b => b.mgtEvent 5 0x0E06, stFLASH)
    else (v.entryWrite index sub e value env, stOK)

/-- A session may use the firmware operations (15 R445). -/
def Session.mayUpdate (s : Session) : Bool := s.transport != 3 && decide (2 ≤ s.role)

/-- The contents of a flash slot. -/
def Mgt.setSlot (m : Mgt) (slot : Nat) (img : List Byte) : Mgt := if slot = 0 then { m with slotA := img } else { m with slotB := img }

/-- The slot that an update writes: the one that is not running (15 R451). -/
def Device.otherSlot (v : Device) : Nat × Base :=
  let s := v.base.rf 0 2 .PWR_MGT_FW 40
  if s = 3 then (let (k, b) := v.base.fresh; (Config.updateSlot k % 2, b)) else (1 - s % 2, v.base)

/-- FW_BEGIN (15 R451). -/
def Device.fwBegin (v : Device) (s : Session) (length : Nat) : Device × Nat × List Byte :=
  if !s.mayUpdate then (v, stDENIED, [])
  else if v.mgt.update.any fun u => u.session != s.id then (v, stBUSY, [])
  else if bodyMax + 4096 < length then (v, stRANGE, [])
  else
    let (slot, b) := v.otherSlot
    let v := v.setBase b
    ({ v with mgt := { v.mgt.setSlot slot [] with update := some { session := s.id, slot := slot, length := length } } }, stOK, [])

/-- FW_DATA (15 R451): data at the next offset. -/
def Device.fwData (v : Device) (s : Session) (offset : Nat) (data : List Byte) : Device × Nat × List Byte :=
  if !s.mayUpdate then (v, stDENIED, [])
  else
    match v.mgt.update with
    | none => (v, stRANGE, [])
    | some u =>
      if u.session ≠ s.id then (v, stBUSY, [])
      else if offset ≠ u.data.length ∨ u.length < offset + data.length then (v, stRANGE, [])
      else
        let img := u.data ++ data
        ({ v with mgt := { v.mgt.setSlot u.slot img with update := some { u with data := img } } }, stOK, [])

/-- FW_END (15 R451). Entry 0x1005 is persistent: where the flash does not take its value, neither it nor the update changes (R434). -/
def Device.fwEnd (v : Device) (s : Session) (env : WriteEnv) : Device × Nat × List Byte :=
  if !s.mayUpdate then (v, stDENIED, [])
  else
    match v.mgt.update with
    | none => (v, stRANGE, [])
    | some u =>
      if u.session ≠ s.id then (v, stBUSY, [])
      else
        let ended := { v with mgt := { v.mgt with update := none } }
        if v.base.imageValid u.data then
          if !env.flashOk then (v.onBase fun b => b.mgtEvent 5 0x0E06, stFLASH, [])
          else ((ended.onBase fun b => b.catSet 0x1005 1 1 u.slot).persist, stOK, leBytes 1 u.slot)
        else (({ ended with mgt := ended.mgt.setSlot u.slot [] } : Device).onBase (fun b => b.mgtEvent 3 0x0E04), stVERIFY, [])

/-- An operation in a session: the device after it, STATUS and the response body (15 R445). -/
def Device.perform (v : Device) (s : Session) (op : ReqOp) (env : WriteEnv) : Device × Nat × List Byte :=
  match op with
  | .hello | .auth .. | .close => (v, stOK, [])
  | .read i k o m => let (st, body) := v.readEntry s i k o m; (v, st, body)
  | .write i k t x => let (v, st) := v.writeEntry s i k t x env; (v, st, [])
  | .describe i k => let (st, body) := v.describe s i k; (v, st, body)
  | .list i k => let (st, body) := v.listEntries s i k; (v, st, body)
  | .fwBegin n => v.fwBegin s n
  | .fwData o x => v.fwData s o x
  | .fwEnd => v.fwEnd s env

/-- The sessions that close once the response to an operation has been sent (15 R443, R461). -/
def closesAfter (s : Session) (h : ReqHead) (op : ReqOp) (status : Nat) (t : Session) : Bool :=
  (t.id == s.id && (op == .close || h.txid == 0xFFFF))
    || (match op with
      | .write i k _ _ =>
        status == stOK && ((i == 0x1010 && t.transport == 1) || (i == 0x1011 && t.transport == 2) || (i == 0x1030 && t.role == k))
      | _ => false)

/-- The session as it stands after answering. -/
def Mgt.setSession (m : Mgt) (s : Session) : Mgt := { m with sessions := m.sessions.map fun t => if t.id = s.id then s else t }

/-- The response to a request of a session (15 R442, R443): kept for a repeated TXID, and what closes with it closes. -/
def Device.concluded (v : Device) (h : ReqHead) (s : Session) (op : ReqOp) (status : Nat) (body : List Byte) : Device :=
  if v.mgt.up && v.mgt.sessions.any (fun t => t.id == s.id) then
    let tag := s.tag (op.code + 0x80) h.txid status body
    let v := { v with mgt := v.mgt.setSession { s with txid := some h.txid, answer := (status, body, tag) } }
    let v := v.reply h op.code status s.id body tag
    if v.mgt.sessions.any (closesAfter s h op status) then v.closeSessions (closesAfter s h op status) else v
  else v.answer .none

/-- The session is heard from now (15 R443). -/
def Device.touch (v : Device) (s : Session) : Device := { v with mgt := v.mgt.setSession { s with time := v.base.time } }

/-- A request's TAG is wrong; mailbox requests carry none (15 R442). -/
def Session.tagBad (s : Session) (h : ReqHead) (op : ReqOp) : Bool := s.transport != 3 && h.tag != s.tag op.code h.txid 0 op.body

/-- A request that is complete and whose session is open (15 R442, R443). -/
def Device.inSession (v : Device) (h : ReqHead) (s : Session) (op : ReqOp) (env : WriteEnv) : Device :=
  if s.tagBad h op then v.reply h op.code stTAG s.id [] []
  else if s.txid = some h.txid then (v.touch s).reply h op.code s.answer.1 s.id s.answer.2.1 s.answer.2.2
  else if s.txid.any (h.txid < ·) then (v.touch s).reply h op.code stREPLAY s.id [] (s.tag (op.code + 0x80) h.txid stREPLAY [])
  else
    let s' := { s with time := v.base.time }
    let (v, status, body) := (v.touch s).perform s' op env
    v.concluded h s' op status body

/-- The session that a request names, of its own transport and source (15 R444). -/
def Device.sessionOf (v : Device) (h : ReqHead) : Option Session :=
  v.mgt.sessions.find? fun s => s.id == h.session && s.transport == h.transport && s.source == h.source

/-- The answer to a request that does not fit 15 R441 or R445; within an open session it carries a TAG (R442). -/
def Device.malformed (v : Device) (h : ReqHead) (op : ReqOp) : Device :=
  v.reply h op.code stMALFORMED h.session [] (match v.sessionOf h with
    | some s => s.tag (op.code + 0x80) h.txid stMALFORMED []
    | none => [])

/-- A request of the Catalogue protocol, complete (15 R433, R440 to R445). Until its last fragment arrives nothing is answered. -/
def Device.request (v : Device) (h : ReqHead) (op : ReqOp) (env : WriteEnv) : Device :=
  if !(v.hears h op && fragsWhole h) then v
  else
    let fits := v.mgt.fits h op
    let v := v.mbxTake h
    if !fits then v.malformed h op
    else
      match op with
      | .hello => v.hello h
      | .auth role c p => v.auth h role c p
      | _ =>
        match v.sessionOf h with
        | some s => v.inSession h s op env
        | none => v.reply h op.code stNOSESSION h.session [] []

/-- SESSION_IDLE_EXPIRY (15 R443). -/
def Device.sessionIdle (v : Device) (id : Nat) : Device :=
  let limit := sTicks (v.base.catNum 0x1020 1)
  let old (s : Session) : Bool := s.id == id && decide (s.time + limit ≤ v.base.time)
  if v.mgt.sessions.any old then v.closeSessions old else v

/-- NONCE_EXPIRY (15 R444). -/
def Device.nonceExpiry (v : Device) (transport : Nat) (source : List Byte) : Device :=
  { v with mgt := { v.mgt with nonces := v.mgt.nonces.filter fun n =>
      !(n.transport == transport && n.source == source && decide (n.time + sTicks 10 ≤ v.base.time)) } }

/-- LOCKOUT_EXPIRY (15 R444). -/
def Device.lockoutExpiry (v : Device) : Device :=
  match v.mgt.lockout with
  | some t => if t + sTicks 60 ≤ v.base.time then { v with mgt := { v.mgt with lockout := none } } else v
  | none => v

/-- EVENT_NOTICE_COALESCE (15 R455): 1 µs after a signal, one more for the records that followed it. -/
def Base.coalesce (b : Base) (p : Nat) : Base :=
  let g := b.ring p
  match g.lastSignal with
  | some t =>
    if g.pending && decide (t + usTicks 1 ≤ b.time) then
      ({ b with rings := Map.put p { g with pending := false, lastSignal := some b.time } b.rings }).msixPart p 2032
    else b
  | none => b

/-- NEIGHBOR_SOLICITATION (15 R438): an advertisement, ICMPv6 type 136, of the target address. -/
def Device.solicit (v : Device) (source target : List Byte) (extension : Bool) : Device :=
  if v.t1sHears source extension && target == v.base.t1sAddress then v.answer (.message (0x88 :: target)) else v

/-- ECHO_REQUEST (15 R438): an echo reply, ICMPv6 type 129, with the identifier, sequence number and data of the request. -/
def Device.echo (v : Device) (source target data : List Byte) (extension : Bool) : Device :=
  if v.t1sHears source extension && target == v.base.t1sAddress then v.answer (.message (0x81 :: data)) else v

/-- The broadcast form, or the port's own dynamic address. -/
def Base.addressed (b : Base) (tgt : Option Nat) : Bool := tgt.isNone || (b.i3cAddr.isSome && tgt == b.i3cAddr)

/-- I3C_CCC (15 R439). -/
def Device.i3cCcc (v : Device) (c : I3cCcc) : Device :=
  let own (a : Nat) : Bool := v.base.i3cAddr == some a
  let tell (a : Nat) (x : Nat) : Device := if own a then v.answer (.value (BitVec.ofNat 64 x)) else v
  if !(v.mgt.up && v.heeds && v.base.catNum 0x1011 1 == 1) then v
  else
    match c with
    | .enec tgt ev => if v.base.addressed tgt && ev.testBit 0 then (v.onBase fun b => { b with inbandOn := true }).answer .ok else v
    | .disec tgt ev => if v.base.addressed tgt && ev.testBit 0 then (v.onBase fun b => { b with inbandOn := false }).answer .ok else v
    | .rstdaa => (v.onBase fun b => { b with i3cAddr := none }).answer .ok
    | .entdaa a =>
      if v.base.i3cAddr.isNone then
        (v.onBase fun b => { b with i3cAddr := some (a % 128) }).answer
          (.value (BitVec.ofNat 64 (Config.i3cInfo 0 % 2 ^ 48 + Config.i3cInfo 1 % 256 * 2 ^ 48 + Config.i3cInfo 2 % 256 * 2 ^ 56)))
      else v
    | .setdasa s a =>
      if v.base.i3cAddr.isNone && s == v.base.catNum 0x1011 2 then (v.onBase fun b => { b with i3cAddr := some (a % 128) }).answer .ok else v
    | .setmwl tgt n => if v.base.addressed tgt then ({ v with mgt := { v.mgt with i3cMwl := min n 256 } }).answer .ok else v
    | .setmrl tgt n => if v.base.addressed tgt then ({ v with mgt := { v.mgt with i3cMrl := min n 256 } }).answer .ok else v
    | .getmwl a => tell a v.mgt.i3cMwl
    | .getmrl a => tell a v.mgt.i3cMrl
    | .getpid a => tell a (Config.i3cInfo 0 % 2 ^ 48)
    | .getbcr a => tell a (Config.i3cInfo 1 % 256)
    | .getdcr a => tell a (Config.i3cInfo 2 % 256)
    | .getstatus a => tell a (Config.i3cInfo 3 % 65536)
    | .rstact tgt _ => if v.base.addressed tgt then v.answer .ok else v

end Sys2Proof.Machine
end

