-- ==== Sys2Proof/Machine/Replays.lean ====
section
/-! DEFINITION. The replay of a waybill on another tile: after a failed lane check (03 R93, 18 R507), and off a FAILED tile (15 R459). -/

namespace Sys2Proof.Machine

/-- A tile of a position on which the replay of waybill x may run: for an owner's an idle tile of its partition (03 R93), for a filler one that is
granted to its partition and on which it could start (03 R94, 11 R333, 18 R507). -/
def Work.replayAt (w : Work) (n k : Nat) (x : Wb) : Bool :=
  match w.base.posOfTile n k with
  | some pos =>
    let u := tileUnit n pos
    !w.tileStopped n k &&
      (if x.filler then w.base.lendGranted u x.part && w.fillerMay u
       else w.base.partOfPos n pos == some x.part && (w.unit u).window.all (fun y => y.phase != .running) && (w.jobs u).isEmpty)
  | none => false

/-- A tile that may take a replay: from the spare pool, else one of replayAt; with preload only a preload-capable tile (03 R93, 18 R507). DESIGN CHOICE
(log entry 155): of several, the lowest-numbered; R93 names none. -/
def Work.replayTileFor (w : Work) (id : Nat) (x : Wb) (pre : Bool) : Option Nat :=
  match w.base.tileOf id with
  | none => none
  | some (n, m) =>
    let fits := fun k => k != m && (!pre || preloadTile k)
    ((List.range 68).find? fun k => fits k && (w.base.posOfTile n k).isNone && w.base.tileState n k == tSPARE).orElse fun _ =>
      (List.range 68).find? fun k => fits k && w.replayAt n k x

/-- No tile is free for a replay: ACC.REPLAYWAIT, once for the waybill (03 R93). -/
def Work.replayWaits (w : Work) (id n m : Nat) (x : Wb) : Work :=
  let (b, x) := w.base.once id x 0x020D
  { w with base := b.wf 10 2 3 .ACC_ABFT_PEER (cd n) m }.setWb id x

/-- ABFT_REPLAY (03 R93): the replay of a failed waybill or chain on a free tile, which is accepted or followed by a fence and CHECK_FAILED;
while no tile is free it waits. Answers the tile to be fenced. -/
def Work.abftReplay (w : Work) (id q seq : Nat) (ups : List (Nat × Nat)) : Work × Option (Nat × Nat) :=
  match w.wb? id q seq, w.jobOf id q seq, w.base.tileOf id with
  | some x, some j, some (n, m) =>
    if j.failed && x.phase == .running && !x.aborting && (j.moved || x.done == x.geo.tiles) then
      match w.replayTileFor id x j.pre with
      | none => (w.replayWaits id n m x, none)
      | some k =>
        let (w, x, bad, trap) := Work.replayTiles id n k j ups x.geo.tiles 0 w x.replayed
        w.replayEnd id n m k j x bad trap (if x.aux = [5] then 0x05 else 0x01)
    else (w, none)
  | _, _, _ => (w, none)

/-- ABFT_REPLAY for STATFEED and PRECOND (03 R93). Answers the tile to be fenced. -/
def Work.replayStats (w : Work) (id q seq : Nat) (ups : List (Nat × Nat)) : Work × Option (Nat × Nat) :=
  match w.wb? id q seq, w.jobOf id q seq, w.base.tileOf id with
  | some x, some j, some (n, m) =>
    let units := if x.opcode = 0x0A then x.sfCount else (match x.desc 0 with | some d => 2 * preTiles d | none => 0)
    if j.failed && x.phase == .running && !x.aborting && (j.moved || x.done == units) then
      match w.replayTileFor id x false with
      | none => (w.replayWaits id n m x, none)
      | some k =>
        let (w, x, bad, trap) := Work.replayProducts id n k ups units 0 w x.replayed
        w.replayEnd id n m k j x bad trap 0x01
    else (w, none)
  | _, _, _ => (w, none)

/-- ABFT_REPLAY for a waybill without a product, handed over by a FAILED tile (15 R459): it runs again from its beginning, on the tile that it is
handed to; while none is free it waits. -/
def Work.runAgain (w : Work) (id q seq : Nat) : Work :=
  match w.wb? id q seq, w.base.tileOf id with
  | some x, some (n, m) =>
    if x.handed && x.phase == .running && !x.aborting then
      match w.replayTileFor id x false with
      | none => w.replayWaits id n m x
      | some k => w.setWb id { x.replayed with handed := false, flags := x.replayed.flags ||| 64, tile := tileCode n k, next := 0, done := 0 }
    else w
  | _, _ => w

end Sys2Proof.Machine
end

