-- ==== Sys2Proof/Machine/Service.lean ====
section
/-! DEFINITION. How a command meets the device: which parts are in service (16 R465, R471, R477), what a block that has granted an entry holds off
(16 R469), and what every meaning does around its own effect. -/

namespace Sys2Proof.Machine

/-- The data path is in service, and the die is not that of a parked compute die or its stacks (16 R465, R477). -/
def Device.dieOn (v : Device) (d : Nat) : Bool := v.pwr.ready && !v.pwr.parked.any fun n => (dieGroup n).contains d

/-- The memory stage of a memory-side die runs again (16 R485). -/
def Device.retrains (v : Device) (d : Nat) : Bool := (Map.find d v.pwr.retrain).isSome

/-- A die runs. -/
def Device.dieRuns (v : Device) (d : Nat) : Bool := v.dieOn d && !v.retrains d

/-- The blocks that hold off what would make them refuse: those that have granted the entry under way, until its transition ends (16 R469). -/
def Device.holding (v : Device) : List Block16 :=
  match v.pwr.trans, v.pwr.hs with
  | some 2, _ => blocksOf 2 v.pwr.parking
  | some t, _ => blocksOf t []
  | none, some h => (blocksOf h.target h.dies).take h.granted
  | none, none => []

/-- A block holds off. -/
def Device.holds (v : Device) (row die unit : Nat) : Bool := v.holding.any fun k => k.row == row && k.die == die && k.unit == unit

/-- The control-space address of an access, before its link is judged. -/
def routeAddr (rt : Route) (off : Nat) : Nat :=
  match rt with
  | .bar0 _ => controlBase + off
  | _ => off

/-- A register write that a block holds off: a doorbell, a test or job to start, or a message (16 R469 rows 1, 7 and 9). -/
def Device.regHeld (v : Device) (rt : Route) (off data : Nat) : Bool :=
  match rt, placeOf (routeAddr rt off) with
  | .bar4 _, _ => false
  | _, .reg r =>
    match r.reg with
    | .DOCK_QTAIL => v.holds 1 r.die 81
    | .DOCK_ST_CMD => v.holds 7 r.die 0
    | .CHK_FU_CTL => v.holds 7 r.die 0 && data.testBit 0
    | .MBX_SEND => v.holds 9 40 r.i
    | _ => false
  | _, _ => false

/-- A register of the doorbell path of a queue (14 R412). -/
def Device.isDoorbell (rt : Route) (off : Nat) : Bool :=
  match placeOf (routeAddr rt off) with
  | .reg r => r.reg == .DOCK_QTAIL || r.reg == .DOCK_BAYCMD
  | _ => false

/-- A posted write of a link has not reached its destination (14 R412). -/
def Device.linkWaits (v : Device) (L : Nat) : Bool :=
  let stores (j : MemJob) : Bool := match j with | .read _ _ => false | _ => true
  v.mem.dies.any (fun d => d.2.waiting.any fun w => w.op.requester == .port L && stores w.job)
    || v.mem.links.any (fun l => l.2.waiting.any fun f => f.op.requester == .port L && f.data.isSome)

/-- A doorbell of a link that must wait for an earlier posted write of the link (14 R412). -/
def Device.behind (v : Device) (rt : Route) (off : Nat) : Bool :=
  match rt with
  | .bar0 L => Device.isDoorbell rt off && (v.linkWaits L || v.dock.late.any fun l => l.link == L)
  | _ => false

/-- A register write arrives: held off by a block (16 R469), behind an earlier write of its link (14 R412), or made. -/
def Device.writeArrives (v : Device) (rt : Route) (off size data : Nat) : Device :=
  if v.regHeld rt off data then v.answer .held
  else if v.behind rt off then
    match rt with
    | .bar0 L => ({ v with dock := { v.dock with late := v.dock.late ++ [⟨L, off, size, data⟩] } } : Device).answer .held
    | _ => v
  else v.regWrite rt off size data

/-- A waiting doorbell is made once its link's earlier writes have reached their destinations (14 R412). It answers nothing. -/
def Device.lateWrite (v : Device) (l : LateWrite) : Device :=
  if v.linkWaits l.link || v.regHeld (.bar0 l.link) l.off l.data then { v with dock := { v.dock with late := v.dock.late ++ [l] } }
  else (v.regWrite (.bar0 l.link) l.off l.size l.data).onBase fun b => { b with resp := v.base.resp }

/-- The doorbells that waited, in their order (14 R412). -/
def Device.lateWrites (v : Device) : Device := v.dock.late.foldl Device.lateWrite { v with dock := { v.dock with late := [] } }

/-- What follows every command at once: doorbells whose links' writes have arrived (14 R412), clients' messages to the management controller (15
R440), links whose lock time has passed (11 R312), tiles that are idle (03 R96, 05 R160), requests that take effect (15 R459), pairs that are watched
(R460), clocks that start (16 R473), a lock that waited (16 R468), and persistent entries that the data path changed (13 R368, R376), and what the
event counters count (17 R493). -/
def Device.settle (v : Device) : Device :=
  ((((((((v.lateWrites).mails).onWork fun w => w.locksEnd.idleSweeps).unitsSettle).dozeWake).lockSettle).watchPairs).countNoted).syncStore

/-- What the last command returned and sent is forgotten (log entry 4). -/
def Device.cleared (v : Device) : Device := v.onBase fun b => { b with resp := .none, sent := [] }

/-- A command that `may` act has its effect, and what follows at once follows; another leaves the device as it is. -/
def Device.act (v : Device) (may : Bool) (f : Device → Device) : Device := if may then (f v.cleared).settle else v.cleared

/-- The outcome of every command: a next state, with the queue as it is. -/
def State.run (s : State) (may : Bool) (f : Device → Device) : Host.Outcome State Fault Refusal := .next { s with dev := s.dev.act may f }

/-- ABFT_REPLAY of any product: MM, STATFEED and PRECOND alike (03 R93, 09 R252, R257), and of what a FAILED tile handed over (15 R459). A tile whose
replay failed too is fenced. -/
def Work.replay (w : Work) (id q seq : Nat) (ups : List (Nat × Nat)) : Work :=
  let mm := match w.wb? id q seq with
    | some x => x.opcode == 1
    | none => false
  match if mm then w.abftReplay id q seq ups else w.replayStats id q seq ups with
  | (w, some t) => w.fenceItself t.1 t.2
  | (w, none) => w.runAgain id q seq

/-- The die of a unit runs. -/
def Device.unitRuns (v : Device) (id : Nat) : Bool := v.dieRuns (v.base.unitSrc id).die

/-- A unit may accept waybills: no request keeps it from it (15 R459), and it has not granted an entry (16 R469). -/
def Device.unitAccepts (v : Device) (id : Nat) : Bool :=
  let src := v.base.unitSrc id
  let held := match unitOf id with
    | some (.tile, _) => v.holds 2 src.die src.unit
    | some (.crv, _) => v.holds 3 src.die (src.unit - 68)
    | some (.ckpt, _) => v.holds 5 src.die 2
    | _ => false
  v.unitRuns id && !v.unitHeld id && !held

/-- A unit may start waybills. -/
def Device.unitStarts (v : Device) (id : Nat) : Bool :=
  let src := v.base.unitSrc id
  let held := match unitOf id with
    | some (.upd, _) => v.holds 4 src.die 1
    | some (.ring, _) => v.holds 6 src.die src.unit
    | _ => false
  v.unitRuns id && !v.unitHeld id && !held

/-- The stack of an address is on; a host address waits for the data path alone. -/
def Device.memRuns (v : Device) (a : Nat) : Bool :=
  match v.base.place a with
  | .stack n _ => v.dieOn (8 + n)
  | _ => v.pwr.ready

/-- The stack controller of an address admits nothing: it has granted an entry (16 R469), its memory stage runs again (R485), or its fence waits for
the requests that it has admitted (15 R459). -/
def Device.memHeld (v : Device) (a : Nat) : Bool :=
  match v.base.place a with
  | .stack n _ => v.holds 11 (8 + n) 0 || v.retrains (8 + n) || v.mgt.requests.contains (unitKey (8 + n) 1 0)
  | _ => false

/-- A memory request arrives; where the stack holds it off it waits at its sender. -/
def Device.memArrives (v : Device) (a : Nat) (f : MemSys → Base → Base × MemSys) : Device := if v.memHeld a then v.answer .held else v.onMem f

/-- A host access through BAR2 arrives (14 R415). -/
def Device.dockArrives (v : Device) (L off n : Nat) (write : Bool) (f : Device → Device) : Device :=
  match (v.dockCheck L off n write).1 with
  | some a => if v.memHeld a then v.answer .held else f v
  | none => f v

/-- The die whose control space an access reaches answers: an I/O die from the end of its logic stage, another die with the data path. An access of
the test access port comes by a 1.8 V input (19 R526). -/
def Device.regRuns (v : Device) (rt : Route) (off : Nat) : Bool :=
  match rt with
  | .bar4 _ => v.pwr.iordy
  | _ => (rt != .master 0xF0 || v.heeds) && v.pwr.iordy && (v.pwr.ready || decide (controlBase + 40 * 0x1000_0000 ≤ routeAddr rt off))

/-- Where a master writes to reach control-space address a by a route. -/
def routeOff (rt : Route) (a : Nat) : Nat :=
  match rt with
  | .bar0 _ => a - controlBase
  | _ => a

/-- A write of a whole register that has a row of its own. -/
def State.writeReg (s : State) (rt : Route) (a x : Nat) : Host.Outcome State Fault Refusal :=
  s.run (s.dev.regRuns rt (routeOff rt a)) fun v => v.writeArrives rt (routeOff rt a) 8 x

/-- A read of a whole register that has a row of its own. -/
def State.readReg (s : State) (rt : Route) (a : Nat) : Host.Outcome State Fault Refusal :=
  s.run (s.dev.regRuns rt (routeOff rt a)) fun v => v.regRead rt (routeOff rt a) 8

/-- A command of a unit's running waybill. -/
def State.unitRun (s : State) (id : Nat) (f : Work → Work) : Host.Outcome State Fault Refusal := s.run (s.dev.unitRuns id) fun v => v.doWork f

/-- A request of the Catalogue protocol: the management core judges whether it is up. -/
def State.request (s : State) (h : ReqHead) (op : ReqOp) (env : WriteEnv) : Host.Outcome State Fault Refusal :=
  s.run true fun v => v.request h op env

end Sys2Proof.Machine
end

