-- ==== Sys2Proof/Machine/ArrayCmds.lean ====
section
/-! DEFINITION. The tile array: matrix products, drains, replays and fillers: the meaning of each command of the table. -/

namespace Sys2Proof.Machine

/-- MM (03 R538). A matrix product runs on the tile array over its output tiles, with an optional preload or chain. -/
def execMm (unit queue seq : Nat) (upsets : List (Nat × Nat)) (s : State) : Host.Outcome State Fault Refusal :=
  s.unitRun unit fun w => w.whenFetched unit queue seq fun w => w.mm unit queue seq upsets

/-- ACC_DRAIN (03 R75). The output stage drains a set row by row once any earlier drain has ended, and converts and writes the output tile. -/
def execAccDrain (unit : Nat) (s : State) : Host.Outcome State Fault Refusal :=
  s.run (s.dev.unitRuns unit) fun v => v.doWork fun w => w.accDrain unit

/-- ABFT_REPLAY (03 R93). A free tile replays the failed waybill or chain, and the result is either accepted or followed by a fence and
CHECK_FAILED. -/
def execAbftReplay (unit queue seq : Nat) (upsets : List (Nat × Nat)) (s : State) : Host.Outcome State Fault Refusal :=
  s.unitRun unit fun w => w.replay unit queue seq upsets

/-- HOLD_LIMIT_EXPIRY (03 R82). A HELD set passes ACC_HOLD_LIMIT, so it is drained, its chain completes DONE_ORPHAN and ACC.ORPHAN is raised. -/
def execHoldLimitExpiry (unit : Nat) (s : State) : Host.Outcome State Fault Refusal :=
  s.run (s.dev.unitRuns unit) fun v => v.doWork fun w => w.holdExpiry unit

/-- FILLER_SPILL (03 R94). An owner waybill becomes startable on a lent tile, so the filler stops, both sets are spilled into the lend region and
the owner waybill starts. -/
def execFillerSpill (unit : Nat) (s : State) : Host.Outcome State Fault Refusal :=
  s.run (s.dev.unitRuns unit) fun v => v.doWork fun w => w.fillerSpill unit

/-- SPILL_WRITEBACK_END (03 R94). The write of the spilled sets to the borrower's spill area ends, and the lend region is offered again. -/
def execSpillWritebackEnd (unit : Nat) (s : State) : Host.Outcome State Fault Refusal :=
  s.run (s.dev.unitRuns unit) fun v => v.doWork fun w => w.spillEnd unit

/-- SPILL_SLOW_EXPIRY (03 R94). A spill write-back has not ended 9 µs after the owner's token, so ACC.SPILLSLOW is raised. -/
def execSpillSlowExpiry (unit : Nat) (s : State) : Host.Outcome State Fault Refusal :=
  s.run (s.dev.unitRuns unit) fun v => v.doWork fun w => w.spillSlow unit

/-- FILLER_RESUME (11 R334). A spilled filler reloads its spill record into both sets and continues from the next slice. -/
def execFillerResume (unit : Nat) (s : State) : Host.Outcome State Fault Refusal :=
  s.run (s.dev.unitRuns unit) fun v => v.doWork fun w => w.fillerResume unit

/-- LEND_WAIT_EXPIRY (11 R335). A filler stays spilled past DOCK_LEND_WAIT, so RING.LENDWAIT is raised. -/
def execLendWaitExpiry (unit : Nat) (s : State) : Host.Outcome State Fault Refusal :=
  s.run (s.dev.unitRuns unit) fun v => v.doWork fun w => w.lendWait unit

end Sys2Proof.Machine
end

