-- ==== Sys2Proof/Machine/CheckCmds.lean ====
section
/-! DEFINITION. Free check units and die-to-die links: the meaning of each command of the table. -/

namespace Sys2Proof.Machine

/-- FU_START (12 R344). A write of START begins a free check unit job, or is refused with CHK.CFG. -/
def execFuStart (route : Route) (die job : Nat) (s : State) : Host.Outcome State Fault Refusal :=
  s.writeReg route (regAddr .CHK_FU_CTL die 0 job) 1

/-- FU_STOP (12 R345). A write of STOP ends a running job within 1 µs and sets STATE to IDLE. -/
def execFuStop (route : Route) (die job : Nat) (s : State) : Host.Outcome State Fault Refusal :=
  s.writeReg route (regAddr .CHK_FU_CTL die 0 job) 2

/-- FU_JOB_END (12 R345). A free check unit job ends normally, writes RESULT and compares it with EXPECT if asked. -/
def execFuJobEnd (die job : Nat) (s : State) : Host.Outcome State Fault Refusal :=
  s.run (s.dev.dieRuns die) fun v => v.doWork fun w => { w with base := w.base.fuJobEnd die job }

/-- FU_JOB_ERROR (12 R346). A job's read is poisoned, refused or fails in the far tier, so the job ends in ERROR with CHK.JOBERR. -/
def execFuJobError (die job : Nat) (far : Option Nat) (s : State) : Host.Outcome State Fault Refusal :=
  s.run (s.dev.dieRuns die) fun v => v.doWork fun w => { w with base := w.base.fuJobError die job far }

/-- D2D_LINK_FAIL (12 R349). A die-to-die link is not back in service 1 ms after a retrain, so it fails and CHK.D2D is raised. -/
def execD2dLinkFail (die other : Nat) (s : State) : Host.Outcome State Fault Refusal :=
  s.run (s.dev.dieRuns die) fun v => v.doWork fun w => { w with base := w.base.d2dFail die other }

end Sys2Proof.Machine
end

