-- ==== Sys2Proof/Machine/CheckpointCmds.lean ====
section
/-! DEFINITION. Checkpoint engines and the Daybook registers: the meaning of each command of the table. -/

namespace Sys2Proof.Machine

/-- CKPT_OPEN (13 R389). A checkpoint engine opens a generation by writing its commit record with STATE 0x00, or rejects with SPR.CKNEWEST. -/
def execCkptOpen (unit queue seq : Nat) (s : State) : Host.Outcome State Fault Refusal :=
  s.unitRun unit fun w => w.ckptOpen unit queue seq

/-- CKPT_COPY (13 R389). A checkpoint engine copies an extent, takes its digest and writes its manifest entry. -/
def execCkptCopy (unit queue seq : Nat) (s : State) : Host.Outcome State Fault Refusal :=
  s.unitRun unit fun w => w.ckptCopy unit queue seq

/-- CKPT_RESTORE (13 R389). A checkpoint engine copies an extent back to its home and checks its digest. -/
def execCkptRestore (unit queue seq : Nat) (s : State) : Host.Outcome State Fault Refusal :=
  s.unitRun unit fun w => w.ckptRestore unit queue seq

/-- CKPT_COMMIT (13 R391). A checkpoint engine checks the manifest entries and writes the commit record with STATE 0x01. -/
def execCkptCommit (unit queue seq : Nat) (s : State) : Host.Outcome State Fault Refusal :=
  s.unitRun unit fun w => w.ckptCommit unit queue seq

/-- DB_STEP_WRITE (13 R384). A write to DOCK_DB_STEP takes effect only while the partition is quiet, and is otherwise ignored with SPR.DBSTEP. -/
def execDbStepWrite (route : Route) (part data : Nat) (s : State) : Host.Outcome State Fault Refusal :=
  s.writeReg route (regAddr .DOCK_DB_STEP 40 0 part) data

/-- DB_REPLAY_WRITE (13 R384). A write to DOCK_DB_CTL.REPLAY selects or leaves replay mode under the quiet condition. -/
def execDbReplayWrite (route : Route) (part data : Nat) (s : State) : Host.Outcome State Fault Refusal :=
  s.writeReg route (regAddr .DOCK_DB_CTL 40 0 part) data

end Sys2Proof.Machine
end

