-- ==== Sys2Proof/Machine/CounterCmds.lean ====
section
/-! DEFINITION. Performance counters: the meaning of each command of the table. -/

namespace Sys2Proof.Machine

/-- PMC_VAL_READ (17 R498). A read of the lower counter of a chain latches the upper counter for the next read. -/
def execPmcValRead (route : Route) (die counter : Nat) (s : State) : Host.Outcome State Fault Refusal :=
  s.readReg route (regAddr .DOCK_PMC_VAL die 0 counter)

/-- COUNTER_GRANT (17 R502). A write to entry 0x5001 grants or withdraws die counters for a partition and resets them. -/
def execCounterGrant (head : ReqHead) (part : Nat) (value : List Byte) (env : WriteEnv) (s : State) : Host.Outcome State Fault Refusal :=
  s.request head (.write 0x5001 (part + 1) .blob value) env

/-- COUNTER_CONTROL (17 R502). A write to entry 0x5002 sets the control of a die counter granted to the partition. -/
def execCounterControl (head : ReqHead) (part : Nat) (value : List Byte) (env : WriteEnv) (s : State) : Host.Outcome State Fault Refusal :=
  s.request head (.write 0x5002 (part + 1) .blob value) env

/-- COUNTER_CLEAR (17 R502). A write to entry 0x5003 clears a granted counter and its SAT bit. -/
def execCounterClear (head : ReqHead) (part : Nat) (value : List Byte) (env : WriteEnv) (s : State) : Host.Outcome State Fault Refusal :=
  s.request head (.write 0x5003 (part + 1) .blob value) env

end Sys2Proof.Machine
end

