-- ==== Sys2Proof/Machine/CurvatureCmds.lean ====
section
/-! DEFINITION. Block statistics, preconditioning and the curvature engines: the meaning of each command of the table. -/

namespace Sys2Proof.Machine

/-- STATFEED (09 R252). A tile forms triangle tiles of a block statistic and sends them as delta pieces to a curvature engine. -/
def execStatfeed (unit queue seq : Nat) (upsets : List (Nat × Nat)) (s : State) : Host.Outcome State Fault Refusal :=
  s.unitRun unit fun w => w.whenFetched unit queue seq fun w => w.statfeed unit queue seq upsets

/-- PRECOND (09 R257). A tile multiplies a block stage by its published roots, or passes the block through. -/
def execPrecond (unit queue seq : Nat) (upsets : List (Nat × Nat)) (s : State) : Host.Outcome State Fault Refusal :=
  s.unitRun unit fun w => w.whenFetched unit queue seq fun w => w.precond unit queue seq upsets

/-- CRV_FOLD (09 R264). A curvature engine opens the due folds of its FOLD entries for the step and completes when they close. -/
def execCrvFold (unit queue seq : Nat) (s : State) : Host.Outcome State Fault Refusal :=
  s.unitRun unit fun w => w.crvFold unit queue seq

/-- CRV_ROOT (10 R289). A curvature engine refreshes the inverse roots of its due blocks in entry order. -/
def execCrvRoot (unit queue seq : Nat) (s : State) : Host.Outcome State Fault Refusal :=
  s.unitRun unit fun w => w.crvRefresh unit queue seq 0x21

/-- CRV_INV (10 R284). A curvature engine refreshes the damped inverses of its due blocks in entry order. -/
def execCrvInv (unit queue seq : Nat) (s : State) : Host.Outcome State Fault Refusal :=
  s.unitRun unit fun w => w.crvRefresh unit queue seq 0x22

/-- TIMETABLE_INSTALL (09 R263). A write of 1 to CRV_TTCTL.INSTALL reads and checks the descriptors and timetable, or is refused. -/
def execTimetableInstall (route : Route) (engine : Nat) (s : State) : Host.Outcome State Fault Refusal :=
  s.writeReg route (regAddr .CRV_TTCTL (cd (engine / 4)) (engine % 4)) 1

/-- TIMETABLE_INSTALL_END (09 R263). An installation ends, setting INSTALLED or failing with CRV.INSTALL, and waiting waybills resume. -/
def execTimetableInstallEnd (engine : Nat) (s : State) : Host.Outcome State Fault Refusal :=
  s.run (s.dev.unitRuns (crvUnit engine)) fun v => v.doWork fun w => w.timetableEnd engine

/-- DELTA_PIECE (09 R265). An arriving delta piece is discarded, held for a later step, or held for folding. -/
def execDeltaPiece (engine : Nat) (s : State) : Host.Outcome State Fault Refusal :=
  s.run (s.dev.unitRuns (crvUnit engine) && !s.dev.holds 3 (cd (engine / 4)) (engine % 4)) fun v => v.doWork fun w => w.deltaPiece engine

/-- PIECE_FOLD (09 R266). The fold path folds a held piece into both mirrored tiles of a factor, or leaves them unchanged on a non-finite value.
-/
def execPieceFold (engine : Nat) (s : State) : Host.Outcome State Fault Refusal :=
  s.run (s.dev.unitRuns (crvUnit engine)) fun v => v.doWork fun w => w.pieceFold engine

/-- FEED_LIMIT_EXPIRY (09 R267). CRV_FEEDLIMIT passes, so an open fold closes with tiles missing and CRV.FEEDMISS is raised. -/
def execFeedLimitExpiry (engine : Nat) (s : State) : Host.Outcome State Fault Refusal :=
  s.run (s.dev.unitRuns (crvUnit engine)) fun v => v.doWork fun w => w.feedLimit engine

/-- BLOCK_REFRESH (10 R290). A due block's refresh starts once its fold has closed, and concludes PUBLISHED, PARTIAL or STALE. -/
def execBlockRefresh (unit queue seq : Nat) (stop : Option Nat) (s : State) : Host.Outcome State Fault Refusal :=
  s.unitRun unit fun w => w.blockRefresh unit queue seq stop

/-- ROOT_PUBLISH (10 R286). Once HOLD of the other pair reads 0, the engine writes that pair and flips SEL in one atomic operation. -/
def execRootPublish (engine : Nat) (s : State) : Host.Outcome State Fault Refusal :=
  s.run (s.dev.unitRuns (crvUnit engine)) fun v => v.doWork fun w => w.rootPublish engine

/-- REFRESH_DEADLINE_EXPIRY (10 R294). The DEADLINE of a CRV_ROOT or CRV_INV passes while the engine waits for a fold or a HOLD, so the block
concludes STALE with cause DEADLINE or HELD. -/
def execRefreshDeadlineExpiry (unit queue seq : Nat) (s : State) : Host.Outcome State Fault Refusal :=
  s.run (s.dev.unitRuns unit) fun v => v.doWork fun w => w.refDeadline unit queue seq

end Sys2Proof.Machine
end

