-- ==== Sys2Proof/Machine/HostCmds.lean ====
section
/-! DEFINITION. Host links, the partition lock, the Dock and mailboxes: the meaning of each command of the table. -/

namespace Sys2Proof.Machine

/-- CONFIG_REQUEST (14 R410). A PCIe configuration request is answered with retry status before the lock, and is served afterwards. -/
def execConfigRequest (link : Nat) (req : CfgReq) (s : State) : Host.Outcome State Fault Refusal :=
  s.run s.dev.pwr.iordy fun v => v.config link req

/-- DOCK_HOST_READ (14 R415). A host read through BAR2 is served, or poisoned and logged by the bay's tag or range. -/
def execDockHostRead (link off n : Nat) (err : MemErr) (stays : Bool) (s : State) : Host.Outcome State Fault Refusal :=
  s.run (s.dev.pwr.ready && s.dev.pwr.iordy) fun v => v.dockArrives link off n false fun v => v.hostRead link off n err stays

/-- DOCK_HOST_WRITE (14 R415). A host write through BAR2 is served, or dropped and logged by the bay's tag or range. -/
def execDockHostWrite (link off : Nat) (bytes : List Byte) (bad : Bool) (err : MemErr) (stays : Bool) (s : State) : Host.Outcome State Fault Refusal :=
  s.run (s.dev.pwr.ready && s.dev.pwr.iordy) fun v => v.dockArrives link off bytes.length true fun v => v.hostWrite link off bytes bad err stays

/-- FUNCTION_LEVEL_RESET (14 R406). A Function Level Reset on a link resets its partition. -/
def execFunctionLevelReset (link : Nat) (s : State) : Host.Outcome State Fault Refusal :=
  s.run s.dev.pwr.iordy fun v => v.flr link

/-- LINK_HOT_RESET (14 R406). A hot reset, a link disable or loss of DL_Active resets the link's partition, and the link retrains. -/
def execLinkHotReset (link : Nat) (train : Option (Nat × Nat × Bool)) (s : State) : Host.Outcome State Fault Refusal :=
  s.run s.dev.pwr.iordy fun v => v.linkHotReset link train

/-- D3HOT_TO_D0 (14 R406). The function moves from D3hot to D0, which resets its partition. -/
def execD3hotToD0 (link : Nat) (s : State) : Host.Outcome State Fault Refusal :=
  s.run s.dev.pwr.iordy fun v => v.d3ToD0 link

/-- PERST_ASSERT (14 R406). PEn_PERST_N is asserted, resetting every partition bound to the port's links. -/
def execPerstAssert (port : Nat) (s : State) : Host.Outcome State Fault Refusal :=
  s.run true fun v => v.perstAssert port

/-- PT_LOCK_REQUEST (14 R408). A write of REQ runs the lock checks and sets LOCKED, or refuses with a cause. -/
def execPtLockRequest (route : Route) (s : State) : Host.Outcome State Fault Refusal :=
  s.writeReg route (regAddr .DOCK_PT_LOCK 40) 1

/-- BAY_COMMAND (14 R416). A DOCK_BAYCMD write changes the tags of a range of bays, with EXPECT or ANY. -/
def execBayCommand (route : Route) (part data : Nat) (s : State) : Host.Outcome State Fault Refusal :=
  s.writeReg route (regAddr .DOCK_BAYCMD 40 0 part) data

/-- BAY_QUERY (14 R416). A DOCK_BAYCMD write with QUERY reports the tag of bay FIRST in BAYRES. -/
def execBayQuery (route : Route) (part bay : Nat) (s : State) : Host.Outcome State Fault Refusal :=
  s.writeReg route (regAddr .DOCK_BAYCMD 40 0 part) (bay % 2 ^ 15 + 2 ^ 35)

/-- BAY_TAG_IN_FORCE (14 R417). A bay command takes force on an I/O die, and BAYRES is written once it is in force on all four. -/
def execBayTagInForce (part die : Nat) (s : State) : Host.Outcome State Fault Refusal :=
  s.run s.dev.pwr.iordy fun v => v.bayInForce part die

/-- BAYRES_READ (14 R417). A read of DOCK_BAYRES is held until every earlier command of the partition is written into it. -/
def execBayresRead (route : Route) (part : Nat) (s : State) : Host.Outcome State Fault Refusal :=
  s.readReg route (regAddr .DOCK_BAYRES 40 0 part)

/-- MBX_DATA_WRITE (14 R420). A sender writes message bytes into the data registers, or is refused while PENDING. -/
def execMbxDataWrite (route : Route) (channel dir word data : Nat) (s : State) : Host.Outcome State Fault Refusal :=
  s.writeReg route (regAddr .MBX_DATA 40 0 channel (16 * dir + word)) data

/-- MBX_SEND (14 R421). A write to MBX_SEND delivers the message, or fails on length, busy, check or a down receiver. -/
def execMbxSend (route : Route) (channel dir data : Nat) (s : State) : Host.Outcome State Fault Refusal :=
  s.writeReg route (regAddr .MBX_SEND 40 0 channel dir) data

/-- MBX_ACK (14 R423). The receiver acknowledges with a return code, and the sender is notified. -/
def execMbxAck (route : Route) (channel dir data : Nat) (s : State) : Host.Outcome State Fault Refusal :=
  s.writeReg route (regAddr .MBX_ACK 40 0 channel dir) data

/-- MBX_TIMEOUT (14 R423). A message stays PENDING past MBX_CFG.TIMEOUT and is withdrawn with HOST.MBXTIMEOUT. -/
def execMbxTimeout (channel dir : Nat) (s : State) : Host.Outcome State Fault Refusal :=
  s.run s.dev.pwr.iordy fun v => v.mbxTimeout channel dir

/-- MBX_DOMAIN_DOWN (14 R424). A receiver's domain goes down, so its pending message is withdrawn with cause DOWN. -/
def execMbxDomainDown (master : Nat) (s : State) : Host.Outcome State Fault Refusal :=
  s.run s.dev.pwr.iordy fun v => v.mbxDomainDown master

/-- PERST_DEASSERT (14 R402). PEn_PERST_N is deasserted outside HOLD, so PEn_BIFUR is sampled and the port's links train once IORDY is high. -/
def execPerstDeassert (port : Nat) (bifur : Bool) (train : List (Option (Nat × Nat × Bool))) (s : State) : Host.Outcome State Fault Refusal :=
  s.run true fun v => v.perstDeassert port bifur train

end Sys2Proof.Machine
end

