-- ==== Sys2Proof/Machine/LinkCmds.lean ====
section
/-! DEFINITION. Ring links and their frames: the meaning of each command of the table. -/

namespace Sys2Proof.Machine

/-- WAVELENGTH_SPARE (11 R304). A failing lane is moved to the spare wavelength of its fibre, and RING.WAVESPARE is raised. -/
def execWavelengthSpare (engine fibre lane : Nat) (s : State) : Host.Outcome State Fault Refusal :=
  s.run s.dev.pwr.iordy fun v => v.doWork fun w => w.waveSpare engine fibre lane

/-- LASER_STATE (11 R303). A laser module becomes absent, alarmed or weak, so its two engines leave service and RING.LASER is raised. -/
def execLaserState (laser : Nat) (present alarm : Bool) (power : Nat) (s : State) : Host.Outcome State Fault Refusal :=
  s.run s.dev.heeds fun v => v.doWork fun w => w.laserState laser present alarm power

/-- LINK_TRAIN (11 R312). A DOWN link with stable light trains through lock, TRAIN, TEST and service, or fails with RING.TRAIN or RING.BUDGET. -/
def execLinkTrain (engine fibres : Nat) (lanes : List (Nat × Nat)) (s : State) : Host.Outcome State Fault Refusal :=
  s.run s.dev.pwr.iordy fun v => v.doWork fun w => w.linkTrain engine fibres lanes

/-- TRAIN_RETRY_EXPIRY (11 R312). A link that failed training tries again 100 ms later. -/
def execTrainRetryExpiry (engine : Nat) (s : State) : Host.Outcome State Fault Refusal :=
  s.run s.dev.pwr.iordy fun v => v.doWork fun w => w.trainRetry engine

/-- LINK_DOWN (11 R314). A link leaves service on loss of light or lock, repeated frame failure or no fibre, raises RING.LINKDOWN and retrains. -/
def execLinkDown (engine : Nat) (s : State) : Host.Outcome State Fault Refusal :=
  s.run s.dev.pwr.iordy fun v => v.doWork fun w => w.linkDown engine

/-- LINK_RECOVERY_EXPIRY (11 R314). A link is not back in SERVICE within 100 ms, so its frames move to other engines and the engine is marked
FAILED. -/
def execLinkRecoveryExpiry (engine : Nat) (s : State) : Host.Outcome State Fault Refusal :=
  s.run s.dev.pwr.iordy fun v => v.doWork fun w => w.linkRecovery engine

/-- DATA_FRAME (11 R315). A good DATA frame is delivered, held, forwarded or dropped by its DST, line, TAG, step and epoch. -/
def execDataFrame (engine : Nat) (bytes : List Byte) (body : FrameBody) (s : State) : Host.Outcome State Fault Refusal :=
  s.run (s.dev.pwr.iordy && s.dev.pwr.ready && !s.dev.holds 6 (io (engine / 4)) (engine % 4)) fun v => v.doWork fun w => w.frame 0 engine bytes body

/-- CREDIT_FRAME (11 R310). A CREDIT frame returns VC credits and acknowledges held frames. -/
def execCreditFrame (engine : Nat) (bytes : List Byte) (body : FrameBody) (s : State) : Host.Outcome State Fault Refusal :=
  s.run s.dev.pwr.iordy fun v => v.doWork fun w => w.frame 1 engine bytes body

/-- CREDIT_FRAME_SEND (11 R309). A receiver with nothing else to send sends a CREDIT frame at least every 0.5 µs. -/
def execCreditFrameSend (engine : Nat) (s : State) : Host.Outcome State Fault Refusal :=
  s.run s.dev.pwr.iordy fun v => v.doWork fun w => w.creditFrameSend engine

/-- RETRY_FRAME (11 R309). A RETRY frame makes the sender resend from the named sequence number in folded mode. -/
def execRetryFrame (engine : Nat) (bytes : List Byte) (body : FrameBody) (s : State) : Host.Outcome State Fault Refusal :=
  s.run s.dev.pwr.iordy fun v => v.doWork fun w => w.frame 2 engine bytes body

/-- TRAIN_FRAME (11 R312). A TRAIN frame carries identities and settings that are checked for the link. -/
def execTrainFrame (engine : Nat) (bytes : List Byte) (body : FrameBody) (s : State) : Host.Outcome State Fault Refusal :=
  s.run s.dev.pwr.iordy fun v => v.doWork fun w => w.frame 3 engine bytes body

/-- TEST_FRAME (11 R312). A TEST frame is checked against its pattern during training. -/
def execTestFrame (engine : Nat) (bytes : List Byte) (body : FrameBody) (s : State) : Host.Outcome State Fault Refusal :=
  s.run s.dev.pwr.iordy fun v => v.doWork fun w => w.frame 4 engine bytes body

/-- EPOCH_END_FRAME (11 R331). An EPOCH_END frame records that a member has ended the line's old epoch. -/
def execEpochEndFrame (engine : Nat) (bytes : List Byte) (body : FrameBody) (s : State) : Host.Outcome State Fault Refusal :=
  s.run s.dev.pwr.iordy fun v => v.doWork fun w => w.frame 5 engine bytes body

/-- EPOCH_BEGIN_FRAME (11 R331). An EPOCH_BEGIN frame's record check is compared with the member's installed record, with RING.LAYOUT on a
difference. -/
def execEpochBeginFrame (engine : Nat) (bytes : List Byte) (body : FrameBody) (s : State) : Host.Outcome State Fault Refusal :=
  s.run s.dev.pwr.iordy fun v => v.doWork fun w => w.frame 6 engine bytes body

/-- CONTROL_FRAME (11 R308). A CONTROL frame carries a lane-move request, an acknowledgement, a refusal or reduction figures. -/
def execControlFrame (engine : Nat) (bytes : List Byte) (body : FrameBody) (s : State) : Host.Outcome State Fault Refusal :=
  s.run s.dev.pwr.iordy fun v => v.doWork fun w => w.frame 7 engine bytes body

/-- MATCH_LIMIT_EXPIRY (11 R321). A held frame passes RING_MATCHLIMIT, so RING.UNMATCHED is raised and it stays held. -/
def execMatchLimitExpiry (s : State) : Host.Outcome State Fault Refusal :=
  s.run s.dev.pwr.iordy fun v => v.doWork fun w => w.matchLimit

/-- EPOCH_WAIT_EXPIRY (11 R331). A reshard's wait passes RING_EPOCHWAIT, so RING.EPOCHTO is raised and the reshard completes. -/
def execEpochWaitExpiry (s : State) : Host.Outcome State Fault Refusal :=
  s.run s.dev.pwr.iordy fun v => v.doWork fun w => w.epochWait

/-- RING_BYPASS_WRITE (11 R316). A write to RING_BYPASS.JOIN starts or stops driving the coupler hold. -/
def execRingBypassWrite (route : Route) (join : Bool) (s : State) : Host.Outcome State Fault Refusal :=
  s.writeReg route (regAddr .RING_BYPASS 40) (b2n join)

/-- COUPLER_SENSE (19 R532). The coupler switch changes position, and SENSE follows, enabling or ending link training. -/
def execCouplerSense (opened : Bool) (s : State) : Host.Outcome State Fault Refusal :=
  s.run s.dev.heeds fun v => v.doWork fun w => w.couplerSense opened

/-- LASER_MODULE_RESTORED (19 R533). A laser module becomes present, unalarmed and above training power again, so LSRj_EN is driven and its two
engines may train. -/
def execLaserModuleRestored (laser power : Nat) (s : State) : Host.Outcome State Fault Refusal :=
  s.run s.dev.heeds fun v => v.doWork fun w => w.laserRestored laser power

end Sys2Proof.Machine
end

