-- ==== Sys2Proof/Machine/ManageCmds.lean ====
section
/-! DEFINITION. The Catalogue protocol and its transports: the meaning of each command of the table. -/

namespace Sys2Proof.Machine

/-- HELLO (15 R445). A client asks for a device nonce and identity. -/
def execHello (head : ReqHead) (s : State) : Host.Outcome State Fault Refusal :=
  s.request head .hello { flashOk := true, cores := [] }

/-- AUTH (15 R444). A client proves a role key and opens a session, or fails with AUTHFAIL, LOCKOUT or BUSY. -/
def execAuth (head : ReqHead) (role : Nat) (cnonce proof : List Byte) (s : State) : Host.Outcome State Fault Refusal :=
  s.request head (.auth role cnonce proof) { flashOk := true, cores := [] }

/-- CLOSE (15 R443). A client closes its session. -/
def execClose (head : ReqHead) (s : State) : Host.Outcome State Fault Refusal :=
  s.request head .close { flashOk := true, cores := [] }

/-- READ (15 R433). A session reads part of a Catalogue entry's value. -/
def execRead (head : ReqHead) (index sub offset maxlen : Nat) (s : State) : Host.Outcome State Fault Refusal :=
  s.request head (.read index sub offset maxlen) { flashOk := true, cores := [] }

/-- WRITE (15 R433). A session writes a Catalogue entry, which is checked, stored whole and applied as the entry's rule states. -/
def execWrite (head : ReqHead) (index sub : Nat) (type : CatType) (value : List Byte) (env : WriteEnv) (s : State) : Host.Outcome State Fault Refusal :=
  s.request head (.write index sub type value) env

/-- DESCRIBE (15 R445). A session reads the type, access, default and name of an entry. -/
def execDescribe (head : ReqHead) (index sub : Nat) (s : State) : Host.Outcome State Fault Refusal :=
  s.request head (.describe index sub) { flashOk := true, cores := [] }

/-- LIST (15 R445). A session lists existing entries from a given index. -/
def execList (head : ReqHead) (index sub : Nat) (s : State) : Host.Outcome State Fault Refusal :=
  s.request head (.list index sub) { flashOk := true, cores := [] }

/-- FW_BEGIN (15 R451). A firmware update selects and erases the slot that is not running. -/
def execFwBegin (head : ReqHead) (length : Nat) (env : WriteEnv) (s : State) : Host.Outcome State Fault Refusal :=
  s.request head (.fwBegin length) env

/-- FW_DATA (15 R451). A firmware update writes image data at the next offset. -/
def execFwData (head : ReqHead) (offset : Nat) (data : List Byte) (env : WriteEnv) (s : State) : Host.Outcome State Fault Refusal :=
  s.request head (.fwData offset data) env

/-- FW_END (15 R451). The new image is read back and checked, then selected or erased. -/
def execFwEnd (head : ReqHead) (env : WriteEnv) (s : State) : Host.Outcome State Fault Refusal :=
  s.request head .fwEnd env

/-- SESSION_IDLE_EXPIRY (15 R443). A session passes the idle time without a request and closes. -/
def execSessionIdleExpiry (session : Nat) (s : State) : Host.Outcome State Fault Refusal :=
  s.run true fun v => v.sessionIdle session

/-- NONCE_EXPIRY (15 R444). A device nonce is no longer kept 10 s after HELLO. -/
def execNonceExpiry (transport : Nat) (source : List Byte) (s : State) : Host.Outcome State Fault Refusal :=
  s.run true fun v => v.nonceExpiry transport source

/-- LOCKOUT_EXPIRY (15 R444). The 60 s authentication lockout ends. -/
def execLockoutExpiry (s : State) : Host.Outcome State Fault Refusal :=
  s.run true fun v => v.lockoutExpiry

/-- NEIGHBOR_SOLICITATION (15 R438). The 10BASE-T1S port answers an IPv6 neighbour solicitation. -/
def execNeighborSolicitation (source target : List Byte) (extension : Bool) (s : State) : Host.Outcome State Fault Refusal :=
  s.run true fun v => v.solicit source target extension

/-- ECHO_REQUEST (15 R438). The 10BASE-T1S port answers an ICMPv6 echo request. -/
def execEchoRequest (source target data : List Byte) (extension : Bool) (s : State) : Host.Outcome State Fault Refusal :=
  s.run true fun v => v.echo source target data extension

/-- I3C_CCC (15 R439). The I3C target port executes a supported common command code. -/
def execI3cCcc (code : I3cCcc) (s : State) : Host.Outcome State Fault Refusal :=
  s.run true fun v => v.i3cCcc code

/-- UNIT_FENCE_REQUEST (15 R459). A write of FENCED to a requested unit state fences the unit after its running work. -/
def execUnitFenceRequest (head : ReqHead) (die kind unit : Nat) (env : WriteEnv) (s : State) : Host.Outcome State Fault Refusal :=
  s.request head (.write (0x6000 + 16 * die + kind) (2 * unit + 1) .u8 [1]) env

/-- UNIT_FAIL_REQUEST (15 R459). A write of FAILED to a requested unit state fences the unit at its next boundary, with its work moved, and raises
MGT.FAILREQ. -/
def execUnitFailRequest (head : ReqHead) (die kind unit : Nat) (env : WriteEnv) (s : State) : Host.Outcome State Fault Refusal :=
  s.request head (.write (0x6000 + 16 * die + kind) (2 * unit + 1) .u8 [2]) env

/-- UNIT_SERVICE_REQUEST (15 R458). A write of SERVICE to a requested unit state is stored, or refused with STATUS RANGE. -/
def execUnitServiceRequest (head : ReqHead) (die kind unit : Nat) (env : WriteEnv) (s : State) : Host.Outcome State Fault Refusal :=
  s.request head (.write (0x6000 + 16 * die + kind) (2 * unit + 1) .u8 [0]) env

/-- DIVERGENCE_EXPIRY (15 R460). A pair of requested and effective sub-indexes disagrees for 100 ms, so MGT.DIVERGE is raised. -/
def execDivergenceExpiry (index sub : Nat) (s : State) : Host.Outcome State Fault Refusal :=
  s.run true fun v => v.divergence index sub

/-- EVENT_NOTICE_COALESCE (15 R455). A 1 µs coalescing window with further records ends, and vector 2,032 is signalled once more. -/
def execEventNoticeCoalesce (part : Nat) (s : State) : Host.Outcome State Fault Refusal :=
  s.run s.dev.pwr.iordy fun v => v.doWork fun w => { w with base := w.base.coalesce part }

/-- DEVICE_STATE_REQUEST (16 R467). A write to the requested device power state starts a transition, with the entry handshake where one is needed.
-/
def execDeviceStateRequest (head : ReqHead) (state : Nat) (env : WriteEnv) (s : State) : Host.Outcome State Fault Refusal :=
  s.request head (.write 0x2001 1 .u8 [BitVec.ofNat 8 state]) env

/-- DIE_STATE_REQUEST (16 R466). A write to a die's requested power state changes its target, or is refused with RANGE. -/
def execDieStateRequest (head : ReqHead) (die state : Nat) (env : WriteEnv) (s : State) : Host.Outcome State Fault Refusal :=
  s.request head (.write (0x6000 + 16 * die) 1 .u8 [BitVec.ofNat 8 state]) env

end Sys2Proof.Machine
end

