-- ==== Sys2Proof/Machine/MemoryCmds.lean ====
section
/-! DEFINITION. Memory-side dies, prefetch and the far tier: the meaning of each command of the table. -/

namespace Sys2Proof.Machine

/-- STACK_READ (05 R136). A memory-side die serves a read request, with seal verification and error correction where they apply. -/
def execStackRead (op : MemOp) (addr n : Nat) (s : State) : Host.Outcome State Fault Refusal :=
  s.run (s.dev.memRuns addr) fun v => v.memArrives addr fun m b => m.read b op addr n

/-- ROW_SPARE_END (05 R152). A row replacement ends, the bank admits requests again and MEM.ROWSPARE is raised. -/
def execRowSpareEnd (stack bank : Nat) (s : State) : Host.Outcome State Fault Refusal :=
  s.run (s.dev.dieRuns (ms stack)) fun v => v.onMem fun m b => m.rowSpareEnd b stack bank

/-- PC_COPY_END (05 R153). The copy of a pseudo-channel ends, and MEM.PCRETIRE is raised again. -/
def execPcCopyEnd (stack pc : Nat) (s : State) : Host.Outcome State Fault Refusal :=
  s.run (s.dev.dieRuns (ms stack)) fun v => v.onMem fun m b => m.pcCopyEnd b stack pc

/-- STACK_LOST (05 R154). A stack is fenced, so its reads return poison, its writes are dropped and MEM.STACKLOST is raised. -/
def execStackLost (stack : Nat) (s : State) : Host.Outcome State Fault Refusal :=
  s.run s.dev.pwr.ready fun v => v.doWork fun w => { w with base := w.base.stackLost stack }

/-- STACK_WRITE (05 R141). A memory-side die applies a piece write, raising the block's generation and keeping its seal current. -/
def execStackWrite (op : MemOp) (addr : Nat) (bytes : List Byte) (bad : Bool) (s : State) : Host.Outcome State Fault Refusal :=
  s.run (s.dev.memRuns addr) fun v => v.memArrives addr fun m b => m.write b op addr bytes bad

/-- BLOCK_WRITE (12 R351). Once all 16 requests of a block write have arrived, it is applied as one write with a freshly computed seal. -/
def execBlockWrite (op : MemOp) (addr : Nat) (bytes : List Byte) (bad : List Nat) (s : State) : Host.Outcome State Fault Refusal :=
  s.run (s.dev.memRuns addr) fun v => v.memArrives addr fun m b => m.blockWrite b op addr bytes bad

/-- TICKET_NOTIFY (05 R148). A slot or a bank place frees, and the holder of the oldest ticket is notified and resends its request. -/
def execTicketNotify (stack bank : Nat) (s : State) : Host.Outcome State Fault Refusal :=
  s.run (s.dev.dieRuns (ms stack)) fun v => v.onMem fun m b => m.ticketNotify b stack bank

/-- HOTBANK_DWELL_EXPIRY (05 R149). A bank stays hot for DOCK_MS_HOTDWELL, so MEM.HOTBANK is raised and the bank is recorded. -/
def execHotbankDwellExpiry (stack bank : Nat) (s : State) : Host.Outcome State Fault Refusal :=
  s.run (s.dev.dieRuns (ms stack)) fun v => v.onMem fun m b => m.hotDwell b stack bank

/-- SLOTFULL_DWELL_EXPIRY (05 R149). No slot has been free for the dwell, so MEM.SLOTFULL is raised. -/
def execSlotfullDwellExpiry (stack : Nat) (s : State) : Host.Outcome State Fault Refusal :=
  s.run (s.dev.dieRuns (ms stack)) fun v => v.onMem fun m b => m.fullDwell b stack

/-- PATROL_SCRUB (05 R151). Patrol scrubbing reads a stack piece, correcting or poisoning it and checking its seal. -/
def execPatrolScrub (stack off : Nat) (err : MemErr) (s : State) : Host.Outcome State Fault Refusal :=
  s.run (s.dev.dieRuns (ms stack)) fun v => v.onMem fun m b => m.scrub b stack off err

/-- PREFETCH_FETCH (05 R143). The prefetch controller fetches a block for an accepted waybill into the tile's prefetch buffer. -/
def execPrefetchFetch (unit : Nat) (s : State) : Host.Outcome State Fault Refusal :=
  s.run (s.dev.unitRuns unit) fun v => v.doWork fun w => w.prefetchFetch unit

/-- GENERATION_CHECK_RETURN (05 R145). A generation check returns, and the prefetch entry is either used or discarded as stale. -/
def execGenerationCheckReturn (unit queue seq addr : Nat) (s : State) : Host.Outcome State Fault Refusal :=
  s.unitRun unit fun w => w.genCheck unit queue seq addr

/-- FAR_REQUEST_ISSUE (05 R156). A far-tier request waiting at the I/O die is sent once the link has room under its limit. -/
def execFarRequestIssue (link : Nat) (s : State) : Host.Outcome State Fault Refusal :=
  s.run (s.dev.pwr.ready && s.dev.pwr.iordy) fun v => v.onMem fun m b => m.farIssue b link

/-- FAR_COMPLETION (05 R155). A far-tier read completes, and its data is either returned or poisoned with MEM.FARERR. -/
def execFarCompletion (link request : Nat) (data : Option (List Byte)) (s : State) : Host.Outcome State Fault Refusal :=
  s.run (s.dev.pwr.ready && s.dev.pwr.iordy) fun v => v.onMem fun m b => m.farComplete b link request data

/-- FAR_COMPLETION_TIMEOUT (05 R155). A far-tier read gets no completion within the PCIe completion timeout, so it is poisoned and MEM.FARERR is
raised. -/
def execFarCompletionTimeout (link request : Nat) (s : State) : Host.Outcome State Fault Refusal :=
  s.run (s.dev.pwr.ready && s.dev.pwr.iordy) fun v => v.onMem fun m b => m.farTimeout b link request

end Sys2Proof.Machine
end

