-- ==== Sys2Proof/Machine/PowerCmds.lean ====
section
/-! DEFINITION. Power states, bring-up, resets and supplies: the meaning of each command of the table. -/

namespace Sys2Proof.Machine

/-- HANDSHAKE_REASK (16 R469). A block that answered DELAY is asked again 10 µs later. -/
def execHandshakeReask (cores : List Nat) (s : State) : Host.Outcome State Fault Refusal :=
  s.run true fun v => v.hsReask cores

/-- HANDSHAKE_TIMEOUT (16 R470). A block still answers DELAY at PWR_HS_TIMEOUT, so the entry is abandoned with PWR.HSTIMEOUT. -/
def execHandshakeTimeout (s : State) : Host.Outcome State Fault Refusal :=
  s.run true fun v => v.hsTimeout

/-- AVS_RESPONSE (16 R476). A regulator's response frame acknowledges a Voltage write, or not. -/
def execAvsResponse (bus : Nat) (reply : AvsReply) (s : State) : Host.Outcome State Fault Refusal :=
  s.run true fun v => v.avsResponse bus reply

/-- AVS_RESEND_EXPIRY (16 R476). A write that was not acknowledged within 10 µs is sent again after 100 µs, and the third failure raises
PWR.RAILACK. -/
def execAvsResendExpiry (bus : Nat) (s : State) : Host.Outcome State Fault Refusal :=
  s.run true fun v => v.avsResend bus

/-- RAIL_DONE_EXPIRY (16 R476). A rail does not report its transition done within 10 ms, so PWR.RAILACK is raised. -/
def execRailDoneExpiry (bus : Nat) (s : State) : Host.Outcome State Fault Refusal :=
  s.run true fun v => v.railDoneExpiry bus

/-- RAIL_TELEMETRY (16 R476). Every millisecond the device reads each powered rail's voltage, current and temperature. -/
def execRailTelemetry (rail mv amps : Nat) (s : State) : Host.Outcome State Fault Refusal :=
  s.run true fun v => v.railTelemetry rail mv amps

/-- BRINGUP_STAGE_READY (16 R477). A bring-up stage of a die reports ready, and the next stage begins. -/
def execBringupStageReady (die : Nat) (s : State) : Host.Outcome State Fault Refusal :=
  s.run true fun v => v.stageReady die

/-- BRINGUP_STAGE_TIMEOUT (16 R478). A bring-up stage misses its timeout, so bring-up stops and FAULT_N goes low. -/
def execBringupStageTimeout (die : Nat) (s : State) : Host.Outcome State Fault Refusal :=
  s.run true fun v => v.stageTimeout die

/-- HOLD_WAKE (16 R479). An enabled wake source is seen in HOLD, and exit from HOLD begins. -/
def execHoldWake (event : WakeEvent) (s : State) : Host.Outcome State Fault Refusal :=
  s.run true fun v => v.holdWake event

/-- DOZE_DWELL_EXPIRY (16 R473). A tile domain stays gated for PWR_DOZE_DWELL in DOZE and turns its PLL off. -/
def execDozeDwellExpiry (die domain : Nat) (s : State) : Host.Outcome State Fault Refusal :=
  s.run true fun v => v.dozeExpiry die domain

/-- TEMPERATURE_WARNING (16 R482). A die passes the warning temperature, so PWR.HOT is raised. -/
def execTemperatureWarning (die : Nat) (t : Int) (s : State) : Host.Outcome State Fault Refusal :=
  s.run true fun v => v.temperature die t

/-- THERMAL_TRIP (16 R482). A die passes 115.0 °C, so the device enters HOLD without a handshake. -/
def execThermalTrip (die : Nat) (t : Int) (s : State) : Host.Outcome State Fault Refusal :=
  s.run true fun v => v.temperature die t

/-- POWER_ON (16 R483). The always-on supplies and REFCLK become stable, and a cold reset with bring-up begins. -/
def execPowerOn (s : State) : Host.Outcome State Fault Refusal :=
  s.run true fun v => v.powerOn

/-- SYS_RST_N (16 R483). SYS_RST_N is driven low, which makes a cold reset. -/
def execSysRstN (s : State) : Host.Outcome State Fault Refusal :=
  s.run true fun v => v.sysReset

/-- WARM_RST_N (16 R483). WARM_RST_N is driven low, which makes a warm reset. -/
def execWarmRstN (s : State) : Host.Outcome State Fault Refusal :=
  s.run true fun v => v.warmPin

/-- RESET_CMD_WARM (16 R483). PWR_RST_CMD with KIND 1 makes a warm reset. -/
def execResetCmdWarm (route : Route) (s : State) : Host.Outcome State Fault Refusal :=
  s.writeReg route (regAddr .PWR_RST_CMD 40) (1 + 2 ^ 19)

/-- RESET_CMD_PARTITION (16 R484). PWR_RST_CMD with KIND 2 resets a partition. -/
def execResetCmdPartition (route : Route) (part : Nat) (s : State) : Host.Outcome State Fault Refusal :=
  s.writeReg route (regAddr .PWR_RST_CMD 40) (2 + 8 * part + 2 ^ 19)

/-- RESET_CMD_DIE (16 R485). PWR_RST_CMD with KIND 3 resets a die. -/
def execResetCmdDie (route : Route) (die : Nat) (s : State) : Host.Outcome State Fault Refusal :=
  s.writeReg route (regAddr .PWR_RST_CMD 40) (3 + 64 * die + 2 ^ 19)

/-- RESET_CMD_TILE (16 R483). PWR_RST_CMD with KIND 4 clears a spare, fenced or retired tile. -/
def execResetCmdTile (route : Route) (die tile : Nat) (s : State) : Host.Outcome State Fault Refusal :=
  s.writeReg route (regAddr .PWR_RST_CMD 40) (4 + 64 * die + 4096 * tile + 2 ^ 19)

/-- RESET_CMD_COLD (16 R483). PWR_RST_CMD with KIND 5 makes a cold reset. -/
def execResetCmdCold (route : Route) (s : State) : Host.Outcome State Fault Refusal :=
  s.writeReg route (regAddr .PWR_RST_CMD 40) (5 + 2 ^ 19)

/-- VAUX_LOW (19 R526). VAUX falls below 3,135 mV, so JOIN is cleared. -/
def execVauxLow (mv : Nat) (s : State) : Host.Outcome State Fault Refusal :=
  s.run s.dev.alive fun v => v.vaux mv

/-- VDDIO_MGT_LOW (19 R526). VDDIO_MGT falls below 1,710 mV, so the 1.8 V inputs are ignored and a cold reset follows its return. -/
def execVddioMgtLow (s : State) : Host.Outcome State Fault Refusal :=
  s.run true fun v => v.ioDrop

/-- VDDIO_MGT_RETURN (19 R526). VDDIO_MGT returns to its range after a drop, so the 1.8 V inputs are heeded again and a cold reset follows. -/
def execVddioMgtReturn (s : State) : Host.Outcome State Fault Refusal :=
  s.run true fun v => v.ioReturn

/-- VDD_AON_LOSS (19 R523). VDD_AON leaves its operating range, the always-on domain and the device stop, and the board turns every requested rail
off. -/
def execVddAonLoss (s : State) : Host.Outcome State Fault Refusal :=
  s.run true fun v => v.aonLoss

/-- TEMPERATURE_WARNING_END (16 R482). A die falls back below the warning temperature, which ends the PWR.HOT episode so that a later rise raises
it again. -/
def execTemperatureWarningEnd (die : Nat) (t : Int) (s : State) : Host.Outcome State Fault Refusal :=
  s.run true fun v => v.temperature die t

end Sys2Proof.Machine
end

