-- ==== Sys2Proof/Machine/RegisterCmds.lean ====
section
/-! DEFINITION. Register accesses that have no row of their own: the meaning of each command of the table. -/

namespace Sys2Proof.Machine

/-- REGISTER_WRITE (00 R9). A write to a register that has no row of its own stores or ignores each field by its access type, or completes with an
error response if its size or alignment is not allowed. -/
def execRegisterWrite (route : Route) (off size data : Nat) (s : State) : Host.Outcome State Fault Refusal :=
  s.run (s.dev.regRuns route off) fun v => v.writeArrives route off size data

/-- RC_READ (00 R10). A read of an RC field returns the field as it stood before the cycle and then clears it, and an event in the same cycle is
applied to the cleared field. -/
def execRcRead (route : Route) (off size : Nat) (s : State) : Host.Outcome State Fault Refusal :=
  s.run (s.dev.regRuns route off) fun v => v.regRead route off size

end Sys2Proof.Machine
end

