-- ==== Sys2Proof/Machine/RingCmds.lean ====
section
/-! DEFINITION. The waybills of ring engines: the meaning of each command of the table. -/

namespace Sys2Proof.Machine

/-- RING_SEND (11 R322). A ring engine puts a tensor into a tensor on another member of the line. -/
def execRingSend (unit queue seq : Nat) (s : State) : Host.Outcome State Fault Refusal :=
  s.unitRun unit fun w => (w.ringSend unit queue seq).ringFeed

/-- RING_RELAY (11 R323). A ring engine relays every member's block to every member in arrival order. -/
def execRingRelay (unit queue seq : Nat) (s : State) : Host.Outcome State Fault Refusal :=
  s.unitRun unit fun w => (w.ringRelay unit queue seq).ringFeed

/-- RING_REDUCE (11 R324). A ring engine sums a tensor over the line in fixed rank order and gathers the noise figures. -/
def execRingReduce (unit queue seq : Nat) (s : State) : Host.Outcome State Fault Refusal :=
  s.unitRun unit fun w => (w.ringReduce unit queue seq).ringFeed

/-- RING_DIGEST (11 R328). A ring engine compares digest lists along the line and passes a verdict westward. -/
def execRingDigest (unit queue seq : Nat) (s : State) : Host.Outcome State Fault Refusal :=
  s.unitRun unit fun w => (w.ringDigest unit queue seq).ringFeed

/-- RING_RESHARD (11 R331). A ring engine installs a new line layout and epoch, exchanging EPOCH_END and EPOCH_BEGIN frames. -/
def execRingReshard (unit queue seq : Nat) (s : State) : Host.Outcome State Fault Refusal :=
  s.unitRun unit fun w => (w.ringReshard unit queue seq).ringFeed

end Sys2Proof.Machine
end

