-- ==== Sys2Proof/Machine/ScaleCmds.lean ====
section
/-! DEFINITION. Scale histories and the watch: the meaning of each command of the table. -/

namespace Sys2Proof.Machine

/-- AMAX_RECORD (07 R193). A memory-side die applies an atomic maximum to a history cell row. -/
def execAmaxRecord (during : Bool) (s : State) : Host.Outcome State Fault Refusal :=
  s.run s.dev.pwr.ready fun v => v.doWork fun w => w.amaxRecord during

/-- AMAX_HELD_APPLY (07 R196). A maximum held during a refresh is applied afterwards to the next row, and SCL.LATE is raised. -/
def execAmaxHeldApply (s : State) : Host.Outcome State Fault Refusal :=
  s.run s.dev.pwr.ready fun v => v.doWork fun w => w.amaxHeldApply

/-- WATCH_REPORT (07 R200). A memory-side die adds a conversion count report into a watch slot record. -/
def execWatchReport (during : Bool) (s : State) : Host.Outcome State Fault Refusal :=
  s.run s.dev.pwr.ready fun v => v.doWork fun w => w.watchReport during

/-- HSTEP_WRITE (07 R207). A write to DOCK_SCL_HSTEP is applied, after STEP processing if it arrives during it. -/
def execHstepWrite (route : Route) (part value : Nat) (s : State) : Host.Outcome State Fault Refusal :=
  s.writeReg route (regAddr .DOCK_SCL_HSTEP 40 0 part) value

end Sys2Proof.Machine
end

