-- ==== Sys2Proof/Machine/SidingCmds.lean ====
section
/-! DEFINITION. The Siding: the meaning of each command of the table. -/

namespace Sys2Proof.Machine

/-- SID_OPEN (06 R174). OPEN decides whether a Siding frame is opened KEPT or DROPPED, or rejects it with SID.FULL. -/
def execSidOpen (unit queue seq : Nat) (s : State) : Host.Outcome State Fault Refusal :=
  s.unitRun unit fun w => w.sidOpen unit queue seq

/-- SID_CAR_PUSH (06 R175). A car is written into the open top frame, or discarded if it falls in the drop area of a DROPPED frame. -/
def execSidCarPush (unit queue seq : Nat) (s : State) : Host.Outcome State Fault Refusal :=
  s.unitRun unit fun w => w.whenFetched unit queue seq fun w => w.sidPush unit queue seq

/-- SID_CLOSE (06 R176). The open top frame is closed after the cars that started before it. -/
def execSidClose (unit queue seq : Nat) (s : State) : Host.Outcome State Fault Refusal :=
  s.unitRun unit fun w => w.sidClose unit queue seq

/-- SID_CAR_POP (06 R177). A car is read unchanged from the CLOSED top frame into a descriptor. -/
def execSidCarPop (unit queue seq : Nat) (s : State) : Host.Outcome State Fault Refusal :=
  s.unitRun unit fun w => w.sidPop unit queue seq

/-- SID_RELEASE (06 R176). The top frame is released after its pops, and USED returns to the frame's BELOW. -/
def execSidRelease (unit queue seq : Nat) (s : State) : Host.Outcome State Fault Refusal :=
  s.unitRun unit fun w => w.sidRelease unit queue seq

/-- SID_BRANCH (06 R178). The skip list that the top frame's state does not need is aborted, and PROD0 or PROD1 is produced. -/
def execSidBranch (unit queue seq : Nat) (s : State) : Host.Outcome State Fault Refusal :=
  s.unitRun unit fun w => w.sidBranch unit queue seq

/-- SID_CLEAR (06 R177). The partition's Siding segment on the die is emptied. -/
def execSidClear (unit queue seq : Nat) (s : State) : Host.Outcome State Fault Refusal :=
  s.unitRun unit fun w => w.sidClear unit queue seq

end Sys2Proof.Machine
end

