-- ==== Sys2Proof/Machine/SpareCmds.lean ====
section
/-! DEFINITION. The wheel-tap, positions, self-tests and cores: the meaning of each command of the table. -/

namespace Sys2Proof.Machine

/-- WHEEL_TAP (13 R371). The wheel-tap period ends, and the tile under the pointer is moved out and self-tested, or skipped. -/
def execWheelTap (die : Nat) (s : State) : Host.Outcome State Fault Refusal :=
  s.run (s.dev.dieRuns die && !s.dev.holds 7 die 0) fun v => v.doWork fun w => w.wheelTap die

/-- IDLE_WAIT_EXPIRY (13 R372). A tap finds no idle boundary within the idle wait, so it is withdrawn with SPR.WTDEFER. -/
def execIdleWaitExpiry (die : Nat) (s : State) : Host.Outcome State Fault Refusal :=
  s.run (s.dev.dieRuns die) fun v => v.doWork fun w => w.idleWait die

/-- POSITION_MOVE (13 R365). At the tile's idle boundary, a position and its state are copied to a spare tile. -/
def execPositionMove (die tile : Nat) (s : State) : Host.Outcome State Fault Refusal :=
  s.run (s.dev.dieRuns die) fun v => v.doWork fun w => w.positionMove die tile

/-- TILE_FENCE (13 R366). A write of GO to DOCK_WT_FENCE fences a tile, whose position then moves. -/
def execTileFence (route : Route) (die tile : Nat) (s : State) : Host.Outcome State Fault Refusal :=
  s.writeReg route (regAddr .DOCK_WT_FENCE die) (tile + 2 ^ 7)

/-- SELF_TEST_START (13 R374). A write of START to DOCK_ST_CMD runs a self-test on a unit, or is refused with SPR.STBUSY. -/
def execSelfTestStart (route : Route) (die data : Nat) (s : State) : Host.Outcome State Fault Refusal :=
  s.writeReg route (regAddr .DOCK_ST_CMD die) (data ||| 2 ^ 13)

/-- SELF_TEST_END (13 R375). A self-test ends, and its signature is compared, leading to PASS or to retirement or a fence. -/
def execSelfTestEnd (die : Nat) (byTap : Bool) (sigL sigM : Nat) (s : State) : Host.Outcome State Fault Refusal :=
  s.run (s.dev.dieRuns die) fun v => v.doWork fun w => w.selfTestEnd die byTap sigL sigM

/-- CORE_FAIL (13 R369). A host-class core fails, and the spare core takes its identity, or SPR.CORELOST is raised. -/
def execCoreFail (die core : Nat) (s : State) : Host.Outcome State Fault Refusal :=
  s.run (s.dev.dieRuns die) fun v => v.doWork fun w => w.coreFail die core

/-- WTDEFER_RETRY_EXPIRY (13 R372). One idle wait after a withdrawn tap, the tap of the same tile is tried again. -/
def execWtdeferRetryExpiry (die : Nat) (s : State) : Host.Outcome State Fault Refusal :=
  s.run (s.dev.dieRuns die && !s.dev.holds 7 die 0) fun v => v.doWork fun w => w.tapRetry die

end Sys2Proof.Machine
end

