-- ==== Sys2Proof/Machine/UpdateCmds.lean ====
section
/-! DEFINITION. The update units: the meaning of each command of the table. -/

namespace Sys2Proof.Machine

/-- UPD_APPLY (08 R215). An update unit runs a group's optimiser over the slices of a weight tensor on its stack. -/
def execUpdApply (unit queue seq : Nat) (s : State) : Host.Outcome State Fault Refusal :=
  s.unitRun unit fun w => w.updApply unit queue seq

/-- INTAKE_PIECE (08 R219). An intake piece of gradient is held, or discarded by its step tag and map, at the quartet pool. -/
def execIntakePiece (quartet : Nat) (s : State) : Host.Outcome State Fault Refusal :=
  s.run (s.dev.pwr.ready && !(upto 4 (8 + 4 * quartet)).any fun d => s.dev.holds 4 d 1) fun v => v.doWork fun w => w.intakePiece quartet

/-- INTAKE_LIMIT_EXPIRY (08 R220). A piece is held past UPD_INTAKE_LIMIT without becoming part of a ready slice, so UPD.UNMATCHED is raised. -/
def execIntakeLimitExpiry (quartet : Nat) (s : State) : Host.Outcome State Fault Refusal :=
  s.run s.dev.pwr.ready fun v => v.doWork fun w => w.intakeLimit quartet

/-- SLICE_UPDATE (08 R225). The lanes run the optimiser program over a ready slice and write its weights, ledger, moments and digest. -/
def execSliceUpdate (unit queue seq slice : Nat) (s : State) : Host.Outcome State Fault Refusal :=
  s.unitRun unit fun w => w.sliceUpdate unit queue seq slice

/-- FARWAIT_RETURN (08 R238). The far-tier state reads of a slice in a far-wait slot return, and the slice enters the lanes. -/
def execFarwaitReturn (unit queue seq slice : Nat) (s : State) : Host.Outcome State Fault Refusal :=
  s.unitRun unit fun w => w.farWaitReturn unit queue seq slice

/-- UPD_TIESUM (08 R240). An update unit adds the tie slots of a tied block in ascending use order. -/
def execUpdTiesum (unit queue seq : Nat) (s : State) : Host.Outcome State Fault Refusal :=
  s.unitRun unit fun w => w.tieSum unit queue seq

/-- UPD_EXPORT (08 R241). An update unit copies the state of its slices, with their digests, in working format. -/
def execUpdExport (unit queue seq : Nat) (s : State) : Host.Outcome State Fault Refusal :=
  s.unitRun unit fun w => w.updExport unit queue seq

end Sys2Proof.Machine
end

