-- ==== Sys2Proof/Machine/VectorCmds.lean ====
section
/-! DEFINITION. Data movement and the vector threads: the meaning of each command of the table. -/

namespace Sys2Proof.Machine

/-- LOAD (06 R163). A window of a memory tensor is copied into local store, either unchanged or converted by the Turntable. -/
def execLoad (unit queue seq : Nat) (s : State) : Host.Outcome State Fault Refusal :=
  s.unitRun unit fun w => w.whenFetched unit queue seq fun w => w.load unit queue seq

/-- STORE (06 R165). A local-store tensor and its scales are copied unchanged into a window of a memory tensor. -/
def execStore (unit queue seq : Nat) (s : State) : Host.Outcome State Fault Refusal :=
  s.unitRun unit fun w => w.whenFetched unit queue seq fun w => w.storeWb unit queue seq

/-- CONVERT (06 R166). The vector lanes convert a memory tensor element by element, and may record maxima or fold scales. -/
def execConvert (unit queue seq : Nat) (s : State) : Host.Outcome State Fault Refusal :=
  s.unitRun unit fun w => w.whenFetched unit queue seq fun w => w.convertWb unit queue seq

/-- THREADS (04 R127). The consists of a tile start at the entry PC, and the waybill completes when every thread has ended. -/
def execThreads (unit queue seq : Nat) (s : State) : Host.Outcome State Fault Refusal :=
  s.unitRun unit fun w => w.threads unit queue seq

/-- THREAD_INSTRUCTION (04 R129). A consist issues an RV32IMF instruction for its active threads. -/
def execThreadInstruction (unit consist : Nat) (s : State) : Host.Outcome State Fault Refusal :=
  s.run (s.dev.unitRuns unit) fun v => v.doWork fun w => w.threadInstruction unit consist

/-- ECALL (04 R127). A thread ends by executing ecall. -/
def execEcall (unit consist : Nat) (s : State) : Host.Outcome State Fault Refusal :=
  s.run (s.dev.unitRuns unit) fun v => v.doWork fun w => w.ecall unit consist

/-- FN_TWAIT (04 R130). A consist starts waiting until the tokens named by its active threads are present. -/
def execFnTwait (unit consist : Nat) (s : State) : Host.Outcome State Fault Refusal :=
  s.run (s.dev.unitRuns unit) fun v => v.doWork fun w => w.fnTwait unit consist

/-- FN_TWAIT_WAKE (04 R130). The awaited tokens are present, or the wait limit passes, so fn.twait returns 0 or 1. -/
def execFnTwaitWake (unit consist : Nat) (s : State) : Host.Outcome State Fault Refusal :=
  s.run (s.dev.unitRuns unit) fun v => v.doWork fun w => w.fnTwaitWake unit consist

/-- FN_TSIG (04 R130). A consist produces a token once its earlier stores are visible. -/
def execFnTsig (unit consist : Nat) (s : State) : Host.Outcome State Fault Refusal :=
  s.run (s.dev.unitRuns unit) fun v => v.doWork fun w => w.fnTsig unit consist

/-- FN_TPOLL (04 R130). A thread reads whether a token is present, without waiting. -/
def execFnTpoll (unit consist : Nat) (s : State) : Host.Outcome State Fault Refusal :=
  s.run (s.dev.unitRuns unit) fun v => v.doWork fun w => w.fnTpoll unit consist

/-- FN_CRED (04 R130). A thread reads the tile's credit balance for a port. -/
def execFnCred (unit consist : Nat) (s : State) : Host.Outcome State Fault Refusal :=
  s.run (s.dev.unitRuns unit) fun v => v.doWork fun w => w.fnCred unit consist

/-- FN_BSCALE (04 R130). A thread obtains the E8 scale that the output stage would choose for a block. -/
def execFnBscale (unit consist : Nat) (s : State) : Host.Outcome State Fault Refusal :=
  s.run (s.dev.unitRuns unit) fun v => v.doWork fun w => w.fnBscale unit consist

/-- FN_CVT (04 R130). A thread converts a scaled binary32 value to a narrow format and counts overflow and vanish. -/
def execFnCvt (unit consist : Nat) (s : State) : Host.Outcome State Fault Refusal :=
  s.run (s.dev.unitRuns unit) fun v => v.doWork fun w => w.fnCvt unit consist

/-- FN_DRAW (04 R130). A thread reads 32 bits of the counter generator. -/
def execFnDraw (unit consist : Nat) (s : State) : Host.Outcome State Fault Refusal :=
  s.run (s.dev.unitRuns unit) fun v => v.doWork fun w => w.fnDraw unit consist

/-- FN_SPUSH (06 R180). A consist appends bytes to the thread area of the open top Siding frame. -/
def execFnSpush (unit consist : Nat) (s : State) : Host.Outcome State Fault Refusal :=
  s.run (s.dev.unitRuns unit) fun v => v.doWork fun w => w.fnSpush unit consist

/-- FN_SPOP (06 R180). A consist removes the last bytes pushed from the thread area of the CLOSED top frame. -/
def execFnSpop (unit consist : Nat) (s : State) : Host.Outcome State Fault Refusal :=
  s.run (s.dev.unitRuns unit) fun v => v.doWork fun w => w.fnSpop unit consist

/-- FN_ACCRD (03 R95). A thread reads an element of a HELD accumulator set of its own partition, or receives zeros with ACC.BADREAD. -/
def execFnAccrd (unit consist : Nat) (s : State) : Host.Outcome State Fault Refusal :=
  s.run (s.dev.unitRuns unit) fun v => v.doWork fun w => w.fnAccrd unit consist

end Sys2Proof.Machine
end

