-- ==== Sys2Proof/Machine/WaybillCmds.lean ====
section
/-! DEFINITION. Queues, waybills, tokens, credits and aborts: the meaning of each command of the table. -/

namespace Sys2Proof.Machine

/-- DOCK_QCFG_WRITE (04 R101). A write to a queue's configuration enables or disables the queue, keeps the fields that are held while it is
enabled, and raises TOK.QBIND where R100 or R101 is broken. -/
def execDockQcfgWrite (route : Route) (queue data : Nat) (s : State) : Host.Outcome State Fault Refusal :=
  s.writeReg route (regAddr .DOCK_QCFG (cd (queue / 2048)) (queue % 2048)) data

/-- DOORBELL (04 R102). A write to DOCK_QTAIL publishes waybills, or stops the queue with TOK.QOVER, or is refused with TOK.DOORBELL. -/
def execDoorbell (route : Route) (queue data : Nat) (s : State) : Host.Outcome State Fault Refusal :=
  s.writeReg route (regAddr .DOCK_QTAIL (cd (queue / 2048)) (queue % 2048)) data

/-- WAYBILL_ACCEPT (04 R103). A unit with room in its intake window copies the waybill at HEAD of its next queue, advances HEAD and makes the
acceptance checks. -/
def execWaybillAccept (unit : Nat) (s : State) : Host.Outcome State Fault Refusal :=
  s.run (s.dev.unitAccepts unit) fun v => v.doWork fun w => w.acceptWaybill unit

/-- TOKEN_WATCH (04 R111). A token home receives a request to watch a token and replies at once if the token is present. -/
def execTokenWatch (unit queue seq part token : Nat) (s : State) : Host.Outcome State Fault Refusal :=
  s.run s.dev.pwr.ready fun v => v.doWork fun w => w.tokenWatch unit queue seq part token

/-- TOKEN_NOTICE (04 R111). A presence notice reaches a unit and counts toward making the waybill startable. -/
def execTokenNotice (unit queue seq part token : Nat) (s : State) : Host.Outcome State Fault Refusal :=
  s.run (s.dev.unitRuns unit) fun v => v.doWork fun w => w.tokenNotice unit queue seq part token

/-- WAYBILL_START (04 R111). The unit starts a startable waybill in acceptance order and spends its credit demands. -/
def execWaybillStart (unit : Nat) (s : State) : Host.Outcome State Fault Refusal :=
  s.run (s.dev.unitStarts unit) fun v => v.doWork fun w => w.startWaybill unit

/-- TOKEN_PRODUCE (04 R112). A token home marks a token present and notifies the units that watch it. -/
def execTokenProduce (part token : Nat) (s : State) : Host.Outcome State Fault Refusal :=
  s.run s.dev.pwr.ready fun v => v.doWork fun w => w.tokenProduce part token

/-- TOKEN_CLEAR (04 R113). A token home applies a clear message, and a clear that arrives in the same cycle as a produce applies first. -/
def execTokenClear (home : Nat) (s : State) : Host.Outcome State Fault Refusal :=
  s.run s.dev.pwr.ready fun v => v.doWork fun w => w.tokenClear home

/-- WAIT_LIMIT_EXPIRY (04 R114). An accepted waybill passes DOCK_QLIMIT without starting, so TOK.STARVE is raised and DOCK_QSTAT.STARVE is set. -/
def execWaitLimitExpiry (unit : Nat) (s : State) : Host.Outcome State Fault Refusal :=
  s.run (s.dev.unitRuns unit) fun v => v.doWork fun w => w.waitLimit unit

/-- DEADLINE_EXPIRY (04 R115). The timebase passes the DEADLINE of a waybill that has not started, so it completes EXPIRED without tokens. -/
def execDeadlineExpiry (unit : Nat) (s : State) : Host.Outcome State Fault Refusal :=
  s.run (s.dev.unitRuns unit) fun v => v.doWork fun w => w.deadlineExpiry unit

/-- CREDIT_RETURN (04 R116). A consumer frees buffer space and returns credits to the unit that spent them. -/
def execCreditReturn (s : State) : Host.Outcome State Fault Refusal :=
  s.run s.dev.pwr.ready fun v => v.doWork fun w => w.creditReturn

/-- WAYBILL_COMPLETE (04 R119). A unit ends a waybill, writes its completion record, reports the waybill's digest and produces its tokens. -/
def execWaybillComplete (unit queue seq : Nat) (s : State) : Host.Outcome State Fault Refusal :=
  s.unitRun unit fun w => w.completeWaybill unit queue seq

/-- ABORT_ONE (04 R122). A DOCK_QABORT write with ALL = 0 aborts the waybill SEQ and reports the result in ABORTRES. -/
def execAbortOne (route : Route) (queue seq : Nat) (s : State) : Host.Outcome State Fault Refusal :=
  s.writeReg route (regAddr .DOCK_QABORT (cd (queue / 2048)) (queue % 2048)) (seq * 2 ^ 16)

/-- ABORT_ALL (04 R122). A DOCK_QABORT write with ALL = 1 aborts SEQ and every later waybill published up to TAIL − 1. -/
def execAbortAll (route : Route) (queue seq : Nat) (s : State) : Host.Outcome State Fault Refusal :=
  s.writeReg route (regAddr .DOCK_QABORT (cd (queue / 2048)) (queue % 2048)) (seq * 2 ^ 16 + 1)

/-- ABORT_STOP (04 R122). A running aborted waybill reaches its unit's next boundary, stops and completes ABORTED. -/
def execAbortStop (unit queue seq : Nat) (s : State) : Host.Outcome State Fault Refusal :=
  s.unitRun unit fun w => w.abortStop unit queue seq

/-- NOP (04 R107). A waybill that does nothing but wait on tokens and produce them. -/
def execNop (unit queue seq : Nat) (s : State) : Host.Outcome State Fault Refusal :=
  s.unitRun unit fun w => w.nop unit queue seq

/-- TOKCLR (04 R107). A waybill that sends clear messages for a range of tokens. -/
def execTokclr (unit queue seq : Nat) (s : State) : Host.Outcome State Fault Refusal :=
  s.unitRun unit fun w => w.tokclr unit queue seq

/-- CREDIT_GRANT (04 R117). A consumer unit grants credits on one of its ports to a recipient unit. -/
def execCreditGrant (unit queue seq : Nat) (s : State) : Host.Outcome State Fault Refusal :=
  s.unitRun unit fun w => w.creditGrant w.base.updCapacity unit queue seq

/-- STEP (13 R378). The STEP waybill closes the partition's step: it closes the accumulators, refreshes scales, writes the records and advances
the step number. -/
def execStep (unit queue seq : Nat) (s : State) : Host.Outcome State Fault Refusal :=
  s.unitRun unit fun w => w.stepWb unit queue seq

end Sys2Proof.Machine
end

