-- ==== Sys2Proof/Machine/Dispatch.lean ====
section
/-! DEFINITION. One arm for each command. -/

namespace Sys2Proof.Machine

/-- The effect of a command on everything but the queue. -/
def exec (i : Instr) (s : State) : Host.Outcome State Fault Refusal :=
  match i with
  | .registerWrite route off size data => Sys2Proof.Machine.execRegisterWrite route off size data s
  | .rcRead route off size => Sys2Proof.Machine.execRcRead route off size s
  | .dockQcfgWrite route queue data => Sys2Proof.Machine.execDockQcfgWrite route queue data s
  | .doorbell route queue data => Sys2Proof.Machine.execDoorbell route queue data s
  | .waybillAccept unit => Sys2Proof.Machine.execWaybillAccept unit s
  | .tokenWatch unit queue seq part token => Sys2Proof.Machine.execTokenWatch unit queue seq part token s
  | .tokenNotice unit queue seq part token => Sys2Proof.Machine.execTokenNotice unit queue seq part token s
  | .waybillStart unit => Sys2Proof.Machine.execWaybillStart unit s
  | .tokenProduce part token => Sys2Proof.Machine.execTokenProduce part token s
  | .tokenClear home => Sys2Proof.Machine.execTokenClear home s
  | .waitLimitExpiry unit => Sys2Proof.Machine.execWaitLimitExpiry unit s
  | .deadlineExpiry unit => Sys2Proof.Machine.execDeadlineExpiry unit s
  | .creditReturn => Sys2Proof.Machine.execCreditReturn s
  | .waybillComplete unit queue seq => Sys2Proof.Machine.execWaybillComplete unit queue seq s
  | .abortOne route queue seq => Sys2Proof.Machine.execAbortOne route queue seq s
  | .abortAll route queue seq => Sys2Proof.Machine.execAbortAll route queue seq s
  | .abortStop unit queue seq => Sys2Proof.Machine.execAbortStop unit queue seq s
  | .mm unit queue seq upsets => Sys2Proof.Machine.execMm unit queue seq upsets s
  | .accDrain unit => Sys2Proof.Machine.execAccDrain unit s
  | .abftReplay unit queue seq upsets => Sys2Proof.Machine.execAbftReplay unit queue seq upsets s
  | .holdLimitExpiry unit => Sys2Proof.Machine.execHoldLimitExpiry unit s
  | .fillerSpill unit => Sys2Proof.Machine.execFillerSpill unit s
  | .spillWritebackEnd unit => Sys2Proof.Machine.execSpillWritebackEnd unit s
  | .spillSlowExpiry unit => Sys2Proof.Machine.execSpillSlowExpiry unit s
  | .fillerResume unit => Sys2Proof.Machine.execFillerResume unit s
  | .lendWaitExpiry unit => Sys2Proof.Machine.execLendWaitExpiry unit s
  | .load unit queue seq => Sys2Proof.Machine.execLoad unit queue seq s
  | .store unit queue seq => Sys2Proof.Machine.execStore unit queue seq s
  | .convert unit queue seq => Sys2Proof.Machine.execConvert unit queue seq s
  | .threads unit queue seq => Sys2Proof.Machine.execThreads unit queue seq s
  | .threadInstruction unit consist => Sys2Proof.Machine.execThreadInstruction unit consist s
  | .ecall unit consist => Sys2Proof.Machine.execEcall unit consist s
  | .fnTwait unit consist => Sys2Proof.Machine.execFnTwait unit consist s
  | .fnTwaitWake unit consist => Sys2Proof.Machine.execFnTwaitWake unit consist s
  | .fnTsig unit consist => Sys2Proof.Machine.execFnTsig unit consist s
  | .fnTpoll unit consist => Sys2Proof.Machine.execFnTpoll unit consist s
  | .fnCred unit consist => Sys2Proof.Machine.execFnCred unit consist s
  | .fnBscale unit consist => Sys2Proof.Machine.execFnBscale unit consist s
  | .fnCvt unit consist => Sys2Proof.Machine.execFnCvt unit consist s
  | .fnDraw unit consist => Sys2Proof.Machine.execFnDraw unit consist s
  | .fnSpush unit consist => Sys2Proof.Machine.execFnSpush unit consist s
  | .fnSpop unit consist => Sys2Proof.Machine.execFnSpop unit consist s
  | .fnAccrd unit consist => Sys2Proof.Machine.execFnAccrd unit consist s
  | .sidOpen unit queue seq => Sys2Proof.Machine.execSidOpen unit queue seq s
  | .sidCarPush unit queue seq => Sys2Proof.Machine.execSidCarPush unit queue seq s
  | .sidClose unit queue seq => Sys2Proof.Machine.execSidClose unit queue seq s
  | .sidCarPop unit queue seq => Sys2Proof.Machine.execSidCarPop unit queue seq s
  | .sidRelease unit queue seq => Sys2Proof.Machine.execSidRelease unit queue seq s
  | .sidBranch unit queue seq => Sys2Proof.Machine.execSidBranch unit queue seq s
  | .sidClear unit queue seq => Sys2Proof.Machine.execSidClear unit queue seq s
  | .statfeed unit queue seq upsets => Sys2Proof.Machine.execStatfeed unit queue seq upsets s
  | .precond unit queue seq upsets => Sys2Proof.Machine.execPrecond unit queue seq upsets s
  | .crvFold unit queue seq => Sys2Proof.Machine.execCrvFold unit queue seq s
  | .crvRoot unit queue seq => Sys2Proof.Machine.execCrvRoot unit queue seq s
  | .crvInv unit queue seq => Sys2Proof.Machine.execCrvInv unit queue seq s
  | .timetableInstall route engine => Sys2Proof.Machine.execTimetableInstall route engine s
  | .timetableInstallEnd engine => Sys2Proof.Machine.execTimetableInstallEnd engine s
  | .deltaPiece engine => Sys2Proof.Machine.execDeltaPiece engine s
  | .pieceFold engine => Sys2Proof.Machine.execPieceFold engine s
  | .feedLimitExpiry engine => Sys2Proof.Machine.execFeedLimitExpiry engine s
  | .blockRefresh unit queue seq stop => Sys2Proof.Machine.execBlockRefresh unit queue seq stop s
  | .rootPublish engine => Sys2Proof.Machine.execRootPublish engine s
  | .updApply unit queue seq => Sys2Proof.Machine.execUpdApply unit queue seq s
  | .intakePiece quartet => Sys2Proof.Machine.execIntakePiece quartet s
  | .intakeLimitExpiry quartet => Sys2Proof.Machine.execIntakeLimitExpiry quartet s
  | .sliceUpdate unit queue seq slice => Sys2Proof.Machine.execSliceUpdate unit queue seq slice s
  | .farwaitReturn unit queue seq slice => Sys2Proof.Machine.execFarwaitReturn unit queue seq slice s
  | .updTiesum unit queue seq => Sys2Proof.Machine.execUpdTiesum unit queue seq s
  | .updExport unit queue seq => Sys2Proof.Machine.execUpdExport unit queue seq s
  | .ringSend unit queue seq => Sys2Proof.Machine.execRingSend unit queue seq s
  | .ringRelay unit queue seq => Sys2Proof.Machine.execRingRelay unit queue seq s
  | .ringReduce unit queue seq => Sys2Proof.Machine.execRingReduce unit queue seq s
  | .ringDigest unit queue seq => Sys2Proof.Machine.execRingDigest unit queue seq s
  | .ringReshard unit queue seq => Sys2Proof.Machine.execRingReshard unit queue seq s
  | .ckptOpen unit queue seq => Sys2Proof.Machine.execCkptOpen unit queue seq s
  | .ckptCopy unit queue seq => Sys2Proof.Machine.execCkptCopy unit queue seq s
  | .ckptRestore unit queue seq => Sys2Proof.Machine.execCkptRestore unit queue seq s
  | .ckptCommit unit queue seq => Sys2Proof.Machine.execCkptCommit unit queue seq s
  | .nop unit queue seq => Sys2Proof.Machine.execNop unit queue seq s
  | .tokclr unit queue seq => Sys2Proof.Machine.execTokclr unit queue seq s
  | .creditGrant unit queue seq => Sys2Proof.Machine.execCreditGrant unit queue seq s
  | .step unit queue seq => Sys2Proof.Machine.execStep unit queue seq s
  | .stackRead op addr n => Sys2Proof.Machine.execStackRead op addr n s
  | .rowSpareEnd stack bank => Sys2Proof.Machine.execRowSpareEnd stack bank s
  | .pcCopyEnd stack pc => Sys2Proof.Machine.execPcCopyEnd stack pc s
  | .stackLost stack => Sys2Proof.Machine.execStackLost stack s
  | .stackWrite op addr bytes bad => Sys2Proof.Machine.execStackWrite op addr bytes bad s
  | .blockWrite op addr bytes bad => Sys2Proof.Machine.execBlockWrite op addr bytes bad s
  | .ticketNotify stack bank => Sys2Proof.Machine.execTicketNotify stack bank s
  | .hotbankDwellExpiry stack bank => Sys2Proof.Machine.execHotbankDwellExpiry stack bank s
  | .slotfullDwellExpiry stack => Sys2Proof.Machine.execSlotfullDwellExpiry stack s
  | .patrolScrub stack off err => Sys2Proof.Machine.execPatrolScrub stack off err s
  | .prefetchFetch unit => Sys2Proof.Machine.execPrefetchFetch unit s
  | .generationCheckReturn unit queue seq addr => Sys2Proof.Machine.execGenerationCheckReturn unit queue seq addr s
  | .farRequestIssue link => Sys2Proof.Machine.execFarRequestIssue link s
  | .farCompletion link request data => Sys2Proof.Machine.execFarCompletion link request data s
  | .amaxRecord during => Sys2Proof.Machine.execAmaxRecord during s
  | .amaxHeldApply => Sys2Proof.Machine.execAmaxHeldApply s
  | .watchReport during => Sys2Proof.Machine.execWatchReport during s
  | .hstepWrite route part value => Sys2Proof.Machine.execHstepWrite route part value s
  | .wavelengthSpare engine fibre lane => Sys2Proof.Machine.execWavelengthSpare engine fibre lane s
  | .laserState laser present alarm power => Sys2Proof.Machine.execLaserState laser present alarm power s
  | .linkTrain engine fibres lanes => Sys2Proof.Machine.execLinkTrain engine fibres lanes s
  | .trainRetryExpiry engine => Sys2Proof.Machine.execTrainRetryExpiry engine s
  | .linkDown engine => Sys2Proof.Machine.execLinkDown engine s
  | .linkRecoveryExpiry engine => Sys2Proof.Machine.execLinkRecoveryExpiry engine s
  | .dataFrame engine bytes body => Sys2Proof.Machine.execDataFrame engine bytes body s
  | .creditFrame engine bytes body => Sys2Proof.Machine.execCreditFrame engine bytes body s
  | .creditFrameSend engine => Sys2Proof.Machine.execCreditFrameSend engine s
  | .retryFrame engine bytes body => Sys2Proof.Machine.execRetryFrame engine bytes body s
  | .trainFrame engine bytes body => Sys2Proof.Machine.execTrainFrame engine bytes body s
  | .testFrame engine bytes body => Sys2Proof.Machine.execTestFrame engine bytes body s
  | .epochEndFrame engine bytes body => Sys2Proof.Machine.execEpochEndFrame engine bytes body s
  | .epochBeginFrame engine bytes body => Sys2Proof.Machine.execEpochBeginFrame engine bytes body s
  | .controlFrame engine bytes body => Sys2Proof.Machine.execControlFrame engine bytes body s
  | .matchLimitExpiry => Sys2Proof.Machine.execMatchLimitExpiry s
  | .epochWaitExpiry => Sys2Proof.Machine.execEpochWaitExpiry s
  | .ringBypassWrite route join => Sys2Proof.Machine.execRingBypassWrite route join s
  | .couplerSense opened => Sys2Proof.Machine.execCouplerSense opened s
  | .fuStart route die job => Sys2Proof.Machine.execFuStart route die job s
  | .fuStop route die job => Sys2Proof.Machine.execFuStop route die job s
  | .fuJobEnd die job => Sys2Proof.Machine.execFuJobEnd die job s
  | .fuJobError die job far => Sys2Proof.Machine.execFuJobError die job far s
  | .d2dLinkFail die other => Sys2Proof.Machine.execD2dLinkFail die other s
  | .wheelTap die => Sys2Proof.Machine.execWheelTap die s
  | .idleWaitExpiry die => Sys2Proof.Machine.execIdleWaitExpiry die s
  | .positionMove die tile => Sys2Proof.Machine.execPositionMove die tile s
  | .tileFence route die tile => Sys2Proof.Machine.execTileFence route die tile s
  | .selfTestStart route die data => Sys2Proof.Machine.execSelfTestStart route die data s
  | .selfTestEnd die byTap sigL sigM => Sys2Proof.Machine.execSelfTestEnd die byTap sigL sigM s
  | .coreFail die core => Sys2Proof.Machine.execCoreFail die core s
  | .dbStepWrite route part data => Sys2Proof.Machine.execDbStepWrite route part data s
  | .dbReplayWrite route part data => Sys2Proof.Machine.execDbReplayWrite route part data s
  | .configRequest link req => Sys2Proof.Machine.execConfigRequest link req s
  | .dockHostRead link off n err stays => Sys2Proof.Machine.execDockHostRead link off n err stays s
  | .dockHostWrite link off bytes bad err stays => Sys2Proof.Machine.execDockHostWrite link off bytes bad err stays s
  | .functionLevelReset link => Sys2Proof.Machine.execFunctionLevelReset link s
  | .linkHotReset link train => Sys2Proof.Machine.execLinkHotReset link train s
  | .d3hotToD0 link => Sys2Proof.Machine.execD3hotToD0 link s
  | .perstAssert port => Sys2Proof.Machine.execPerstAssert port s
  | .ptLockRequest route => Sys2Proof.Machine.execPtLockRequest route s
  | .bayCommand route part data => Sys2Proof.Machine.execBayCommand route part data s
  | .bayQuery route part bay => Sys2Proof.Machine.execBayQuery route part bay s
  | .bayTagInForce part die => Sys2Proof.Machine.execBayTagInForce part die s
  | .bayresRead route part => Sys2Proof.Machine.execBayresRead route part s
  | .mbxDataWrite route channel dir word data => Sys2Proof.Machine.execMbxDataWrite route channel dir word data s
  | .mbxSend route channel dir data => Sys2Proof.Machine.execMbxSend route channel dir data s
  | .mbxAck route channel dir data => Sys2Proof.Machine.execMbxAck route channel dir data s
  | .mbxTimeout channel dir => Sys2Proof.Machine.execMbxTimeout channel dir s
  | .mbxDomainDown master => Sys2Proof.Machine.execMbxDomainDown master s
  | .hello head => Sys2Proof.Machine.execHello head s
  | .auth head role cnonce proof => Sys2Proof.Machine.execAuth head role cnonce proof s
  | .close head => Sys2Proof.Machine.execClose head s
  | .read head index sub offset maxlen => Sys2Proof.Machine.execRead head index sub offset maxlen s
  | .write head index sub type value env => Sys2Proof.Machine.execWrite head index sub type value env s
  | .describe head index sub => Sys2Proof.Machine.execDescribe head index sub s
  | .list head index sub => Sys2Proof.Machine.execList head index sub s
  | .fwBegin head length env => Sys2Proof.Machine.execFwBegin head length env s
  | .fwData head offset data env => Sys2Proof.Machine.execFwData head offset data env s
  | .fwEnd head env => Sys2Proof.Machine.execFwEnd head env s
  | .sessionIdleExpiry session => Sys2Proof.Machine.execSessionIdleExpiry session s
  | .nonceExpiry transport source => Sys2Proof.Machine.execNonceExpiry transport source s
  | .lockoutExpiry => Sys2Proof.Machine.execLockoutExpiry s
  | .neighborSolicitation source target extension => Sys2Proof.Machine.execNeighborSolicitation source target extension s
  | .echoRequest source target data extension => Sys2Proof.Machine.execEchoRequest source target data extension s
  | .i3cCcc code => Sys2Proof.Machine.execI3cCcc code s
  | .unitFenceRequest head die kind unit env => Sys2Proof.Machine.execUnitFenceRequest head die kind unit env s
  | .unitFailRequest head die kind unit env => Sys2Proof.Machine.execUnitFailRequest head die kind unit env s
  | .unitServiceRequest head die kind unit env => Sys2Proof.Machine.execUnitServiceRequest head die kind unit env s
  | .divergenceExpiry index sub => Sys2Proof.Machine.execDivergenceExpiry index sub s
  | .eventNoticeCoalesce part => Sys2Proof.Machine.execEventNoticeCoalesce part s
  | .deviceStateRequest head state env => Sys2Proof.Machine.execDeviceStateRequest head state env s
  | .dieStateRequest head die state env => Sys2Proof.Machine.execDieStateRequest head die state env s
  | .handshakeReask cores => Sys2Proof.Machine.execHandshakeReask cores s
  | .handshakeTimeout => Sys2Proof.Machine.execHandshakeTimeout s
  | .avsResponse bus reply => Sys2Proof.Machine.execAvsResponse bus reply s
  | .avsResendExpiry bus => Sys2Proof.Machine.execAvsResendExpiry bus s
  | .railDoneExpiry bus => Sys2Proof.Machine.execRailDoneExpiry bus s
  | .railTelemetry rail mv amps => Sys2Proof.Machine.execRailTelemetry rail mv amps s
  | .bringupStageReady die => Sys2Proof.Machine.execBringupStageReady die s
  | .bringupStageTimeout die => Sys2Proof.Machine.execBringupStageTimeout die s
  | .holdWake event => Sys2Proof.Machine.execHoldWake event s
  | .dozeDwellExpiry die domain => Sys2Proof.Machine.execDozeDwellExpiry die domain s
  | .temperatureWarning die t => Sys2Proof.Machine.execTemperatureWarning die t s
  | .thermalTrip die t => Sys2Proof.Machine.execThermalTrip die t s
  | .powerOn => Sys2Proof.Machine.execPowerOn s
  | .sysRstN => Sys2Proof.Machine.execSysRstN s
  | .warmRstN => Sys2Proof.Machine.execWarmRstN s
  | .resetCmdWarm route => Sys2Proof.Machine.execResetCmdWarm route s
  | .resetCmdPartition route part => Sys2Proof.Machine.execResetCmdPartition route part s
  | .resetCmdDie route die => Sys2Proof.Machine.execResetCmdDie route die s
  | .resetCmdTile route die tile => Sys2Proof.Machine.execResetCmdTile route die tile s
  | .resetCmdCold route => Sys2Proof.Machine.execResetCmdCold route s
  | .vauxLow mv => Sys2Proof.Machine.execVauxLow mv s
  | .vddioMgtLow => Sys2Proof.Machine.execVddioMgtLow s
  | .pmcValRead route die counter => Sys2Proof.Machine.execPmcValRead route die counter s
  | .counterGrant head part value env => Sys2Proof.Machine.execCounterGrant head part value env s
  | .counterControl head part value env => Sys2Proof.Machine.execCounterControl head part value env s
  | .counterClear head part value env => Sys2Proof.Machine.execCounterClear head part value env s
  | .perstDeassert port bifur train => Sys2Proof.Machine.execPerstDeassert port bifur train s
  | .vddioMgtReturn => Sys2Proof.Machine.execVddioMgtReturn s
  | .vddAonLoss => Sys2Proof.Machine.execVddAonLoss s
  | .laserModuleRestored laser power => Sys2Proof.Machine.execLaserModuleRestored laser power s
  | .temperatureWarningEnd die t => Sys2Proof.Machine.execTemperatureWarningEnd die t s
  | .refreshDeadlineExpiry unit queue seq => Sys2Proof.Machine.execRefreshDeadlineExpiry unit queue seq s
  | .wtdeferRetryExpiry die => Sys2Proof.Machine.execWtdeferRetryExpiry die s
  | .farCompletionTimeout link request => Sys2Proof.Machine.execFarCompletionTimeout link request s

end Sys2Proof.Machine
end

