-- ==== Sys2Proof/WellFormed.lean ====
section
/-! DEFINITION. Which commands name things that exist: units, queues, partitions, dies, engines, links and offsets within the ranges of the manual.
`exec` is total and does not ask for it. -/

namespace Sys2Proof

open Machine

/-- A unit of a kind (04 R98). -/
def kindIs (k : UnitKind) (id : Nat) : Bool := (unitOf id).any fun u => u.1 == k

/-- A die that holds free check units: a compute die or an I/O die (12 R342). -/
def freeUnitDie (d : Nat) : Bool := decide (d < 8 ∨ (40 ≤ d ∧ d < 44))

/-- A route of an access: an identity that requests carry, or a link (01 R20 to R23, 14 R400). -/
def routeOk (r : Route) : Bool :=
  match r with
  | .master m => liveMaster m
  | .bar0 l => decide (l < 8)
  | .bar4 l => decide (l < 8)

/-- A memory request whose identity, partition, die and link exist (01 R20 to R23). -/
def memOpOk (o : MemOp) : Bool :=
  liveMaster o.master && decide (o.die < 44 ∧ o.unit < 256) && o.part.all (fun p => decide (p < 8))
    && (match o.requester with
      | .core mode => decide (mode < 3)
      | .port l => decide (l < 8)
      | _ => true)

/-- A header of the Catalogue protocol: a transport that exists, and fields within their widths (15 R438 to R442). -/
def headOk (h : ReqHead) : Bool :=
  decide (1 ≤ h.transport ∧ h.transport ≤ 3 ∧ h.ver < 256 ∧ h.txid < 2 ^ 16 ∧ h.session < 2 ^ 16 ∧ h.port < 2 ^ 16 ∧ h.source.length = 16)
    && (h.transport != 1 || h.dest.length == 16) && h.frags.all fun f => decide (f.1 < 2 ^ 16 ∧ f.2.1 < 2 ^ 16)

/-- A command names what exists. -/
def Instr.wf : Instr → Bool
  | .registerWrite route off size data => routeOk route && decide (off < 2 ^ 52) && decide (size ≤ 8) && decide (data < 2 ^ 64)
  | .rcRead route off size => routeOk route && decide (off < 2 ^ 52) && decide (size ≤ 8)
  | .dockQcfgWrite route queue data => routeOk route && decide (queue < 16384) && decide (data < 2 ^ 64)
  | .doorbell route queue data => routeOk route && decide (queue < 16384) && decide (data < 2 ^ 64)
  | .waybillAccept unit => (unitOf unit).isSome
  | .tokenWatch unit queue seq part token => (unitOf unit).isSome && decide (queue < 16384) && decide (seq < 2 ^ 32) && decide (part < 8) && decide (token < 2 ^ 24)
  | .tokenNotice unit queue seq part token => (unitOf unit).isSome && decide (queue < 16384) && decide (seq < 2 ^ 32) && decide (part < 8) && decide (token < 2 ^ 24)
  | .waybillStart unit => (unitOf unit).isSome
  | .tokenProduce part token => decide (part < 8) && decide (token < 2 ^ 24)
  | .tokenClear home => decide (home < 8)
  | .waitLimitExpiry unit => (unitOf unit).isSome
  | .deadlineExpiry unit => (unitOf unit).isSome
  | .creditReturn => true
  | .waybillComplete unit queue seq => (unitOf unit).isSome && decide (queue < 16384) && decide (seq < 2 ^ 32)
  | .abortOne route queue seq => routeOk route && decide (queue < 16384) && decide (seq < 2 ^ 32)
  | .abortAll route queue seq => routeOk route && decide (queue < 16384) && decide (seq < 2 ^ 32)
  | .abortStop unit queue seq => (unitOf unit).isSome && decide (queue < 16384) && decide (seq < 2 ^ 32)
  | .mm unit queue seq _ => kindIs .tile unit && decide (queue < 16384) && decide (seq < 2 ^ 32)
  | .accDrain unit => kindIs .tile unit
  | .abftReplay unit queue seq _ => kindIs .tile unit && decide (queue < 16384) && decide (seq < 2 ^ 32)
  | .holdLimitExpiry unit => kindIs .tile unit
  | .fillerSpill unit => kindIs .tile unit
  | .spillWritebackEnd unit => kindIs .tile unit
  | .spillSlowExpiry unit => kindIs .tile unit
  | .fillerResume unit => kindIs .tile unit
  | .lendWaitExpiry unit => kindIs .tile unit
  | .load unit queue seq => kindIs .tile unit && decide (queue < 16384) && decide (seq < 2 ^ 32)
  | .store unit queue seq => kindIs .tile unit && decide (queue < 16384) && decide (seq < 2 ^ 32)
  | .convert unit queue seq => kindIs .tile unit && decide (queue < 16384) && decide (seq < 2 ^ 32)
  | .threads unit queue seq => kindIs .tile unit && decide (queue < 16384) && decide (seq < 2 ^ 32)
  | .threadInstruction unit consist => kindIs .tile unit && decide (consist < 128)
  | .ecall unit consist => kindIs .tile unit && decide (consist < 128)
  | .fnTwait unit consist => kindIs .tile unit && decide (consist < 128)
  | .fnTwaitWake unit consist => kindIs .tile unit && decide (consist < 128)
  | .fnTsig unit consist => kindIs .tile unit && decide (consist < 128)
  | .fnTpoll unit consist => kindIs .tile unit && decide (consist < 128)
  | .fnCred unit consist => kindIs .tile unit && decide (consist < 128)
  | .fnBscale unit consist => kindIs .tile unit && decide (consist < 128)
  | .fnCvt unit consist => kindIs .tile unit && decide (consist < 128)
  | .fnDraw unit consist => kindIs .tile unit && decide (consist < 128)
  | .fnSpush unit consist => kindIs .tile unit && decide (consist < 128)
  | .fnSpop unit consist => kindIs .tile unit && decide (consist < 128)
  | .fnAccrd unit consist => kindIs .tile unit && decide (consist < 128)
  | .sidOpen unit queue seq => kindIs .tile unit && decide (queue < 16384) && decide (seq < 2 ^ 32)
  | .sidCarPush unit queue seq => kindIs .tile unit && decide (queue < 16384) && decide (seq < 2 ^ 32)
  | .sidClose unit queue seq => kindIs .tile unit && decide (queue < 16384) && decide (seq < 2 ^ 32)
  | .sidCarPop unit queue seq => kindIs .tile unit && decide (queue < 16384) && decide (seq < 2 ^ 32)
  | .sidRelease unit queue seq => kindIs .tile unit && decide (queue < 16384) && decide (seq < 2 ^ 32)
  | .sidBranch unit queue seq => kindIs .tile unit && decide (queue < 16384) && decide (seq < 2 ^ 32)
  | .sidClear unit queue seq => kindIs .tile unit && decide (queue < 16384) && decide (seq < 2 ^ 32)
  | .statfeed unit queue seq _ => kindIs .tile unit && decide (queue < 16384) && decide (seq < 2 ^ 32)
  | .precond unit queue seq _ => kindIs .tile unit && decide (queue < 16384) && decide (seq < 2 ^ 32)
  | .crvFold unit queue seq => kindIs .crv unit && decide (queue < 16384) && decide (seq < 2 ^ 32)
  | .crvRoot unit queue seq => kindIs .crv unit && decide (queue < 16384) && decide (seq < 2 ^ 32)
  | .crvInv unit queue seq => kindIs .crv unit && decide (queue < 16384) && decide (seq < 2 ^ 32)
  | .timetableInstall route engine => routeOk route && decide (engine < 32)
  | .timetableInstallEnd engine => decide (engine < 32)
  | .deltaPiece engine => decide (engine < 32)
  | .pieceFold engine => decide (engine < 32)
  | .feedLimitExpiry engine => decide (engine < 32)
  | .blockRefresh unit queue seq _ => kindIs .crv unit && decide (queue < 16384) && decide (seq < 2 ^ 32)
  | .rootPublish engine => decide (engine < 32)
  | .updApply unit queue seq => kindIs .upd unit && decide (queue < 16384) && decide (seq < 2 ^ 32)
  | .intakePiece quartet => decide (quartet < 8)
  | .intakeLimitExpiry quartet => decide (quartet < 8)
  | .sliceUpdate unit queue seq slice => kindIs .upd unit && decide (queue < 16384) && decide (seq < 2 ^ 32) && decide (slice < 2 ^ 32)
  | .farwaitReturn unit queue seq slice => kindIs .upd unit && decide (queue < 16384) && decide (seq < 2 ^ 32) && decide (slice < 2 ^ 32)
  | .updTiesum unit queue seq => kindIs .upd unit && decide (queue < 16384) && decide (seq < 2 ^ 32)
  | .updExport unit queue seq => kindIs .upd unit && decide (queue < 16384) && decide (seq < 2 ^ 32)
  | .ringSend unit queue seq => kindIs .ring unit && decide (queue < 16384) && decide (seq < 2 ^ 32)
  | .ringRelay unit queue seq => kindIs .ring unit && decide (queue < 16384) && decide (seq < 2 ^ 32)
  | .ringReduce unit queue seq => kindIs .ring unit && decide (queue < 16384) && decide (seq < 2 ^ 32)
  | .ringDigest unit queue seq => kindIs .ring unit && decide (queue < 16384) && decide (seq < 2 ^ 32)
  | .ringReshard unit queue seq => kindIs .ring unit && decide (queue < 16384) && decide (seq < 2 ^ 32)
  | .ckptOpen unit queue seq => kindIs .ckpt unit && decide (queue < 16384) && decide (seq < 2 ^ 32)
  | .ckptCopy unit queue seq => kindIs .ckpt unit && decide (queue < 16384) && decide (seq < 2 ^ 32)
  | .ckptRestore unit queue seq => kindIs .ckpt unit && decide (queue < 16384) && decide (seq < 2 ^ 32)
  | .ckptCommit unit queue seq => kindIs .ckpt unit && decide (queue < 16384) && decide (seq < 2 ^ 32)
  | .nop unit queue seq => (unitOf unit).isSome && decide (queue < 16384) && decide (seq < 2 ^ 32)
  | .tokclr unit queue seq => (unitOf unit).isSome && decide (queue < 16384) && decide (seq < 2 ^ 32)
  | .creditGrant unit queue seq => (unitOf unit).isSome && decide (queue < 16384) && decide (seq < 2 ^ 32)
  | .step unit queue seq => (unitOf unit).isSome && decide (queue < 16384) && decide (seq < 2 ^ 32)
  | .stackRead op addr n => memOpOk op && decide (addr < 2 ^ 52) && decide (n < 2 ^ 32)
  | .rowSpareEnd stack bank => decide (stack < 32) && decide (bank < 4096)
  | .pcCopyEnd stack pc => decide (stack < 32) && decide (pc < 64)
  | .stackLost stack => decide (stack < 32)
  | .stackWrite op addr _ _ => memOpOk op && decide (addr < 2 ^ 52)
  | .blockWrite op addr _ _ => memOpOk op && decide (addr < 2 ^ 52)
  | .ticketNotify stack bank => decide (stack < 32) && decide (bank < 4096)
  | .hotbankDwellExpiry stack bank => decide (stack < 32) && decide (bank < 4096)
  | .slotfullDwellExpiry stack => decide (stack < 32)
  | .patrolScrub stack off _ => decide (stack < 32) && decide (off < 2 ^ 52)
  | .prefetchFetch unit => kindIs .tile unit
  | .generationCheckReturn unit queue seq addr => kindIs .tile unit && decide (queue < 16384) && decide (seq < 2 ^ 32) && decide (addr < 2 ^ 52)
  | .farRequestIssue link => decide (link < 8)
  | .farCompletion link _ _ => decide (link < 8)
  | .amaxRecord _ => true
  | .amaxHeldApply => true
  | .watchReport _ => true
  | .hstepWrite route part value => routeOk route && decide (part < 8) && decide (value < 2 ^ 32)
  | .wavelengthSpare engine fibre lane => decide (engine < 16) && decide (fibre < 4) && decide (lane < 9)
  | .laserState laser _ _ _ => decide (laser < 8)
  | .linkTrain engine _ _ => decide (engine < 16)
  | .trainRetryExpiry engine => decide (engine < 16)
  | .linkDown engine => decide (engine < 16)
  | .linkRecoveryExpiry engine => decide (engine < 16)
  | .dataFrame engine _ _ => decide (engine < 16)
  | .creditFrame engine _ _ => decide (engine < 16)
  | .creditFrameSend engine => decide (engine < 16)
  | .retryFrame engine _ _ => decide (engine < 16)
  | .trainFrame engine _ _ => decide (engine < 16)
  | .testFrame engine _ _ => decide (engine < 16)
  | .epochEndFrame engine _ _ => decide (engine < 16)
  | .epochBeginFrame engine _ _ => decide (engine < 16)
  | .controlFrame engine _ _ => decide (engine < 16)
  | .matchLimitExpiry => true
  | .epochWaitExpiry => true
  | .ringBypassWrite route _ => routeOk route
  | .couplerSense _ => true
  | .fuStart route die job => routeOk route && freeUnitDie die && decide (job < 8)
  | .fuStop route die job => routeOk route && freeUnitDie die && decide (job < 8)
  | .fuJobEnd die job => freeUnitDie die && decide (job < 8)
  | .fuJobError die job _ => freeUnitDie die && decide (job < 8)
  | .d2dLinkFail die other => decide (die < 44) && decide (other < 7)
  | .wheelTap die => decide (die < 8)
  | .idleWaitExpiry die => decide (die < 8)
  | .positionMove die tile => decide (die < 8) && decide (tile < 68)
  | .tileFence route die tile => routeOk route && decide (die < 8) && decide (tile < 68)
  | .selfTestStart route die data => routeOk route && decide (die < 44) && decide (data < 2 ^ 64)
  | .selfTestEnd die _ sigL sigM => decide (die < 44) && decide (sigL < 2 ^ 64) && decide (sigM < 2 ^ 64)
  | .coreFail die core => decide (die < 8) && decide (core < 9)
  | .dbStepWrite route part data => routeOk route && decide (part < 8) && decide (data < 2 ^ 64)
  | .dbReplayWrite route part data => routeOk route && decide (part < 8) && decide (data < 2 ^ 64)
  | .configRequest link _ => decide (link < 8)
  | .dockHostRead link off n _ _ => decide (link < 8) && decide (off < 2 ^ 52) && decide (n < 2 ^ 32)
  | .dockHostWrite link off _ _ _ _ => decide (link < 8) && decide (off < 2 ^ 52)
  | .functionLevelReset link => decide (link < 8)
  | .linkHotReset link _ => decide (link < 8)
  | .d3hotToD0 link => decide (link < 8)
  | .perstAssert port => decide (port < 4)
  | .ptLockRequest route => routeOk route
  | .bayCommand route part data => routeOk route && decide (part < 8) && decide (data < 2 ^ 64)
  | .bayQuery route part bay => routeOk route && decide (part < 8) && decide (bay < 2 ^ 15)
  | .bayTagInForce part die => decide (part < 8) && decide (die < 4)
  | .bayresRead route part => routeOk route && decide (part < 8)
  | .mbxDataWrite route channel dir word data => routeOk route && decide (channel < 256) && decide (dir < 2) && decide (word < 7) && decide (data < 2 ^ 64)
  | .mbxSend route channel dir data => routeOk route && decide (channel < 256) && decide (dir < 2) && decide (data < 2 ^ 64)
  | .mbxAck route channel dir data => routeOk route && decide (channel < 256) && decide (dir < 2) && decide (data < 2 ^ 64)
  | .mbxTimeout channel dir => decide (channel < 256) && decide (dir < 2)
  | .mbxDomainDown master => decide (master < 256)
  | .hello head => headOk head
  | .auth head role _ _ => headOk head && decide (role < 256)
  | .close head => headOk head
  | .read head index sub offset maxlen => headOk head && decide (index < 65536) && decide (sub < 256) && decide (offset < 2 ^ 32) && decide (maxlen < 2 ^ 32)
  | .write head index sub _ _ _ => headOk head && decide (index < 65536) && decide (sub < 256)
  | .describe head index sub => headOk head && decide (index < 65536) && decide (sub < 256)
  | .list head index sub => headOk head && decide (index < 65536) && decide (sub < 256)
  | .fwBegin head length _ => headOk head && decide (length < 2 ^ 32)
  | .fwData head offset _ _ => headOk head && decide (offset < 2 ^ 32)
  | .fwEnd head _ => headOk head
  | .sessionIdleExpiry _ => true
  | .nonceExpiry transport _ => decide (transport < 256)
  | .lockoutExpiry => true
  | .neighborSolicitation _ _ _ => true
  | .echoRequest _ _ _ _ => true
  | .i3cCcc _ => true
  | .unitFenceRequest head die kind unit _ => headOk head && decide (die < 44) && decide (kind < 4) && decide (unit < 128)
  | .unitFailRequest head die kind unit _ => headOk head && decide (die < 44) && decide (kind < 4) && decide (unit < 128)
  | .unitServiceRequest head die kind unit _ => headOk head && decide (die < 44) && decide (kind < 4) && decide (unit < 128)
  | .divergenceExpiry index sub => decide (index < 65536) && decide (sub < 256)
  | .eventNoticeCoalesce part => decide (part < 8)
  | .deviceStateRequest head state _ => headOk head && decide (state < 256)
  | .dieStateRequest head die state _ => headOk head && decide (die < 44) && decide (state < 256)
  | .handshakeReask cores => (cores).all fun k => decide (k < 72)
  | .handshakeTimeout => true
  | .avsResponse bus _ => decide (bus < 4)
  | .avsResendExpiry bus => decide (bus < 4)
  | .railDoneExpiry bus => decide (bus < 4)
  | .railTelemetry rail mv amps => decide (rail < 40) && decide (mv < 65536) && decide (amps < 65536)
  | .bringupStageReady die => decide (die < 44)
  | .bringupStageTimeout die => decide (die < 44)
  | .holdWake _ => true
  | .dozeDwellExpiry die domain => decide (die < 8) && decide (domain < 8)
  | .temperatureWarning die _ => decide (die < 44)
  | .thermalTrip die _ => decide (die < 44)
  | .powerOn => true
  | .sysRstN => true
  | .warmRstN => true
  | .resetCmdWarm route => routeOk route
  | .resetCmdPartition route part => routeOk route && decide (part < 8)
  | .resetCmdDie route die => routeOk route && decide (die < 44)
  | .resetCmdTile route die tile => routeOk route && decide (die < 8) && decide (tile < 68)
  | .resetCmdCold route => routeOk route
  | .vauxLow mv => decide (mv < 65536)
  | .vddioMgtLow => true
  | .pmcValRead route die counter => routeOk route && decide (die < 44) && decide (counter < 64)
  | .counterGrant head part _ _ => headOk head && decide (part < 8)
  | .counterControl head part _ _ => headOk head && decide (part < 8)
  | .counterClear head part _ _ => headOk head && decide (part < 8)
  | .perstDeassert port _ _ => decide (port < 4)
  | .vddioMgtReturn => true
  | .vddAonLoss => true
  | .laserModuleRestored laser _ => decide (laser < 8)
  | .temperatureWarningEnd die _ => decide (die < 44)
  | .refreshDeadlineExpiry unit queue seq => kindIs .crv unit && decide (queue < 16384) && decide (seq < 2 ^ 32)
  | .wtdeferRetryExpiry die => decide (die < 8)
  | .farCompletionTimeout link _ => decide (link < 8)

end Sys2Proof
end

