-- ==== Sys2Proof/Safety.lean ====
section
/-! DEFINITION. The terms in which claims are stated: what a command does to the device, and when nothing waits behind it. -/

namespace Sys2Proof.Machine

/-- The outcome is a next state. -/
def Runs (o : Host.Outcome State Fault Refusal) : Prop := ∃ t, o = .next t

/-- The data path as a command finds it: what the last command returned and sent is forgotten (log entry 4). -/
def State.work (s : State) : Work := s.dev.cleared.work

/-- The command answers a next state whose queue is that of s and whose device is v, with what follows every command at once. -/
def Leaves (c : Instr) (s : State) (v : Device) : Prop := exec c s = .next { s with dev := v.settle }

/-- The command's own effect is that the data path becomes w; nothing else of the device changes but what follows every command at once. Where w is
made of a request that its stack or link does not admit now, the command is put off and answers so (05 R148, R152, R156). -/
def Does (c : Instr) (s : State) (w : Work) : Prop := Leaves c s (s.dev.cleared.take w)

/-- The same, for an effect on the registers, memory and records alone. -/
def DoesBase (c : Instr) (s : State) (b : Base) : Prop := Does c s { s.work with base := b }

/-- The same, for an effect on the registers, memory and records, and on the memory-side dies and far links. -/
def Serves (c : Instr) (s : State) (r : Base × MemSys) : Prop := Leaves c s { s.dev.cleared.setBase r.1 with mem := r.2 }

/-- The command's own effect is nothing: what it names is not there. -/
def Passes (c : Instr) (s : State) : Prop := Leaves c s s.dev.cleared

/-- Nothing follows a command: no doorbell waits for its link's writes (14 R412), no message for the management controller (15 R440), no ring link is
locking to its signal (11 R312), no written value for its tile's idle boundary (03 R96, 05 R160), no request of the
management waits for a unit (15 R459), no tile clock is off (16 R473), no lock waits (16 R468). -/
def Device.calm (v : Device) : Prop :=
  v.dock.late = [] ∧ (∀ k ∈ v.mbxPendings, v.mailPending (k / 2) = none) ∧ (∀ c ∈ v.work.ring.engines, c.2.lockSince = none) ∧
    v.base.waitIdle = [] ∧ v.mgt.requests = [] ∧ v.pwr.doze = [] ∧ v.dock.lockWaits = false

/-- The stored persistent entries are those in force, while the management core runs (15 R434, R448). -/
def Device.stored (v : Device) : Prop :=
  v.mgt.up = true →
    match v.mgt.store with
    | some c => c.entries = v.base.toStore
    | none => v.base.persistent = []

/-- The device when a register access arrives: a port counts the payload bytes of an access through BAR0 (17 R493, events 0x70 and 0x71). -/
def Device.counted (v : Device) (rt : Route) (event size a : Nat) : Device :=
  match rt with
  | .bar0 L => v.onBase fun b => b.notePort L event size a
  | _ => v

/-- An access of a size and alignment that 00 R6 allows arrives at address a by a route, sent by master m, and its die answers: v is the device
then (14 R403, R405, 16 R465). -/
def State.arrives (s : State) (rt : Route) (off size event m a : Nat) (v : Device) : Prop :=
  s.dev.regRuns rt off = true ∧ s.dev.cleared.routed rt off = some (m, a) ∧ sizeOk a size = true ∧ v = s.dev.cleared.counted rt event size a

/-- Nothing holds a register write off: no block that has granted an entry (16 R469), and no earlier write of its link (14 R412). -/
def Device.writeFree (v : Device) (rt : Route) (off data : Nat) : Prop :=
  v.cleared.regHeld rt off data = false ∧ v.cleared.behind rt off = false

/-- A write through BAR0 that meets an error response: the port signals an Unsupported Request of its link (14 R405). -/
def Device.reported (v : Device) (rt : Route) : Device :=
  match rt with
  | .bar0 L => v.signalled L
  | _ => v

/-- The mailbox rules let master m read register r: it is no mailbox register, or m is the management or a master of its channel, in use (14 R411). -/
def Base.hears (b : Base) (m : Nat) (r : RegAt) : Prop :=
  r.reg.spec.block ≠ .mbx ∨ b.whoIs m = .management ∨ (b.mbxInUse r.i && (b.mbxA r.i == m || b.mbxB r.i == m)) = true

/-- A write that arrives names register r, nothing holds it off (14 R412, 16 R469), its master reaches r (14 R411), and the partition table admits it:
LK fields of a table that is not locked are the management's (14 R408). Mailboxes have rules of their own. -/
def State.writes (s : State) (rt : Route) (off size data m a : Nat) (r : RegAt) (v : Device) : Prop :=
  s.arrives rt off size 0x70 m a v ∧ s.dev.writeFree rt off data ∧ placeOf a = .reg r ∧ r.reg.spec.block ≠ .mbx ∧
    v.base.reaches m r true = true ∧ (hasLk r.reg = true → v.base.locked = true ∨ v.base.whoIs m = .management)

/-- A write of a whole mailbox register that has a row of its own arrives at IO0, nothing holding it off. -/
def State.mails (s : State) (rt : Route) (r : RegAt) (data m : Nat) (v : Device) : Prop :=
  ∃ a, s.arrives rt (routeOff rt (regAddr r.reg r.die r.unit r.i r.j)) 8 0x70 m a v ∧
    s.dev.writeFree rt (routeOff rt (regAddr r.reg r.die r.unit r.i r.j)) data ∧ placeOf a = .reg r

/-- What register r holds after a write of x to all its bits (00 R9). -/
def Device.newValue (v : Device) (r : Reg) (d u i j x : Nat) : Word :=
  writeFields r.spec.fields (v.base.rd r d u i j) x (2 ^ 64 - 1) v.base.locked

/-- A write of data to a whole register that has a row of its own arrives and is admitted. -/
def State.writesReg (s : State) (rt : Route) (r : RegAt) (data m : Nat) (v : Device) : Prop :=
  ∃ a, s.writes rt (routeOff rt (regAddr r.reg r.die r.unit r.i r.j)) 8 data m a r v

/-- The registers whose write does more than store its fields, in the tables' order. -/
def Reg.acts (r : Reg) : Bool :=
  [Reg.TILE_LEND, .DOCK_QBASE, .DOCK_QCFG, .DOCK_QTAIL, .DOCK_QCOMP, .DOCK_QDESC, .DOCK_QDCNT, .DOCK_QABORT, .DOCK_MS_CETHRESH, .TILE_PF_CTL,
    .DOCK_SCL_HSTEP, .CRV_TTCTL, .RING_BYPASS, .CHK_FU_CFG, .CHK_FU_POLY, .CHK_FU_INIT, .CHK_FU_ADDR, .CHK_FU_LEN, .CHK_FU_EXPECT, .CHK_FU_CTL,
    .DOCK_WT_FENCE, .DOCK_ST_CMD, .DOCK_DB_STEP, .DOCK_DB_CTL, .DOCK_PT_LOCK, .DOCK_BAYCMD, .PWR_RST_CMD, .TILE_PMC_CTL, .DOCK_PMC_CTL].contains r

/-- The commands that are requests of the Catalogue protocol: the header, the operation with its body, and what a write meets (15 R445). A request to
a unit's or a die's or the device's state, and the counter requests, are writes of the entries of 15 R456, 16 R466, R467 and 17 R502. -/
def requestOf : Instr → Option (ReqHead × ReqOp × WriteEnv)
  | .hello h => some (h, .hello, ⟨true, []⟩)
  | .auth h role cnonce proof => some (h, .auth role cnonce proof, ⟨true, []⟩)
  | .close h => some (h, .close, ⟨true, []⟩)
  | .read h i k o m => some (h, .read i k o m, ⟨true, []⟩)
  | .write h i k t l env => some (h, .write i k t l, env)
  | .describe h i k => some (h, .describe i k, ⟨true, []⟩)
  | .list h i k => some (h, .list i k, ⟨true, []⟩)
  | .fwBegin h n env => some (h, .fwBegin n, env)
  | .fwData h o l env => some (h, .fwData o l, env)
  | .fwEnd h env => some (h, .fwEnd, env)
  | .unitServiceRequest h d k u env => some (h, .write (0x6000 + 16 * d + k) (2 * u + 1) .u8 [0], env)
  | .unitFenceRequest h d k u env => some (h, .write (0x6000 + 16 * d + k) (2 * u + 1) .u8 [1], env)
  | .unitFailRequest h d k u env => some (h, .write (0x6000 + 16 * d + k) (2 * u + 1) .u8 [2], env)
  | .deviceStateRequest h x env => some (h, .write 0x2001 1 .u8 [BitVec.ofNat 8 x], env)
  | .dieStateRequest h d x env => some (h, .write (0x6000 + 16 * d) 1 .u8 [BitVec.ofNat 8 x], env)
  | .counterGrant h p l env => some (h, .write 0x5001 (p + 1) .blob l, env)
  | .counterControl h p l env => some (h, .write 0x5002 (p + 1) .blob l, env)
  | .counterClear h p l env => some (h, .write 0x5003 (p + 1) .blob l, env)
  | _ => none

/-- The data path when a waybill of a tile does its work: the checks of its prefetch entries have returned, it is no spilled filler, and the reload
of its record, where one was under way, has ended (05 R145, 11 R334). -/
def State.fetched (s : State) (id q seq : Nat) (w : Work) : Prop :=
  s.work.gate id q seq = .ok () ∧ w = match s.work.lending id with
    | some l => if l.reload.isSome && l.queue == q && l.seq == seq then s.work.reloadEnd id l else s.work
    | none => s.work

/-- A running waybill of a unit that no abort has named, by its opcode. -/
def State.running (s : State) (id q seq opcode : Nat) (x : Wb) : Prop :=
  s.dev.unitRuns id = true ∧ s.work.wb? id q seq = some x ∧ x.phase = .running ∧ x.opcode = opcode ∧ x.aborting = false

end Sys2Proof.Machine
end

