-- ==== Sys2Proof/Certificates/Slice0/Obligations.lean ====
section
/-! DEFINITION. The statements about the model, each named for what it says. -/

open Sys2Proof Sys2Proof.Machine

/-- The block takes its commands from the front of its queue: a step with command c in front is c's effect on the state with the queue's rest. On an
empty queue a step is one tick of 40 ns (16 R474; the model's choice, log entry 6): the timebase goes on by one modulo 2^64, with what the tick moves
by itself (08 R239, 09 R270, 16 R473, 17 R493; what the events of clock cycles add is free, log entry 85) and what follows at once; without VDD_AON
nothing moves. -/
def Obligations.StepTakesTheFrontCommandOrTicks : Prop :=
  (∀ (c : Instr) (s : State), step { s with pending := c :: s.pending } = exec c s) ∧
  (∀ s : State, s.pending = [] →
     (s.dev.pwr.dead = true → step s = .next { s with dev := s.dev.cleared.settle }) ∧
     (s.dev.pwr.dead = false →
       step s = .next { s with dev :=
         ((Device.gatedTick (Device.tickCounts (s.dev.cleared.onBase fun b => { b with time := (b.time + 1) % 2 ^ 64 }))).freeTick
           fun d => s.dev.pwr.ready && s.dev.cleared.dieState d != 2).settle }))

/-- Every command of the table answers a next state, on every state and every operand, and leaves the commands that wait as they are. Nothing that
happened is left uncounted between commands (17 R493): after a command that acts or a tick, no occurrence waits for the counters; a command that the
device does not heed leaves those that it found. What follows a command at once, when no request waits and no counter has a control: the noted
occurrences are dropped, the watch over diverging pairs and the stored copies of persistent entries move on, and nothing else of the device changes
(15 R434, R459, R460, 17 R493). -/
def Obligations.EveryCommandAnswersAndIsCounted : Prop :=
  ((∀ (c : Instr) (s : State), ∃ v : Device, exec c s = .next { s with dev := v }) ∧
   (∀ s t : State, s.dev.base.occurs = [] → step s = .next t → t.dev.base.occurs = [])) ∧
  (∀ v : Device, v.calm → v.base.counting = false →
     ∃ (d : List (Nat × Nat × Bool)) (a b : Option StoreCopy) (k : Nat),
       v.settle = { v.onBase (fun x => { x with occurs := [] }) with
                    mgt := { v.mgt with diverge := d, store0 := a, store1 := b, storeUsed := k } })

/-- What State.reset holds: no command waits, the timebase reads 0, no register differs from its table's reset value, every Catalogue entry is at its
default, no waybill, token, Siding frame, held piece, ring frame or session exists, no host link serves a partition, and bring-up has begun (16 R477, R483);
memory lists nothing, so that every stack byte reads 0x00 (the model's choice, log entry 1), and the persistent store has one valid copy, of sequence
number 0, that lists nothing (the model's choice, log entry 70). -/
def Obligations.ResetStateHoldsResetValues : Prop :=
  State.reset.pending = [] ∧ State.reset.dev.base.time = 0 ∧
  (∀ (r : Reg) (d u i j : Nat), State.reset.dev.base.rd r d u i j = r.reset d u) ∧ State.reset.dev.base.links = [] ∧
  (∀ L : Nat, State.reset.dev.base.linkServes L = none) ∧
  State.reset.dev.base.catVals = [] ∧ State.reset.dev.work.eng = {} ∧ State.reset.dev.work.tiles = {} ∧ State.reset.dev.work.sid = {} ∧
  State.reset.dev.work.upd = {} ∧ State.reset.dev.work.curv = {} ∧ State.reset.dev.work.ring = {} ∧ State.reset.dev.mgt.sessions = [] ∧
  State.reset.dev.mem = {} ∧ State.reset.dev.pwr.bring = some 0 ∧ State.reset.dev.pwr.ready = false ∧ State.reset.dev.pwr.effective = 0 ∧
  State.reset.dev.mgt.store0 = some (StoreCopy.written 0 []) ∧ State.reset.dev.mgt.store1 = none ∧ State.reset.dev.mgt.storeUsed = 0 ∧
  Memory.wf State.reset.dev.base.mem = true ∧ ∀ k : Nat, Memory.get State.reset.dev.base.mem k = 0

/-- The persistent store follows the persistent entries: after every step, while the management core runs, the copy in use holds exactly the
persistent entries that differ from their defaults (15 R434, R448). -/
def Obligations.PersistentStoreFollowsEveryStep : Prop :=
  ∀ s t : State, s.dev.stored → step s = .next t → t.dev.stored

/-- State.reset meets the invariant of the persistent store, before the management core runs: the copy in use is valid and holds exactly the
persistent entries that differ from their defaults, none (15 R448; the empty copy is the model's choice, log entry 70). A boot from a store with one
valid copy puts that copy into use, with its entries in force (15 R434, R448). -/
def Obligations.PersistentStoreHoldsAtReset : Prop :=
  State.reset.dev.stored ∧
  (∃ c, State.reset.dev.mgt.store = some c ∧ c.valid = true ∧ c.entries = State.reset.dev.base.toStore ∧ State.reset.dev.base.persistent = []) ∧
  ∀ (v : Device) (c : StoreCopy), c.valid = true → v.mgt.store1.filter StoreCopy.valid = none → v.mgt.store0 = some c →
    v.loadStore.mgt.store = some c ∧
      v.loadStore.base = { v.base with catVals := (c.entries.filterMap fromFlash).foldl (fun m e => Map.put e.1 e.2 m) v.base.catVals }

/-- Memory reads what was written (05 R136): after a run of bytes is put at key k, each of its bytes reads at its place, and every other byte of
memory reads as before. A read of a run of bytes answers the bytes of its addresses in order (05 R136). -/
def Obligations.MemoryReadsWhatWasWritten : Prop :=
  (∀ (m : List Host.Cell) (k a : Nat) (bytes : List Byte), Memory.wf m = true →
     Memory.get (Memory.put m k bytes) a = if h : k ≤ a ∧ a < k + bytes.length then bytes[a - k]'(by omega) else Memory.get m a) ∧
  (∀ (m : List Host.Cell) (k n : Nat), Memory.wf m = true → Memory.run m k n = (List.range n).map fun i => Memory.get m (k + i))

/-- What a whole-register write leaves in each field, by its access type (00 R9): RW and, until the lock, LK take the value written; RO, RC and WO,
and LK once locked, keep what they hold; W1C clears and W1S sets each bit written as 1. It holds of any fields that lie apart within 64 bits, as those
of every register do. -/
def Obligations.FieldsTakeAWriteByAccessType : Prop :=
  (∀ (fs : List Fld) (f : Fld) (old : Word) (x : Nat) (locked : Bool), f ∈ fs → x < 2 ^ 64 → (∀ g ∈ fs, g.lo + g.width ≤ 64) →
    fs.Pairwise (fun a b => a.lo + a.width ≤ b.lo ∨ b.lo + b.width ≤ a.lo) →
    fget (writeFields fs old x (2 ^ 64 - 1) locked) f.lo f.width =
      match f.acc with
      | .rw => x / 2 ^ f.lo % 2 ^ f.width
      | .lk => if locked then fget old f.lo f.width else x / 2 ^ f.lo % 2 ^ f.width
      | .w1c => fget old f.lo f.width &&& (x / 2 ^ f.lo % 2 ^ f.width ^^^ (2 ^ f.width - 1))
      | .w1s => fget old f.lo f.width ||| x / 2 ^ f.lo % 2 ^ f.width
      | .ro | .wo | .rc => fget old f.lo f.width) ∧
  (∀ r ∈ Reg.all, (∀ g ∈ r.spec.fields, g.lo + g.width ≤ 64) ∧
    r.spec.fields.Pairwise (fun a b => a.lo + a.width ≤ b.lo ∨ b.lo + b.width ≤ a.lo))

/-- A register has one home: after a write to it, it reads what was written, every register at another address reads as before, and the register file
keeps its form. The first and the last instance of each register, on the first die of each kind that holds it, stand at the address that the register
map gives them, and that address names no other register (05 R135). -/
def Obligations.RegisterHasOneHome : Prop :=
  (∀ (b : Base) (x : Word) (r : Reg) (d u i j : Nat), Map.sorted b.regs = true →
     Map.sorted (b.wr x r d u i j).regs = true ∧ (b.wr x r d u i j).rd r d u i j = x ∧
     ∀ (r' : Reg) (d' u' i' j' : Nat), regAddr r' d' u' i' j' ≠ regAddr r d u i j → (b.wr x r d u i j).rd r' d' u' i' j' = b.rd r' d' u' i' j') ∧
  (∀ r ∈ Reg.all, ∀ d ∈ [0, 8, 40], r.spec.on.has d = true →
     placeOf (regAddr r d) = .reg ⟨r, d, 0, 0, 0⟩ ∧
     (instanceOk r d (r.spec.n1 - 1) (r.spec.n2 - 1) = true →
       placeOf (regAddr r d 0 (r.spec.n1 - 1) (r.spec.n2 - 1)) = .reg ⟨r, d, 0, r.spec.n1 - 1, r.spec.n2 - 1⟩))

/-- REGISTER_WRITE (00 R6, R9): a write that a register takes stores its fields by their access types and answers; nothing else of the device changes
but the port's count of payload bytes and what follows every command. Registers whose write does more: CETHRESH stores 1 for 0 (05 R151); the controls
of a busy free unit keep what they hold, with CHK.FUBUSY (12 R345); the held fields of an enabled queue keep theirs, and a change of them raises
TOK.QBIND (04 R101); TILE_LEND and TILE_PF_CTL show what was written, while what was in effect stays so until the tile's idle boundary (03 R96, 05
R160); a counter's control that is invalid is stored with its BAD bit set and PMC.CFG raised, a valid one clears the bit, and one with SAMPLE loads
its counter (17 R497, R499). A mailbox register that is none of its data, send and acknowledge registers stores its fields for a master of a channel
in use, and MBX_BIND and MBX_CFG for the management controller and the test access port always; any other write is refused with HOST.MBXDENY, and with
HOST.REGDENY too where the master does not reach the register, or MBX_BIND is written before the partition table is locked (14 R408, R411, R419). -/
def Obligations.RegisterWriteStoresItsFields : Prop :=
  (∀ (s : State) (rt : Route) (off size data m a : Nat) (r : RegAt) (v : Device), s.writes rt off size data m a r v →
     let b := v.base
     let old := b.rd r.reg r.die r.unit r.i r.j
     let new := writeFields r.reg.spec.fields old (accessData a size data) (accessMask a size) b.locked
     let put (b : Base) : Base := b.wr new r.reg r.die r.unit r.i r.j
     let leaves (w : Work) : Prop := Leaves (.registerWrite rt off size data) s ({ v with work := w }.answer .ok)
     let base (b : Base) : Prop := leaves { v.work with base := b }
     (r.reg.acts = false → base (put b)) ∧
     (r.reg = .DOCK_MS_CETHRESH → base (b.wr (if fget new 0 8 = 0 then fput new 0 8 1 else new) .DOCK_MS_CETHRESH r.die)) ∧
     (r.reg ∈ [Reg.CHK_FU_CFG, .CHK_FU_POLY, .CHK_FU_INIT, .CHK_FU_ADDR, .CHK_FU_LEN, .CHK_FU_EXPECT] →
       (b.fuBusy r.die r.i = true → base (b.fuEvent r.die 1 0x0B06)) ∧ (b.fuBusy r.die r.i = false → base (put b))) ∧
     (r.reg ∈ [Reg.DOCK_QBASE, .DOCK_QCOMP, .DOCK_QDESC, .DOCK_QDCNT] →
       let q := 2048 * r.die + r.unit
       (b.qEnabled q = true → new ≠ b.rd r.reg r.die r.unit → base (b.raise 0x030C (queueSrc q) (b.partOfQueue q))) ∧
       (b.qEnabled q = true → new = b.rd r.reg r.die r.unit → base b) ∧
       (b.qEnabled q = false → base (b.wr new r.reg r.die r.unit))) ∧
     (r.reg ∈ [Reg.TILE_LEND, .TILE_PF_CTL] →
       let key := regAddr r.reg r.die r.unit
       let kept := if (Map.find key b.waitIdle).isSome then b.waitIdle else Map.put key (b.rd r.reg r.die r.unit) b.waitIdle
       let w : Work := { v.work with base := ({ b with waitIdle := kept } : Base).wr new r.reg r.die r.unit }
       (w.idleBoundary r.die r.unit = false → leaves w) ∧
       (w.idleBoundary r.die r.unit = true →
         let left := Map.del (regAddr .TILE_LEND r.die r.unit) (Map.del (regAddr .TILE_PF_CTL r.die r.unit) kept)
         leaves { w with base := { w.base with waitIdle := left } })) ∧
     (r.reg = .TILE_PMC_CTL →
       let set := b.wr new .TILE_PMC_CTL (cd r.die) r.unit r.i
       let flagged (x : Nat) : Base := set.wf (8 + r.i) 1 x .TILE_PMC_STATUS (cd r.die) r.unit
       (tileCtlBad new = true →
         base ((flagged 1).pmcEvent (cd r.die) 5 0x1006 ⟨cd r.die, r.unit⟩ ((flagged 1).partOfTile r.die r.unit))) ∧
       (tileCtlBad new = false → bget new 9 = false → base (flagged 0)) ∧
       (tileCtlBad new = false → bget new 9 = true →
         base ((flagged 0).wf 0 48 (2 ^ 48 - 2 ^ fget new 10 6) .TILE_PMC_VAL (cd r.die) r.unit r.i))) ∧
     (r.reg = .DOCK_PMC_CTL →
       let set := b.wr new .DOCK_PMC_CTL r.die 0 r.i
       let flagged (x : Nat) : Base := set.wf r.i 1 x .DOCK_PMC_BAD r.die
       (b.dieCtlBad r.die r.i new = true →
         base ((flagged 1).pmcEvent r.die 5 0x1006 (logic r.die) ((flagged 1).counterOwner r.die r.i))) ∧
       (b.dieCtlBad r.die r.i new = false → bget new 17 = false → base (flagged 0)) ∧
       (b.dieCtlBad r.die r.i new = false → bget new 17 = true →
         base ((flagged 0).wf 0 48 (2 ^ 48 - 2 ^ fget new 18 6) .DOCK_PMC_VAL r.die 0 r.i)))) ∧
  (∀ (s : State) (rt : Route) (off size data m a : Nat) (r : RegAt) (v : Device), s.arrives rt off size 0x70 m a v → s.dev.writeFree rt off data →
     placeOf a = .reg r → r.reg.spec.block = .mbx →
     let b := v.base
     let serves := (b.mbxInUse r.i && (b.mbxA r.i == m || b.mbxB r.i == m)) = true
     let manages := (r.reg = .MBX_BIND ∨ r.reg = .MBX_CFG) ∧ (m = 0 ∨ m = 0xF0)
     (r.reg ∉ [Reg.MBX_DATA, .MBX_SEND, .MBX_ACK] → serves ∨ manages →
       Leaves (.registerWrite rt off size data) s
         ((v.setBase (b.wr (writeFields r.reg.spec.fields (b.rd r.reg r.die r.unit r.i r.j) (accessData a size data) (accessMask a size) b.locked)
           r.reg r.die r.unit r.i r.j)).answer .ok)) ∧
     (¬serves → ¬manages →
       let open_ := b.reaches m r true && (b.locked || !hasLk r.reg)
       Leaves (.registerWrite rt off size data) s
         ((v.onBase fun b => (if open_ then b else b.regDeny m r.die).mbxRefuse r.i m 4 0x0D06).reported rt)))

/-- RC_READ (00 R6, R9, R10): a read answers the register's fields, with WO fields as 0, or the half of it that a 4-byte access covers; the RC fields
whose bits the access covers read 0 from then on, and nothing else changes; PWR_TEMP.PEAK then takes the next reading, whatever its sign.
CHK_D2D_RETRY first counts the flits retried since it was last read, a number that the model leaves open (12 R349, log entry 162). A read of
DOCK_BAYRES is held while commands of its partition wait, with the half that it reads (14 R417), and one of DOCK_PMC_VAL answers what a read of the
lower counter of its chain latched (17 R498). The mailbox registers answer the management and the two masters of a channel in use; any other read of
them is refused with HOST.MBXDENY, and with HOST.REGDENY too where its master is not one of the channel's (14 R411, R419). -/
def Obligations.RegisterReadAnswersAndClears : Prop :=
  ∀ (s : State) (rt : Route) (off size m a : Nat) (r : RegAt) (v : Device), s.arrives rt off size 0x71 m a v → placeOf a = .reg r →
    let half (x : Word) : Word := if size = 8 then x else BitVec.ofNat 64 (if a % 8 = 4 then x.toNat / 2 ^ 32 else x.toNat % 2 ^ 32)
    let own := (v.base.mbxA r.i == m || v.base.mbxB r.i == m) = true
    (v.base.hears m r → v.base.reaches m r false = true →
      (r.reg = .CHK_D2D_RETRY →
        ∃ n : Nat, let b := ({ v.base with free := v.base.free + 1 } : Base).countSat n 0 48 .CHK_D2D_RETRY r.die
          Leaves (.rcRead rt off size) s ((v.setBase b).answer (.value (half (b.rd .CHK_D2D_RETRY r.die))))) ∧
      (r.reg = .DOCK_BAYRES → ∀ st, st = v.bays r.i →
        (st.running = none → st.waiting = [] →
          Leaves (.rcRead rt off size) s (v.answer (.value (half (v.base.rd .DOCK_BAYRES 40 0 r.i))))) ∧
        (∀ n, n = st.waiting.length + (if st.running = none then 0 else 1) → 0 < n →
          Leaves (.rcRead rt off size) s ((v.setBays r.i { st with readers := st.readers ++ [(n, accessPart a size)] }).answer .held))) ∧
      (r.reg = .DOCK_PMC_VAL → ∀ w x, (x, w) = v.counterRead r.die r.i → Leaves (.rcRead rt off size) s (w.answer (.value (half x)))) ∧
      (r.reg ≠ .DOCK_BAYRES → r.reg ≠ .DOCK_PMC_VAL → r.reg ≠ .CHK_D2D_RETRY →
        let old := v.base.rd r.reg r.die r.unit r.i r.j
        let shown := r.reg.spec.fields.foldl (fun (y : Word) f => if f.acc == .wo then fput y f.lo f.width 0 else y) (v.view r)
        let left := r.reg.spec.fields.foldl
          (fun (y : Word) f => if f.acc == .rc && (accessMask a size).testBit f.lo then fput y f.lo f.width 0 else y) old
        let b := if r.reg = .PWR_TEMP && (accessMask a size).testBit 16 then { v.base with peaks := NSet.remove r.die v.base.peaks } else v.base
        Leaves (.rcRead rt off size) s
          ((v.setBase (if left = old then b else b.wr left r.reg r.die r.unit r.i r.j)).answer (.value (half shown))))) ∧
    (¬v.base.hears m r →
      (own → Leaves (.rcRead rt off size) s ((v.onBase fun b => b.mbxRefuse r.i m 4 0x0D06).readFailed rt)) ∧
      (¬own → Leaves (.rcRead rt off size) s ((v.onBase fun b => (b.regDeny m r.die).mbxRefuse r.i m 4 0x0D06).readFailed rt)))

/-- Every register is 64 bits wide and sits at a multiple of 8; an aligned access of 8 bytes, or of 4 bytes to either half, is taken, and any other
completes with an error response, writes nothing and returns no data (00 R6). An unoccupied offset of a block reads as zero and ignores writes; an
address outside every block completes with an error response (00 R8). A write through BAR0 that meets an error response is signalled by its port as an
Unsupported Request, and a read reported as an advisory error (14 R405; log entry 151). BAR4 holds no register: it shows the link's MSI-X table of
2,048 entries and, from offset 0x8000, their pending bits; a write into the table replaces the bytes that it covers and sends the messages that it
unmasks, and one past the table changes nothing; a link that serves no partition is not answered (14 R403, R413). -/
def Obligations.AccessThatNamesNoRegister : Prop :=
  (∀ (r : Reg) (d u i j : Nat), regAddr r d u i j % 8 = 0) ∧
  (∀ a size : Nat, sizeOk a size = true ↔ (size = 8 ∧ a % 8 = 0) ∨ (size = 4 ∧ a % 4 = 0)) ∧
  (∀ (s : State) (rt : Route) (off size data m a : Nat) (v w : Device), s.dev.regRuns rt off = true → s.dev.cleared.routed rt off = some (m, a) →
    s.dev.writeFree rt off data → v = s.dev.cleared.counted rt 0x70 size a → w = s.dev.cleared.counted rt 0x71 size a →
    (sizeOk a size = false ∨ placeOf a = .outside →
      Leaves (.registerWrite rt off size data) s ((v.answer .error).reported rt) ∧
      Leaves (.rcRead rt off size) s ((w.answer .error).readFailed rt)) ∧
    (sizeOk a size = true → placeOf a = .hole →
      Leaves (.registerWrite rt off size data) s (v.answer .ok) ∧ Leaves (.rcRead rt off size) s (w.answer (.value 0)))) ∧
  (∀ (s : State) (L off size data : Nat) (v : Device), s.dev.pwr.iordy = true → v = s.dev.cleared →
    let entry (k : Nat) : Vec := (Map.find (L * 2048 + k) v.base.vectors).getD {}
    let shows (x : Word) : Prop := Leaves (.rcRead (.bar4 L) off size) s (v.answer (.value x))
    let takes (w : Device) : Prop := Leaves (.registerWrite (.bar4 L) off size data) s w
    (v.base.linkServes L = none → Leaves (.rcRead (.bar4 L) off size) s v ∧ takes v) ∧
    (v.base.linkServes L ≠ none →
      (sizeOk off size = false ∨ 65536 ≤ off → Leaves (.rcRead (.bar4 L) off size) s (v.answer .error)) ∧
      (sizeOk off size = false ∨ 32768 ≤ off → takes v) ∧
      (sizeOk off size = true → 33024 ≤ off → off < 65536 → shows 0) ∧
      (sizeOk off size = true → 32768 ≤ off → off < 33024 →
        ∃ x : Word, shows x ∧ ∀ i < 64, x.getLsbD i = (decide (i < 8 * size) && (entry (8 * (off - 32768) + i)).pending)) ∧
      (sizeOk off size = true → off < 32768 → ∀ e lo bits old new, e = entry (off / 16) → lo = 8 * (off % 16) → bits = 8 * size → old = e.entry →
        new = old / 2 ^ (lo + bits) * 2 ^ (lo + bits) + data % 2 ^ bits * 2 ^ lo + old % 2 ^ lo →
        shows (BitVec.ofNat 64 (old / 2 ^ lo % 2 ^ bits)) ∧
        ∀ e' : Vec, e' = { e with addr := new % 2 ^ 64 / 4 * 4, data := new / 2 ^ 64 % 2 ^ 32, masked := new.testBit 96 } →
          takes (v.onBase fun b =>
            ({ b with
               resp := .ok,
               vectors := if e' = {} then Map.del (L * 2048 + off / 16) b.vectors else Map.put (L * 2048 + off / 16) e' b.vectors } : Base).msixFlush L))))

/-- An access to a register that its master does not reach (14 R411): HOST.REGDENY is raised for the master's partition, or for none, the access gets
an error response, which the port signals as an Unsupported Request where the access is a write through BAR0, and reports as an advisory error where
it is a read (14 R405; log entry 151), and neither a write nor a read changes the register. A refused doorbell also raises TOK.DOORBELL (04 R102). -/
def Obligations.RegisterAccessIsDenied : Prop :=
  ∀ (s : State) (rt : Route) (off size data m a : Nat) (r : RegAt) (v : Device), placeOf a = .reg r →
    (r.reg.spec.block ≠ .mbx → s.arrives rt off size 0x70 m a v → s.dev.writeFree rt off data → v.base.reaches m r true = false →
      r.reg ≠ .DOCK_QTAIL → Leaves (.registerWrite rt off size data) s ((v.onBase fun b => b.regDeny m r.die).reported rt)) ∧
    (r.reg.spec.block ≠ .mbx → s.arrives rt off size 0x70 m a v → s.dev.writeFree rt off data → v.base.reaches m r true = false →
      r.reg = .DOCK_QTAIL → Leaves (.registerWrite rt off size data) s
        ((v.onBase fun b =>
          (b.raise 0x030D (queueSrc (2048 * r.die + r.unit)) (b.partOfQueue (2048 * r.die + r.unit))).regDeny m r.die).reported rt)) ∧
    (s.arrives rt off size 0x71 m a v → v.base.hears m r → v.base.reaches m r false = false →
      Leaves (.rcRead rt off size) s ((v.onBase fun b => b.regDeny m r.die).readFailed rt))

/-- DOCK_QCFG_WRITE (04 R100, R101). Setting ENABLE on a queue that may be enabled (bound to a unit of its partition, or, with FILLER set, to a tile
that lends its free sets, with two valid partitions or more) sets HEAD to TAIL and DONE to 0, clears STOPPED and its reason, and enables the queue; on
a queue that may not be (no partition, another unit, a SIZE above 10, or 64 queues on the unit already) it leaves ENABLE at 0 and raises TOK.QBIND. A
write to an enabled queue changes no SIZE, FILLER or UNIT, and one that would raises TOK.QBIND. DOORBELL (04 R102): the write stores TAIL; where the
queue then holds more than its ring, it stops with reason 1 and TOK.QOVER is raised. -/
def Obligations.QueuesAreEnabledAndRung : Prop :=
  (∀ (s : State) (rt : Route) (q data m : Nat) (v : Device), s.writesReg rt ⟨.DOCK_QCFG, q / 2048, q % 2048, 0, 0⟩ data m v →
     let b := v.base
     let old := b.rd .DOCK_QCFG (q / 2048) (q % 2048)
     let new := v.newValue .DOCK_QCFG (q / 2048) (q % 2048) 0 0 (data % 2 ^ 64)
     let kept := fput new 24 40 (fget old 24 40)
     let on := b.wr kept .DOCK_QCFG (q / 2048) (q % 2048)
     let off := b.wr (fput kept 4 1 0) .DOCK_QCFG (q / 2048) (q % 2048)
     let lends := bget new 6 = true ∧ b.lendingOn = true ∧ ∃ i t, unitOf (fget new 8 16) = some (.tile, i) ∧ b.tileOfPos (i / 64) (i % 64) = some t ∧
       b.eff 0 1 .TILE_LEND (cd (i / 64)) t = 1
     (bget old 4 = false → bget new 4 = true →
       (∀ p, b.partOfQueue q = some p → (b.unitServes (fget new 8 16) p = true ∧ fget new 8 16 % 8 = 0 ∨ lends) → fget new 0 4 ≤ 10 →
         (v.work.eng.queuesOn.countP fun k => b.qUnit k == fget new 8 16) < 64 →
         Leaves (.dockQcfgWrite rt q data) s
           ((v.onWork fun w => { w with
               base := (on.qwf q 0 64 (on.qTail q) .DOCK_QHEAD).qwf q 0 4 0 .DOCK_QSTAT,
               eng := { w.eng with
                        queuesOn := NSet.add q w.eng.queuesOn, aborts := Map.del q w.eng.aborts, unstarted := Map.del q w.eng.unstarted } }).answer .ok)) ∧
       ((b.partOfQueue q = none ∨ 10 < fget new 0 4 ∨ 64 ≤ (v.work.eng.queuesOn.countP fun k => b.qUnit k == fget new 8 16) ∨
           ∃ p, b.partOfQueue q = some p ∧ (b.unitServes (fget new 8 16) p = false ∨ fget new 8 16 % 8 ≠ 0) ∧ ¬lends) →
         Leaves (.dockQcfgWrite rt q data) s ((v.setBase (off.raise 0x030C (queueSrc q) (off.partOfQueue q))).answer .ok))) ∧
     (bget old 4 = true →
       let same := fget new 0 4 = fget old 0 4 ∧ fget new 6 1 = fget old 6 1 ∧ fget new 8 16 = fget old 8 16
       let value := fput (fput (fput (fput old 4 1 (fget new 4 1)) 5 1 (fget new 5 1)) 7 1 (fget new 7 1)) 4 1 (fget new 4 1)
       let set := b.wr (fput value 24 40 (fget old 24 40)) .DOCK_QCFG (q / 2048) (q % 2048)
       let leaves (b : Base) : Prop := Leaves (.dockQcfgWrite rt q data) s
         ((v.onWork fun w => { w with
             base := b,
             eng := { w.eng with queuesOn := if bget new 4 then w.eng.queuesOn else NSet.remove q w.eng.queuesOn } }).answer .ok)
       (same → leaves set) ∧ (¬same → leaves (set.raise 0x030C (queueSrc q) (set.partOfQueue q))))) ∧
  (∀ (s : State) (rt : Route) (q data m : Nat) (v : Device), s.writesReg rt ⟨.DOCK_QTAIL, q / 2048, q % 2048, 0, 0⟩ data m v →
     let b := v.base.wr (v.newValue .DOCK_QTAIL (q / 2048) (q % 2048) 0 0 (data % 2 ^ 64)) .DOCK_QTAIL (q / 2048) (q % 2048)
     let stopped := b.qStop q 1
     ((b.qTail q + 2 ^ 32 - b.qHead q) % 2 ^ 32 ≤ b.qSize q → Leaves (.doorbell rt q data) s ((v.setBase b).answer .ok)) ∧
     (b.qSize q < (b.qTail q + 2 ^ 32 - b.qHead q) % 2 ^ 32 →
       Leaves (.doorbell rt q data) s ((v.setBase (stopped.raise 0x030B (queueSrc q) (b.partOfQueue q))).answer .ok)))

/-- ABORT_ONE (04 R122, R123) on a waybill of any opcode but STEP: accepted and not started, it ends ABORTED with ABORTRES 1, and with it every member
of its chain that is accepted, while the members of the chain that its tile holds are marked; running, it is marked to stop at its unit's next
boundary; ended with its record not issued, it becomes ABORTED with the ended members of its chain; with its record issued and none of its tokens
produced, the record's bytes 6 and 7 are rewritten and ABORTRES reads 2; published and not accepted, it is noted for its acceptance; with a token
produced, or not published, nothing changes and ABORTRES reads 3. Of a ring waybill the frames that come later are dropped (11 R321). ABORT_ALL (04
R122): where no waybill of the queue is in a window, the waybill and every later one published up to TAIL − 1 are noted for their acceptance, and
ABORTRES reads 1; a waybill that is not published yet leaves all as it is, with ABORTRES 3. -/
def Obligations.AbortsAreMadeByNumber : Prop :=
  (∀ (s : State) (rt : Route) (q seq m : Nat) (v : Device), seq < 2 ^ 32 →
     s.writesReg rt ⟨.DOCK_QABORT, q / 2048, q % 2048, 0, 0⟩ (seq * 2 ^ 16) m v →
     let w := v.work
     let answers (w : Work) (res : Nat) : Prop :=
       Leaves (.abortOne rt q seq) s ((v.onWork fun _ => { w with base := w.base.qwf q 6 2 res .DOCK_QSTAT }).answer .ok)
     (∀ id x, w.findWb q seq = some (id, x) →
       let ends (w : Work) (y : Wb) : Work := w.setWb id ({ y with byBranch := false }.endWith 0x11)
       let endsMate (w : Work) (y : Wb) : Work := if y.queue = x.queue ∧ y.seq = x.seq then w else ends w y
       (x.phase = .accepted → x.chained = false → kindOf id ≠ some .ring → answers (ends w x) 1) ∧
       (x.phase = .accepted → x.chained = false → kindOf id = some .ring → answers (ends (w.ringAbort x) x) 1) ∧
       (x.phase = .accepted → kindOf id ≠ some .ring → ∀ mates, w.chainGroup id x = (none, mates) → answers (mates.foldl endsMate (ends w x)) 1) ∧
       (x.phase = .accepted → kindOf id ≠ some .ring → ∀ mates j, w.chainGroup id x = (some j, mates) →
         answers ((mates.foldl endsMate (ends w x)).markJob id j false) 1) ∧
       (x.phase = .running → x.opcode ≠ 0xF3 → x.chained = false → answers (w.setWb id { x with aborting := true, byBranch := false }) 1) ∧
       (x.phase = .running → x.opcode ≠ 0xF3 → ∀ mates j, w.chainGroup id x = (some j, mates) → answers ((mates.foldl ends w).markJob id j false) 1) ∧
       (x.phase = .ended → x.opcode ≠ 0xF3 →
         answers ((w.endedGroup id x).foldl (fun (w : Work) y => w.setWb id { y with status := 0x11, byBranch := false, posA := y.done }) w) 1) ∧
       (x.phase = .ended → x.chained = false → w.endedGroup id x = [x]) ∧
       (x.phase = .issued → x.tokens ≠ x.issued.tokens → answers w 3) ∧
       (x.phase = .issued → x.tokens = x.issued.tokens →
         let y := { x with flags := x.flags ||| 32, status := if x.status = 1 then 2 else x.status }
         let b := w.base.storeBytes (w.base.cx id y).ownReq (w.base.qSlot y.queue y.seq + 6) (leBytes 1 y.status ++ leBytes 1 y.flags)
         answers ({ w with base := b }.setWb id y) 2)) ∧
     (w.findWb q seq = none →
       let d := behind 32 (w.base.qTail q) seq
       let ahead := (w.base.qTail q + 2 ^ 32 - w.base.qHead q) % 2 ^ 32
       (1 ≤ d ∧ d ≤ ahead →
         answers { w with eng := { w.eng with aborts := Map.put q ((seq, 1, false) :: (Map.find q w.eng.aborts).getD []) w.eng.aborts } } 1) ∧
       (d = 0 ∨ ahead < d → answers w 3))) ∧
  (∀ (s : State) (rt : Route) (q seq m : Nat) (v : Device), seq < 2 ^ 32 →
     s.writesReg rt ⟨.DOCK_QABORT, q / 2048, q % 2048, 0, 0⟩ (seq * 2 ^ 16 + 1) m v →
     let w := v.work
     let tail := w.base.qTail q
     let d := behind 32 tail seq
     let ahead := (tail + 2 ^ 32 - w.base.qHead q) % 2 ^ 32
     let one := Map.put q ((seq, 1, false) :: (Map.find q w.eng.aborts).getD []) w.eng.aborts
     let all := Map.put q (((tail + 2 ^ 32 - d) % 2 ^ 32, d, false) :: (Map.find q one).getD []) one
     ((∀ u ∈ w.eng.units, ∀ x ∈ u.2.window, x.queue ≠ q) → 1 ≤ d → d ≤ ahead → d ≤ 2 ^ 31 →
       Leaves (.abortAll rt q seq) s
         ((v.onWork fun w => { w with base := w.base.qwf q 6 2 1 .DOCK_QSTAT, eng := { w.eng with aborts := all } }).answer .ok)) ∧
     (d = 0 ∨ 2 ^ 31 < d → Leaves (.abortAll rt q seq) s ((v.setBase (w.base.qwf q 6 2 3 .DOCK_QSTAT)).answer .ok)))

/-- The messages of a token home (04 R110 to R113). TOKEN_WATCH: a present token is answered by a notice at once, an absent one is watched.
TOKEN_NOTICE: a notice on its way marks every wait of its waybill that names the token, whatever becomes of the token later. TOKEN_PRODUCE: an absent
token becomes present and every watcher is sent its notice; one present stays present and raises TOK.DUP. TOKEN_CLEAR: the oldest clear on its way to
the home makes its tokens of that home absent. -/
def Obligations.TokenHomesHandleTheirMessages : Prop :=
  (∀ (s : State) (id q seq p t : Nat), s.dev.pwr.ready = true →
    let w := s.work.tokenSeen p (tokenHome t) ((s.work.wb? id q seq).any Wb.filler)
    let left := w.eng.flying.erase (.watch id q seq p t)
    (tokenKey p t ∈ w.eng.tokens →
      Does (.tokenWatch id q seq p t) s { w with eng := { w.eng with flying := left ++ [.notice id q seq p t] } }) ∧
    (tokenKey p t ∉ w.eng.tokens →
      let ws := (Map.find (tokenKey p t) w.eng.watchers).getD []
      Does (.tokenWatch id q seq p t) s
        { w with eng := { w.eng with flying := left, watchers := Map.put (tokenKey p t) (ws ++ [(id, q, seq)]) w.eng.watchers } })) ∧
  (∀ (s : State) (id q seq p t : Nat) (x : Wb), s.dev.unitRuns id = true → TokMsg.notice id q seq p t ∈ s.work.eng.flying →
    s.work.wb? id q seq = some x → x.part = p →
    Does (.tokenNotice id q seq p t) s
      (({ s.work with eng := { s.work.eng with flying := s.work.eng.flying.erase (.notice id q seq p t) } }).setWb id
        { x with notices := x.waits.zipIdx.foldl (fun (m : Nat) (c : Nat × Nat) => if c.1 = t then m ||| 2 ^ c.2 else m) x.notices })) ∧
  (∀ (s : State) (p t : Nat) (filler : Bool), s.dev.pwr.ready = true →
    s.work.eng.flying.find? (TokMsg.produces p t) = some (.produce p t filler) →
    let w := ({ s.work with eng := { s.work.eng with flying := s.work.eng.flying.erase (.produce p t filler) } }).tokenSeen p (tokenHome t) filler
    (tokenKey p t ∉ w.eng.tokens →
      let notices := ((Map.find (tokenKey p t) w.eng.watchers).getD []).map fun x => TokMsg.notice x.1 x.2.1 x.2.2 p t
      Does (.tokenProduce p t) s { w with
        eng := { w.eng with
                 tokens := NSet.add (tokenKey p t) w.eng.tokens,
                 watchers := Map.del (tokenKey p t) w.eng.watchers,
                 flying := w.eng.flying ++ notices } }) ∧
    (tokenKey p t ∈ w.eng.tokens →
      Does (.tokenProduce p t) s { w with base := w.base.raise 0x0304 (logic (tokenHome t)) (some p) })) ∧
  (∀ (s : State) (home p first count : Nat) (filler : Bool), s.dev.pwr.ready = true →
    s.work.eng.flying.find? (TokMsg.clearsAt home) = some (.clear p first count home filler) →
    let gone (k : Nat) : Bool := decide (tokenKey p first ≤ k ∧ k < tokenKey p first + count) && k % 8 == home
    Does (.tokenClear home) s { s.work.tokenSeen p home filler with
      eng := { s.work.eng with
               flying := s.work.eng.flying.erase (.clear p first count home filler),
               tokens := s.work.eng.tokens.filter fun k => !gone k } })

/-- NOP and TOKCLR (04 R107, R113): a running NOP ends DONE with no other effect; a running TOKCLR sends one clear message to each home of its range,
of at most eight, and ends DONE. CREDIT_GRANT and CREDIT_RETURN (04 R116, R117). A grant that keeps the port's grants within its capacity adds COUNT
to the recipient's allotment and balance for the port and ends DONE; one beyond the capacity changes no credit and is rejected with TOK.CREDITCAP. The
oldest credits on their way back raise the spender's balance, never above its allotment; with none on its way nothing changes. -/
def Obligations.QueueWaybillsActOnTokensAndCredits : Prop :=
  (∀ (s : State) (id q seq : Nat) (x : Wb),
     (s.running id q seq 0xF0 x → Does (.nop id q seq) s (s.work.setWb id (x.endWith 1))) ∧
     (s.running id q seq 0xF1 x →
       let first := x.arg % 2 ^ 24
       let count := x.oparg + 1
       let clears := (List.range (min 8 count)).map fun k => TokMsg.clear x.part first count ((first + k) % 8) x.filler
       Does (.tokclr id q seq) s (({ s.work with eng := { s.work.eng with flying := s.work.eng.flying ++ clears } }).setWb id (x.endWith 1)))) ∧
  ((∀ (s : State) (id q seq : Nat) (x : Wb), s.running id q seq 0xF2 x →
     let w := s.work
     let given := (Map.find x.grantPort (w.unit id).granted).getD 0 + x.grantCount
     let port := id + x.grantPort
     let raised (m : List (Nat × Nat)) : List (Nat × Nat) := Map.put port ((Map.find port m).getD 0 + x.grantCount) m
     let w1 := w.setUnit id { w.unit id with granted := Map.put x.grantPort given (w.unit id).granted }
     let r := w1.unit x.grantTo
     (given ≤ portCapacity id w.base.updCapacity →
       Does (.creditGrant id q seq) s
         ((w1.setUnit x.grantTo { r with allot := raised r.allot, balance := raised r.balance }).setWb id (x.endWith 1))) ∧
     (portCapacity id w.base.updCapacity < given → Does (.creditGrant id q seq) s (w.reject id x 0x0309))) ∧
   (∀ (s : State) (u port n : Nat) (rest : List (Nat × Nat × Nat)), s.dev.pwr.ready = true → s.work.eng.returns = (u, port, n) :: rest →
     let w := s.work
     let limit := (Map.find port (w.unit u).allot).getD 0
     let left := (Map.find port (w.unit u).balance).getD 0
     Does .creditReturn s
       (({ w with eng := { w.eng with returns := rest } }).setUnit u
         { w.unit u with balance := Map.put port (min limit (left + n)) (w.unit u).balance })) ∧
   (∀ s : State, s.dev.pwr.ready = true → s.work.eng.returns = [] → Passes .creditReturn s))

/-- WAIT_LIMIT_EXPIRY and DEADLINE_EXPIRY (04 R114, R115): the first waybill that has waited beyond its queue's limit raises TOK.STARVE once, sets
DOCK_QSTAT.STARVE and goes on waiting; the first whose deadline has passed before its start ends EXPIRED with TOK.EXPIRED. Where no waybill of the
unit has waited so long, nothing changes. -/
def Obligations.WaitLimitsAndDeadlinesPass : Prop :=
  ∀ (s : State) (id : Nat), s.dev.unitRuns id = true →
    let w := s.work
    let starves (x : Wb) : Bool := x.phase == .accepted && !x.starved && w.base.qrf x.queue 0 32 .DOCK_QLIMIT != 0
      && decide (x.acceptTime + w.base.qrf x.queue 0 32 .DOCK_QLIMIT < w.base.time)
    let expires (x : Wb) : Bool := x.phase == .accepted && w.base.expired id x
    (∀ x, (w.unit id).window.find? starves = some x →
      let r := (w.base.qwf x.queue 4 1 1 .DOCK_QSTAT).each id x 0x0305
      Does (.waitLimitExpiry id) s (({ w with base := r.1 }).setWb id { r.2 with starved := true })) ∧
    ((w.unit id).window.find? starves = none → Passes (.waitLimitExpiry id) s) ∧
    (∀ x, (w.unit id).window.find? expires = some x →
      let r := w.base.each id x 0x0306
      Does (.deadlineExpiry id) s (({ w with base := r.1 }).setWb id (r.2.endWith 0x12))) ∧
    ((w.unit id).window.find? expires = none → Passes (.deadlineExpiry id) s)

/-- WAYBILL_ACCEPT (04 R103, R111, R122, R537; 13 R370). The unit takes the waybill at HEAD of the queue whose turn it is; HEAD advances, and the
waybill enters the window with its bytes, partition and time of acceptance. One that an abort had named ends ABORTED, and its chain with it; one of a
lost unit ends UNIT_LOST; one that a check rejects is rejected with that check's event, and a ring waybill of a partition without a share of the
virtual channels with RING.LINE (11 R310); every other asks the homes of its tokens. With no queue to take from, nothing changes. WAYBILL_START (04
R111, R116; 02 R56, R64; 05 R145). The first waybill of the window that has its notices and credits, whose deadline has not passed and whose
unit-specific conditions hold, starts: it runs from now on, with its start noted, under the values then in force, its credit demands leave the unit's
balance, and the checks of its prefetch entries set out; a STEP also closes its step. One that a check at its start rejects is rejected. -/
def Obligations.UnitAcceptsAndStartsWaybills : Prop :=
  (∀ (s : State) (id i : Nat) (kind : UnitKind), s.dev.unitAccepts id = true → unitOf id = some (kind, i) →
     (s.work.nextQueue id kind = none → Passes (.waybillAccept id) s) ∧
     (∀ (q p : Nat) (b : Base) (x : Wb) (bad : Bool) (w : Work), s.work.nextQueue id kind = some q → s.work.base.partOfQueue q = some p →
       s.work.base.takeNext id q p = (b, x, bad) →
       w = ({ s.work with base := b } : Work).setUnit id ((s.work.unit id).accept x) →
       (x.queue = q ∧ x.seq = s.work.base.qHead q ∧ x.part = p ∧ x.phase = .accepted ∧
         ∃ (c : Base) (rq : MemReq), b = (c.qwf q 0 32 (x.seq + 1) .DOCK_QHEAD).noteWork rq 0x27 1) ∧
       (∀ branch, w.eng.abortNamed q x.seq = some branch →
         (bad = true ∨ x.chained = false ∧ kind ≠ .ring → Does (.waybillAccept id) s (w.setWb id ({ x with byBranch := branch }.endWith 0x11))) ∧
         (bad = false → Does (.waybillAccept id) s (w.abortAccepted id x branch))) ∧
       (w.eng.abortNamed q x.seq = none → w.base.unitLost id = true → Does (.waybillAccept id) s (w.setWb id (x.endWith 0x16))) ∧
       (w.eng.abortNamed q x.seq = none → w.base.unitLost id = false →
         ∀ w1 y e, w.acceptCheck id kind x bad = (w1, y, e) →
           let rejects (code : Nat) : Prop :=
             Does (.waybillAccept id) s ((({ w1 with base := w1.base.rootLast id code } : Work).setWb id y).reject id y code)
           (e = none → (kind = .ring → w1.base.vcShares p ≠ 0) → Does (.waybillAccept id) s ((w1.setWb id y).askTokens id y)) ∧
           (e = none → kind = .ring → w1.base.vcShares p = 0 → rejects 0x0A0F) ∧
           (∀ code, e = some code → rejects code)))) ∧
  (∀ (s : State) (id : Nat) (pre post : List Wb) (x : Wb), s.dev.unitStarts id = true → (s.work.unit id).window = pre ++ x :: post →
     (∀ y ∈ pre, s.work.basicReady id y = false) → s.work.basicReady id x = true → s.work.base.expired id x = false →
     (∀ w y w1 w2, s.work.startOf id x = .start w → w.wb? id x.queue x.seq = some y →
       w1 = (w.setUnit id ((w.unit id).spend (sumByPort y.creds))).setWb id (w.started id y) →
       w2 = ({ w1 with eng := { w1.eng with starts := w1.eng.starts + 1 } } : Work).pfStart id y.queue y.seq →
       (y.opcode ≠ 0xF3 → Does (.waybillStart id) s w2) ∧
       (y.opcode = 0xF3 → Does (.waybillStart id) s (w2.stepClose id (w.started id y))) ∧
       (w1.tiles.pf id = [] → w2 = { w1 with eng := { w1.eng with starts := w1.eng.starts + 1 } }) ∧
         (w.started id y).phase = .running ∧ (w.started id y).startTime = w.base.time ∧ (w.started id y).spent = sumByPort y.creds) ∧
     (∀ code, s.work.startOf id x = .reject code →
       Does (.waybillStart id) s (({ s.work with base := s.work.base.rootLast id code } : Work).reject id x code)))

/-- WAYBILL_COMPLETE (04 R112, R118, R119). A waybill that has ended, and for which nothing more is awaited, sends its reports; its record is written
with all that comes with it, and it then gets its unused credits back and waits to produce its tokens, or leaves the window where it has none. For a
waybill without IRQ on no tile, the write is its 32 bytes into the completion slot of its sequence number, behind all that it wrote, one more in DONE,
STOPERR where it asks, and its report to the step. The equation is for a waybill without prefetch entries on a unit that is no update unit. One that
has not ended, or whose completion waits, stays as it is. -/
def Obligations.WaybillCompletesWithItsRecord : Prop :=
  (∀ (s : State) (id q seq : Nat) (x : Wb), s.dev.unitRuns id = true → s.work.wb? id q seq = some x →
    (x.phase ≠ .ended ∨ s.work.completeWaits id x = true → Passes (.waybillComplete id q seq) s) ∧
    (∀ w f w1 : Work, x.phase = .ended → s.work.completeWaits id x = false → updOf id = none → s.work.lending id = none →
      s.work.tiles.pf id = [] → x.status ≠ 0x16 → x.opcode ≠ 9 → x.opcode ≠ 0xF3 →
      w = s.work.setClaims id ((s.work.claimsOf id).filter fun c => !(c.2.1 == q && c.2.2 == seq)) →
      f = (w.sendCounts x.issued).flushReports x.queue x.seq →
      w1 = Work.afterRecord { f with base := f.base.recordOut id x.issued } id x.issued →
      Does (.waybillComplete id q seq) s w1)) ∧
  (∀ (b b1 b2 : Base) (id : Nat) (x : Wb), x.irq = false → (∀ i, unitOf id ≠ some (.tile, i)) →
    b1 = (b.uncover x.number).storeBytes (b.cx id x).ownReq (b.qSlot x.queue x.seq) (x.record id b.time) →
    b2 = b1.qwf x.queue 32 32 (b1.qrf x.queue 32 32 .DOCK_QHEAD + 1) .DOCK_QHEAD →
    b.recordOut id x = (if b2.qrf x.queue 5 1 .DOCK_QCFG = 1 ∧ !isDone x.status then b2.qStop x.queue 2 else b2).stepReport x) ∧
  (∀ (x : Wb) (id time : Nat), (x.record id time).length = 32)

/-- ABORT_STOP (04 R122): a running waybill that an abort has named ends ABORTED at its unit's boundary, with its count of finished output, and what
its operation holds on the unit is given up; one that no abort has named, a STEP, and a refresh whose pair waits for its publication (10 R298) run on.
-/
def Obligations.AbortedWaybillStopsAtItsBoundary : Prop :=
  ∀ (s : State) (id q seq : Nat) (x : Wb), s.dev.unitRuns id = true → s.work.wb? id q seq = some x → x.phase = .running →
    (x.aborting = true → x.opcode ≠ 0xF3 → s.work.pairWaits id x = false → ∀ y, (s.work.stopOp id x 0x11).wb? id x.queue x.seq = some y →
      Does (.abortStop id q seq) s ((s.work.stopOp id x 0x11).setWb id ({ y with posA := y.done }.endWith 0x11))) ∧
    (x.aborting = false ∨ x.opcode = 0xF3 ∨ s.work.pairWaits id x = true → Passes (.abortStop id q seq) s)

/-- MM (03 R70 to R73, R78 to R81, R538). A running product whose operands are fetched accumulates its next output tile in a set it holds or may take.
A product of its own leaves the tile to the drain, its set DRAIN; a chain's member goes on with its set ACCUM, and at its last tile holds the set,
HELD since then, if it keeps, or leaves all the chain's tiles to the drain; the other set of a long product shows SIDE. A product for which no set is
free changes nothing, but for a long one's claim to the first set that is (03 R89). -/
def Obligations.ProductAccumulatesItsNextTile : Prop :=
  ∀ (s : State) (id q seq : Nat) (ups : List (Nat × Nat)) (x : Wb) (j : Job) (w0 : Work), s.running id q seq 1 x → s.fetched id q seq w0 →
    w0.jobOf id q seq = some j → j.moved = false → x.next < x.geo.tiles →
    let claims := (w0.claimsOf id).filter fun c => c.2.1 == x.queue && c.2.2 == x.seq
    let first := match j.named with
      | some k => (w0.freeSets id x.queue x.seq).find? (· == k)
      | none => (w0.freeSets id x.queue x.seq).head?
    (w0.mmSets id x j = [] →
      (j.long = false ∨ claims ≠ [] ∨ first = none → Does (.mm id q seq ups) s w0) ∧
      (∀ k, j.long = true → claims = [] → first = some k →
        Does (.mm id q seq ups) s (w0.setClaims id (w0.claimsOf id ++ [(k, x.queue, x.seq)])))) ∧
    (∀ (k : Nat) (r : List Nat) (u w : Work) (acc : AccTile), w0.mmSets id x j = k :: r →
      u = w0.setClaims id ((w0.claimsOf id).filter fun c => !(c.2.1 == x.queue && c.2.2 == x.seq)) →
      u.accumulate (u.base.cx id x true) j x x.next (Map.find x.next j.accs) ups j.terms = (w, acc) →
      (j.chain.isSome = true → x.next + 1 < x.geo.tiles →
        Does (.mm id q seq ups) s
          (((w.setJob id { j with accs := Map.put x.next acc j.accs, sets := k :: r }).mmShow id (k :: r) k sACCUM j x).setWb id
            { x with next := x.next + 1 })) ∧
      (j.chain.isSome = true → x.next + 1 = x.geo.tiles → x.keep = true →
        Does (.mm id q seq ups) s
          (((w.setJob id { j with
              accs := Map.put x.next acc j.accs, sets := k :: r, terms := j.terms + x.geo.K, heldSince := some w.base.time }).mmShow id (k :: r) k sHELD j x).setWb id
            { x with next := x.next + 1 })) ∧
      (j.chain.isSome = true → x.next + 1 = x.geo.tiles → x.keep = false →
        Does (.mm id q seq ups) s
          ((((w.setJob id { j with accs := Map.put x.next acc j.accs, sets := k :: r, terms := j.terms + x.geo.K }).setDrains id
            (w.drains id ++ (List.range x.geo.tiles).map fun t => (k, t, q, seq))).mmShow id (k :: r) k sDRAIN j x).setWb id { x with next := x.next + 1 })) ∧
      (j.chain = none →
        Does (.mm id q seq ups) s
          ((((w.setJob id { j with
              accs := Map.put x.next acc j.accs, sets := if x.filler then k :: r else [],
              terms := if x.next + 1 = x.geo.tiles then j.terms + x.geo.K else j.terms }).setDrains id
            (w.drains id ++ [(k, x.next, q, seq)])).mmShow id (k :: r) k sDRAIN j x).setWb id { x with next := x.next + 1 })))

/-- ACC_DRAIN (03 R75, R90 to R93, 02 R61). The oldest output tile waiting for the drain is converted and written and its lane verdict formed; its set
returns to FREE once no tile of it waits. The last tile of a product without a failed check ends its members DONE, or DONE_ORPHAN where the hold limit
made it drain; with one, the product stays for its replay and holds no set, and a filler's tile is lent no more (18 R507); a tile that traps ends them
TRAPPED. With nothing to drain, or with the waybill named by an abort, nothing changes. -/
def Obligations.DrainWritesTheOldestTile : Prop :=
  ∀ (s : State) (id : Nat), s.dev.unitRuns id = true →
    (s.work.drains id = [] → Passes (.accDrain id) s) ∧
    (∀ (k t q seq n m : Nat) (rest : List (Nat × Nat × Nat × Nat)) (x : Wb) (j : Job), s.work.drains id = (k, t, q, seq) :: rest →
      s.work.wb? id q seq = some x → s.work.jobOf id q seq = some j → s.work.base.tileOf id = some (n, m) → x.aborting = true →
      Passes (.accDrain id) s) ∧
    (∀ (k t q seq n m : Nat) (rest : List (Nat × Nat × Nat × Nat)) (x y z : Wb) (j : Job) (acc : AccTile) (w : Work) (b : Base) (lane : Lane)
        (trap : TrapAt) (bad : Bool), s.work.drains id = (k, t, q, seq) :: rest → s.work.wb? id q seq = some x → s.work.jobOf id q seq = some j →
      s.work.base.tileOf id = some (n, m) → x.aborting = false → Map.find t j.accs = some acc →
      s.work.drainTile id (s.work.base.cx id x) j x t acc = (w, y, trap, lane) →
      w.base.laneReport n m y t acc.badSegment lane true = (b, z, bad) →
      ∀ (z1 : Wb) (j1 : Job) (w1 : Work), z1 = { z with done := z.done + 1 } → j1 = { j with accs := Map.del t j.accs, failed := j.failed || bad } →
      w1 = (({ w with base := b } : Work).setDrains id rest).drainFreed id k rest j1 z1 →
      (trap = none → z1.done ≠ z1.geo.tiles → Does (.accDrain id) s w1) ∧
      (trap = none → z1.done = z1.geo.tiles → j1.failed = false →
        Does (.accDrain id) s (w1.endJob id j1 (if z1.aux = [5] then 0x05 else 0x01))) ∧
      (trap = none → z1.done = z1.geo.tiles → j1.failed = true →
        (w1.lending id = none →
          Does (.accDrain id) s (({ w1 with base := w1.base.setsTo id sFREE j1.sets } : Work).setJob id { j1 with sets := [] })) ∧
        (∀ (l : LendSt) (d : Base) (u : Work), w1.lending id = some l → j1.members = [(l.queue, l.seq)] →
          d = (if w1.lent id = true ∧ l.spilled = none then w1.base.setsTo id sFREE [0, 1] else w1.base) →
          u = ({ w1 with base := d.lendPhase id 0 } : Work).setLending id none →
          Does (.accDrain id) s (({ u with base := u.base.setsTo id sFREE j1.sets } : Work).setJob id { j1 with sets := [] }))) ∧
      (∀ tr, trap = some tr → Does (.accDrain id) s (w1.drainTrapped id rest z1 j1 tr)))

/-- ABFT_REPLAY of a matrix product (03 R93): with no tile free the replay waits, and ACC_ABFT_PEER says so; on a free tile the whole product runs
again with its counts cleared, and its members end with REPLAYED set: DONE (DONE_ORPHAN after the hold limit), TRAPPED where an output tile traps, or,
where a check fails again, CHECK_FAILED, each member counted in the step's verdict (12 R356), and the data path fences the tile (13 R366).
HOLD_LIMIT_EXPIRY (03 R82): a set HELD longer than ACC_HOLD_LIMIT raises ACC.ORPHAN and goes to its drain, behind the drains that wait, to the output
of its chain's last member; the chain is no more, and will end DONE_ORPHAN. With no set held so long, nothing changes. -/
def Obligations.FailedAndOrphanedChainsAreDrained : Prop :=
  (∀ (s : State) (id q seq n m : Nat) (ups : List (Nat × Nat)) (x : Wb) (j : Job), s.running id q seq 1 x → s.work.jobOf id q seq = some j →
     s.work.base.tileOf id = some (n, m) → x.handed = false → j.failed = true → j.moved = true ∨ x.done = x.geo.tiles →
     (s.work.replayTileFor id x j.pre = none → ∀ b y, s.work.base.once id x 0x020D = (b, y) →
       Does (.abftReplay id q seq ups) s (({ s.work with base := b.wf 10 2 3 .ACC_ABFT_PEER n m } : Work).setWb id y)) ∧
     (∀ (k : Nat) (w : Work) (y : Wb) (bad : Bool) (trap : TrapAt), s.work.replayTileFor id x j.pre = some k →
       Work.replayTiles id n k j ups x.geo.tiles 0 s.work { x with ovf := 0, van := 0, counts := [], nf := none, flags := x.flags / 2 * 2 }
         = (w, y, bad, trap) →
       ∀ (b c : Base) (z : Wb), b = w.base.wr (BitVec.ofNat 64 (n + k * 8 + (if bad then 2 else 1) * 1024)) .ACC_ABFT_PEER n m →
       c = b.reportOf y (fun v => if bad then { v with replayFail := v.replayFail + j.members.length } else { v with replayed := true }) →
       z = { y with flags := y.flags ||| 64, tile := tileCode n k } →
       (bad = false → trap = none → ∀ d, d = (if j.moved then b else c) →
         Does (.abftReplay id q seq ups) s ((({ w with base := d } : Work).setWb id z).endJob id j (if x.aux = [5] then 0x05 else 0x01))) ∧
       (bad = false → ∀ tr d e z1, trap = some tr → d = (if j.moved then b else c) → d.takeTrap id z tr = (e, z1) →
         Does (.abftReplay id q seq ups) s ((({ w with base := e } : Work).setWb id z1).endJob id j 0x13)) ∧
       (bad = true → Does (.abftReplay id q seq ups) s (((({ w with base := c } : Work).setWb id z).endJob id j 0x14).fenceItself n m)))) ∧
  (∀ (s : State) (id n m : Nat), s.dev.unitRuns id = true → s.work.base.tileOf id = some (n, m) →
     let held (j : Job) : Bool := j.heldPast (s.work.base.rf 0 32 .ACC_HOLD_LIMIT (cd n) m) s.work.base.time
     ((s.work.jobs id).find? held = none → Passes (.holdLimitExpiry id) s) ∧
     (∀ (j : Job) (q seq k : Nat) (x : Wb) (w : Work), (s.work.jobs id).find? held = some j → j.members.getLast? = some (q, seq) →
       s.work.wb? id q seq = some x → k = j.sets.headD 0 →
       w = (({ s.work with base := s.work.base.accEvent n m 4 0x0205 (some x.part) x.number } : Work).setJob id
         { j with chain := none, heldSince := none }).setDrains id (s.work.drains id ++ j.accs.map fun a => (k, a.1, x.queue, x.seq)) →
       Does (.holdLimitExpiry id) s
         (({ w with base := w.base.setPut id k sDRAIN j.long x.part 0 (b2n j.pre + j.terms) } : Work).setWb id
           { x with event := if x.event = 0 then 0x0205 else x.event, aux := [5] })))

/-- Lending (03 R94, R96, 11 R334, R335). FILLER_SPILL: once an owner waybill is ready and no filler drain is under way, both sets return to FREE, the
lend region takes the spill (whose bytes the manual leaves open), ACC_LEND shows phase 3 and the owner waybill starts; where the filler's record was
still being reloaded, the reload stops, both sets return to FREE, ACC_LEND shows phase 0 and the owner waybill starts. SPILL_WRITEBACK_END: the spill
is in the borrower's spill area, ACC_LEND shows the time it took, and the region is offered again. SPILL_SLOW_EXPIRY raises ACC.SPILLSLOW once where
9 µs have passed. FILLER_RESUME: both sets are LENT again and the reload begins; when it ends, the record is read back, and the sets hold what was
spilled where its bytes are unchanged, else open values. LEND_WAIT_EXPIRY raises RING.LENDWAIT once. -/
def Obligations.FillersSpillAndResume : Prop :=
  ∀ (s : State) (id n m : Nat) (l : LendSt), s.dev.unitRuns id = true → s.work.lending id = some l → s.work.base.tileOf id = some (n, m) →
    let rq (cls : Nat) : MemReq := unitReq l.borrower (s.work.base.unitSrc id) (waybillNumber l.queue l.seq) (cls := cls)
    let spilledFrom (free : Nat) : List Byte := (List.range spillBytes).map fun k => Config.spillByte (free + k)
    (l.spilled = none → l.reload = none → s.work.lent id = true → s.work.ownerReady id = true → s.work.drains id = [] →
      ∀ (b : Base) (w : Work),
      b = (({ s.work.base with free := s.work.base.free + spillBytes } : Base).setsTo id sFREE [0, 1]).lendPhase id 3 →
      w = { s.work with
            base := b, tiles := s.work.tiles.localWrite (tileCode n m) (s.work.base.lendRegion id).1 (spilledFrom s.work.base.free) } →
      Does (.fillerSpill id) s (((w.setJobs id ((w.jobs id).map fun j => { j with sets := [] })).setLending id
        (some { l with spillStart := some b.time, spilled := some b.time, slow := false, waitRaised := false, bytes := s.work.base.free })).startWaybill
          id)) ∧
    (∀ t, l.reload = some t → s.work.ownerReady id = true →
      ∀ w : Work, w = { s.work with base := (s.work.base.setsTo id sFREE [0, 1]).lendPhase id 0 } →
      Does (.fillerSpill id) s (((w.setJobs id ((w.jobs id).map fun j => { j with sets := [] })).setLending id
        (some { l with spilled := some t, reload := none })).startWaybill id)) ∧
    (∀ t, l.spillStart = some t →
      ∀ b : Base, b = s.work.base.storeBytes (rq 3) (s.work.base.spillAddr id l.borrower)
        (s.work.tiles.localRead (tileCode n m) (s.work.base.lendRegion id).1 spillBytes) →
      Does (.spillWritebackEnd id) s
        (({ s.work with base := (b.wf 32 32 (min (b.time - t) (2 ^ 32 - 1)) .ACC_LEND n m).lendPhase id 0 } : Work).setLending id
          (some { l with spillStart := none }))) ∧
    (∀ t, l.spillStart = some t → l.slow = false → t + usTicks 9 < s.work.base.time →
      Does (.spillSlowExpiry id) s
        (({ s.work with base := s.work.base.accEvent n m 11 0x020C (some l.borrower) (waybillNumber l.queue l.seq) } : Work).setLending id
          (some { l with slow := true }))) ∧
    (l.spilled.isSome = true → l.spillStart = none → s.work.base.eff 0 1 .TILE_LEND n m = 1 → s.work.tileStopped n m = false →
      s.work.base.setState id 0 = sFREE → s.work.base.setState id 1 = sFREE → (∀ j ∈ s.work.jobs id, j.members = [(l.queue, l.seq)]) →
      s.work.claimsOf id = [] → s.work.ownerReady id = false →
      ∀ w : Work, w = { s.work with
        base := ((s.work.base.setPut id 0 sLENT false l.borrower 0 0).setPut id 1 sLENT false l.borrower 0 0).lendPhase id 1 } →
      Does (.fillerResume id) s
        ((w.setJobs id ((w.jobs id).map fun j => { j with sets := [0, 1] })).setLending id (some { l with spilled := none, reload := l.spilled }))) ∧
    (∀ (b : Base) (d : List (Byte × Bool)), s.work.base.read (rq 4) (s.work.base.spillAddr id l.borrower) spillBytes = (b, d) →
      ∀ (same : Bool) (jobs : List Job), same = (d == (spilledFrom l.bytes).map fun v => (v, false)) →
      jobs = (if same then s.work.jobs id
        else (s.work.jobs id).map fun j => { j with accs := j.accs.map fun a => (a.1, a.2.reloaded b.free) }) →
      s.work.reloadEnd id l =
        (({ s.work with base := if same then b else { b with free := b.free + 16896 } } : Work).setJobs id jobs).setLending id
          (some { l with reload := none, slow := false, waitRaised := false })) ∧
    (∀ t x, l.spilled = some t → l.waitRaised = false → t + s.work.base.rf 0 32 .DOCK_LEND_WAIT 40 < s.work.base.time →
      s.work.wb? id l.queue l.seq = some x → ∀ b y, s.work.base.each id x 0x0A12 = (b, y) →
      Does (.lendWaitExpiry id) s ((({ s.work with base := b } : Work).setWb id y).setLending id (some { l with waitRaised := true })))

/-- LOAD (06 R163, R164). A running LOAD whose operands are fetched copies its window of a memory tensor, rows and scales unchanged, into local store
where format, block, scale and TRANSPOSE allow a copy, and ends DONE; a poisoned element of a Qm.n tensor raises NUM.FIXNAN once (05 R150). Any other
LOAD converts the window by the output stage, tile by tile, and ends as the conversion ends. STORE (06 R165) copies a local tensor and its scales
unchanged into a window of a memory tensor and ends DONE. CONVERT (06 R166, 07 R192, R193) writes its converted output, or, with AMAX_ONLY, sends the
largest magnitude of each channel to the history and writes nothing. -/
def Obligations.MoversCopyAndConvert : Prop :=
  (∀ (s : State) (id q seq : Nat) (x : Wb) (a d : Desc) (w0 : Work) (c : Cx), s.running id q seq 2 x → s.fetched id q seq w0 → x.desc 0 = some a →
    x.desc 1 = some d → c = w0.base.cx id x true →
    (copyLoad a d x.transpose = true → ∀ w1 bad b y, w0.copyRows c a d true x.winRow x.winCol = (w1, bad) →
      (b, y) = (if bad && (match d.format with | .q _ => true | _ => false) then w1.base.once id x 0x0108 else (w1.base, x)) →
      Does (.load id q seq) s ((({ w1 with base := b } : Work).moveScales c a d true x.winRow x.winCol).setWb id (y.endWith 1))) ∧
    (copyLoad a d x.transpose = false → ∀ w y,
      Work.convertTiles id (w0.base.cx id x) d 0 (loadIndex a x) (loadSource id c a x) d.geo.tiles 0 w0 x = (w, y) →
      Does (.load id q seq) s (w.setWb id y))) ∧
  (∀ (s : State) (id q seq : Nat) (x : Wb) (a d : Desc) (w0 w1 : Work) (c : Cx) (bad : Bool), s.running id q seq 3 x → s.fetched id q seq w0 →
    x.desc 0 = some a → x.desc 1 = some d → c = w0.base.cx id x → w0.copyRows c a d false x.winRow x.winCol = (w1, bad) →
    Does (.store id q seq) s ((w1.moveScales c a d false x.winRow x.winCol).setWb id (x.endWith 1))) ∧
  (∀ (s : State) (id q seq : Nat) (x : Wb) (a : Desc) (w0 : Work) (c : Cx), s.running id q seq 4 x → s.fetched id q seq w0 → x.desc 0 = some a →
    c = w0.base.cx id x true →
    (x.amaxOnly = true → ∀ w y l, Work.convertElems id c a a.count 0 w0 x = (w, y, l) →
      Does (.convert id q seq) s ((w.sendMaxima y.part y.hist q seq (channelMaxima a l)).setWb id (y.endWith 1))) ∧
    (x.amaxOnly = false → ∀ d w y, x.desc 2 = some d →
      Work.convertTiles id (w0.base.cx id x) d x.hist d.index (convertSource id c a d) d.geo.tiles 0 w0 x = (w, y) →
      Does (.convert id q seq) s (w.setWb id y)))

/-- STEP (13 R378, R379, R381; 07 R194, R201; 11 R326; 12 R358). The processing of a STEP whose step was closed at its start does, in this order: the
refresh of every tracked history entry, the evaluation of the watch, the noise table, the verdict record, and the Daybook record of the closed
accumulators; DOCK_DB_STEP is then the next step number, held Catalogue writes apply, and the next step opens; STEP ends DONE. The records a STEP
writes have their sizes: 32 bytes of noise, 64 of verdict, 128 of Daybook (11 R326, 12 R358, 13 R382). -/
def Obligations.StepClosesInItsOrder : Prop :=
  (∀ (s : State) (id q seq p n h : Nat) (x : Wb) (run : StepRun) (w w1 : Work) (b1 b2 b3 b4 b5 : Base) (f : NoiseFigures) (r : List Byte),
     s.dev.unitRuns id = true → s.work.wb? id q seq = some x → x.phase = .running → x.opcode = 0xF3 → p = x.part →
     s.work.stepRun? p = some run → run.queue = q → run.seq = seq → n = s.work.base.stepOf p → h = s.work.base.hstep p →
     w = s.work.foldStepEnd p n →
     b1 = (w.base.refresh p).watch p h →
     b1.noiseTable p n run.noise = (b2, f) →
     b3 = b2.verdictWrite p n run.verdict (!s.work.base.verifiedMode p) →
     b3.dayRecord p n h (run.acc.closedWith (b3.stepAcc p)) run.verdict (!s.work.base.verifiedMode p) f = (b4, r) →
     b5 = ((b4.dayWrite p n r run.ref).wr (BitVec.ofNat 64 (n + 1)) .DOCK_DB_STEP 40 0 p).boundary p →
     w1 = Work.closeStep { w with
       base := b5.openStep p x.startTime (run.acc.closedWith (b3.stepAcc p)) (b3.stepAcc p) (Map.find p w.scale.heldHstep) } p →
     Does (.step id q seq) s (((w1.poolStep p).foldStepBegin p ((n + 1) % 2 ^ 64)).setWb id (x.endWith 1))) ∧
  ((∀ (g : NoiseGroup) (n : Nat), (g.record n).length = 32) ∧ (∀ (v : Verdict) (n : Nat) (off : Bool), (v.record n off).length = 64) ∧
   (∀ (b c : Base) (p n h : Nat) (a : StepAcc) (v : Verdict) (off : Bool) (f : NoiseFigures) (l : List Byte),
     b.dayRecord p n h a v off f = (c, l) → l.length = 128))

/-- Maxima and counts on their way (07 R193, R196, R200, R207). AMAX_RECORD applies the oldest maximum to the row of the history step, or, during its
entry's refresh, holds it; AMAX_HELD_APPLY applies the oldest held one whose refresh has ended, counts it, and raises SCL.LATE once an entry and step;
WATCH_REPORT adds the oldest count report to its slot record, or holds it during STEP processing, whose end adds what was held. HSTEP_WRITE stores the
step, or holds it until STEP processing has ended. -/
def Obligations.MaximaAndCountsReachTheirRecords : Prop :=
  (∀ (s : State) (during : Bool) (m : AmaxMsg) (r : List AmaxMsg), s.dev.pwr.ready = true → s.work.scale.amax = m :: r →
    ((during && (s.work.stepRun? m.part).isSome) = true →
      Does (.amaxRecord during) s { s.work with scale := { s.work.scale with
      amax := r
      heldAmax := s.work.scale.heldAmax ++ [{ m with row := s.work.base.hstep m.part + 1 }] } }) ∧
    ((during && (s.work.stepRun? m.part).isSome) = false →
      Does (.amaxRecord during) s { s.work with
        base := s.work.base.amaxApply m.part m.entry m.channel m.value (s.work.base.hstep m.part), scale := { s.work.scale with amax := r } })) ∧
  (∀ (s : State) (m : AmaxMsg) (b : Base), s.dev.pwr.ready = true →
    s.work.scale.heldAmax.find? (fun m => (s.work.stepRun? m.part).isNone) = some m →
    b = (s.work.base.amaxApply m.part m.entry m.channel m.value m.row).countSat 1 32 32 .DOCK_SCL_REFRESH 40 0 m.part →
    (s.work.scale.lateRaised.contains (m.part, m.entry) = true →
      Does .amaxHeldApply s { s.work with base := b, scale := { s.work.scale with heldAmax := s.work.scale.heldAmax.erase m } }) ∧
    (s.work.scale.lateRaised.contains (m.part, m.entry) = false →
      Does .amaxHeldApply s { s.work with
        base := (b.sclEvent m.part 7 0x0608 (b.dieReq m.part (b.histAddr m.part m.entry)).src).timedHit m.part,
        scale := { s.work.scale with heldAmax := s.work.scale.heldAmax.erase m, lateRaised := (m.part, m.entry) :: s.work.scale.lateRaised } })) ∧
  (∀ (s : State) (during : Bool) (m : WatchMsg) (r : List WatchMsg), s.dev.pwr.ready = true → s.work.scale.watch = m :: r →
    ((during && (s.work.stepRun? m.part).isSome) = true →
      Does (.watchReport during) s { s.work with scale := { s.work.scale with watch := r, heldWatch := s.work.scale.heldWatch ++ [m] } }) ∧
    ((during && (s.work.stepRun? m.part).isSome) = false →
      Does (.watchReport during) s { s.work with base := s.work.base.watchApply m.part m.counts, scale := { s.work.scale with watch := r } })) ∧
  (∀ (w : Work) (p : Nat),
    (w.closeStep p).base = (w.scale.heldWatch.filter fun m => m.part == p).foldl (fun (b : Base) m => b.watchApply p m.counts) w.base ∧
    (w.closeStep p).scale.heldWatch = w.scale.heldWatch.filter fun m => m.part != p) ∧
  (∀ (s : State) (rt : Route) (p n m : Nat) (v : Device), p < 8 → n < 2 ^ 32 → s.writesReg rt ⟨.DOCK_SCL_HSTEP, 40, 0, p, 0⟩ n m v →
    ((v.work.stepRun? p).isSome = true →
      Leaves (.hstepWrite rt p n) s
        ((v.onWork fun w => { w with scale := { w.scale with heldHstep := Map.put p n w.scale.heldHstep } }).answer .ok)) ∧
    ((v.work.stepRun? p).isSome = false → Leaves (.hstepWrite rt p n) s ((v.setBase (v.base.wf 0 32 n .DOCK_SCL_HSTEP 40 0 p)).answer .ok)))

/-- THREADS (04 R124, R127): a running THREADS waybill of a tile starts OPARG + 1 consists of 32 threads at its entry PC, every register zero. ECALL
(04 R127): the active threads of a consist whose next instruction is ecall end. When every consist has ended or stopped at a fault, the waybill ends
DONE with the threads' counts, or THREAD_FAULT with the PC and the number of its first faulted thread (04 R127, R131). -/
def Obligations.ConsistsStartAndEnd : Prop :=
  (∀ (s : State) (id q seq : Nat) (x : Wb), s.running id q seq 8 x → x.handed = false → s.work.consists id = [] →
    Does (.threads id q seq) s
      (s.work.setConsists id (List.replicate (x.oparg % 128 + 1) { threads := List.replicate 32 { pc := x.arg % 2 ^ 22 } }))) ∧
  (∀ (s : State) (id k : Nat) (w : Work) (i : Issue), s.dev.unitRuns id = true → s.work.issueOf id k = some (w, i) →
    (i.ins = some 0x73 → Does (.ecall id k) s (w.putConsist id i.x k (i.c.onLanes i.lanes fun _ t => { t with ended := true }))) ∧
    (i.ins ≠ some 0x73 → Passes (.ecall id k) s)) ∧
  (∀ (w : Work) (id : Nat) (x : Wb), (w.consists id).all Consist.over = false → w.threadsCheck id x = w.setWb id x) ∧
  (∀ (w : Work) (id : Nat) (x : Wb) (ts : List Thread), (w.consists id).all Consist.over = true → ts = (w.consists id).flatMap (·.threads) →
    ts.all (fun t => !t.faulted) = true →
    w.threadsCheck id x = (w.setConsists id []).setWb id (Wb.endWith { x with
      ovf := ts.foldl (fun a t => satAdd 32 a t.ovf) x.ovf, van := ts.foldl (fun a t => satAdd 32 a t.van) x.van } 1)) ∧
  (∀ (w : Work) (id k : Nat) (x y : Wb) (t : Thread) (b : Base) (ts : List Thread), (w.consists id).all Consist.over = true →
    ts = (w.consists id).flatMap (·.threads) → ts.zipIdx.find? (fun t => t.1.faulted) = some (t, k) →
    Base.each (w.setConsists id []).base id { x with
      ovf := ts.foldl (fun a t => satAdd 32 a t.ovf) x.ovf, van := ts.foldl (fun a t => satAdd 32 a t.van) x.van } 0x030E = (b, y) →
    w.threadsCheck id x =
      Work.setWb { w.setConsists id [] with base := b } id { y.endWith 0x15 with posA := t.pc, posB := k })

/-- THREAD_INSTRUCTION (04 R126 to R131). The active lanes of a consist execute their instruction together: one that touches no memory computes by
lane; loads and stores act for all lanes at once. Lanes for which it is illegal, misaligned or leads nowhere fault, and then no lane executes it; a
fetch that faults, or a register that the half file does not have, faults every active lane. ecall and the device's own instructions are other
commands. -/
def Obligations.ThreadInstructionActsOnItsLanes : Prop :=
  ∀ (s : State) (id k : Nat) (w : Work) (x : Issue), s.dev.unitRuns id = true → s.work.issueOf id k = some (w, x) →
    (x.ins = none → Does (.threadInstruction id k) s (w.putConsist id x.x k (x.c.faultLanes x.lanes))) ∧
    (∀ i, x.ins = some i →
      (isEcall i = true ∨ (fnOp x.x.fullFile i).isSome = true → Passes (.threadInstruction id k) s) ∧
      (isEcall i = false → fnOp x.x.fullFile i = none →
        (namesOk x.x.fullFile i = false → Does (.threadInstruction id k) s (w.putConsist id x.x k (x.c.faultLanes x.lanes))) ∧
        (namesOk x.x.fullFile i = true → isMemory i = false →
          (x.illegal k i = [] →
            Does (.threadInstruction id k) s
              (w.putConsist id x.x k (x.c.onLanes x.lanes fun l t => (t.lane (laneEnv x.x k l) i).getD t))) ∧
          (x.illegal k i ≠ [] → Does (.threadInstruction id k) s (w.putConsist id x.x k (x.c.faultLanes (x.illegal k i))))) ∧
        (namesOk x.x.fullFile i = true → isMemory i = true → (w.accesses id x i).length < x.lanes.length →
          Does (.threadInstruction id k) s (w.putConsist id x.x k (x.c.faultLanes x.lanes))) ∧
        (namesOk x.x.fullFile i = true → isMemory i = true → (w.accesses id x i).length = x.lanes.length →
          (badLanes (w.accesses id x i) ≠ [] →
            Does (.threadInstruction id k) s (w.putConsist id x.x k (x.c.faultLanes (badLanes (w.accesses id x i))))) ∧
          (badLanes (w.accesses id x i) = [] → ((w.accesses id x i).all fun a => a.2.1.store) = true →
            Does (.threadInstruction id k) s (w.stores id k x (w.accesses id x i))) ∧
          (badLanes (w.accesses id x i) = [] → ((w.accesses id x i).all fun a => a.2.1.store) = false →
            Does (.threadInstruction id k) s (w.loads id k x i (w.accesses id x i))))))

/-- fn.twait (04 R130) returns 0 at once where every token its active threads name is present; else the consist waits for the absent ones. It wakes
with 0 when they are present, or with 1, DOCK_QSTAT.STARVE and TOK.STARVE when its queue's limit has passed. fn.tsig sends a production for each
active thread; fn.tpoll reads whether a token is present, fn.cred the unit's balance for a port. -/
def Obligations.ThreadsUseTokens : Prop :=
  (∀ (s : State) (id k i : Nat) (w : Work) (x : Issue), s.dev.unitRuns id = true →
    (s.work.fnIssue id k = some (w, x, i, .twait) →
      (w.absent x.x.part (distinct (x.tokens i)) = [] → Does (.fnTwait id k) s (w.putConsist id x.x k (x.writes i fun _ _ => 0))) ∧
      (w.absent x.x.part (distinct (x.tokens i)) ≠ [] →
        Does (.fnTwait id k) s
          (w.setConsists id ((w.consists id).set k { x.c with waiting := some (w.absent x.x.part (distinct (x.tokens i)), w.base.time) })))) ∧
    (s.work.fnIssue id k = some (w, x, i, .tsig) →
      Does (.fnTsig id k) s
        (Work.putConsist { w with eng := { w.eng with flying := w.eng.flying ++ (x.tokens i).map fun t => .produce x.x.part t x.x.filler } } id x.x k
          (x.c.onLanes x.lanes fun _ t => t.next))) ∧
    (s.work.fnIssue id k = some (w, x, i, .tpoll) →
      Does (.fnTpoll id k) s (w.putConsist id x.x k (x.writes i fun _ t => b2n (w.eng.present x.x.part (t.rx (iRs1 i) % 2 ^ 24))))) ∧
    (s.work.fnIssue id k = some (w, x, i, .cred) →
      Does (.fnCred id k) s
        (w.putConsist id x.x k (x.writes i fun _ t => (Map.find (t.rx (iRs1 i) % 65536) (w.unit id).balance).getD 0)))) ∧
  (∀ (s : State) (id k t0 pc : Nat) (x : Wb) (c : Consist) (l lanes : List Nat), s.dev.unitRuns id = true → s.work.threadsWb id = some x →
    (s.work.consists id)[k]? = some c → c.waiting = some (l, t0) → c.active = some (pc, lanes) →
    (s.work.absent x.part l = [] → ∀ w i, s.work.fetch id x pc = (w, i) → Does (.fnTwaitWake id k) s (w.putConsist id x k (c.wake lanes i 0))) ∧
    (s.work.absent x.part l ≠ [] → s.work.waitPassed x t0 = true → ∀ w i b y, s.work.fetch id x pc = (w, i) →
      (w.base.qwf x.queue 4 1 1 .DOCK_QSTAT).each id x 0x0305 = (b, y) →
      Does (.fnTwaitWake id k) s (({ w with base := b } : Work).putConsist id y k (c.wake lanes i 1))) ∧
    (s.work.absent x.part l ≠ [] → s.work.waitPassed x t0 = false →
      Does (.fnTwaitWake id k) s (s.work.setConsists id ((s.work.consists id).set k { c with waiting := some (s.work.absent x.part l, t0) }))))

/-- fn.bscale returns the E8 scale that the output stage chooses for a value; fn.cvt the element of a scaled value under fn.cvscale, counting overflow
and vanish, and faulting the threads whose stream is reserved; fn.draw 32 bits of the generator at the thread's stream and index (04 R130, R131, 02
R55, 07 R198). -/
def Obligations.ThreadsConvertAndDraw : Prop :=
  ∀ (s : State) (id k i : Nat) (w : Work) (x : Issue), s.dev.unitRuns id = true →
    (∀ f, s.work.fnIssue id k = some (w, x, i, .bscale f) →
      Does (.fnBscale id k) s (w.putConsist id x.x k (x.writes i fun _ t => chooseE8 (Fmt.ofCode f) [f32v (t.rfp (iRs1 i))]))) ∧
    (∀ (o r : Bool) (f : Nat) (bad : List Nat), s.work.fnIssue id k = some (w, x, i, .cvt o r f) →
      bad = x.lanes.filter (fun l => decide ((x.c.lane l).stream ≥ 0xF000)) →
      (bad ≠ [] → Does (.fnCvt id k) s (w.putConsist id x.x k (x.c.faultLanes bad))) ∧
      (bad = [] → ∀ b y, x.cvtReport id i x.x.seed o r f w.base = (b, y) →
        Does (.fnCvt id k) s
          (({ w with base := b } : Work).putConsist id y k
            (x.c.onLanes x.lanes fun _ t => t.cvtDone i (t.cvtElem i x.x.seed x.x.step o r f))))) ∧
    (∀ h, s.work.fnIssue id k = some (w, x, i, .draw h) →
      Does (.fnDraw id k) s
        (w.putConsist id x.x k (x.writes i fun _ t =>
          generator x.x.seed (x.x.step % 2 ^ 32) t.stream (t.idxhi % 2 ^ 16 * 2 ^ 32 + t.rx (iRs1 i)) / 2 ^ (32 * h))))

/-- fn.spush and fn.spop (04 R131, 06 R180): on a local-store range of the lowest active thread, aligned to 64 bytes, the bytes go to, or come from,
the thread area of the top Siding frame of the die, and every active thread gets the answer; another range faults that thread. fn.accrd (03 R95) reads
elements of HELD sets of the thread's partition; where a thread's set is none, all get zeros and ACC.BADREAD is raised. -/
def Obligations.ThreadsPushPopAndReadSets : Prop :=
  ∀ (s : State) (id k i n m : Nat) (w : Work) (x : Issue), s.dev.unitRuns id = true → w.base.tileOf id = some (n, m) →
    (s.work.fnIssue id k = some (w, x, i, .spush) →
      (∀ off len y w1 r, w.sidOperands id x i = some (off, len) → y = (if w.noFrame n x.x.part false then x.x.firstEvent 0x0507 else x.x) →
        w.threadPush (w.base.cx id x.x) n x.x.part (w.tiles.localRead (w.base.cx id x.x).tile off len) = (w1, r) →
        Does (.fnSpush id k) s (w1.putConsist id y k (x.writes i fun _ _ => r))) ∧
      (w.sidOperands id x i = none → Does (.fnSpush id k) s (w.putConsist id x.x k (x.c.faultLanes (x.lanes.take 1))))) ∧
    (s.work.fnIssue id k = some (w, x, i, .spop) →
      (∀ off len y w1 r, w.sidOperands id x i = some (off, len) → y = (if w.noFrame n x.x.part true then x.x.firstEvent 0x0507 else x.x) →
        w.threadPop (w.base.cx id x.x) n x.x.part off len = (w1, r) →
        Does (.fnSpop id k) s (w1.putConsist id y k (x.writes i fun _ _ => r))) ∧
      (w.sidOperands id x i = none → Does (.fnSpop id k) s (w.putConsist id x.x k (x.c.faultLanes (x.lanes.take 1))))) ∧
    (s.work.fnIssue id k = some (w, x, i, .accrd) →
      ((x.lanes.any fun l => ((x.c.lane l).accElement w id x.x.part i).isNone) = false →
        Does (.fnAccrd id k) s
          (w.putConsist id x.x k (x.c.onLanes x.lanes fun _ t => (t.wfp (iRd i) ((t.accElement w id x.x.part i).getD 0)).next))) ∧
      ((x.lanes.any fun l => ((x.c.lane l).accElement w id x.x.part i).isNone) = true → ∀ b y, w.base.each id x.x 0x020A = (b, y) →
        Does (.fnAccrd id k) s
          (({ w with base := b } : Work).putConsist id y k (x.c.onLanes x.lanes fun _ t => (t.wfp (iRd i) 0).next))))

/-- SID_OPEN (06 R171, R172, R174). On a segment whose top frame is CLOSED, or that has none, with no frame of that index, the plan entry is read; a
poisoned entry or a forbidden one is rejected. The choice is KEPT where the frame fits with the room to leave AHEAD, else DROPPED where RECOMP allows
it and that fits, and so on without the room; under the stall policy only KEPT. The chosen frame is opened on top of the segment; where none fits,
SID.FULL rejects. On another segment the waybill is rejected with SID.ORDER. -/
def Obligations.SidingFrameIsOpened : Prop :=
  (∀ (s : State) (id q seq n : Nat) (x : Wb), s.dev.unitRuns id = true → s.work.sidReady id q seq 0x0B 1 = some (x, n) →
    (mayOpen (s.work.frames n x.part) x.sidFrame = false → Does (.sidOpen id q seq) s (s.work.reject id x 0x0503)) ∧
    (mayOpen (s.work.frames n x.part) x.sidFrame = true → ∀ (b : Base) (e : List Byte) (bad : Bool) (w : Work),
      s.work.base.readBytes ((s.work.base.cx id x).sidReq n) (s.work.base.planAddr n x.part x.sidFrame) 16 = (b, e, bad) →
      w = { s.work with base := b } →
      (bad = true → Does (.sidOpen id q seq) s (w.reject id x 0x0302)) ∧
      (bad = false → ∀ full keep tarea a u c, full = fieldAt e 0 4 → keep = fieldAt e 4 4 → tarea = fieldAt e 8 4 → a = fieldAt e 12 4 →
        u = usedOf (s.work.frames n x.part) → c = b.rf 0 24 .DOCK_SID_SIZE (cd n) 0 x.part →
        (planBad full keep tarea a = true → Does (.sidOpen id q seq) s (w.reject id x 0x0504)) ∧
        (planBad full keep tarea a = false → ∀ choice,
          openChoice u c full keep (a % 2 ^ 24) (a.testBit 24) (b.rf 24 1 .DOCK_SID_SIZE (cd n) 0 x.part == 0) = choice →
          (choice = none → Does (.sidOpen id q seq) s (w.reject id x 0x0501)) ∧
          (∀ drop, choice = some drop →
            Does (.sidOpen id q seq) s
              (w.openFrame id n x {
                index := x.sidFrame, full := full, keep := keep, tarea := tarea, below := u, dropped := drop, recomp := a.testBit 24,
                closed := false, cursor := 0, step := x.step % 2 ^ 32, cars := 0, opened := b.time, closedAt := 0 })))))) ∧
  (∀ (u c full keep ahead : Nat) (recomp stall drop : Bool), keep ≤ full → openChoice u c full keep ahead recomp stall = some drop →
    u + (if drop then keep else full) ≤ c ∧ (drop = true → recomp = true ∧ stall = false ∧ c < u + full + ahead)) ∧
  (∀ (f : Frame), f.header.length = 64)

/-- Cars, CLOSE, RELEASE and CLEAR (06 R175 to R177). A car goes into the OPEN top frame of its index, or, in the drop area of a DROPPED frame, is
counted and discarded; CLOSE closes that frame and writes its header again. A car comes from the CLOSED top frame; RELEASE takes that frame off, and
CLEAR takes all. A poisoned piece that a pop brings into local store as Qm.n elements raises NUM.FIXNAN once (05 R150). A car outside the frame is
rejected with SID.BOUNDS, a pop from the drop area of a DROPPED frame with SID.DROPPED, and any of them without its top frame with SID.ORDER.
SID_BRANCH (06 R178): where both skip lists read well and name the partition's own queues only, the waybills of the list that the top frame's state
does not need are aborted one after the other, and PROD0 (KEPT) or PROD1 (DROPPED) is produced; a bad list rejects it before any abort, a poisoned
list as a poisoned descriptor, and without a CLOSED top frame of its index it is out of order. -/
def Obligations.SidingCarsComeAndGo : Prop :=
  ((∀ (s : State) (id q seq n lo hi : Nat) (x : Wb) (d : Desc) (w0 : Work), s.dev.unitRuns id = true → s.fetched id q seq w0 →
     w0.sidReady id q seq 0x0B 0 = some (x, n) → x.desc 0 = some d → x.carBlocks d = (lo, hi) →
     (w0.topFrame n x.part x.sidFrame false = none → Does (.sidCarPush id q seq) s (w0.reject id x 0x0503)) ∧
     (∀ f, w0.topFrame n x.part x.sidFrame false = some f →
       (hi > f.full - f.tarea ∨ lo = 0 ∨ (f.recomp = true ∧ lo < f.keep ∧ hi > f.keep) →
         Does (.sidCarPush id q seq) s (w0.reject id x 0x0505)) ∧
       (hi ≤ f.full - f.tarea → lo ≠ 0 → ¬(f.recomp = true ∧ lo < f.keep ∧ hi > f.keep) →
         (f.dropped = true → f.keep ≤ lo →
           Does (.sidCarPush id q seq) s
             (Work.finish { w0 with base := w0.base.countSat 1 32 32 .DOCK_SID_CNT (cd n) 0 x.part } id x)) ∧
         (f.dropped = false ∨ lo < f.keep → ∀ (w : Work) (l : List (Byte × Bool)) (rq : MemReq) (a : Nat),
           w0.packed (w0.base.cx id x true) d = (w, l) → rq = (w0.base.cx id x true).sidReq n →
           a = w.base.sidBase n x.part + 4096 * (f.below + lo) →
           Does (.sidCarPush id q seq) s
             ((Work.setTop { w with base := (w.base.noteReq rq (cd n) 81 0x28 l.length a).store rq a l } n x.part
               { f with cars := f.cars + 1 }).finish id x))))) ∧
   (∀ (s : State) (id q seq n : Nat) (x : Wb), s.dev.unitRuns id = true → s.work.sidReady id q seq 0x0B 2 = some (x, n) →
     (s.work.topFrame n x.part x.sidFrame false = none → Does (.sidClose id q seq) s (s.work.reject id x 0x0503)) ∧
     (∀ f g, s.work.topFrame n x.part x.sidFrame false = some f → g = { f with closed := true, closedAt := s.work.base.time } →
       Does (.sidClose id q seq) s
         ((Work.setTop { s.work with
           base := s.work.base.storeBytes ((s.work.base.cx id x).sidReq n) (s.work.base.sidBase n x.part + 4096 * f.below) g.header }
           n x.part g).finish id x))) ∧
   (∀ (s : State) (id q seq n lo hi : Nat) (x : Wb) (d : Desc), s.dev.unitRuns id = true → s.work.sidReady id q seq 0x0C 0 = some (x, n) →
     x.desc 0 = some d → x.carBlocks d = (lo, hi) →
     (s.work.topFrame n x.part x.sidFrame true = none → Does (.sidCarPop id q seq) s (s.work.reject id x 0x0503)) ∧
     (∀ f, s.work.topFrame n x.part x.sidFrame true = some f →
       (hi > f.full - f.tarea → Does (.sidCarPop id q seq) s (s.work.reject id x 0x0505)) ∧
       (hi ≤ f.full - f.tarea → f.dropped = true → f.keep < hi → Does (.sidCarPop id q seq) s (s.work.reject id x 0x0506)) ∧
       (hi ≤ f.full - f.tarea → f.dropped = false ∨ hi ≤ f.keep → ∀ (rq : MemReq) (a : Nat) (b : Base) (l : List (Byte × Bool)),
         rq = (s.work.base.cx id x).sidReq n → a = s.work.base.sidBase n x.part + 4096 * (f.below + lo) →
         (s.work.base.noteReq rq (cd n) 81 0x28 (d.count * d.ebytes) a).read { rq with sealchk := d.sealchk } a (d.count * d.ebytes) = (b, l) →
         ∀ (w : Work) (c : Base) (y : Wb), w = Work.unpack { s.work with base := b } (s.work.base.cx id x) d l →
         (c, y) = (if d.isLocal && l.any (·.2) && (match d.format with | .q _ => true | _ => false) then w.base.once id x 0x0108 else (w.base, x)) →
         Does (.sidCarPop id q seq) s (Work.finish { w with base := c } id y)))) ∧
   (∀ (s : State) (id q seq n : Nat) (x : Wb), s.dev.unitRuns id = true →
     (s.work.sidReady id q seq 0x0C 1 = some (x, n) →
       (∀ f, s.work.topFrame n x.part x.sidFrame true = some f →
         Does (.sidRelease id q seq) s ((s.work.setFrames n x.part (s.work.frames n x.part).dropLast).finish id x)) ∧
       (s.work.topFrame n x.part x.sidFrame true = none → Does (.sidRelease id q seq) s (s.work.reject id x 0x0503))) ∧
     (s.work.sidReady id q seq 0x0C 3 = some (x, n) → Does (.sidClear id q seq) s ((s.work.setFrames n x.part []).finish id x)))) ∧
  ((∀ (s : State) (id q seq n : Nat) (x : Wb) (d0 d1 : Desc), s.dev.unitRuns id = true → s.work.sidReady id q seq 0x0C 2 = some (x, n) →
     x.desc 0 = some d0 → x.desc 1 = some d1 →
     (s.work.topFrame n x.part x.sidFrame true = none → Does (.sidBranch id q seq) s (s.work.reject id x 0x0503)) ∧
     (∀ f w1 w l0 l1 bad0 bad1, s.work.topFrame n x.part x.sidFrame true = some f →
       s.work.skipList (s.work.base.cx id x) d0 = (w1, l0, bad0) → w1.skipList (w1.base.cx id x) d1 = (w, l1, bad1) →
       ((bad0 || bad1) = true → Does (.sidBranch id q seq) s (w.reject id x 0x0303)) ∧
       ((bad0 || bad1) = false → l0 = none ∨ l1 = none → Does (.sidBranch id q seq) s (w.reject id x 0x0508)) ∧
       ((bad0 || bad1) = false → ∀ k0 k1, l0 = some k0 → l1 = some k1 →
         ((w.base.foreign x.part k0 || w.base.foreign x.part k1) = true → Does (.sidBranch id q seq) s (w.reject id x 0x0508)) ∧
         ((w.base.foreign x.part k0 || w.base.foreign x.part k1) = false → ∀ v y,
           (if f.dropped then k1 else k0).foldl (Work.branchOne id) (w, x) = (v, y) →
           Does (.sidBranch id q seq) s (v.setWb id ({ y with prodMask := if f.dropped then 2 else 1 }.endWith 1)))))) ∧
   (∀ (w : Work) (c : Cx) (d : Desc), d.fmt ≠ 6 ∨ d.isStage = true ∨ d.count % 2 ≠ 0 ∨ d.count > 8192 → w.skipList c d = (w, none, false)) ∧
   (∀ (w w' : Work) (c : Cx) (d : Desc) (l : List Nat) (bad : Bool), w.skipList c d = (w', some l, bad) → l.length ≤ 4096))

/-- Checkpoints (13 R388 to R391). CKPT_OPEN writes the commit record of a generation with STATE 0, unless it is the newest valid one or the other
holds the boundary; CKPT_COMMIT writes it with STATE 1, the number of entries, the boundary and the digest of the manifest, where the generation is
open, its boundary new, and every entry good. CKPT_COPY and CKPT_RESTORE move the next 4 KiB; after the last a copy lists its extent in the manifest,
or reports poison with CKPOISON, and DOCK_CK_LAST names it (13 R398); a copy on the engine of a fenced stack ends UNIT_LOST (13 R393); a restore
compares the digest and reports a difference with CKDIGEST. -/
def Obligations.CheckpointsOpenCopyCommitRestore : Prop :=
  (∀ (s : State) (id q seq n p : Nat) (x : Wb) (mine other : Option (List Byte)) (b1 b2 : Base) (w : Work), s.dev.unitRuns id = true →
    p = x.part → s.work.base.ckRead (s.work.base.cx id x).req p x.ckGen = (b1, mine) →
    b1.ckRead (s.work.base.cx id x).req p (1 - x.ckGen) = (b2, other) →
    w = { s.work with base := b2 } →
    (s.work.ckReady id q seq 0x80 = some (x, n) → x.ckOpen = true →
      (ckIsNewest (ckValid mine) (ckValid other) = true ∨ ckValid other = some x.step →
        Does (.ckptOpen id q seq) s (w.reject id x 0x0C0E)) ∧
      (ckIsNewest (ckValid mine) (ckValid other) = false → ckValid other ≠ some x.step →
        Does (.ckptOpen id q seq) s
          (Work.finish { w with
            base := b2.storeBytes (s.work.base.cx id x).req (b2.ckHeader p x.ckGen)
              (b2.ckRecord x.ckGen 0 0 x.step 0 (b2.seedOf p) (b2.hstep p) 0 b2.epochs) } id x))) ∧
    (s.work.ckReady id q seq 0x81 = some (x, n) →
      (mine = none → Does (.ckptCommit id q seq) s (w.reject id x 0x0C0F)) ∧
      (∀ l, mine = some l →
        (ckState l ≠ 0 → Does (.ckptCommit id q seq) s (w.reject id x 0x0C0F)) ∧
        (ckState l = 0 → ckValid other = some (ckBoundary l) → Does (.ckptCommit id q seq) s (w.reject id x 0x0C0E)) ∧
        (ckState l = 0 → ckValid other ≠ some (ckBoundary l) → ∀ b m bad good,
          b2.readBytes (s.work.base.cx id x).req (b2.ckEntry p x.ckGen 0) (64 * x.arg) = (b, m, bad) →
          (!bad && (List.range x.arg).all fun i => ckEntryGood (slice m (64 * i) 64) x.ckGen (ckBoundary l)) = good →
          (good = true →
            Does (.ckptCommit id q seq) s
              (Work.finish { w with
                base := b.storeBytes (s.work.base.cx id x).req (b.ckHeader p x.ckGen)
                  (b.ckRecord x.ckGen 1 x.arg (ckBoundary l) (digest m) (fieldAt l 24 8) (fieldAt l 32 4) b.time (slice l 36 8)) } id x)) ∧
          (good = false → Does (.ckptCommit id q seq) s (Work.reject { w with base := b } id x 0x0C10)))))) ∧
  (∀ (s : State) (id q seq n : Nat) (x : Wb) (a d : Desc) (w : Work) (o : Option Wb), s.dev.unitRuns id = true →
    s.work.ckReady id q seq 0x80 = some (x, n) → x.ckOpen = false → x.ckRestore = false → x.desc 0 = some a → x.desc 1 = some d →
    s.work.ckCopyBegin id x a d = (w, o) →
    (s.work.base.stackFenced n = true → Does (.ckptCopy id q seq) s (s.work.setWb id (x.endWith 0x16))) ∧
    (s.work.base.stackFenced n = false → o = none → Does (.ckptCopy id q seq) s (w.reject id x 0x0C0F)) ∧
    (s.work.base.stackFenced n = false → ∀ y w1 z, o = some y → w.ckBlock id n y a.sealchk = (w1, z) →
      let last (b : Base) : Base := b.wr (BitVec.ofNat 64
        (z.arg % 65536 + z.ckGen * 2 ^ 16 + z.aux.getD 4 0 % 2 ^ 32 * 2 ^ 32)) .DOCK_CK_LAST (ms n)
      (4096 * z.next < z.aux.getD 3 0 → Does (.ckptCopy id q seq) s (w1.setWb id z)) ∧
      (z.aux.getD 3 0 ≤ 4096 * z.next → z.aux.getD 6 0 = 1 → ∀ b t, w1.base.each id z 0x0C12 = (b, t) →
        Does (.ckptCopy id q seq) s (Work.finish { w1 with base := last b } id t)) ∧
      (z.aux.getD 3 0 ≤ 4096 * z.next → z.aux.getD 6 0 ≠ 1 →
        Does (.ckptCopy id q seq) s (Work.finish { w1.ckListed id z with base := last (w1.ckListed id z).base } id z)))) ∧
  (∀ (s : State) (id q seq n : Nat) (x : Wb) (w : Work) (o : Option Wb), s.dev.unitRuns id = true →
    s.work.ckReady id q seq 0x80 = some (x, n) → x.ckOpen = false → x.ckRestore = true → s.work.ckRestoreBegin id x = (w, o) →
    (o = none → Does (.ckptRestore id q seq) s (w.reject id x 0x0C0F)) ∧
    (∀ y w1 z, o = some y → w.ckBlock id n y false = (w1, z) →
      (4096 * z.next < z.aux.getD 3 0 → Does (.ckptRestore id q seq) s (w1.setWb id z)) ∧
      (z.aux.getD 3 0 ≤ 4096 * z.next → z.aux.getD 6 0 ≠ 1 → digestCfg.finish (z.aux.getD 5 0) = z.aux.getD 7 0 →
        Does (.ckptRestore id q seq) s (w1.finish id z)) ∧
      (z.aux.getD 3 0 ≤ 4096 * z.next → z.aux.getD 6 0 ≠ 1 → digestCfg.finish (z.aux.getD 5 0) ≠ z.aux.getD 7 0 → ∀ b t,
        w1.base.each id z 0x0C11 = (b, t) → Does (.ckptRestore id q seq) s (Work.finish { w1 with base := b } id t)) ∧
      (z.aux.getD 3 0 ≤ 4096 * z.next → z.aux.getD 6 0 = 1 → digestCfg.finish (z.aux.getD 5 0) = z.aux.getD 7 0 → ∀ b t,
        w1.base.each id z 0x0C12 = (b, t) → Does (.ckptRestore id q seq) s (Work.finish { w1 with base := b } id t)) ∧
      (z.aux.getD 3 0 ≤ 4096 * z.next → z.aux.getD 6 0 = 1 → digestCfg.finish (z.aux.getD 5 0) ≠ z.aux.getD 7 0 → ∀ b1 t1 b t,
        w1.base.each id z 0x0C12 = (b1, t1) → b1.each id t1 0x0C11 = (b, t) →
        Does (.ckptRestore id q seq) s (Work.finish { w1 with base := b } id t))))

/-- DB_STEP_WRITE and DB_REPLAY_WRITE (13 R384). While the partition is quiet a write of DOCK_DB_STEP sets the step number, at a step boundary, and a
write of DOCK_DB_CTL stores REPLAY with RPL; otherwise the step number stays, REPLAY stays while RPL is stored, and SPR.DBSTEP is raised. -/
def Obligations.DaybookRegistersNeedQuiet : Prop :=
  ∀ (s : State) (rt : Route) (p data m : Nat) (v : Device) (w : Work), p < 8 → data < 2 ^ 64 → w = v.work →
    (s.writesReg rt ⟨.DOCK_DB_STEP, 40, 0, p, 0⟩ data m v →
      (w.quiet p = false →
        Leaves (.dbStepWrite rt p data) s ((v.setBase (w.base.psprEvent p 1 0x0C0B io0)).answer .ok)) ∧
      (w.quiet p = true → ∀ b1 b2, b1 = (w.base.wr (BitVec.ofNat 64 data) .DOCK_DB_STEP 40 0 p).boundary p →
        b2 = b1.setStep p (fun a => { a with histfill := decide (b1.unfilled p ≠ 0) }) →
        Leaves (.dbStepWrite rt p data) s
          ((v.onWork fun _ => ((Work.poolStep { w with base := b2 } p).ringForget p).foldStepBegin p data).answer .ok))) ∧
    (s.writesReg rt ⟨.DOCK_DB_CTL, 40, 0, p, 0⟩ data m v → ∀ old new kept, old = w.base.rd .DOCK_DB_CTL 40 0 p →
      new = v.newValue .DOCK_DB_CTL 40 0 p 0 data → kept = fput (fput 0 7 45 (fget new 7 45)) 0 1 (fget old 0 1) →
      (w.quiet p = true →
        Leaves (.dbReplayWrite rt p data) s ((v.setBase (w.base.wr (fput kept 0 1 (fget new 0 1)) .DOCK_DB_CTL 40 0 p)).answer .ok)) ∧
      (w.quiet p = false →
        Leaves (.dbReplayWrite rt p data) s
          ((v.setBase ((w.base.wr kept .DOCK_DB_CTL 40 0 p).psprEvent p 1 0x0C0B io0)).answer .ok)))

/-- Free check units and links (12 R344 to R346, R349). START begins a job of a unit that is not busy and whose settings are allowed, STATUS RUN and
DONE 0, and otherwise raises CHK.CFG; STOP ends a job with STATE IDLE and its interrupt, where CFG.IRQ asks. A job all of whose reads are good stores
its check register and length, and compares with EXPECT where CMP asks; one with a failing read ends in ERROR with the bytes before it and the cause.
A failed link is marked at both its ends where both have a bit for it, with CHK.D2D. -/
def Obligations.FreeUnitsRunJobs : Prop :=
  (∀ (s : State) (rt : Route) (d u m : Nat) (v : Device), freeUnit d u = true →
    (s.writesReg rt ⟨.CHK_FU_CTL, d, 0, u, 0⟩ 1 m v →
      (v.base.fuBusy d u = true ∨ v.base.fuRefused d u m = true →
        Leaves (.fuStart rt d u) s ((v.setBase (v.base.fuEvent d 1 0x0B06)).answer .ok)) ∧
      (v.base.fuBusy d u = false → v.base.fuRefused d u m = false →
        Leaves (.fuStart rt d u) s ((v.setBase ((v.base.wr 1 .CHK_FU_STATUS d 0 u).wr 0 .CHK_FU_DONE d 0 u)).answer .ok))) ∧
    (s.writesReg rt ⟨.CHK_FU_CTL, d, 0, u, 0⟩ 2 m v → v.base.fuBusy d u = true →
      Leaves (.fuStop rt d u) s ((v.setBase ((v.base.wf 0 2 0 .CHK_FU_STATUS d 0 u).fuIrq d u)).answer .ok))) ∧
  (∀ (s : State) (d u : Nat) (b : Base), s.dev.dieRuns d = true → freeUnit d u = true → s.work.base.fuBusy d u = true →
    (∀ reg r b1 ask, s.work.base.fuJob d u none = (b, .inl reg) → r = (s.work.base.fuCfg d u).finish reg →
      b1 = (b.wr (BitVec.ofNat 64 r) .CHK_FU_RESULT d 0 u).wr (BitVec.ofNat 64 (s.work.base.fuLen d u)) .CHK_FU_DONE d 0 u →
      ask = decide (s.work.base.rf 10 1 .CHK_FU_CFG d 0 u = 1) →
      (ask = false → DoesBase (.fuJobEnd d u) s ((b1.wr 2 .CHK_FU_STATUS d 0 u).fuIrq d u)) ∧
      (ask = true → r = (s.work.base.rd .CHK_FU_EXPECT d 0 u).toNat →
        DoesBase (.fuJobEnd d u) s ((b1.wr 6 .CHK_FU_STATUS d 0 u).fuIrq d u)) ∧
      (ask = true → r ≠ (s.work.base.rd .CHK_FU_EXPECT d 0 u).toNat →
        DoesBase (.fuJobEnd d u) s (((b1.wr 10 .CHK_FU_STATUS d 0 u).fuEvent d 0 0x0B05).fuIrq d u))) ∧
    (∀ far off cause, s.work.base.fuJob d u far = (b, .inr (off, cause)) →
      DoesBase (.fuJobError d u far) s
        (((((b.wr 0 .CHK_FU_RESULT d 0 u).wr (BitVec.ofNat 64 off) .CHK_FU_DONE d 0 u).wr (BitVec.ofNat 64 (3 + cause * 16))
          .CHK_FU_STATUS d 0 u).fuEvent d 2 0x0B07).fuIrq d u))) ∧
  (∀ (s : State) (d l : Nat), s.dev.dieRuns d = true → d2dLink d l = true → bget (s.work.base.rd .CHK_D2D_STATE d) l = false →
    (∀ e k, d2dOther d l = some (e, k) →
      DoesBase (.d2dLinkFail d l) s (((s.work.base.d2dMark d l).d2dMark e k).chkEvent d 3 0x0B04 (logic d) none)) ∧
    (d2dOther d l = none → DoesBase (.d2dLinkFail d l) s ((s.work.base.d2dMark d l).chkEvent d 3 0x0B04 (logic d) none)))

/-- STATFEED and PRECOND (09 R252 to R254, R257, R259). A running STATFEED whose operands are fetched forms its next piece on a free set and sends it
towards its engine; one whose mode is OFF ends DONE. A PRECOND that multiplies forms its next output tile of phase 1 or 2; one that passes its block
through copies its next tile. After each tile follow its lane verdict and, after the last, the end. ABFT_REPLAY of either (03 R93, 02 R61) runs it
again, whole, on a free tile: DONE with REPLAYED set, TRAPPED where an output tile traps, or CHECK_FAILED with its tile fenced. -/
def Obligations.StatisticsAndPreconditioningRun : Prop :=
  (∀ (s : State) (id q seq : Nat) (ups : List (Nat × Nat)) (x : Wb) (d : Desc) (w0 : Work), s.running id q seq 0x0A x → s.fetched id q seq w0 →
    x.desc 0 = some d →
    (w0.jobOf id q seq = none → Does (.statfeed id q seq ups) s (w0.setWb id (x.endWith 1))) ∧
    (∀ j, w0.jobOf id q seq = some j → j.moved = false → x.next < x.sfCount →
      (w0.productSet id x j = none → Does (.statfeed id q seq ups) s w0) ∧
      (∀ k w y lane trap, w0.productSet id x j = some k →
        w0.feedPiece id (w0.base.cx id x true) x d x.next ups = (w, y, lane, trap) →
        Does (.statfeed id q seq ups) s (w.productDone id y j k x.next (x.next + 1) lane trap (decide (x.next + 1 = y.sfCount)))))) ∧
  (∀ (s : State) (id q seq : Nat) (ups : List (Nat × Nat)) (x : Wb) (d r o : Desc) (w0 : Work), s.running id q seq 9 x → s.fetched id q seq w0 →
    x.desc 0 = some d → x.desc 1 = some r → x.desc 3 = some o →
    (x.preFull = false → x.next < preTiles d → Does (.precond id q seq ups) s (w0.prePass id x d o x.next)) ∧
    (x.preFull = true → x.next < 2 * preTiles d → ∀ j, w0.jobOf id q seq = some j → j.moved = false →
      (w0.productSet id x j = none → Does (.precond id q seq ups) s w0) ∧
      (∀ k w y lane trap, w0.productSet id x j = some k →
        w0.preTile id (w0.base.cx id x true) x d r o x.next ups = (w, y, lane, trap) →
        Does (.precond id q seq ups) s (w.productDone id y j k x.next (x.next + 1) lane trap (decide (x.next + 1 = 2 * preTiles d)))))) ∧
  (∀ (s : State) (id q seq n m units k : Nat) (ups : List (Nat × Nat)) (x y z : Wb) (j : Job) (w : Work) (b c : Base) (bad : Bool) (trap : TrapAt),
     s.running id q seq x.opcode x → x.opcode = 9 ∨ x.opcode = 0x0A → x.handed = false → s.work.jobOf id q seq = some j →
     s.work.base.tileOf id = some (n, m) → j.failed = true → j.members = [(q, seq)] →
     units = (if x.opcode = 0x0A then x.sfCount else match x.desc 0 with | some d => 2 * preTiles d | none => 0) → j.moved = true ∨ x.done = units →
     s.work.replayTileFor id x false = some k →
     Work.replayProducts id n k ups units 0 s.work { x with ovf := 0, van := 0, counts := [], nf := none, flags := x.flags / 2 * 2 } = (w, y, bad, trap) →
     b = w.base.wr (BitVec.ofNat 64 (n + k * 8 + (if bad then 2 else 1) * 1024)) .ACC_ABFT_PEER n m →
     c = b.reportOf y (fun v => if bad then { v with replayFail := v.replayFail + 1 } else { v with replayed := true }) →
     z = { y with flags := y.flags ||| 64, tile := tileCode n k } →
     ∀ d, d = (if j.moved then b else c) →
     Does (.abftReplay id q seq ups) s (
       if bad then ((({ w with base := c } : Work).setWb id z).endJob id j 0x14).fenceItself n m
       else match trap with
         | none => (({ w with base := d } : Work).setWb id z).endJob id j 0x01
         | some tr => (({ w with base := (d.takeTrap id z tr).1 } : Work).setWb id (d.takeTrap id z tr).2).endJob id j 0x13))

/-- Installation and folds (09 R263 to R267). INSTALL is refused on an engine with waybills in its window or running, held pieces or no partition;
else it reads and checks the records, and its end sets INSTALLED with them, or reports the first fault. An arriving piece is discarded or held, as
judged at the step of its partition; PIECE_FOLD folds the oldest held piece that may be, writing both mirrored tiles only where every value is finite;
a fold of which every tile has come closes. CRV_FOLD opens the due folds of its range; FEED_LIMIT_EXPIRY closes those still open. -/
def Obligations.CurvatureInstallsAndFolds : Prop :=
  (∀ (s : State) (rt : Route) (e m : Nat) (v : Device), s.writesReg rt ⟨.CRV_TTCTL, cd (e / 4), e % 4, 0, 0⟩ 1 m v → cd (e / 4) = e / 4 →
    (v.work.base.partOfCrv e = none ∨ (∃ x ∈ (v.work.unit (crvUnit e)).window, x.phase ≠ .issued) ∨ (v.work.crv e).held ≠ [] →
      Leaves (.timetableInstall rt e) s ((v.setBase (v.base.installRefused e)).answer .ok)) ∧
    (∀ p b r, v.work.base.partOfCrv e = some p → (∀ x ∈ (v.work.unit (crvUnit e)).window, x.phase = .issued) → (v.work.crv e).held = [] →
      v.work.base.installRecords e p = (b, r) →
      Leaves (.timetableInstall rt e) s
        ((v.onWork fun w => Work.setCrv { w with base := b } e { w.crv e with installing := some r }).answer .ok))) ∧
  (∀ (s : State) (e : Nat) (sds tts : List (List Byte)), s.dev.unitRuns (crvUnit e) = true →
    (∀ k i, (s.work.crv e).installing = some (some (k, i), sds, tts) →
      Does (.timetableInstallEnd e) s
        (Work.setCrv { s.work with
          base := ((s.work.base.wr (BitVec.ofNat 64 (k + i % 4096 * 65536)) .CRV_TTERR (cd (e / 4)) (e % 4)).wf 2 1 0 .CRV_STATE (cd (e / 4))
            (e % 4)).crvEvent e 0 0x0801 } e
          { s.work.crv e with installing := none, sd := [], tt := [], folds := [] })) ∧
    ((s.work.crv e).installing = some (none, sds, tts) →
      Does (.timetableInstallEnd e) s
        (Work.setCrv { s.work with
          base := (s.work.base.wr 0 .CRV_TTERR (cd (e / 4)) (e % 4)).wf 2 1 1 .CRV_STATE (cd (e / 4)) (e % 4) } e
          { s.work.crv e with installing := none, sd := sds, tt := tts, folds := [] }))) ∧
  (∀ (s : State) (e : Nat) (d : DeltaPiece) (w : Work), (s.dev.unitRuns (crvUnit e) && !s.dev.holds 3 (cd (e / 4)) (e % 4)) = true →
    s.work.curv.flying.find? (fun d => d.engine == e) = some d → w = { s.work with curv := { s.work.curv with flying := s.work.curv.flying.erase d } } →
    (∀ cause code, w.crvJudge e (w.base.stepOf d.part) d = some (cause, code) → Does (.deltaPiece e) s ((w.crvDiscard e d cause code).crvFeed e)) ∧
    (w.crvJudge e (w.base.stepOf d.part) d = none →
      Does (.deltaPiece e) s ((w.setCrv e { w.crv e with held := (w.crv e).held ++ [d] }).crvFeed e))) ∧
  (∀ (s : State) (e k : Nat) (d : DeltaPiece) (x : Wb) (b : Base) (f : List (List Nat)) (ok : Bool) (sd : List Byte) (w : Work),
    s.dev.unitRuns (crvUnit e) = true → s.work.foldable e = some (d, k, x) → sd = (s.work.crv e).sd.getD k [] →
    s.work.base.foldRows e d sd = (b, f, ok) → w = Work.foldTakes { s.work with base := b } e k d →
    (ok = true →
      Does (.pieceFold e) s (((Work.foldCloses { w with base := w.base.foldWritten e d sd f } e d.part x.step k sd).foldCheck e).crvFeed e)) ∧
    (ok = false →
      Does (.pieceFold e) s
        ((((Work.crvOnce { w with base := w.base.foldSkipped e d sd } e d.part 0x010A 0x010A).foldCloses e d.part x.step k sd).foldCheck e).crvFeed e))) ∧
  (∀ (s : State) (id q seq e : Nat) (x : Wb), s.running id q seq 0x20 x → crvOf id = some e → x.aux = [] →
    Does (.crvFold id q seq) s
      (((s.work.setCrv e ((s.work.foldDueEntries e x).foldl (CrvSt.openFold q seq) { s.work.crv e with raised := [] })).setWb id
        { x with aux := [1] }).foldCheck e)) ∧
  (∀ (s : State) (e : Nat) (x : Wb), s.dev.unitRuns (crvUnit e) = true → s.work.foldWb e = some x →
    (x.startTime + s.work.base.rf 0 32 .CRV_FEEDLIMIT (cd (e / 4)) (e % 4) ≤ s.work.base.time →
      Does (.feedLimitExpiry e) s ((s.work.closeOpened e x).foldCheck e)) ∧
    (s.work.base.time < x.startTime + s.work.base.rf 0 32 .CRV_FEEDLIMIT (cd (e / 4)) (e % 4) → Passes (.feedLimitExpiry e) s))

/-- Refreshes (10 R286, R289, R290, R292, R294). CRV_ROOT and CRV_INV pass to their first due block. BLOCK_REFRESH of it concludes STALE with cause
DEADLINE where the deadline has passed, waits where its fold is open, and otherwise computes: without a result it concludes STALE with its cause, with
one it leaves the pair to be published. ROOT_PUBLISH waits while the other pair is held, and otherwise writes it, flips SEL and concludes. A deadline
that passes during a wait concludes STALE, HELD for a pair and DEADLINE for a fold; a pair that has not begun its wait is tested first. A replay
(10 R297) reads the record of its block, takes its deadline and HELD causes from it, and compares. -/
def Obligations.RefreshesConcludeTheirBlocks : Prop :=
  (∀ (s : State) (id q seq e : Nat) (x : Wb), crvOf id = some e → x.aux = [] →
    (s.running id q seq 0x21 x →
      Does (.crvRoot id q seq) s (Work.refSkip id e q seq (x.refCount + 1) (s.work.setWb id { x with aux := [1, 1] }))) ∧
    (s.running id q seq 0x22 x →
      Does (.crvInv id q seq) s (Work.refSkip id e q seq (x.refCount + 1) (s.work.setWb id { x with aux := [1, 1] })))) ∧
  (∀ (s : State) (id q seq e op : Nat) (x : Wb) (t sd : List Byte) (stop : Option Nat), op = 0x21 ∨ op = 0x22 → s.running id q seq op x →
    crvOf id = some e → x.aux ≠ [] →
    (s.work.crv e).refresh = none → s.work.refEntry e x = some (t, sd) →
    ∀ (w0 : Work) (r : Option Nat) (cause at_ : Nat), s.work.refRecord id x = (w0, r) → cause = (r.elim 0 fun v => v / 2 ^ 28 % 16) →
    at_ = (r.elim 0 fun v => v / 2 ^ 32 % 256) →
    let deadline : Work := w0.refStale id e x sd 1 (if op = 0x22 then 0 else 0xFF) 0 false r
    (x.refReplay = false → w0 = s.work ∧ r = none) ∧
    (w0.base.refPassed x = true → Does (.blockRefresh id q seq stop) s deadline) ∧
    (w0.base.refPassed x = false → w0.refWaits e x t = true → Does (.blockRefresh id q seq stop) s w0) ∧
    (w0.base.refPassed x = false → w0.refWaits e x t = false → cause = 1 → op = 0x22 ∨ at_ = 0xFF → Does (.blockRefresh id q seq stop) s deadline) ∧
    (w0.base.refPassed x = false → w0.refWaits e x t = false → ¬(cause = 1 ∧ (op = 0x22 ∨ at_ = 0xFF)) →
      ∀ (b1 b2 : Base) (word info : Nat) (limit : Option Nat) (w w1 : Work) (o : RefreshOut) (y : Wb),
      w0.base.dieRead x.part (sdRoots sd) 8 = (b1, some word) → b1.dieRead x.part (sdRoots sd + 8) 8 = (b2, some info) →
      limit = (if x.hasDeadline && !x.refReplay then stop else none) →
      Work.refCompute { w0 with base := b2 } e x t sd word info limit
        (if cause = 1 then .stopped at_ else if cause = 2 then .held at_ else .free) = (w, o) →
      w.refRan id e x sd (op == 0x22) o = (w1, y) →
      (o.result = 3 → Does (.blockRefresh id q seq stop) s (w1.refStale id e y sd o.cause o.iters o.colds o.cold r)) ∧
      (o.result ≠ 3 → cause = 2 → Does (.blockRefresh id q seq stop) s (w1.refStale id e y sd 2 o.iters o.colds o.cold r)) ∧
      (o.result ≠ 3 → cause ≠ 2 →
        Does (.blockRefresh id q seq stop) s (w1.setCrv e { w1.crv e with refresh := some (o.pair y limit (w1.base.scratchGens e sd)) })))) ∧
  (∀ (s : State) (e : Nat) (r : PendingPair) (x : Wb) (t sd : List Byte) (w0 : Work) (rec : Option Nat) (b : Base) (word : Nat),
    s.dev.unitRuns (crvUnit e) = true → s.work.refPending e = some (r, x, t, sd) → s.work.refRecord (crvUnit e) x = (w0, rec) →
    w0.base.dieRead x.part (sdRoots sd) 8 = (b, some word) →
    let held := nget word (16 + 16 * (1 - word % 2)) 16 ≠ 0
    let stale : Work := Work.refStale { w0 with base := b } (crvUnit e) e x sd 2 r.iters r.colds r.cold rec
    (held → r.late = false → b.refPassed x = false →
      Does (.rootPublish e) s (Work.setCrv { w0 with base := b } e { w0.crv e with refresh := some { r with waited := true } })) ∧
    (held → r.late = true ∨ b.refPassed x = true → Does (.rootPublish e) s stale) ∧
    (¬held → r.waited = true → b.refPassed x = true → Does (.rootPublish e) s stale) ∧
    (¬held → r.waited = false ∨ b.refPassed x = false → ∀ b1 k, b.pairNow e sd r = (b1, k) →
      Does (.rootPublish e) s
        (Work.refConclude { w0 with base := b1.pairWritten e x sd word k } (crvUnit e) e x sd k.result k.cause k.iters k.cold rec))) ∧
  (∀ (s : State) (id q seq e op : Nat) (x : Wb), op = 0x21 ∨ op = 0x22 → s.running id q seq op x → crvOf id = some e → x.aux ≠ [] →
    s.work.base.refPassed x = true →
    (∀ r y t sd, (s.work.crv e).refresh = some r → r.queue = q → r.seq = seq → r.waited = true → s.work.refPending e = some (r, y, t, sd) →
      Does (.refreshDeadlineExpiry id q seq) s (s.work.refStale id e y sd 2 r.iters r.colds r.cold none)) ∧
    (∀ r, (s.work.crv e).refresh = some r → r.queue = q → r.seq = seq → r.waited = false →
      Does (.refreshDeadlineExpiry id q seq) s (s.work.rootPublish e)) ∧
    (∀ t sd, (s.work.crv e).refresh = none → s.work.refEntry e x = some (t, sd) → s.work.refWaits e x t = true →
      Does (.refreshDeadlineExpiry id q seq) s (s.work.refStale id e x sd 1 (if op = 0x22 then 0 else 0xFF) 0 false none)))

/-- Update units (08 R215, R219, R220, R225, R238, R240, R241). An arriving piece of gradient is discarded with its credit where its partition does
not own the stack, discarded with UPD.INTAKE where its step is past or it is there already, and otherwise held; one held past the limit is reported
once. A slice that may enter goes to the lanes with its gradient, or to a free far-wait slot where its state is far, from which its return takes it.
An UPD_APPLY gives every ready slice to the lanes and ends with the last. UPD_TIESUM adds the next 1,024 elements of its rows, and UPD_EXPORT writes
the record of the next slice. -/
def Obligations.UpdateUnitsUpdateSlices : Prop :=
  (∀ (s : State) (m st o : Nat) (p : GradPiece) (w : Work),
    (s.dev.pwr.ready && !(upto 4 (8 + 4 * m)).any fun d => s.dev.holds 4 d 1) = true →
    s.work.upd.flying.find? (s.work.base.inQuartet m) = some p → s.work.base.place p.addr = .stack st o →
    w = { s.work with upd := { s.work.upd with flying := s.work.upd.flying.erase p } } →
    (w.base.partOfStack st ≠ some p.part → Does (.intakePiece m) s (w.freePieces m p.spender 1)) ∧
    (w.base.partOfStack st = some p.part →
      (older 16 p.tag (w.base.stepOf p.part) = true ∨ (p.tag = w.base.stepOf p.part % 65536 ∧ (w.pool m).any p.same = true) →
        Does (.intakePiece m) s (w.badPiece m st p)) ∧
      (older 16 p.tag (w.base.stepOf p.part) = false → ¬(p.tag = w.base.stepOf p.part % 65536 ∧ (w.pool m).any p.same = true) →
        Does (.intakePiece m) s (w.setPool m (w.pool m ++ [{ p with time := w.base.time }]))))) ∧
  (∀ (s : State) (m : Nat), s.dev.pwr.ready = true →
    Does (.intakeLimitExpiry m) s
      (Work.setPool { s.work with
        base := ((s.work.pool m).filter (s.work.pieceLate m)).foldl (fun b p => b.updEvent (b.pieceStack m p) 4 0x0706) s.work.base } m
        ((s.work.pool m).map fun p => if s.work.pieceLate m p then { p with unmatched := true } else p))) ∧
  (∀ (s : State) (id q seq n : Nat) (x : Wb) (d : Desc), s.dev.unitRuns id = true → s.work.applyOf id q seq = some (x, n, d) →
    (∀ j, (s.work.sliceMay n x d q seq j = false → Passes (.sliceUpdate id q seq j) s) ∧
      (s.work.sliceMay n x d q seq j = true → ∀ w g, s.work.takeGradient n (s.work.base.cx id x) x j (d.base + 4096 * j) = (w, g) →
        (s.work.base.sliceFar x = false → Does (.sliceUpdate id q seq j) s (w.sliceLanes id n x j (d.base + 4096 * j) g)) ∧
        (s.work.base.sliceFar x = true → 512 ≤ (s.work.farSlots n).length → Passes (.sliceUpdate id q seq j) s) ∧
        (s.work.base.sliceFar x = true → (s.work.farSlots n).length < 512 →
          Does (.sliceUpdate id q seq j) s
            (w.setFarSlots n (w.farSlots n ++ [{ queue := q, seq := seq, slice := j, grad := g }])))) ∧
      (∀ f, (s.work.farSlots n).find? (·.isOf q seq j) = some f →
        Does (.farwaitReturn id q seq j) s
          ((s.work.setFarSlots n ((s.work.farSlots n).filter fun g => !g.isOf q seq j)).sliceLanes id n x j (d.base + 4096 * j) f.grad))) ∧
    (∀ w y, (s.work.base.slicesOn n d).foldl (fun (w : Work) c => w.sliceUpdate id q seq c.1) s.work = w → w.wb? id q seq = some y →
      ((s.work.base.slicesOn n d).all (fun c => (Map.find c.1 (w.slicesDone x)).isSome) = true →
        Does (.updApply id q seq) s (w.setWb id (y.endWith 1))) ∧
      ((s.work.base.slicesOn n d).all (fun c => (Map.find c.1 (w.slicesDone x)).isSome) = false → Does (.updApply id q seq) s w))) ∧
  (∀ (s : State) (id q seq k : Nat) (x y z : Wb) (a o : Desc) (w : Work) (rows : List (List Nat)) (b : Base), s.running id q seq 0x41 x →
    x.desc 0 = some a → x.desc 2 = some o → 1024 * x.next < a.d0 → k = min 1024 (a.d0 - 1024 * x.next) →
    s.work.tieRows (s.work.base.cx id x) a (1024 * x.next) k = (w, rows) →
    (w.base.storeBytes (s.work.base.cx id x).req (o.base + 4 * (1024 * x.next)) ((tieAdd rows).flatMap (leBytes 4))).tieFinite id x x.next (tieAdd rows)
      = (b, y) → z = { y with next := y.next + 1, done := y.done + 1 } →
    (a.d0 ≤ 1024 * z.next → Does (.updTiesum id q seq) s (Work.setWb { w with base := b } id (z.endWith 1))) ∧
    (1024 * z.next < a.d0 → Does (.updTiesum id q seq) s (Work.setWb { w with base := b } id z))) ∧
  (∀ (s : State) (id q seq n : Nat) (x : Wb) (d o : Desc), s.running id q seq 0x42 x → updOf id = some n → x.desc 0 = some d → x.desc 1 = some o →
    ((s.work.base.slicesOn n d)[x.next]? = none → Does (.updExport id q seq) s (s.work.setWb id (x.endWith 1))) ∧
    (∀ j a w l z, (s.work.base.slicesOn n d)[x.next]? = some (j, a) → s.work.exportRecord (s.work.base.cx id x) x j a = (w, l) →
      z = { x with next := x.next + 1, done := x.done + 1 } →
      (z.next = (s.work.base.slicesOn n d).length →
        Does (.updExport id q seq) s
          (Work.setWb { w with base := w.base.store (s.work.base.cx id x).req (o.base + j * l.length) l } id (z.endWith 1))) ∧
      (z.next ≠ (s.work.base.slicesOn n d).length →
        Does (.updExport id q seq) s
          (Work.setWb { w with base := w.base.store (s.work.base.cx id x).req (o.base + j * l.length) l } id z))))

/-- The waybills of ring engines as they begin (11 R322 to R324, R328, R331); after each, the frames held for it are delivered again (ringFeed). SEND
to its own member copies into the target, with its token, or is refused; to another it sends its frames. RELAY produces its first token and sends its
own block east. REDUCE's rank 0 sends its contribution east, any other waits for its west. DIGEST's rank 0 sends its list east. RESHARD sends
EPOCH_END, installs the record and tells its neighbours; it ends once it misses no EPOCH_END. -/
def Obligations.RingWaybillsBegin : Prop :=
  ∀ (s : State) (id q seq : Nat) (x : Wb) (o : RingOp), s.dev.unitRuns id = true → o = s.work.base.newOp id x →
    (s.work.ringBegin? id q seq 0x60 = some x → ∀ a t j w l token, x.desc 0 = some a → x.desc 1 = some t →
      j = (o.rank + x.oparg / 32 % 64) % o.S → token = (if x.oparg.testBit 11 then some (x.arg % 2 ^ 24) else none) →
      (s.work.addOp o).tensorBytes ((s.work.addOp o).base.cx id x) a = (w, l) →
      (j = o.rank → w.base.putTarget x.part t l.length = true →
        (token = none → Does (.ringSend id q seq) s ((w.tensorWrite (w.base.cx id x) t 0 l).opEnd o 1).ringFeed) ∧
        (∀ k, token = some k →
          Does (.ringSend id q seq) s (((w.tensorWrite (w.base.cx id x) t 0 l).sendToken x.part k x.number).opEnd o 1).ringFeed)) ∧
      (j = o.rank → w.base.putTarget x.part t l.length = false → ∀ b y, w.base.each id x 0x0A10 = (b, y) →
        Does (.ringSend id q seq) s ((Work.setWb { w with base := b } id y).opEnd o 0x10).ringFeed) ∧
      (j ≠ o.rank →
        Does (.ringSend id q seq) s
          (w.opTransfer o (o.eastTo o.rank j) (o.pos j) 0 0 0 l (.put (x.descs.getD 1 []) token l.length o.number)).1.ringFeed)) ∧
    (s.work.ringBegin? id q seq 0x61 = some x → ∀ w, w = (s.work.addOp o).sendToken x.part (x.arg % 2 ^ 24) x.number →
      (o.S ≤ 1 → Does (.ringRelay id q seq) s (w.opEnd o 1).ringFeed) ∧
      (1 < o.S → ∀ w1 w2 a b, w.slotRead (w.base.cx id x) (x.desc 0) o.S o.rank = (w1, a) →
        w1.slotRead (w.base.cx id x) (x.desc 1) o.S o.rank = (w2, b) →
        Does (.ringRelay id q seq) s
          (w2.opTransfer o (o.eastTo o.rank ((o.rank + 1) % o.S)) (o.pos ((o.rank + 1) % o.S)) 1 (o.pos o.rank) 0 (a ++ b)).1.ringFeed)) ∧
    (s.work.ringBegin? id q seq 0x62 = some x →
      (o.rank ≠ 0 → Does (.ringReduce id q seq) s (s.work.addOp o).ringFeed) ∧
      (o.rank = 0 → ∀ w g w1 y, (s.work.addOp o).contribution id x 0 x.reduceCount = (w, g) → w.reduceFinite id x 0 g = (w1, y) →
        (o.S ≠ 1 → ∀ w2 o2, (w1.setWb id y).opTransfer o true (o.pos 1) 2 0 0 (g.flatMap (leBytes 4)) = (w2, o2) →
          Does (.ringReduce id q seq) s (w2.reduceFigures o2 y).ringFeed) ∧
        (o.S = 1 → ∀ w2 z o2, (w1.setWb id y).reduceOut id y 0 g = (w2, z) → o2 = { o with data := g.zipIdx.map fun c => (c.2, c.1) } →
          Does (.ringReduce id q seq) s (((w2.setWb id z).setOp o2).reduceFigures o2 z).ringFeed))) ∧
    (s.work.ringBegin? id q seq 0x63 = some x → ∀ d, x.desc 0 = some d →
      (o.S ≤ 1 → ∀ o2, o2 = { o with lineFound := some none } →
        Does (.ringDigest id q seq) s (((s.work.addOp o).setOp o2).digestEnd o2).ringFeed) ∧
      (1 < o.S → o.rank = 0 → ∀ w l, (s.work.addOp o).tensorBytes ((s.work.addOp o).base.cx id x) d = (w, l) →
        Does (.ringDigest id q seq) s (w.opTransfer o true (o.pos 1) 4 0 0 l).1.ringFeed) ∧
      (1 < o.S → o.rank ≠ 0 → Does (.ringDigest id q seq) s (s.work.addOp o).ringFeed)) ∧
    (s.work.ringBegin? id q seq 0x64 = some x → ∀ d w l r w1 r1, x.desc 0 = some d →
      s.work.tensorBytes (s.work.base.cx id x) d = (w, l) → r = w.base.reshardOp id x l →
      w1 = (((((w.addOp r).reshardEnds r).reshardInstall x.ringLine l).reshardTell r l ((r.rank + 1) % r.S)
        (r.eastTo r.rank ((r.rank + 1) % r.S))).reshardTell r l ((r.rank + r.S - 1) % r.S)
        (!(r.eastTo ((r.rank + r.S - 1) % r.S) r.rank))).reshardBegins id x.ringLine →
      w1.ringOp? (fun y => y.queue == q && y.seq == seq) = some r1 →
      Does (.ringReshard id q seq) s (w1.reshardCheck r1).ringFeed)

/-- Links as they train and fail (11 R303 to R305, R312 to R314, R316, R321, R331; 12 R348; 19 R532, R533). A link with stable light and joined
coupler locks its wavelengths and, once locked, sends TRAIN frames; without its laser it waits for its retry, which 100 ms end. A fitting TRAIN frame
leads to TEST and the first TEST frame, one that does not fit fails the training, one that is not good is answered by another TRAIN frame, and the
first of a new attempt brings a link in TEST back to TRAIN. A good TEST frame is answered by the next, the last puts the link in service, where it
resends what its neighbour has not acknowledged, a bad one sends it back. Without SENSE no link trains. A failing lane moves to the spare of its
fibre, or takes its fibre away; the idle spare and a moved lane fail without effect. A link that leaves service retrains, and after 100 ms is FAILED,
its frames moved to its direction's other engines. JOIN drives the coupler's hold; a switch that closes takes every link out of service and stops
those that train. -/
def Obligations.LinksTrainAndFail : Prop :=
  (∀ (s : State) (e fibres : Nat) (lanes : List (Nat × Nat)) (b : Base), s.dev.pwr.iordy = true → s.work.mayTrain e fibres = true →
    (s.work.base.laserOk e = true → b = s.work.base.lockLanes e fibres lanes →
      (b.eng e 16 4 .RING_LINKST = 0 → DoesBase (.linkTrain e fibres lanes) s b) ∧
      (b.eng e 16 4 .RING_LINKST ≠ 0 →
        Does (.linkTrain e fibres lanes) s
          (Work.setOpt { s.work with base := b.engSet e 0 3 1 .RING_LINKST } e { s.work.opt e with lockSince := some b.time }))) ∧
    (s.work.base.laserOk e = false →
      Does (.linkTrain e fibres lanes) s
        (Work.setOpt { s.work with base := s.work.base.ringEvent e 6 0x0A07 none } e
          { s.work.opt e with trainFailed := some s.work.base.time }))) ∧
  (∀ (w : Work), (∀ c ∈ w.ring.engines, ∀ t, c.2.lockSince = some t → w.base.time < t + msTicks 5) → w.locksEnd = w) ∧
  (∀ (w : Work) (e : Nat), w.base.linkState e = 1 → w.base.senses = true →
    w.lockEnd e = (Work.setOpt { w with base := w.base.engSet e 0 3 2 .RING_LINKST } e
      { w.opt e with trains := 0, trainsOut := 0, tests := 0, testsOut := 0, lockSince := none }).trainSend e) ∧
  (∀ (s : State) (e : Nat), s.dev.pwr.iordy = true →
    (∀ t, (s.work.opt e).trainFailed = some t → t + msTicks 100 ≤ s.work.base.time →
      Does (.trainRetryExpiry e) s (s.work.setOpt e { s.work.opt e with trainFailed := none })) ∧
    (e < 16 → Does (.linkDown e) s (s.work.linkLeaves e)) ∧
    (∀ t n w, (s.work.opt e).downSince = some t → t + msTicks 100 ≤ s.work.base.time → s.work.base.inService e = false →
      n = (s.work.opt e).sent.countP (fun c => takesCredit c.2.type && !c.2.ofLink) →
      w = Work.setOpt { s.work with base := ((s.work.base.engSet e 0 3 6 .RING_LINKST).ringEvent e 3 0x0A04 none).engCount e n .RING_CNT_RETRY } e
        { s.work.opt e with downSince := none, queue := [], sent := [] } →
      Does (.linkRecoveryExpiry e) s
        ((s.work.opt e).moving.zipIdx.foldl (fun (w : Work) f => w.ringSpread (facesEast e) f.2 f.1) w)) ∧
    (e < 16 → s.work.base.inService e = true →
      ((s.work.opt e).nextFrame [] (s.work.opt e).queue = none →
        Does (.creditFrameSend e) s
          ((s.work.setOpt e { s.work.opt e with owed := List.replicate 8 0 }).ringQueue e
            { type := 1, body := .credits (((s.work.opt e).owed.zipIdx.filter fun c => c.1 != 0).map fun c => (c.2, c.1)) })) ∧
      (∀ f, (s.work.opt e).nextFrame [] (s.work.opt e).queue = some f → Passes (.creditFrameSend e) s))) ∧
  (∀ (s : State) (e : Nat) (l : List Byte), s.dev.pwr.iordy = true → e < 16 →
    (fieldAt l 0 1 % 16 = 3 → s.work.base.senses = false → ∀ body, Passes (.trainFrame e l body) s) ∧
    (fieldAt l 0 1 % 16 = 4 → s.work.base.senses = false → ∀ body, Passes (.testFrame e l body) s) ∧
    (∀ t w0 x w1 w, fieldAt l 0 1 % 16 = 3 → s.work.base.senses = true →
      s.work.base.linkState e = 1 ∨ s.work.base.linkState e = 2 ∨
        s.work.base.linkState e = 3 ∧ frameMalformed l = false ∧ frameFolded l = true ∧ frameChecked l (foldTrain 0) = true →
      w0 = (if s.work.base.linkState e = 2 then s.work else s.work.trainBegin e) → x = w0.opt e →
      w1 = w0.setOpt e { x with trains := x.trains + 1 } →
      (trainBad x l = true →
        Does (.trainFrame e l (.train t)) s (Work.trainSend { w1 with base := w1.base.engCount e 1 .RING_CNT_CHKFAIL } e)) ∧
      (trainBad x l = false → w = w1.trainTaken e l →
        (w.base.trainWrong e t = true → Does (.trainFrame e l (.train t)) s (w.trainFails e 0)) ∧
        (w.base.trainWrong e t = false → 5 ≤ w.base.hops e t.pos ∨ 800 < t.loss → Does (.trainFrame e l (.train t)) s (w.trainFails e 1)) ∧
        (w.base.trainWrong e t = false → w.base.hops e t.pos < 5 → t.loss ≤ 800 →
          Does (.trainFrame e l (.train t)) s
            ((Work.setOpt { w with base := w.base.trained e x.lastHops t } e { w.opt e with tests := 0, testsOut := 0 }).testSend e)))) ∧
    (∀ body x w, fieldAt l 0 1 % 16 = 4 → s.work.base.senses = true → s.work.base.linkState e = 3 → x = s.work.opt e → w = s.work.trainTaken e l →
      (s.work.base.testBad e x.tests l = true →
        Does (.testFrame e l body) s (Work.trainBegin { s.work with base := s.work.base.engCount e 1 .RING_CNT_CHKFAIL } e)) ∧
      (s.work.base.testBad e x.tests l = false →
        (x.tests + 1 < 65536 → Does (.testFrame e l body) s ((w.setOpt e { w.opt e with tests := x.tests + 1 }).testSend e)) ∧
        (65536 ≤ x.tests + 1 → ∀ w2 l2, w2 = Work.setOpt { w with base := w.base.engSet e 0 3 4 .RING_LINKST } e
            ((w.opt e).inUse (w.base.eng e 10 3 .RING_LINKST)) → l2 = (w2.opt e).sent →
          (x.downSince = none ∨ l2 = [] → Does (.testFrame e l body) s (w2.ringPump e)) ∧
          (x.downSince ≠ none → l2 ≠ [] →
            Does (.testFrame e l body) s
              ((Work.emit { w2 with base := w2.base.engCount e l2.length .RING_CNT_RETRY } e (l2.map fun c => (c.1, true, c.2))).ringPump e)))))) ∧
  (∀ (s : State) (e fibre lane mask : Nat) (b : Base), s.dev.pwr.iordy = true → e < 16 → fibre < 4 → mask = s.work.base.eng e 16 4 .RING_LINKST →
    mask.testBit fibre = true →
    (lane < 8 → s.work.base.spared e fibre = false →
      b = (s.work.base.engSet e (5 * fibre) 5 (lane + 16) .RING_WAVE).ringEvent e 4 0x0A05 none →
      Does (.wavelengthSpare e fibre lane) s
        (Work.ringQueue { s.work with base := b } e { type := 7, dst := b.eng e 4 6 .RING_LINKST, body := .laneMove fibre lane })) ∧
    (s.work.base.spared e fibre = false → 8 ≤ lane → Passes (.wavelengthSpare e fibre lane) s) ∧
    (s.work.base.spared e fibre = true → lane = s.work.base.eng e (5 * fibre) 4 .RING_WAVE → Passes (.wavelengthSpare e fibre lane) s) ∧
    (s.work.base.spared e fibre = true → lane < 9 → lane ≠ s.work.base.eng e (5 * fibre) 4 .RING_WAVE →
      b = (s.work.base.engSet e 16 4 (mask - 2 ^ fibre) .RING_LINKST).ringEvent e 5 0x0A06 none →
      (mask = 2 ^ fibre → Does (.wavelengthSpare e fibre lane) s (Work.linkLeaves { s.work with base := b } e)) ∧
      (mask ≠ 2 ^ fibre → DoesBase (.wavelengthSpare e fibre lane) s b))) ∧
  (∀ (s : State) (j power : Nat), s.dev.heeds = true → j < 8 →
    (∀ present alarm w, w = { s.work with base := s.work.base.wr (laserWord (s.work.base.rd .RING_LASER 40 0 j) present alarm power) .RING_LASER 40 0 j } →
      (w.base.laserOk (2 * j) = true → Does (.laserState j present alarm power) s w) ∧
      (w.base.laserOk (2 * j) = false → Does (.laserState j present alarm power) s ((w.laserOff (2 * j)).laserOff (2 * j + 1)))) ∧
    (1200 ≤ sext 16 power →
      DoesBase (.laserModuleRestored j power) s (s.work.base.wr (BitVec.ofNat 64 (3 + power % 2 ^ 16 * 2 ^ 16)) .RING_LASER 40 0 j))) ∧
  (∀ (s : State), s.dev.heeds = true →
    (s.work.base.rf 1 1 .RING_BYPASS 40 = 1 → DoesBase (.couplerSense true) s (s.work.base.wf 2 1 1 .RING_BYPASS 40)) ∧
    (s.work.base.rf 1 1 .RING_BYPASS 40 ≠ 1 → Passes (.couplerSense true) s) ∧
    Does (.couplerSense false) s
      ((List.range 16).foldl (fun (w : Work) e => (w.trainStops e).linkLeaves e) { s.work with base := s.work.base.wf 2 1 0 .RING_BYPASS 40 })) ∧
  (∀ (s : State) (rt : Route) (join : Bool) (m : Nat) (v : Device) (w : Work), s.writesReg rt ⟨.RING_BYPASS, 40, 0, 0, 0⟩ (b2n join) m v →
    w = { v.work with
      base := (v.base.wf 0 1 (b2n (join && !v.pwr.vauxLow)) .RING_BYPASS 40).wf 1 1 (b2n (join && !v.pwr.vauxLow)) .RING_BYPASS 40 } →
    ((join && !v.pwr.vauxLow) = true →
      Leaves (.ringBypassWrite rt join) s ((v.onWork fun _ => (List.range 16).foldl Work.engineBack w).answer .ok)) ∧
    ((join && !v.pwr.vauxLow) = false → Leaves (.ringBypassWrite rt join) s ((v.onWork fun _ => w).answer .ok)))

/-- Frames on a link in service (11 R307 to R310, R315, R321, R331; 12 R347, R348). A frame that is not accepted, one of no valid type among them, is
discarded and asked for again. An accepted one is counted and what it acknowledges leaves the retry buffer; then a CREDIT frame gives its credits, a
RETRY frame has the frames it asks for sent again in folded mode, and a DATA, EPOCH_END, EPOCH_BEGIN or CONTROL frame acts here, is held, goes on, or
is dropped, by its destination (routeFrame); one that goes on keeps its credits until it leaves. Held frames past their limit, and reshards past
theirs, are reported. A frame as sent is counted, and carries the check that the engine opposite computes for it, in either mode. -/
def Obligations.FramesActByTheirType : Prop :=
  (∀ (s : State) (e : Nat) (l : List Byte) (body : FrameBody) (w : Work), s.dev.pwr.iordy = true → e < 16 → s.work.base.inService e = true →
    ((s.work.opt e).retrying && !frameFolded l) = false → w = s.work.frameTaken e (frameFields l body) l →
    (s.work.frameBad e l = true →
      (fieldAt l 0 1 % 16 = 1 → Does (.creditFrame e l body) s (s.work.frameFails e)) ∧
      (fieldAt l 0 1 % 16 = 2 → Does (.retryFrame e l body) s (s.work.frameFails e)) ∧
      (fieldAt l 0 1 % 16 = 7 ∨ 8 ≤ fieldAt l 0 1 % 16 → Does (.controlFrame e l body) s (s.work.frameFails e))) ∧
    (s.work.frameBad e l = false →
      (fieldAt l 0 1 % 16 = 0 → s.dev.pwr.ready = true → s.dev.holds 6 (io (e / 4)) (e % 4) = false →
        Does (.dataFrame e l body) s (w.routeFrame e (frameFields l body))) ∧
      (∀ c, fieldAt l 0 1 % 16 = 1 → body = .credits c → Does (.creditFrame e l body) s ((w.setOpt e ((w.opt e).credited c)).ringPump e)) ∧
      (∀ n k, fieldAt l 0 1 % 16 = 2 → body = .retry n → k = (w.opt e).again n →
        Does (.retryFrame e l body) s
          (Work.emit { w with base := (w.base.noteRing e (frameFields l body) 0x63 k.length).engCount e k.length .RING_CNT_RETRY } e
            (k.map fun c => (c.1, true, c.2)))) ∧
      (fieldAt l 0 1 % 16 = 5 → Does (.epochEndFrame e l body) s (w.routeFrame e (frameFields l body))) ∧
      (fieldAt l 0 1 % 16 = 6 → Does (.epochBeginFrame e l body) s (w.routeFrame e (frameFields l body))) ∧
      (fieldAt l 0 1 % 16 = 7 → Does (.controlFrame e l body) s (w.routeFrame e (frameFields l body))))) ∧
  (∀ (w : Work) (e : Nat) (l : List Byte), 8 ≤ fieldAt l 0 1 % 16 → w.frameBad e l = true) ∧
  (∀ (w : Work) (e : Nat) (l : List (Nat × Bool × OutFrame)) (b : Base) (x : RingEng), x = w.opt e →
    b = l.foldl (fun (b : Base) c => b.noteRing e c.2.2 0x60 c.2.2.length) w.base →
    w.emit e l = Work.setOpt { w with base := b.engCount e l.length .RING_CNT_TX } e
      { x with wire := l.map fun c => w.base.frameWire e x c.1 c.2.1 c.2.2 }) ∧
  (∀ (b c : Base) (e n : Nat) (x : RingEng) (f : OutFrame) (fold : Bool), e < 16 → f.type < 8 → f.type ≠ 3 → f.vc < 8 → c.ringId = b.ringId →
    c.ringPos = b.eng e 4 6 .RING_LINKST → frameChecked (b.frameWire e x n fold f) (c.foldPrefix (Nat.xor e 8) n) = true) ∧
  (∀ (w : Work) (e : Nat) (f : OutFrame), f.dst = w.base.ringPos → w.routeFrame e f = w.takeFrame e f) ∧
  (∀ (w : Work) (e n p d : Nat) (f : OutFrame), n = w.base.ringSize → p = w.base.eng e 4 6 .RING_LINKST → f.dst ≠ w.base.ringPos →
    d = (if facesEast e then (p + n - f.dst % n) % n else (f.dst % n + n - p % n) % n) →
    (0 < d → d < w.base.eng e 10 3 .RING_LINKST → w.routeFrame e f = (w.ringDrop e 3 f none).owe e f.vc f.units) ∧
    (d = 0 ∨ w.base.eng e 10 3 .RING_LINKST ≤ d →
      w.routeFrame e f = Work.ringQueue { w with base := (w.base.noteRing e f 0x62 f.length).engCount e 1 .RING_CNT_FWD }
        (if facesEast e then e - 8 else e + 8) { f with via := some e })) ∧
  (∀ (w w1 : Work) (e : Nat) (f : OutFrame) (h : Bool), w.ownFrame e f = (w1, h) →
    (h = false → w.takeFrame e f = w1.owe e f.vc f.units) ∧
    (h = true → w.takeFrame e f = { w1 with ring := { w1.ring with
      held := w1.ring.held ++ [{ engine := e, src := f.src.getD 0, frame := f, time := w1.base.time }] } })) ∧
  (∀ (s : State), s.dev.pwr.iordy = true →
    Does .matchLimitExpiry s (s.work.ring.held.foldl Work.matchOne s.work) ∧
    Does .epochWaitExpiry s (s.work.ring.ops.foldl Work.epochOne s.work))

/-- Requests at the memory-side dies (05 R134, R136, R139, R141, R148, R154; 12 R351). A read or write of one piece reaches its stack: one that no
slot rule holds off is served at once, and holds its slot while it stays; another takes a ticket in its order; one of a partition that the address
does not serve is refused, and one to a fenced stack or over a failed link is lost. A read served without a memory error answers the piece's bytes,
with poison where they are poisoned or their seal fails; a write stores its bytes. A block write of 4,096 bytes at a block's start is one job. -/
def Obligations.MemoryServesItsRequests : Prop :=
  (∀ (s : State) (op : MemOp) (a n : Nat), s.dev.memRuns a = true → s.dev.memHeld a = false → 0 < n → n ≤ 256 - a % 256 →
    Serves (.stackRead op a n) s (s.dev.mem.submit s.work.base op (.read a n))) ∧
  (∀ (s : State) (op : MemOp) (a : Nat) (l : List Byte) (bad : Bool), s.dev.memRuns a = true → s.dev.memHeld a = false → l ≠ [] →
    l.length ≤ 256 - a % 256 → Serves (.stackWrite op a l bad) s (s.dev.mem.submit s.work.base op (.write a l bad))) ∧
  (∀ (s : State) (op : MemOp) (a : Nat) (l : List Byte) (bad : List Nat), s.dev.memRuns a = true → s.dev.memHeld a = false →
    a % 4096 = 0 → l.length = 4096 → op.requester = .unit ∨ op.requester = .freeUnit →
    Serves (.blockWrite op a l bad) s (s.dev.mem.submit s.work.base op (.block a l bad))) ∧
  (∀ (m : MemSys) (b : Base) (op : MemOp) (job : MemJob) (n off : Nat), b.place job.addr = .stack n off →
    (b.served (reqOf b op) job.addr = false → m.submit b op job = (b.refused op job, m)) ∧
    (b.served (reqOf b op) job.addr = true → b.routeBroken (reqOf b op).src.die (ms n) = false → b.stackFenced n = false →
      ((job.banks off).findSome? ((m.die n).queueFor (job.banks off).length) = none → m.submit b op job = m.takeIn { b with resp := .ok } n op job off) ∧
      (∀ o b1 d, (job.banks off).findSome? ((m.die n).queueFor (job.banks off).length) = some o →
        settle (b.ticketed (reqOf b op) n) n
          { m.die n with waiting := (m.die n).waiting ++ [{ order := o, op := op, job := job }] } = (b1, d) →
        m.submit b op job = ({ b1 with resp := .held }, m.setDie n d))) ∧
    (b.served (reqOf b op) job.addr = true → b.routeBroken (reqOf b op).src.die (ms n) = true ∨ b.stackFenced n = true →
      m.submit b op job = (b.lostJob op job, m))) ∧
  (∀ (b b1 b2 : Base) (n a off len : Nat) (d : MemDie) (op : MemOp) (bad : Bool) (l : List (Byte × Bool)), op.err = .none →
    b.sealCheck (reqOf b op) n off a = (b1, bad) → b1.pieceRead (reqOf b op) a len bad = (b2, l) →
    serve b n d op (.read a len) off = ({ b2 with resp := .bytes (l.map (·.1)) (l.any (·.2)) }, d)) ∧
  (∀ (b : Base) (n a off : Nat) (d : MemDie) (op : MemOp) (data : List Byte) (bad : Bool), op.err = .none →
    serve b n d op (.write a data bad) off = ((b.noteReq (reqOf b op) (ms n) 0 0x51 data.length a).pieceWrite n off data bad, d))

/-- What happens at the memory-side dies and links besides requests (05 R143, R145, R148, R149, R151 to R156): a freed slot notifies the oldest
tickets; a hot bank and a full die past their dwell are reported once; scrubbing verifies a piece and counts what it finds, and reads no bank that
spares a row; a row replacement and a copy end; a stack is fenced, and its Catalogue entry says so; a prefetch fetches its next block, and its check
passes or discards it; a far-tier request is sent within the link's limit, and its completion gives its data, or poison where it fails or times out.
-/
def Obligations.MemoryDiesKeepTheirOrder : Prop :=
  (∀ (s : State) (n k : Nat) (m : MemSys) (b : Base), s.dev.dieRuns (ms n) = true → m = s.dev.mem → b = s.work.base →
    Serves (.ticketNotify n k) s (m.ticketNotify b n k) ∧
    (∀ t, Map.find k (m.die n).hotSince = some t → t + b.rf 0 32 .DOCK_MS_HOTDWELL (ms n) ≤ b.time → (m.die n).hotSeen.contains k = false →
      (m.die n).spares k = false →
      Serves (.hotbankDwellExpiry n k) s
        (((b.countSat 1 16 48 .DOCK_MS_HOTBANK (ms n)).wf 0 13 (k / 64 % 64 + k % 64 * 64 + 4096) .DOCK_MS_HOTBANK (ms n)).msEvent n 0 0x0403,
          m.setDie n { m.die n with hotSeen := NSet.add k (m.die n).hotSeen })) ∧
    (∀ t, (m.die n).fullSince = some t → t + b.rf 0 32 .DOCK_MS_HOTDWELL (ms n) ≤ b.time → (m.die n).fullSeen = false →
      Serves (.slotfullDwellExpiry n) s (b.msEvent n 1 0x0404, m.setDie n { m.die n with fullSeen := true, fulls := (m.die n).fulls + 1 })) ∧
    (∀ off e, (m.die n).spares (bankOf (off / 256 * 256)) = true → Serves (.patrolScrub n off e) s (b, m)) ∧
    (∀ off, n < 32 → off / 256 * 256 < 96 * 2 ^ 30 → b.stackFenced n = false → (m.die n).spares (bankOf (off / 256 * 256)) = false →
      Serves (.patrolScrub n off .none) s (b.scrubCheck n (off / 256 * 256), m) ∧
      (∀ b1 d, corrected b n (m.die n) (off / 256 * 256) = (b1, d) →
        Serves (.patrolScrub n off .corrected) s (b1.scrubCheck n (off / 256 * 256), m.setDie n d))) ∧
    (∀ e, (m.die n).sparing.find? (fun e => e.1 == k) = some e → ∀ d, d = (m.die n).rowSpared e b.time →
      Serves (.rowSpareEnd n k) s
        ((m.setDie n d).notifyBank (((b.countSat 1 0 16 .DOCK_MS_ROWSPARE (ms n)).wf 16 16 d.leastSpares .DOCK_MS_ROWSPARE (ms n)).msEvent n 3 0x0406)
          n k)) ∧
    ((m.die n).copying.contains k = true → ∀ d, d = { m.die n with copying := (m.die n).copying.erase k } →
      Serves (.pcCopyEnd n k) s ((b.wf 14 1 (b2n (!d.copying.isEmpty)) .DOCK_MS_PCRET (ms n)).msEvent n 4 0x0407, m.setDie n d))) ∧
  (∀ (s : State) (n : Nat), s.dev.pwr.ready = true →
    (s.work.base.stackFenced n = false →
      DoesBase (.stackLost n) s (((s.work.base.wf 9 2 2 .DOCK_MS_ID (ms n)).msEvent n 5 0x0408).wantsFence (8 + n) 1 0)) ∧
    (s.work.base.stackFenced n = true → Passes (.stackLost n) s)) ∧
  (∀ (s : State) (id n k a : Nat) (x : Wb) (sc : Bool) (b : Base) (l : List (Byte × Bool)), s.dev.unitRuns id = true →
    s.work.base.tileOf id = some (n, k) → s.work.pfMay id n k = true →
    (s.work.pfWanted id = none → Passes (.prefetchFetch id) s) ∧
    (s.work.pfWanted id = some (x, a, sc) → s.work.base.read { (s.work.base.cx id x).req sc with consumes := false } a 4096 = (b, l) → ∀ e : PfEntry,
      e = { addr := a, queue := x.queue, seq := x.seq, time := b.time, gen := (b.genOf a).1, far := (b.genOf a).2, data := l } →
      Does (.prefetchFetch id) s { s.work with
        base := b.pfSeen (s.work.base.cx id x) .TILE_PF_FETCH a, tiles := s.work.tiles.setPf id (s.work.tiles.pf id ++ [e]) })) ∧
  (∀ (s : State) (id q seq a : Nat) (e : PfEntry), s.dev.unitRuns id = true → (s.work.tiles.pf id).find? (PfEntry.checks q seq a) = some e →
    (s.work.base.genHolds a e = true →
      Does (.generationCheckReturn id q seq a) s { s.work with
        tiles := s.work.tiles.setPf id ((s.work.tiles.pf id).map fun y => if y.checks q seq a then { y with check := 2 } else y) }) ∧
    (s.work.base.genHolds a e = false →
      Does (.generationCheckReturn id q seq a) s { s.work with
        base := (s.work.unusedCx id q seq).elim s.work.base (fun c => s.work.base.pfSeen c .TILE_PF_STALE a),
        tiles := s.work.tiles.setPf id ((s.work.tiles.pf id).filter fun y => !y.checks q seq a) })) ∧
  (∀ (s : State) (L i : Nat) (m : MemSys) (b : Base), (s.dev.pwr.ready && s.dev.pwr.iordy) = true → m = s.dev.mem → b = s.work.base →
    (∀ r rest, (m.link L).waiting = r :: rest → b.linkUp L = true → r.data = none →
      ((m.link L).out.length < b.farLimit L →
        Serves (.farRequestIssue L) s (b, m.setLink L { waiting := rest, out := (m.link L).out ++ [r] })) ∧
      (b.farLimit L ≤ (m.link L).out.length → Serves (.farRequestIssue L) s (b, m))) ∧
    (∀ r m1, (m.link L).out[i]? = some r → m1 = m.setLink L { m.link L with out := (m.link L).out.eraseIdx i } →
      Serves (.farCompletionTimeout L i) s (b.farFail L r, m1) ∧ Serves (.farCompletion L i none) s (b.farFail L r, m1) ∧
      (∀ l, l.length = r.len → ∀ b1, b1 = (b.farUnsealed (reqOf b r.op) r.part L).noteReq (reqOf b r.op) (io (L / 2)) 5 0x72 1 r.address →
        Serves (.farCompletion L i (some l)) s
          ({ b1.farWrite (b1.hostAddr r.part r.offset) (l.map fun v => (v, false)) with resp := .bytes l false }, m1))))

/-- Spares (13 R364 to R376). The period of a die's wheel-tap ends, or the wait after a withdrawn tap, and a tap begins: a spare is tested in its
place, an active tile waits for its idle boundary, and one that no spare may replace is skipped with SPR.WTDEFER. A tap whose wait ends first is
withdrawn, for good where the wheel-tap is disabled. At its boundary a tile that a vacant lead position waits for moves there, and a tapped or fenced
tile gives its position to a spare. A fence, a self-test and a core's failure follow. -/
def Obligations.SparesMoveAndAreTested : Prop :=
  (∀ (s : State) (n : Nat), s.dev.dieRuns n = true → s.dev.holds 7 n 0 = false →
    (s.work.tapDue n = true → Does (.wheelTap n) s (s.work.tapBegin n)) ∧
    (∀ t, (s.work.tap n).retryAt = some t → s.work.base.tapPhase n = 0 → t ≤ s.work.base.time → s.work.base.dieRuns (cd n) = true →
      (s.work.base.tapOn n = true → Does (.wtdeferRetryExpiry n) s (s.work.tapBegin n)) ∧
      (s.work.base.tapOn n = false → Does (.wtdeferRetryExpiry n) s (s.work.setTap n { s.work.tap n with retryAt := none })))) ∧
  (∀ (w0 w : Work) (n m : Nat) (b : Base), b = w0.base.tapSkip n 68 → m = b.rf 0 7 .DOCK_WT_STATE (cd n) →
    w = { w0 with base := b }.setTap n { w0.tap n with retryAt := none } →
    (b.tileState n m = tSPARE →
      w0.tapBegin n = { w with base := (b.tapMark n m 3 m).tileTo n m tTEST,
                               spare := { w.spare with tests := w.spare.tests ++ [⟨n, 1, m, 3, true, tSPARE⟩] } }) ∧
    (b.tileState n m = tACTIVE → ∀ p, b.posOfTile n m = some p →
      (∀ c, b.spareFor n p = some c →
        w0.tapBegin n = { w with base := b.tapMark n m 1 c }.setTap n { w.tap n with retryAt := none, waitFrom := some b.time }) ∧
      (b.spareFor n p = none → w0.tapBegin n = { w with base := b.tileSpr n 0 0x0C01 (b.partOfPos n p) }.tapEnd n 0))) ∧
  (∀ (s : State) (n t lim : Nat) (b : Base), s.dev.dieRuns n = true → b = s.work.base → (s.work.tap n).waitFrom = some t → b.tapPhase n = 1 →
    lim = msTicks (b.catNum 0x4012 (n + 1)) → t + lim ≤ b.time →
    (s.work.idleBoundary n (b.tapTile n) = true → Passes (.idleWaitExpiry n) s) ∧
    (s.work.idleBoundary n (b.tapTile n) = false → ∀ on b1, on = b.tapOn n → b1 = b.wf 8 3 (if on then 0 else 4) .DOCK_WT_STATE (cd n) →
      Does (.idleWaitExpiry n) s
        ({ s.work with base := b1.tileSpr n 0 0x0C01 (b1.partOfTile n (b.tapTile n)) }.setTap n
          { s.work.tap n with waitFrom := none, retryAt := if b1.tapOn n then some (b1.time + lim) else none }))) ∧
  (∀ (s : State) (n m p : Nat) (tapped : Bool) (w : Work), s.dev.dieRuns n = true → w = s.work → w.idleBoundary n m = true →
    w.base.posOfTile n m = some p → w.tapped n m = tapped →
    (∀ v, w.leadAwaits n m = some v → Does (.positionMove n m) s ((w.leadMove n m p v).tapEndIf tapped n)) ∧
    (w.leadAwaits n m = none → w.spare.fencing.contains (tileCode n m) = true →
      (w.base.donorFor n p w.spare.fencing = none →
        Does (.positionMove n m) s (((w.fenceMove n p m).fenced n m (w.base.partOfPos n p)).tapEndIf tapped n)) ∧
      (∀ c k, w.base.donorFor n p w.spare.fencing = some c → w.idleBoundary n c = true → w.base.posOfTile n c = some k →
        Does (.positionMove n m) s ((((w.refill n k c).movePos n p m c).fenced n m (w.base.partOfPos n p)).tapEndIf tapped n))) ∧
    (w.leadAwaits n m = none → w.spare.fencing.contains (tileCode n m) = false → tapped = true →
      (∀ c, w.base.spareFor n p = some c → Does (.positionMove n m) s (w.tapMove n p m c)) ∧
      (w.base.spareFor n p = none →
        Does (.positionMove n m) s ({ w with base := w.base.tileSpr n 0 0x0C01 (w.base.partOfPos n p) }.tapEnd n 0)))) ∧
  (∀ (s : State) (rt : Route) (n t m : Nat) (v : Device), s.writesReg rt ⟨.DOCK_WT_FENCE, n, 0, 0, 0⟩ (t + 2 ^ 7) m v → n < 8 → t < 68 →
    (v.base.tileState n t = tACTIVE →
      Leaves (.tileFence rt n t) s
        ((v.onWork fun w => { w with spare := { w.spare with fencing := NSet.add (tileCode n t) w.spare.fencing } }).answer .ok)) ∧
    (v.base.tileState n t = tSPARE ∨ v.base.tileState n t = tTEST →
      Leaves (.tileFence rt n t) s ((v.setBase ((v.base.tileTo n t tFENCED).tileSpr n 1 0x0C02 none)).answer .ok))) ∧
  (∀ (s : State) (rt : Route) (d data m x : Nat) (v : Device), s.writesReg rt ⟨.DOCK_ST_CMD, d, 0, 0, 0⟩ (data ||| 2 ^ 13) m v →
    x = (data ||| 2 ^ 13) % 2 ^ 64 → x.testBit 13 = true →
    Leaves (.selfTestStart rt d data) s
      (((v.setBase (v.base.wr (v.newValue .DOCK_ST_CMD d 0 0 0 x) .DOCK_ST_CMD d)).onWork fun w => w.selfTestStart d).answer .ok)) ∧
  (∀ (w : Work) (d k i : Nat) (b : Base), b = w.base → k = fget (b.rd .DOCK_ST_CMD d) 0 4 → i = testIndex k (fget (b.rd .DOCK_ST_CMD d) 4 7) →
    (w.testable d k i = false ∨ fget (b.rd .DOCK_ST_CMD d) 11 2 = 0 ∨ b.rf 0 2 .DOCK_ST_STATUS d = 1 →
      w.selfTestStart d = { w with base := (b.wf 2 1 1 .DOCK_ST_STATUS d).sprEvent d 7 0x0C08 (logic d) none }) ∧
    (w.testable d k i = true → fget (b.rd .DOCK_ST_CMD d) 11 2 ≠ 0 → b.rf 0 2 .DOCK_ST_STATUS d ≠ 1 →
      (w.selfTestStart d).spare.tests = w.spare.tests ++
        [⟨d, k, i, fget (b.rd .DOCK_ST_CMD d) 11 2, false, if k = 1 then b.tileState d i else 0⟩])) ∧
  (∀ (s : State) (d : Nat) (tap : Bool) (sl sm : Nat), s.dev.dieRuns d = true →
    ((s.work.spare.tests.find? fun t => t.die == d && t.tap == tap) = none → Passes (.selfTestEnd d tap sl sm) s) ∧
    (∀ t w bad, (s.work.spare.tests.find? fun t => t.die == d && t.tap == tap) = some t →
      bad = (s.work.base.testBadL t sl || s.work.base.testBadM t sm) →
      w = { s.work with base := s.work.base.testReported t sl sm,
                        spare := { s.work.spare with tests := s.work.spare.tests.filter fun u => !(u.die == d && u.tap == tap) } } →
      Does (.selfTestEnd d tap sl sm) s (if t.tap then (w.testConcludes t bad).tapEnd d 1 else w.testConcludes t bad))) ∧
  (∀ (s : State) (n k id : Nat) (x : Word) (b : Base), s.dev.dieRuns n = true → n < 8 → k < 9 → x = s.work.base.rd .DOCK_WT_CORE (cd n) →
    bget x (9 + k) = false → b = s.work.base.coreLost (9 * n + k) → id = (if k < 8 then k else fget x 18 4) →
    (k < 8 → fget x 18 4 = 15 → bget x 17 = false →
      DoesBase (.coreFail n k) s
        (((b.wr (fput (fput (fput (fput x (9 + k) 1 1) k 1 0) 8 1 1) 18 4 k) .DOCK_WT_CORE (cd n)).sprEvent (cd n) 4 0x0C05 (logic (cd n))
          (b.partOfCore n id)).sparedStep (b.partOfCore n id))) ∧
    (fget x 18 4 ≠ 15 ∨ bget x 17 = true → id < 8 →
      DoesBase (.coreFail n k) s
        ((b.wr (fput (fput x (9 + k) 1 1) k 1 0) .DOCK_WT_CORE (cd n)).sprEvent (cd n) 5 0x0C06 (logic (cd n)) (b.partOfCore n id))))

/-- Host links (14 R402, R403, R410, R414 to R417). A link that is up answers every configuration request with retry status before the lock, and with
the function's configuration after it, its error status among it. A request through BAR2 reaches the bay's memory where the tag in force on the link's
I/O die is HOST; in another bay a read returns poison and a write is dropped, logged with HOST.DOCKOWN, and past the bays it is in error, logged with
HOST.DOCKRANGE; a write that meets an error has its port signal an Unsupported Request, and a read that meets one is an advisory error, which
DOCK_PCIE_CERR counts unless it is masked (R405; the model's choice, log entries 151 and 166). Bay commands and queries are taken one at a time in
arrival order; one takes force on each I/O die, and with the fourth DOCK_BAYRES is written; a read of DOCK_BAYRES waits for the commands before it. -/
def Obligations.HostsReachTheDock : Prop :=
  (∀ (s : State) (L : Nat) (r : CfgReq) (b : Base) (l : LinkSt), s.dev.pwr.iordy = true → L < 8 → b = s.work.base → l = b.link L →
    b.rf 0 3 .DOCK_PCIE_LNK (io (L / 2)) 0 (L % 2) ≠ 0 → l.disabled = false → l.l2 = false →
    (b.locked = false → Leaves (.configRequest L r) s (s.dev.cleared.answer .retry)) ∧
    (∀ p, b.locked = true → b.partOfLink L = some p →
      Leaves (.configRequest L .readIdentity) s (s.dev.cleared.answer (.value (BitVec.ofNat 64
        (Config.vendorId.toNat + 0x9632 * 2 ^ 16 + 0x10 * 2 ^ 32 + 0x120000 * 2 ^ 40)))) ∧
      (∀ i size ty, barShape i = some (size, ty) →
        Leaves (.configRequest L (.readBar i)) s (s.dev.cleared.answer (.value (BitVec.ofNat 64 ((Map.find i l.bars).getD 0 / size * size + ty))))) ∧
      Leaves (.configRequest L .readCommand) s (s.dev.cleared.answer (.value (BitVec.ofNat 64 l.command))) ∧
      (∀ x, Leaves (.configRequest L (.writeCommand x)) s
        ((s.dev.cleared.onBase fun b => b.setLink L { l with command := x % 65536 }).answer .ok)) ∧
      Leaves (.configRequest L .readMsix) s
        (s.dev.cleared.answer (.value (BitVec.ofNat 64 (2047 + b2n l.msixMask * 2 ^ 14 + b2n l.msixOn * 2 ^ 15)))) ∧
      Leaves (.configRequest L .toD3hot) s
        ((s.dev.cleared.onBase fun b => b.wf 9 1 1 .DOCK_PCIE_LNK (io (L / 2)) 0 (L % 2)).answer .ok) ∧
      Leaves (.configRequest L .readUncorrectable) s (s.dev.cleared.answer (.value (BitVec.ofNat 64 l.aerUncor))) ∧
      Leaves (.configRequest L .readCorrectable) s (s.dev.cleared.answer (.value (BitVec.ofNat 64 l.aerCor))) ∧
      Leaves (.configRequest L .readCorrectableMask) s (s.dev.cleared.answer (.value (BitVec.ofNat 64 l.aerMask))) ∧
      (∀ x, Leaves (.configRequest L (.clearUncorrectable x)) s
          ((s.dev.cleared.onBase fun b => b.setLink L { l with aerUncor := l.aerUncor &&& (x % 2 ^ 32 ^^^ (2 ^ 32 - 1)) }).answer .ok) ∧
        Leaves (.configRequest L (.clearCorrectable x)) s
          ((s.dev.cleared.onBase fun b => b.setLink L { l with aerCor := l.aerCor &&& (x % 2 ^ 32 ^^^ (2 ^ 32 - 1)) }).answer .ok) ∧
        Leaves (.configRequest L (.writeCorrectableMask x)) s
          ((s.dev.cleared.onBase fun b => b.setLink L { l with aerMask := x % 2 ^ 16 }).answer .ok)))) ∧
  (∀ (s : State) (L off n p bay : Nat) (v : Device), (s.dev.pwr.ready && s.dev.pwr.iordy) = true → v = s.dev.cleared →
    v.base.linkServes L = some p → 0 < n → off % 4096 + n ≤ 4096 → off < 2 ^ 36 → bay = off / 2 ^ 21 →
    (v.base.dockBays p ≤ bay → ∀ e k,
      Leaves (.dockHostRead L off n e k) s
        ((v.onBase fun b => { (b.dockLog p bay false L true).hostEvent p 2 0x0D04 (portSrc L) with resp := .error }).advised L) ∧
      (∀ l bad, l.length = n → n ≤ 512 → Leaves (.dockHostWrite L off l bad e k) s
        ((v.onBase fun b => { (b.dockLog p bay true L true).hostEvent p 2 0x0D04 (portSrc L) with resp := .error }).signalled L))) ∧
    (bay < v.base.dockBays p → (v.bays p).tag (L / 2) bay ≠ 1 → ∀ e k,
      Leaves (.dockHostRead L off n e k) s (v.onBase fun b =>
        { (b.dockLog p bay false L false).hostEvent p 1 0x0D03 (portSrc L) with resp := .bytes (List.replicate n 0) true }) ∧
      (∀ l bad, l.length = n → n ≤ 512 → Leaves (.dockHostWrite L off l bad e k) s
        ((v.onBase fun b => { (b.dockLog p bay true L false).hostEvent p 1 0x0D03 (portSrc L) with resp := .error }).signalled L))) ∧
    (bay < v.base.dockBays p → (v.bays p).tag (L / 2) bay = 1 → ∀ a q e k, a = v.base.dockBase p + off → q = (v.base.partOfLink L).getD 0 →
      v.memHeld a = false →
      (∀ w, w = v.mem.read (v.base.notePort L 0x71 n a) (hostOp q L e k) a n →
        Leaves (.dockHostRead L off n e k) s (Device.advised { v.setBase w.1 with mem := w.2 } L)) ∧
      (∀ l bad w, l.length = n → n ≤ 512 → w = v.mem.write (v.base.notePort L 0x70 n a) (hostOp q L e k) a l bad →
        Leaves (.dockHostWrite L off l bad e k) s (Device.signalled { v.setBase w.1 with mem := w.2 } L)))) ∧
  (∀ (v : Device) (L : Nat),
    (v.base.resp = .error → v.signalled L = v.onBase fun b => b.setLink L { b.link L with aerUncor := (b.link L).aerUncor ||| 2 ^ 20 }) ∧
    (v.base.resp ≠ .error → v.signalled L = v ∧ v.advised L = v) ∧
    (∀ l b, v.base.resp = .error → l = v.base.link L → b = v.base.setLink L { l with aerCor := l.aerCor ||| 2 ^ 13 } →
      (l.aerMask.testBit 13 = true → v.advised L = v.setBase b) ∧
      (l.aerMask.testBit 13 = false → v.advised L = v.setBase (b.countSat 1 0 48 .DOCK_PCIE_CERR (io (L / 2)) 0 (L % 2))))) ∧
  (∀ (s : State) (rt : Route) (p d m : Nat) (v : Device),
    (s.writesReg rt ⟨.DOCK_BAYCMD, 40, 0, p, 0⟩ d m v →
      Leaves (.bayCommand rt p d) s ((v.bayCommand p (d % 2 ^ 64)).answer .ok)) ∧
    (s.writesReg rt ⟨.DOCK_BAYCMD, 40, 0, p, 0⟩ (d % 2 ^ 15 + 2 ^ 35) m v →
      Leaves (.bayQuery rt p d) s ((v.bayCommand p (d % 2 ^ 15 + 2 ^ 35)).answer .ok))) ∧
  (∀ (v : Device) (p d k : Nat) (rest : List Nat) (st : BaySt), v.bays p = st → st.running = none → st.waiting = d :: rest →
    v.bayNext p (k + 1) =
      if v.base.bayBad p d then
        (((v.setBays p { st with waiting := rest }).bayDone p (2 ^ 34 + 2 ^ 35)).onBase fun b => b.hostEvent p 3 0x0D05 io0).bayNext p k
      else if bayQuery d then
        ((v.setBays p { st with waiting := rest }).bayDone p (st.tag 0 (bayFirst d) * 2 ^ 32 + 2 ^ 34)).bayNext p k
      else v.setBays p { st with waiting := rest, running := some (d, []) }) ∧
  (∀ (s : State) (p n d : Nat) (dies : List Nat) (st after : BaySt), s.dev.pwr.iordy = true → s.dev.cleared.bays p = st →
    st.running = some (d, dies) → n < 4 → dies.contains n = false →
    after = (st.hits n d).foldl (fun (t : BaySt) bay => t.setTag n bay (bayNew d)) st →
    (dies.length ≠ 3 → Leaves (.bayTagInForce p n) s (s.dev.cleared.setBays p { after with running := some (d, n :: dies) })) ∧
    (dies.length = 3 → Leaves (.bayTagInForce p n) s
      (((s.dev.cleared.setBays p { after with running := some (d, n :: dies) }).bayDone p (st.result n d)).bayNext p (st.waiting.length + 1)))) ∧
  (∀ (s : State) (rt : Route) (p m a : Nat) (v : Device) (st : BaySt), s.arrives rt (routeOff rt (regAddr .DOCK_BAYRES 40 0 p)) 8 0x71 m a v →
    placeOf a = .reg ⟨.DOCK_BAYRES, 40, 0, p, 0⟩ → v.base.reaches m ⟨.DOCK_BAYRES, 40, 0, p, 0⟩ false = true → v.bays p = st →
    (st.running = none → st.waiting = [] →
      Leaves (.bayresRead rt p) s (v.answer (.value (v.base.rd .DOCK_BAYRES 40 0 p)))) ∧
    (∀ x, st.running = some x →
      Leaves (.bayresRead rt p) s ((v.setBays p { st with readers := st.readers ++ [(st.waiting.length + 1, 0)] }).answer .held)))

/-- Link and pin events and the lock (14 R402, R406, R408; 16 R468, R471, R479). A Function Level Reset, a return from D3hot, a hot reset or loss of
the link, its entry into L2, and PERST asserted reset the partitions of the links concerned, and HOST.LINKRESET follows each reset; other links are
not disturbed. Such a reset abandons a handshake without a record, and waits for the rails of a transition under way. PERST deasserted samples the
strap and trains the port's links once IORDY is high, and wakes the device where that is enabled. A lock request runs every check: if none fails the
lock waits to be set, else the first fault is recorded and LOCKED stays 0. -/
def Obligations.HostResetsReachTheirPartitions : Prop :=
  (∀ (s : State) (L : Nat) (v : Device), s.dev.pwr.iordy = true → v = s.dev.cleared → v.linkActive L = true → (v.base.link L).l2 = false →
    (v.base.locked = true → Leaves (.functionLevelReset L) s ((v.onBase fun b => b.functionReset L).linkEvent L)) ∧
    (bget (v.base.rd .DOCK_PCIE_LNK (io (L / 2)) 0 (L % 2)) 9 = true →
      Leaves (.d3hotToD0 L) s ((v.onBase fun b => b.functionReset L).linkEvent L) ∧
      (∀ p, v.base.locked = true → v.base.partOfLink L = some p →
        Leaves (.configRequest L .turnOff) s
          ((v.onBase fun b => (b.linkDrop L).setLink L { (b.linkDrop L).link L with l2 := true }).linkEvent L)))) ∧
  (∀ (s : State) (L : Nat) (t : Option (Nat × Nat × Bool)) (v : Device), s.dev.pwr.iordy = true → L < 8 → v = s.dev.cleared →
    (v.port (L / 2)).perstHigh = true →
    (v.linkActive L = true →
      Leaves (.linkHotReset L t) s (((v.onBase fun b => b.linkDrop L).linkEvent L).onBase fun b => b.linkState' L t)) ∧
    (v.linkActive L = false → Leaves (.linkHotReset L t) s (v.onBase fun b => b.linkState' L t))) ∧
  (∀ (v : Device) (L p : Nat) (u : Device), v.base.partOfLink L = some p →
    v.linkReset L = ((v.partReset p).onBase fun b => b.hostEvent p 10 0x0D0C (portSrc L)) ∧
    (v.pwr.trans = none → u = { v with pwr := { v.pwr with hs := none, aim := if v.pwr.hs.isSome then none else v.pwr.aim } } →
      v.linkEvent L = (u.linkReset L).settlePower) ∧
    (v.pwr.trans.isSome = true → v.pwr.resets.contains (.link L) = false →
      v.linkEvent L = { v with pwr := { v.pwr with resets := v.pwr.resets ++ [.link L] } })) ∧
  (∀ (v : Device) (L : Nat), v.base.partOfLink L = none → v.linkReset L = v ∧ v.linkEvent L = v) ∧
  (∀ (s : State) (n : Nat) (v v1 : Device), n < 4 → v = s.dev.cleared → v.heeds = true → v1 = v.setPort n { v.port n with perstHigh := false } →
    ((v.port n).perstHigh = true → v.pwr.iordy = true → Leaves (.perstAssert n) s (v1.portEvent n)) ∧
    ((v.port n).perstHigh = false ∨ v.pwr.iordy = false → Leaves (.perstAssert n) s v1)) ∧
  (∀ (v : Device) (n p q : Nat) (v1 v2 : Device), v1 = [0, 1].foldl (fun (w : Device) h => w.onBase fun b => b.linkCold (2 * n + h)) v →
    v2 = v1.linkEvent (2 * n) → v1.base.partOfLink (2 * n) = some p →
    (v2.base.partOfLink (2 * n + 1) = some p → v.portEvent n = v2) ∧
    (v2.base.partOfLink (2 * n + 1) = some q → q ≠ p → v.portEvent n = v2.linkEvent (2 * n + 1))) ∧
  (∀ (s : State) (n : Nat) (bi wakes : Bool) (t : List (Option (Nat × Nat × Bool))) (v v1 v2 : Device), n < 4 → v = s.dev.cleared → v.heeds = true →
    v1 = v.setPort n { perstHigh := true, bifur := some bi, train := t } →
    v2 = (if v.pwr.iordy then (v1.onBase fun b => b.wf 0 1 (b2n bi) .DOCK_PCIE_CFG (io n)).portTrain n else v1) →
    wakes = (!(v.port n).perstHigh && bget (v2.base.rd .PWR_WAKE 40) (2 + n)) →
    (wakes = false → Leaves (.perstDeassert n bi t) s v2) ∧ (wakes = true → Leaves (.perstDeassert n bi t) s (v2.woken (2 + n)))) ∧
  (∀ (s : State) (rt : Route) (m : Nat) (v : Device), s.writesReg rt ⟨.DOCK_PT_LOCK, 40, 0, 0, 0⟩ 1 m v →
    (v.base.locked = true → Leaves (.ptLockRequest rt) s (v.answer .ok)) ∧
    (v.base.locked = false → v.base.lockFaults = [] →
      Leaves (.ptLockRequest rt) s (({ v with dock := { v.dock with lockWaits := true } }.lockSettle).answer .ok)) ∧
    (v.base.locked = false → v.base.lockFaults ≠ [] →
      Leaves (.ptLockRequest rt) s ((v.onBase fun b => b.lockRefuse b.lockFaults).answer .ok))) ∧
  (∀ (v : Device), v.dock.lockWaits = true → v.pwr.hs = none → v.pwr.trans = none → v.pwr.bring = none →
    v.pwr.parked.filter v.base.holdsTable = [] → v.base.lockFaults = [] →
    v.lockSettle = (({ v with dock := { v.dock with lockWaits := false } }).onBase Base.lockSet).showStates)

/-- Mailboxes (14 R408, R419 to R424). Only a channel in use serves its two masters; any other access is in error with HOST.MBXDENY, and a write of
MBX_BIND before the lock with HOST.REGDENY too. The sender's data words are
stored, unless its direction is pending. A send is judged by the first row of R421 that applies; a delivered message is pending until its receiver
acknowledges it, its limit passes, or its receiver's domain goes down. -/
def Obligations.MailboxesCarryMessages : Prop :=
  (∀ (s : State) (rt : Route) (c d w x m : Nat) (v : Device), s.mails rt ⟨.MBX_DATA, 40, 0, c, 16 * d + w⟩ x m v → w < 7 →
    ((v.base.mbxInUse c && (v.base.mbxA c == m || v.base.mbxB c == m)) = true →
      (m ≠ v.base.mbxSender c d → Leaves (.mbxDataWrite rt c d w x) s ((v.onBase fun b => b.mbxRefuse c m 4 0x0D06).reported rt)) ∧
      (m = v.base.mbxSender c d → v.base.mbxPending c d = true →
        Leaves (.mbxDataWrite rt c d w x) s ((v.onBase fun b => b.mbxRefuse c m 5 0x0D07).reported rt)) ∧
      (m = v.base.mbxSender c d → v.base.mbxPending c d = false →
        Leaves (.mbxDataWrite rt c d w x) s
          ((v.onBase fun b => b.wr (v.newValue .MBX_DATA 40 0 c (16 * d + w) (x % 2 ^ 64)) .MBX_DATA 40 0 c (16 * d + w)).answer .ok))) ∧
    (v.base.mbxInUse c = false → v.base.reaches m ⟨.MBX_DATA, 40, 0, c, 16 * d + w⟩ true = true →
      Leaves (.mbxDataWrite rt c d w x) s ((v.onBase fun b => b.mbxRefuse c m 4 0x0D06).reported rt))) ∧
  (∀ (s : State) (rt : Route) (c d y x m : Nat) (v : Device), s.mails rt ⟨.MBX_SEND, 40, 0, c, d⟩ y m v → x = y % 2 ^ 64 →
    (v.base.mbxInUse c && (v.base.mbxA c == m || v.base.mbxB c == m)) = true →
    (m ≠ v.base.mbxSender c d ∨ 56 < mbxLen x → Leaves (.mbxSend rt c d y) s ((v.onBase fun b => b.mbxRefuse c m 4 0x0D06).reported rt)) ∧
    (m = v.base.mbxSender c d → mbxLen x ≤ 56 → ∀ k, k = v.base.mbxCheck c d (mbxLen x) (mbxTag x) →
      (v.base.mbxPending c d = true → Leaves (.mbxSend rt c d y) s ((v.onBase fun b => b.mbxRefuse c m 5 0x0D07).reported rt)) ∧
      (v.base.mbxPending c d = false → mbxDiffers x k = true →
        Leaves (.mbxSend rt c d y) s ((v.onBase fun b => (b.mbxState c d 3 3).mbxRefuse c m 7 0x0D09).reported rt)) ∧
      (v.base.mbxPending c d = false → mbxDiffers x k = false → v.base.domainDown (v.base.mbxReceiver c d) = true →
        Leaves (.mbxSend rt c d y) s ((v.onBase fun b => (b.mbxState c d 3 1).mbxRefuse c m 6 0x0D08).reported rt)) ∧
      (v.base.mbxPending c d = false → mbxDiffers x k = false → v.base.domainDown (v.base.mbxReceiver c d) = false →
        Leaves (.mbxSend rt c d y) s (v.mbxDeliver c d (mbxLen x) (mbxTag x) k)))) ∧
  (∀ (s : State) (rt : Route) (c d y m : Nat) (v : Device), s.mails rt ⟨.MBX_ACK, 40, 0, c, d⟩ y m v →
    (v.base.mbxInUse c && (v.base.mbxA c == m || v.base.mbxB c == m)) = true →
    (m ≠ v.base.mbxReceiver c d → Leaves (.mbxAck rt c d y) s ((v.onBase fun b => b.mbxRefuse c m 4 0x0D06).reported rt)) ∧
    (m = v.base.mbxReceiver c d → v.base.mbxPending c d = false →
      Leaves (.mbxAck rt c d y) s ((v.onBase fun b => b.mbxRefuse c m 9 0x0D0B).reported rt)) ∧
    (m = v.base.mbxReceiver c d → v.base.mbxPending c d = true →
      (v.base.mbxSender c d ≠ 0 → Leaves (.mbxAck rt c d y) s (v.mbxAcked c d (y % 2 ^ 64 % 65536))) ∧
      (v.base.mbxSender c d = 0 → Leaves (.mbxAck rt c d y) s (((v.mbxAcked c d (y % 2 ^ 64 % 65536)).outboxSend c).answer .ok)))) ∧
  (∀ (v : Device) (c m x k : Nat), v.base.locked = false → m ≠ 0 → m ≠ 0xF0 →
    v.mbxApply m ⟨.MBX_BIND, 40, 0, c, 0⟩ x k = v.onBase fun b => (b.regDeny m 40).mbxRefuse c m 4 0x0D06) ∧
  (∀ (s : State) (c d t : Nat) (v : Device), s.dev.pwr.iordy = true → v = s.dev.cleared → Map.find (2 * c + d) v.dock.sentAt = some t →
    v.base.mbxPending c d = true → v.base.rf 0 32 .MBX_CFG 40 0 c ≠ 0 →
    (t + v.base.rf 0 32 .MBX_CFG 40 0 c ≤ v.base.time →
      Leaves (.mbxTimeout c d) s ((v.mbxWithdraw c d 2).onBase fun b => b.hostEvent (b.mbxPart c) 8 0x0D0A io0)) ∧
    (v.base.time < t + v.base.rf 0 32 .MBX_CFG 40 0 c → Passes (.mbxTimeout c d) s)) ∧
  (∀ (s : State) (m : Nat) (v : Device), s.dev.pwr.iordy = true → v = s.dev.cleared →
    (v.base.domainDown m = true → Leaves (.mbxDomainDown m) s (v.mbxPendings.foldl (Device.mbxDownOne m) v)) ∧
    (v.base.domainDown m = false → Passes (.mbxDomainDown m) s))

/-- The Catalogue protocol (15 R433, R438 to R446), for each command that is a request of it: hello, auth, close, read, write, describe, list,
fwBegin, fwData, fwEnd, and those that are writes of one entry: unitServiceRequest, unitFenceRequest, unitFailRequest, deviceStateRequest,
dieStateRequest, counterGrant, counterControl and counterClear. A request that its port does not hear, or whose fragments have not all arrived, has no
effect; a malformed one is answered so, with the TAG of its open session; HELLO and AUTH need no session, and any other request needs the open session
of its transport and source, a right TAG, and a TXID above the last one. The last TXID again gets its answer again, and a lower one is a replay. A
request that is served is performed in its session, and its status and body answered, in fragments that its transport carries. A message that comes
through a mailbox is acknowledged with the return code of its case, and a request's last one when the request is served. -/
def Obligations.RequestsAreAnsweredInTheirSession : Prop :=
  (∀ (s : State) (c : Instr) (h : ReqHead) (op : ReqOp) (env : WriteEnv) (v0 : Device), requestOf c = some (h, op, env) → v0 = s.dev.cleared →
    ((v0.hears h op && fragsWhole h) = false → Passes c s) ∧
    ((v0.hears h op && fragsWhole h) = true → v0.mgt.fits h op = false → Leaves c s ((v0.mbxTake h).malformed h op)) ∧
    ((v0.hears h op && fragsWhole h) = true → v0.mgt.fits h op = true → ∀ v, v = v0.mbxTake h →
      (op = .hello → Leaves c s (v.hello h)) ∧
      (∀ role cnonce proof, op = .auth role cnonce proof → Leaves c s (v.auth h role cnonce proof)) ∧
      (op ≠ .hello → op.code ≠ 2 → v.sessionOf h = none → Leaves c s (v.reply h op.code stNOSESSION h.session [] [])) ∧
      (∀ x, op ≠ .hello → op.code ≠ 2 → v.sessionOf h = some x →
        (x.tagBad h op = true → Leaves c s (v.reply h op.code stTAG x.id [] [])) ∧
        (x.tagBad h op = false → x.txid = some h.txid →
          Leaves c s ((v.touch x).reply h op.code x.answer.1 x.id x.answer.2.1 x.answer.2.2)) ∧
        (∀ t, x.tagBad h op = false → x.txid = some t → h.txid < t →
          Leaves c s ((v.touch x).reply h op.code stREPLAY x.id [] (x.tag (op.code + 0x80) h.txid stREPLAY []))) ∧
        (x.tagBad h op = false → (∀ t, x.txid = some t → t < h.txid) → ∀ y v1 st body, y = { x with time := v.base.time } →
          (v.touch x).perform y op env = (v1, st, body) → Leaves c s (v1.concluded h y op st body))))) ∧
  (∀ (v : Device) (h : ReqHead) (op : ReqOp),
    (v.sessionOf h = none → v.malformed h op = v.reply h op.code stMALFORMED h.session [] []) ∧
    (∀ x, v.sessionOf h = some x →
      v.malformed h op = v.reply h op.code stMALFORMED h.session [] (x.tag (op.code + 0x80) h.txid stMALFORMED []))) ∧
  (∀ (v : Device) (h : ReqHead) (op st id : Nat) (body tag : List Byte) (l : List (List Byte)),
    l = messages (v.mgt.answerLimit h.transport) (op + 0x80) h.txid id st (body ++ tag) →
    (h.transport ≠ 3 → v.mbxTake h = v ∧ v.reply h op st id body tag = v.answer (.reply st id body tag l)) ∧
    (h.transport = 3 → v.reply h op st id body tag = (v.mailOut (sourceChannel h.source) l).answer (.reply st id body tag l) ∧
      (∀ d, v.base.mgtSends (sourceChannel h.source) = some d →
        v.mbxTake h = ({ v with mgt := { v.mgt with inbox := Map.del (sourceChannel h.source) v.mgt.inbox } } : Device).mbxAck 0
          (sourceChannel h.source) (1 - d) 0))) ∧
  (∀ (limit op txid id st : Nat) (body : List Byte), 12 < limit →
    (messages limit op txid id st body).flatMap (List.drop 12) = body ∧
    (messages limit op txid id st body).all (fun l => decide (12 ≤ l.length ∧ l.length ≤ limit)) = true) ∧
  (∀ (v : Device) (c d : Nat) (l : List Byte),
    (v.base.mbxPending c (1 - d) = true ∨ (Map.find c v.mgt.outbox).isSome = true → v.mailTake c d l = v.mbxAck 0 c d 3) ∧
    (v.base.mbxPending c (1 - d) = false → Map.find c v.mgt.outbox = none →
      (ProtoMsg.parse l = none → v.mailTake c d l = (v.mbxAck 0 c d 1).mailOut c
        (messages 56 (fieldAt l 1 1 % 128 + 0x80) (fieldAt l 2 2) (fieldAt l 4 2) stMALFORMED [])) ∧
      (∀ m v1, ProtoMsg.parse l = some m → v1 = { v with mgt := { v.mgt with inbox := Map.del c v.mgt.inbox } } →
        (v.mailJoin c m = none → v.mailTake c d l = v1.mbxAck 0 c d 2) ∧
        (∀ r, v.mailJoin c m = some r → r.body.length ≤ 8192 →
          (m.more = true →
            v.mailTake c d l = ({ v with mgt := { v.mgt with inbox := Map.put c r v.mgt.inbox } } : Device).mbxAck 0 c d 0) ∧
          (m.more = false → bodyFits r.op r.body = true → v.mailTake c d l = v) ∧
          (m.more = false → bodyFits r.op r.body = false → v.mailTake c d l = (v1.mbxAck 0 c d 0).mailOut c
            (messages 56 (fieldAt l 1 1 % 128 + 0x80) (fieldAt l 2 2) (fieldAt l 4 2) stMALFORMED []))))))

/-- Sessions open and close (15 R443, R444). HELLO keeps a nonce for its source, in place of an older one. AUTH with the proof of the role's key over
that nonce, while it is kept, opens a session and answers the device's proof; during a lockout every AUTH is refused; a wrong proof, a missing key or
nonce is counted as a failure. A nonce is no longer kept after 10 s, a session closes after its idle time, and a lockout ends after 60 s. -/
def Obligations.SessionsOpenAndExpire : Prop :=
  (∀ (v : Device) (h : ReqHead) (role : Nat) (cnonce proof : List Byte),
    (v.lockedOut = true → v.auth h role cnonce proof = v.reply h 2 stLOCKOUT 0 [] []) ∧
    (v.lockedOut = false → (v.nonceOf h = none ∨ v.base.roleKey role = none) →
      v.auth h role cnonce proof = (v.nonceUsed h).authFailed.reply h 2 stAUTHFAIL 0 [] []) ∧
    (v.lockedOut = false → ∀ n key, v.nonceOf h = some n → v.base.roleKey role = some key →
      (proof ≠ authProof key n.value cnonce role h →
        v.auth h role cnonce proof = (v.nonceUsed h).authFailed.reply h 2 stAUTHFAIL 0 [] []) ∧
      (proof = authProof key n.value cnonce role h → v.mgt.full h = true →
        v.auth h role cnonce proof = (v.nonceUsed h).reply h 2 stBUSY 0 [] []) ∧
      (proof = authProof key n.value cnonce role h → v.mgt.full h = false →
        v.auth h role cnonce proof = (v.nonceUsed h).authOpens h role key n.value cnonce))) ∧
  (∀ (v : Device) (h : ReqHead) (n : Nonce), (v.nonceUsed h).nonceOf h = none ∧ (v.nonceOf h = some n → v.base.time < n.time + sTicks 10)) ∧
  (∀ (v : Device) (h : ReqHead), ∃ n, (v.hello h).mgt.nonces.head? = some n ∧ n.isFor h = true ∧ n.value.length = 32 ∧
    ((v.hello h).mgt.nonces.drop 1).all (fun m => !m.isFor h) = true) ∧
  (∀ (s : State) (id : Nat) (v : Device), v = s.dev.cleared →
    (∀ f, f = (fun x : Session => x.id == id && decide (x.time + sTicks (v.base.catNum 0x1020 1) ≤ v.base.time)) →
      (v.mgt.sessions.any f = true → Leaves (.sessionIdleExpiry id) s (v.closeSessions f)) ∧
      (v.mgt.sessions.any f = false → Passes (.sessionIdleExpiry id) s))) ∧
  (∀ (s : State) (tr : Nat) (src : List Byte) (v : Device), v = s.dev.cleared →
    Leaves (.nonceExpiry tr src) s { v with mgt := { v.mgt with nonces := v.mgt.nonces.filter fun n =>
      !(n.transport == tr && n.source == src && decide (n.time + sTicks 10 ≤ v.base.time)) } }) ∧
  (∀ (s : State) (t : Nat) (v : Device), v = s.dev.cleared → v.mgt.lockout = some t →
    (t + sTicks 60 ≤ v.base.time → Leaves .lockoutExpiry s { v with mgt := { v.mgt with lockout := none } }) ∧
    (v.base.time < t + sTicks 60 → Passes .lockoutExpiry s))

/-- Entries (15 R431 to R437, R451, R457 to R459). A read of an entry that does not exist, of another partition's from a mailbox session, or of a WO
entry is refused; a write is checked for its role and partition, its access, its type and length, and its range, and a refused write changes nothing.
A mailbox session writes entries of its own partition only. A requested unit state is stored; FAILED raises MGT.FAILREQ. A firmware update begins in
one session, takes data at the next offset, and ends valid, which the flash must take, or erased. -/
def Obligations.EntriesAreReadAndWritten : Prop :=
  (∀ (v : Device) (x : Session) (i k o m : Nat),
    (v.entry i k = none → v.readEntry x i k o m = (stNOENTRY, []) ∧ v.describe x i k = (stNOENTRY, [])) ∧
    (∀ e, v.entry i k = some e →
      (v.mayRead x e = false → v.readEntry x i k o m = (stDENIED, []) ∧ v.describe x i k = (stDENIED, [])) ∧
      (v.mayRead x e = true → e.acc = .wo → v.readEntry x i k o m = (stWRITEONLY, [])) ∧
      (v.mayRead x e = true → e.acc ≠ .wo → v.readEntry x i k o m = (stOK,
        [typeByte e.type] ++ leBytes 3 0 ++ leBytes 4 (v.catValue i k).length ++ ((v.catValue i k).drop o).take m)))) ∧
  (∀ (v : Device) (x : Session) (i k : Nat) (t : CatType) (l : List Byte) (env : WriteEnv),
    (v.entry i k = none → v.writeEntry x i k t l env = (v, stNOENTRY)) ∧
    (∀ e, v.entry i k = some e →
      (v.mgt.recovery = true ∨ v.mayWrite x e = false → v.writeEntry x i k t l env = (v, stDENIED)) ∧
      (v.mgt.recovery = false → v.mayWrite x e = true →
        (e.acc = .ro → v.writeEntry x i k t l env = (v, stREADONLY)) ∧
        (e.acc ≠ .ro → t ≠ e.type ∨ e.lengthOk l.length = false → v.writeEntry x i k t l env = (v, stTYPE)) ∧
        (e.acc ≠ .ro → t = e.type → e.lengthOk l.length = true →
          (v.inRange i k e l = false → v.writeEntry x i k t l env = (v, stRANGE)) ∧
          (v.inRange i k e l = true → e.persist = true → env.flashOk = false →
            v.writeEntry x i k t l env = (v.onBase fun b => b.mgtEvent 5 0x0E06, stFLASH)) ∧
          (v.inRange i k e l = true → e.persist = false ∨ env.flashOk = true →
            v.writeEntry x i k t l env = (v.entryWrite i k e l env, stOK)))))) ∧
  (∀ (v v1 : Device) (x : Session) (i k : Nat) (t : CatType) (l : List Byte) (env : WriteEnv) (st : Nat),
    v.writeEntry x i k t l env = (v1, st) → st ≠ stOK → st ≠ stFLASH → v1 = v) ∧
  (∀ (v : Device) (x : Session) (e : CatInfo), x.transport = 3 → v.mayWrite x e = true → e.part = some (v.sessionPart x)) ∧
  (∀ (v v1 : Device) (d k u y : Nat), v1 = v.unitStored d k u y →
    (y = 0 → v.unitWrite d k u y = v1.unitWithdrawn d k u) ∧
    (y ≠ 0 → outOfService (v1.work.unitState d k u) = true → v.unitWrite d k u y = v1) ∧
    (outOfService (v1.work.unitState d k u) = false →
      (y = 2 → v.unitWrite d k u y = (v1.unitAsked d k u).unitFails d k u) ∧
      (y = 1 → d < 8 → k = 1 → v.unitWrite d k u y = (v1.unitAsked d k u).onWork fun w => w.tileFence d u) ∧
      (y = 1 → 8 ≤ d ∨ k ≠ 1 → v.unitWrite d k u y = v1.unitAsked d k u))) ∧
  (∀ (w : Work) (d k u y : Nat), 2 < y → w.unitRefuses d k u y = true) ∧
  (∀ (v : Device) (x : Session), x.mayUpdate = true →
    (∀ u n, v.mgt.update = some u → u.session ≠ x.id → v.fwBegin x n = (v, stBUSY, [])) ∧
    (∀ u o l, v.mgt.update = some u → u.session = x.id → o = u.data.length → o + l.length ≤ u.length →
      v.fwData x o l = ({ v with mgt := { v.mgt.setSlot u.slot (u.data ++ l) with update := some { u with data := u.data ++ l } } }, stOK, [])) ∧
    (∀ u o l, v.mgt.update = some u → u.session = x.id → o ≠ u.data.length → v.fwData x o l = (v, stRANGE, [])) ∧
    (∀ u env, v.mgt.update = some u → u.session = x.id →
      (v.base.imageValid u.data = false →
        v.fwEnd x env = ((({ v with mgt := ({ v.mgt with update := none } : Mgt).setSlot u.slot [] } : Device).onBase fun b => b.mgtEvent 3 0x0E04),
          stVERIFY, [])) ∧
      (v.base.imageValid u.data = true → env.flashOk = false → v.fwEnd x env = (v.onBase fun b => b.mgtEvent 5 0x0E06, stFLASH, [])) ∧
      (v.base.imageValid u.data = true → env.flashOk = true →
        v.fwEnd x env = ((({ v with mgt := { v.mgt with update := none } } : Device).onBase fun b => b.catSet 0x1005 1 1 u.slot).persist, stOK,
          leBytes 1 u.slot))))

/-- The ports and what the management core does in time (15 R438, R439, R455, R460). The 10BASE-T1S port answers a solicitation of its address and an
echo request to it. The I3C port takes its dynamic address, its lengths within 256, and its in-band interrupt enable. One more notice follows 1 µs
after a notice with records since. A pair that has disagreed for 100 ms raises MGT.DIVERGE once for its episode. -/
def Obligations.ManagementPortsAndNotices : Prop :=
  (∀ (s : State) (src tgt data : List Byte) (v : Device), v = s.dev.cleared → v.t1sHears src false = true →
    (tgt = v.base.t1sAddress →
      Leaves (.neighborSolicitation src tgt false) s (v.answer (.message (0x88 :: tgt))) ∧
      Leaves (.echoRequest src tgt data false) s (v.answer (.message (0x81 :: data)))) ∧
    (tgt ≠ v.base.t1sAddress → Passes (.neighborSolicitation src tgt false) s ∧ Passes (.echoRequest src tgt data false) s)) ∧
  (∀ (s : State) (src tgt data : List Byte), Passes (.neighborSolicitation src tgt true) s ∧ Passes (.echoRequest src tgt data true) s) ∧
  (∀ (s : State) (v : Device) (a n : Nat), v = s.dev.cleared → v.mgt.up = true → v.heeds = true → v.base.catNum 0x1011 1 = 1 →
    Leaves (.i3cCcc .rstdaa) s ((v.onBase fun b => { b with i3cAddr := none }).answer .ok) ∧
    (v.base.i3cAddr = none →
      Leaves (.i3cCcc (.setdasa (v.base.catNum 0x1011 2) a)) s ((v.onBase fun b => { b with i3cAddr := some (a % 128) }).answer .ok)) ∧
    Leaves (.i3cCcc (.setmwl none n)) s (({ v with mgt := { v.mgt with i3cMwl := min n 256 } }).answer .ok) ∧
    Leaves (.i3cCcc (.setmrl none n)) s (({ v with mgt := { v.mgt with i3cMrl := min n 256 } }).answer .ok) ∧
    (v.base.i3cAddr = some a →
      Leaves (.i3cCcc (.getmwl a)) s (v.answer (.value (BitVec.ofNat 64 v.mgt.i3cMwl))) ∧
      Leaves (.i3cCcc (.getmrl a)) s (v.answer (.value (BitVec.ofNat 64 v.mgt.i3cMrl)))) ∧
    (n.testBit 0 = true →
      Leaves (.i3cCcc (.enec none n)) s ((v.onBase fun b => { b with inbandOn := true }).answer .ok) ∧
      Leaves (.i3cCcc (.disec none n)) s ((v.onBase fun b => { b with inbandOn := false }).answer .ok))) ∧
  (∀ (s : State) (p t : Nat) (b : Base), s.dev.pwr.iordy = true → b = s.work.base → (b.ring p).lastSignal = some t →
    ((b.ring p).pending = true → t + usTicks 1 ≤ b.time →
      DoesBase (.eventNoticeCoalesce p) s
        (({ b with rings := Map.put p { b.ring p with pending := false, lastSignal := some b.time } b.rings }).msixPart p 2032)) ∧
    ((b.ring p).pending = false ∨ b.time < t + usTicks 1 → Passes (.eventNoticeCoalesce p) s)) ∧
  (∀ (s : State) (i k t : Nat) (v : Device), v = s.dev.cleared → Map.find (catKey i k) v.mgt.diverge = some (t, false) → v.mgt.up = true →
    v.pairAgrees (catKey i k) = false →
    (t + msTicks 100 ≤ v.base.time → ∀ b, b = (v.base.wf 0 16 i .PWR_MGT_DIVERGE 40).wf 16 8 k .PWR_MGT_DIVERGE 40 →
      Leaves (.divergenceExpiry i k) s
        ({ v with mgt := { v.mgt with diverge := Map.put (catKey i k) (t, true) v.mgt.diverge } }.setBase
          ((b.countSat 1 32 32 .PWR_MGT_DIVERGE 40).mgtEvent 0 0x0E01))) ∧
    (v.base.time < t + msTicks 100 → Passes (.divergenceExpiry i k) s)) ∧
  (∀ (s : State) (i k t : Nat), Map.find (catKey i k) s.dev.mgt.diverge = some (t, true) → Passes (.divergenceExpiry i k) s)

/-- Rails and bring-up (16 R475 to R478, R483). A bus's first request waits for its acknowledgement, then for its transition; one that is not
acknowledged, or not answered in 10 µs, is sent again after 100 µs, and the third failure, or a transition not done in 10 ms, ends it. Readings are
reported. A die's stage that is ready is completed, and when every die of the bring-up is up it ends; a stage past its limit stops bring-up, but a
stack that misses its memory stage, in a bring-up or after a reset of its die (R485), is fenced. Power-on is a cold reset with every rail off. -/
def Obligations.RailsBringTheDiesUp : Prop :=
  (∀ (s : State) (k : Nat) (q : RailReq) (l : List RailReq) (v : Device), v = s.dev.cleared → v.pwr.bus k = q :: l →
    (v.heeds = true → q.phase = 0 →
      Leaves (.avsResponse k .ack) s { v with pwr := v.pwr.setBus k ({ q with phase := 2, time := v.base.time } :: l) } ∧
      Leaves (.avsResponse k .nack) s (v.railAgain k q)) ∧
    (v.heeds = true → q.phase = 2 → Leaves (.avsResponse k .done) s ((v.railDone k).powerStep)) ∧
    (v.heeds = false → ∀ r, Passes (.avsResponse k r) s) ∧
    (q.phase = 0 → q.time + usTicks 10 ≤ v.base.time → Leaves (.avsResendExpiry k) s (v.railAgain k q)) ∧
    (q.phase = 1 → q.time + usTicks 100 ≤ v.base.time →
      Leaves (.avsResendExpiry k) s
        { v.onBase fun b => b.countSat 1 0 48 .PWR_AVS_ERR 40 with pwr := v.pwr.setBus k ({ q with phase := 0, time := v.base.time } :: l) }) ∧
    (q.phase = 2 → q.time + msTicks 10 ≤ v.base.time → Leaves (.railDoneExpiry k) s (v.railFails k)) ∧
    (q.fails < 2 → v.railAgain k q =
      { v with pwr := v.pwr.setBus k ({ q with fails := q.fails + 1, phase := 1, time := v.base.time } :: (v.pwr.bus k).drop 1) }) ∧
    (2 ≤ q.fails → v.railAgain k q = v.railFails k)) ∧
  (∀ (s : State) (r mv amps : Nat) (v : Device), v = s.dev.cleared → v.heeds = true →
    (v.pwr.rails.contains r = true →
      Leaves (.railTelemetry r mv amps) s (v.onBase fun b => b.catSet 0x2011 (r + 1) 4 (mv % 65536 + amps % 65536 * 65536))) ∧
    (v.pwr.rails.contains r = false → Passes (.railTelemetry r mv amps) s)) ∧
  (∀ (s : State) (d t : Nat) (v : Device), v = s.dev.cleared → v.alive = true → Map.find d v.pwr.retrain = some t →
    Leaves (.bringupStageReady d) s { v with pwr := { v.pwr with retrain := Map.del d v.pwr.retrain } } ∧
    (t + stageLimit d 2 ≤ v.base.time → Leaves (.bringupStageTimeout d) s ((v.onBase fun b => b.stackLost (d - 8)).stageReady d))) ∧
  (∀ (s : State) (d : Nat) (v : Device), v = s.dev.cleared → v.alive = true → Map.find d v.pwr.retrain = none → v.pwr.bringing.contains d = true →
    1 ≤ v.pwr.stageOf d → v.pwr.stageOf d ≤ 3 →
    ((v.stageDone d).allUp = true → Leaves (.bringupStageReady d) s ((v.stageDone d).bringEnd).powerStep) ∧
    ((v.stageDone d).allUp = false → Leaves (.bringupStageReady d) s (v.stageDone d).showStates) ∧
    ((Map.find d v.pwr.since).getD 0 + stageLimit d (v.pwr.stageOf d) ≤ v.base.time →
      (v.pwr.stageOf d = 2 → 8 ≤ d → d < 40 →
        Leaves (.bringupStageTimeout d) s ((v.onBase fun b => b.stackLost (d - 8)).stageReady d)) ∧
      (v.pwr.stageOf d ≠ 2 ∨ d < 8 ∨ 40 ≤ d →
        Leaves (.bringupStageTimeout d) s ((v.bringStop (v.pwr.stageOf d) d 0).showStates))) ∧
    (v.base.time < (Map.find d v.pwr.since).getD 0 + stageLimit d (v.pwr.stageOf d) → Passes (.bringupStageTimeout d) s)) ∧
  (∀ (s : State), Leaves .powerOn s s.dev.cleared.powerOn) ∧
  (∀ (v : Device) (b : Nat), (v.coldReset b).mgt.up = false ∧ (v.coldReset b).pwr.ready = false ∧ (v.coldReset b).pwr.iordy = false ∧
    (v.coldReset b).pwr.effective = 0 ∧ (v.coldReset b).base.time = 0 ∧ (v.coldReset b).base.seals = [] ∧ (v.coldReset b).base.mem = v.base.mem ∧
    (v.coldReset b).mgt.store0 = v.mgt.store0 ∧ (v.coldReset b).mgt.store1 = v.mgt.store1) ∧
  (∀ (v : Device), v.powerOn.base.mem = [])

/-- Handshakes, HOLD, heat and supplies (16 R469 to R471, R473, R479, R480, R482; 19 R523, R526). A block that delayed is asked again after 10 µs, and
at PWR_HS_TIMEOUT the entry is abandoned. The first block that does not grant decides: a refusal abandons the entry, a delay waits, and with none the
transition begins. A state requested while another request is under way waits for its end, and the one already requested starts nothing (R467). An
enabled wake source ends HOLD, but not once a bring-up has stopped (R478). A tile domain gated for the dwell in DOZE stops its PLL. A temperature is
reported, with the highest since PEAK was read (00 R10), warned of once, and trips the device above 115.0 °C. A low VAUX clears JOIN, a low VDDIO_MGT
makes the inputs ignored until it returns with a cold reset, and without VDD_AON everything stops. -/
def Obligations.PowerControllerActs : Prop :=
  (∀ (s : State) (cores : List Nat) (h : Handshake) (v : Device), v = s.dev.cleared → v.pwr.hs = some h →
    (h.askedAt + usTicks 10 ≤ v.base.time → Leaves (.handshakeReask cores) s ((v.askBlocks { h with cores := cores }).powerStep)) ∧
    (v.base.time < h.askedAt + usTicks 10 → Passes (.handshakeReask cores) s) ∧
    (∀ k l r, (blocksOf h.target h.dies).drop h.granted = k :: l → v.answerOf h.cores k = .delay r →
      (h.start + v.base.rf 0 32 .PWR_HS_TIMEOUT 40 ≤ v.base.time →
        Leaves .handshakeTimeout s ((v.abandon h.target k.source r false).powerStep)) ∧
      (v.base.time < h.start + v.base.rf 0 32 .PWR_HS_TIMEOUT 40 → Passes .handshakeTimeout s))) ∧
  (∀ (v : Device) (h : Handshake) (l rest : List Block16) (k : Block16), (blocksOf h.target h.dies).drop h.granted = l ++ k :: rest →
    (∀ x ∈ l, v.answerOf h.cores x = .grant) →
    (∀ r, v.answerOf h.cores k = .refuse r → v.askBlocks h = v.abandon h.target k.source r true) ∧
    (∀ r, v.answerOf h.cores k = .delay r →
      v.askBlocks h = { v with pwr := { v.pwr with hs := some { h with granted := h.granted + l.length, askedAt := v.base.time } } })) ∧
  (∀ (v : Device) (h : Handshake), (∀ x ∈ (blocksOf h.target h.dies).drop h.granted, v.answerOf h.cores x = .grant) →
    v.askBlocks h = v.transition h.target h.dies) ∧
  (∀ (s : State) (e : WakeEvent) (v : Device), v = s.dev.cleared →
    (v.wakeSource e = none → Leaves (.holdWake e) s (v.wakePins e)) ∧
    (∀ k, v.wakeSource e = some k →
      (v.alive = false ∨ bget (v.base.rd .PWR_WAKE 40) k = false → Leaves (.holdWake e) s (v.wakePins e)) ∧
      (v.alive = true → bget (v.base.rd .PWR_WAKE 40) k = true → Leaves (.holdWake e) s ((v.wakePins e).woken k)))) ∧
  (∀ (v : Device) (k : Nat), v.pwr.trans = none → v.pwr.hs = none → v.pwr.effective = 3 → v.pwr.bring = none →
    (v.pwr.stopped = true → v.woken k = v.showStates) ∧
    (v.pwr.stopped = false → ∀ p : Pwr, p = { v.pwr with bring := some 1, exitBit := 5, wake := none, stage := [], since := [] } →
      ∀ u, u = (v.onBase fun b => b.wf 8 6 (2 ^ k) .PWR_WAKE 40) →
      v.woken k = Device.showStates { u with pwr := p.askAll u.base ioRails true })) ∧
  (∀ (v : Device) (d : Nat) (cores : List Nat) (same : Bool),
    (v.pwr.idle = true → v.powerWrite d cores same = (v.takeUp d cores).powerStep) ∧
    (v.pwr.idle = false → v.powerWrite d cores true = v) ∧
    (v.pwr.idle = false → v.powerWrite d cores false =
      Device.showStates { v with pwr := { v.pwr with again := (v.pwr.again.filter fun (a : Nat × List Nat) => a.1 != d) ++ [(d, cores)] } })) ∧
  (∀ (s : State) (n k t : Nat) (v : Device), v = s.dev.cleared → n < 8 → k < 8 → v.dieState n = 1 → v.pwr.doze.contains (8 * n + k) = false →
    v.work.domainBusy n k = false → Map.find (8 * n + k) v.pwr.gated = some t →
    (t + v.base.rf 0 32 .PWR_DOZE_DWELL n ≤ v.base.time →
      Leaves (.dozeDwellExpiry n k) s { v with pwr := { v.pwr with doze := NSet.add (8 * n + k) v.pwr.doze } }) ∧
    (v.base.time < t + v.base.rf 0 32 .PWR_DOZE_DWELL n → Passes (.dozeDwellExpiry n k) s)) ∧
  (∀ (s : State) (d : Nat) (t : Int) (c : Instr) (v w : Device),
    c = .temperatureWarning d t ∨ c = .temperatureWarningEnd d t ∨ c = .thermalTrip d t → v = s.dev.cleared → v.alive = true → d < 44 →
    w = (v.onBase fun b => b.sensed d t).warned d t →
    (w.trips t = true → Leaves c s w.trip) ∧ (w.trips t = false → Leaves c s w)) ∧
  (∀ (v : Device) (d : Nat) (t : Int), (v.base.catNum 0x2012 1 : Int) < t → v.pwr.hot.contains d = true → v.warned d t = v) ∧
  (∀ (b b1 : Base) (d : Nat) (t : Int), b1 = b.wf 0 16 (tc 16 t) .PWR_TEMP d →
    (b.peaks.contains d = false ∨ sext 16 (b1.rf 16 16 .PWR_TEMP d) < t →
      b.sensed d t = { b1.wf 16 16 (tc 16 t) .PWR_TEMP d with peaks := NSet.add d b.peaks }) ∧
    (b.peaks.contains d = true → t ≤ sext 16 (b1.rf 16 16 .PWR_TEMP d) → b.sensed d t = b1)) ∧
  (∀ (s : State) (mv : Nat) (v : Device), v = s.dev.cleared → s.dev.alive = true →
    (mv < 3135 → Leaves (.vauxLow mv) s { v with work := v.work.joinWrite false true, pwr := { v.pwr with vauxLow := true } }) ∧
    (3135 ≤ mv → Leaves (.vauxLow mv) s { v with pwr := { v.pwr with vauxLow := false } })) ∧
  (∀ (s : State) (v : Device), v = s.dev.cleared → v.alive = true →
    Leaves .vddioMgtLow s { v with pwr := { v.pwr with ioLow := true } } ∧
    (v.pwr.ioLow = true → Leaves .vddioMgtReturn s ({ v with pwr := { v.pwr with ioLow := false } }.coldReset 1))) ∧
  (∀ (s : State), Leaves .vddAonLoss s s.dev.cleared.aonLoss) ∧
  (∀ (v : Device), v.aonLoss.alive = false ∧ v.aonLoss.mgt.up = false ∧ v.aonLoss.mgt.sessions = [] ∧ v.aonLoss.pwr.ready = false ∧
    v.aonLoss.pwr.iordy = false)

/-- Resets (16 R471, R483 to R486). SYS_RST_N makes a cold reset and WARM_RST_N asks for a warm one, where the device heeds its inputs; a write of
PWR_RST_CMD asks for the reset of its KIND. A cold reset is made at once; another ends a handshake and is made, or waits for a transition past its
point of no return, a second request for it being absorbed. A reset of a partition that is not valid, of IO0 or a die that does not exist, or of a
tile in another state is refused with PWR.RSTDENY, and nothing else changes. -/
def Obligations.ResetsAreMadeOrRefused : Prop :=
  (∀ (s : State) (v : Device), v = s.dev.cleared →
    (v.heeds = true → Leaves .sysRstN s (v.coldReset 1) ∧ Leaves .warmRstN s (v.resetAsk (.warm 3))) ∧
    (v.heeds = false → Passes .sysRstN s ∧ Passes .warmRstN s)) ∧
  (∀ (s : State) (rt : Route) (p d n t m : Nat) (v : Device) (r : RegAt), r = ⟨.PWR_RST_CMD, 40, 0, 0, 0⟩ →
    (s.writesReg rt r (1 + 2 ^ 19) m v → Leaves (.resetCmdWarm rt) s ((v.resetAsk (.warm 4)).answer .ok)) ∧
    (s.writesReg rt r (2 + 8 * p + 2 ^ 19) m v → p < 8 → Leaves (.resetCmdPartition rt p) s ((v.resetAsk (.part p)).answer .ok)) ∧
    (s.writesReg rt r (3 + 64 * d + 2 ^ 19) m v → d < 64 → Leaves (.resetCmdDie rt d) s ((v.resetAsk (.die d)).answer .ok)) ∧
    (s.writesReg rt r (4 + 64 * n + 4096 * t + 2 ^ 19) m v → n < 64 → t < 128 →
      Leaves (.resetCmdTile rt n t) s ((v.resetAsk (.tile n t)).answer .ok)) ∧
    (s.writesReg rt r (5 + 2 ^ 19) m v → Leaves (.resetCmdCold rt) s ((v.resetAsk (.cold 2)).answer .ok))) ∧
  (∀ (v : Device) (k : ResetKind) (b : Nat), v.resetAsk (.cold b) = v.coldReset b ∧
    ((∀ b, k ≠ .cold b) →
      (v.resetRefused k = true → v.resetAsk k = v.resetDeny) ∧
      (v.resetRefused k = false →
        (v.pwr.trans ≠ none → v.pwr.resets.contains k = true → v.resetAsk k = v) ∧
        (v.pwr.trans ≠ none → v.pwr.resets.contains k = false →
          v.resetAsk k = { v with pwr := { v.pwr with resets := v.pwr.resets ++ [k] } }) ∧
        (v.pwr.trans = none → v.resetAsk k =
          ({ v with pwr := { v.pwr with hs := none, aim := if v.pwr.hs.isSome then none else v.pwr.aim } }.resetNow k).settlePower)))) ∧
  (∀ (v : Device) (p d n m b : Nat),
    (v.base.partValid p = true → v.resetNow (.part p) = (v.partCore p).onBase fun b => b.resetDone (8 + p) 1 1) ∧
    (v.base.partValid p = false → v.resetAsk (.part p) = v.resetDeny) ∧
    (d < 44 → d ≠ 40 → ∀ w, w = ((v.dieCore d true).onBase fun b => (b.wf 18 6 d .PWR_RST_FLAGS 40).resetDone 16 1 1) →
      (8 ≤ d → d < 40 → v.resetNow (.die d) = w.retrainAll [d]) ∧ (d < 8 ∨ 40 ≤ d → v.resetNow (.die d) = w.retrainAll [])) ∧
    (d = 40 ∨ 44 ≤ d → v.resetAsk (.die d) = v.resetDeny) ∧
    (v.base.tileState n m = tACTIVE ∨ v.base.tileState n m = tTEST → v.resetAsk (.tile n m) = v.resetDeny) ∧
    (v.pwr.effective = 3 → v.pwr.bring = none → v.resetNow (.warm b) = v.holdExit b none) ∧
    (v.pwr.effective < 3 → v.resetNow (.warm b) = v.warmNow b)) ∧
  (∀ (v : Device), v.resetDeny = v.onBase fun b => b.pwrEvent 6 0x0F07)

/-- Counters (17 R491, R494 to R499, R501). A read of the lower counter of a chain latches the upper one, and the next read of that one returns what
was latched. An occurrence adds to a counter that is enabled for its event and source and whose filters it passes, and to no other. A device counter
that crosses its limit wraps with its excess, into the upper counter of a chain, a sampling one reloads, and one of a partition or a tile stays at its
limit. A device counter of a frozen die adds nothing, nor in the cycle in which another one's wrap freezes the die. -/
def Obligations.CountersCountAndAreRead : Prop :=
  (∀ (s : State) (rt : Route) (d i m a : Nat) (v : Device), s.arrives rt (routeOff rt (regAddr .DOCK_PMC_VAL d 0 i)) 8 0x71 m a v →
    placeOf a = .reg ⟨.DOCK_PMC_VAL, d, 0, i, 0⟩ → v.base.reaches m ⟨.DOCK_PMC_VAL, d, 0, i, 0⟩ false = true →
    (∀ x, Map.find (64 * d + i) v.pmc.latched = some x →
      Leaves (.pmcValRead rt d i) s
        ({ v with pmc := { v.pmc with latched := Map.del (64 * d + i) v.pmc.latched } }.answer (.value (BitVec.ofNat 64 x)))) ∧
    (Map.find (64 * d + i) v.pmc.latched = none → v.base.chained d i = false →
      Leaves (.pmcValRead rt d i) s (v.answer (.value (v.base.rd .DOCK_PMC_VAL d 0 i)))) ∧
    (Map.find (64 * d + i) v.pmc.latched = none → v.base.chained d i = true →
      Leaves (.pmcValRead rt d i) s
        ({ v with pmc := { v.pmc with latched := Map.put (64 * d + i + 1) (v.base.rf 0 48 .DOCK_PMC_VAL d 0 (i + 1)) v.pmc.latched } }.answer
          (.value (v.base.rd .DOCK_PMC_VAL d 0 i))))) ∧
  (∀ (b : Base) (d i unit ev : Nat) (c : Word), c = b.rd .DOCK_PMC_CTL d 0 i →
    (bget c 16 = false ∨ fget c 0 8 ≠ ev ∨ (fget c 8 8 ≠ 0xFF ∧ fget c 8 8 ≠ unit) ∨ bget (b.rd .DOCK_PMC_BAD d) i = true ∨
      (i % 2 = 1 ∧ b.chained d (i - 1) = true) ∨ (b.counterOwner d i = none ∧ bget (b.rd .DOCK_PMC_GLOBAL d) 0 = true) →
      b.dieSelects d i unit ev = false) ∧
    (b.dieSelects d i unit ev = false → bget c 16 = true → fget c 0 8 = ev → fget c 8 8 = 0xFF ∨ fget c 8 8 = unit →
      bget (b.rd .DOCK_PMC_BAD d) i = false → i % 2 = 0 → b.counterOwner d i = none ∧ bget (b.rd .DOCK_PMC_GLOBAL d) 0 = true)) ∧
  (∀ (b : Base) (o : Occur) (i p : Nat) (c : Word), c = b.rd .DOCK_PMC_CTL o.die 0 i →
    (b.counterOwner o.die i = some p →
      (o.cls ≠ 6 → o.part ≠ some p → b.dieFilters o i = false) ∧ (o.cls = 6 → b.partOfSrc o ≠ some p → b.dieFilters o i = false)) ∧
    (b.counterOwner o.die i = none → (fget c 25 7).testBit o.cls = false → b.dieFilters o i = false) ∧
    (0 < fget c 48 3 → (∀ a, o.addr = some a → a < b.rf 0 52 .DOCK_PMC_RBASE o.die 0 (fget c 48 3 - 1) ∨
      b.rf 0 52 .DOCK_PMC_RLIMIT o.die 0 (fget c 48 3 - 1) < a) → b.dieFilters o i = false)) ∧
  (∀ (v : Device) (o : Occur), v.base.counting = true → 0 < o.adds → 8 ≤ o.die ∨ 68 ≤ o.unit → ∀ b, b = v.base →
    v.occur o = v.setBase (b.countAll o.die
      (((List.range (dieCounters o.die)).filter fun i => b.dieSelects o.die i o.unit o.event && b.dieFilters o i).map fun i => (i, o.adds)))) ∧
  (∀ (b : Base) (d i n x : Nat) (c : Word), c = b.rd .DOCK_PMC_CTL d 0 i → x = b.rf 0 48 .DOCK_PMC_VAL d 0 i + n →
    (x < 2 ^ 48 → b.dieAdd d i n = b.wf 0 48 x .DOCK_PMC_VAL d 0 i) ∧
    (2 ^ 48 ≤ x →
      (bget c 17 = true → b.dieAdd d i n = (b.wf 0 48 (sampleLoad (fget c 18 6)) .DOCK_PMC_VAL d 0 i).coreSample d i (fget c 8 8 - 72)) ∧
      (bget c 17 = false →
        (b.counterOwner d i = none → b.chained d i = false → b.dieAdd d i n = b.counterWraps d i (x % 2 ^ 48)) ∧
        (b.counterOwner d i = none → b.chained d i = true → ∀ y, y = b.rf 0 48 .DOCK_PMC_VAL d 0 (i + 1) + 1 →
          (y < 2 ^ 48 → b.dieAdd d i n = (b.wf 0 48 (x % 2 ^ 48) .DOCK_PMC_VAL d 0 i).wf 0 48 y .DOCK_PMC_VAL d 0 (i + 1)) ∧
          (2 ^ 48 ≤ y → b.dieAdd d i n = (b.wf 0 48 (x % 2 ^ 48) .DOCK_PMC_VAL d 0 i).counterWraps d (i + 1) 0)) ∧
        (∀ p b1, b.counterOwner d i = some p → b1 = (b.wf 0 48 (2 ^ 48 - 1) .DOCK_PMC_VAL d 0 i).wf i 1 1 .DOCK_PMC_SAT d →
          (bget (b.rd .DOCK_PMC_SAT d) i = true → b.dieAdd d i n = b1) ∧
          (bget (b.rd .DOCK_PMC_SAT d) i = false → b.dieAdd d i n = b1.pmcEvent d 1 0x1002 (logic d) (some p)))))) ∧
  (∀ (b : Base) (d i j n m : Nat),
    (b.counterOwner d i = none → bget (b.rd .DOCK_PMC_GLOBAL d) 0 = true → b.countAll d [(i, n)] = b) ∧
    (b.counterOwner d i ≠ none ∨ bget (b.rd .DOCK_PMC_GLOBAL d) 0 = false → b.countAll d [(i, n)] = b.dieAdd d i n) ∧
    (b.freezes d i n = true → b.freezes d j m = false → b.counterOwner d j = none → bget (b.rd .DOCK_PMC_GLOBAL d) 0 = false → i < 64 →
      b.countAll d [(j, m), (i, n)] = b.dieAdd d i n)) ∧
  (∀ (v : Device) (n m i k x wb : Nat) (c : Word), c = v.base.rd .TILE_PMC_CTL (cd n) m i → x = v.base.rf 0 48 .TILE_PMC_VAL (cd n) m i + k →
    (x < 2 ^ 48 → v.tileAdd n m i k wb = v.onBase fun b => b.wf 0 48 x .TILE_PMC_VAL (cd n) m i) ∧
    (2 ^ 48 ≤ x → bget c 9 = true →
      v.tileAdd n m i k wb = (v.onBase fun b => b.wf 0 48 (sampleLoad (fget c 10 6)) .TILE_PMC_VAL (cd n) m i).sample n m wb) ∧
    (2 ^ 48 ≤ x → bget c 9 = false → ∀ b1, b1 = (v.base.wf 0 48 (2 ^ 48 - 1) .TILE_PMC_VAL (cd n) m i).wf i 1 1 .TILE_PMC_STATUS (cd n) m →
      (bget (v.base.rd .TILE_PMC_STATUS (cd n) m) i = true → v.tileAdd n m i k wb = v.setBase b1) ∧
      (bget (v.base.rd .TILE_PMC_STATUS (cd n) m) i = false →
        v.tileAdd n m i k wb = v.setBase (b1.pmcEvent (cd n) 1 0x1002 ⟨cd n, m⟩ (b1.partOfTile n m)))))

/-- Write generations (05 R141, R142). A write of n requests to a block adds n to its generation modulo 2^16 and to no other; when the generation
passes from 0xFFFF to 0x0000, DOCK_MS_WRAPTIME of the stack's memory-side die takes the timebase, and otherwise no register changes. A write of a
piece is one request; cold reset sets every generation to 0. -/
def Obligations.BlockGenerationWrapIsTimed : Prop :=
  (∀ (b : Base) (st off n : Nat) (gen : Base → Nat → Nat), gen = (fun b k => (Map.find k b.gens).getD 0) → Map.sorted b.gens = true →
    ∀ k, k = st * 2 ^ 25 + off / 4096 →
    gen (b.addGen st off n) k = (gen b k + n) % 2 ^ 16 ∧ (∀ l, l ≠ k → gen (b.addGen st off n) l = gen b l) ∧
    (2 ^ 16 ≤ gen b k + n → (b.addGen st off n).regs = (b.wr (BitVec.ofNat 64 b.time) .DOCK_MS_WRAPTIME (ms st)).regs) ∧
    (gen b k + n < 2 ^ 16 → (b.addGen st off n).regs = b.regs)) ∧
  (∀ (b : Base) (st off : Nat) (bytes : List Byte) (bad : Bool), (b.pieceWrite st off bytes bad).gens = (b.addGen st off 1).gens) ∧
  (∀ (v : Device) (k : Nat), (v.coldReset k).base.gens = [])

/-- The tags of the Dock after resets (14 R418): cold reset sets the tag of every bay of every partition to FREE, on every I/O die; a partition reset
sets every tag of that partition's Dock to HOST, and leaves those of the other partitions. -/
def Obligations.DockTagsFollowResets : Prop :=
  (∀ (v : Device) (k p n bay : Nat), ((v.coldReset k).bays p).tag n bay = 0) ∧
  (∀ (v : Device) (p n bay : Nat), v.base.partValid p = true → ((v.partReset p).bays p).tag n bay = 1) ∧
  (∀ (v : Device) (p q : Nat), q ≠ p → (v.partReset p).bays q = v.bays q)
end

