-- ==== Sys2Proof/Laws/Maps.lean ====
section
/-! SUPPORT. The laws of sparse tables: what a table answers after one change, and that every change keeps the rising order of its keys. -/

namespace Sys2Proof.Laws

open Sys2Proof.Machine

/-- The keys of a table rise strictly, as a statement about every pair. -/
theorem map_sorted_iff {α : Type} (m : List (Nat × α)) : Map.sorted m = true ↔ m.Pairwise (fun a b => a.1 < b.1) := by
  fun_induction Map.sorted m <;> grind [List.pairwise_cons]

@[simp] theorem map_find_nil {α : Type} (k : Nat) : Map.find k ([] : List (Nat × α)) = none := rfl

/-- A key below every key of a table is not in it. -/
theorem map_find_of_lt {α : Type} (k : Nat) (m : List (Nat × α)) (h : ∀ c ∈ m, k < c.1) : Map.find k m = none := by
  fun_induction Map.find k m <;> grind

/-- A value put at a key is what the table answers there; every other key answers as before. -/
theorem map_find_put {α : Type} (k l : Nat) (v : α) (m : List (Nat × α)) :
    Map.find l (Map.put k v m) = if l = k then some v else Map.find l m := by
  fun_induction Map.put k v m <;> grind [Map.find]

/-- In a table whose keys rise, a key taken out answers nothing, and every other key as before. -/
theorem map_find_del {α : Type} (k l : Nat) (m : List (Nat × α)) (h : Map.sorted m = true) :
    Map.find l (Map.del k m) = if l = k then none else Map.find l m := by
  rw [map_sorted_iff] at h
  fun_induction Map.del k m <;> grind [Map.find, map_find_of_lt, List.pairwise_cons]

/-- What a table lists after a value is put was there before, or is that value at its key. -/
theorem map_mem_put {α : Type} (k : Nat) (v : α) (m : List (Nat × α)) (c : Nat × α) (h : c ∈ Map.put k v m) : c = (k, v) ∨ c ∈ m := by
  fun_induction Map.put k v m <;> grind

/-- Putting a value keeps the order. -/
theorem map_sorted_put {α : Type} (k : Nat) (v : α) (m : List (Nat × α)) (h : Map.sorted m = true) : Map.sorted (Map.put k v m) = true := by
  rw [map_sorted_iff] at *
  fun_induction Map.put k v m
  case case4 r _ _ _ => have := map_mem_put k v r; grind [List.pairwise_cons]
  all_goals grind [List.pairwise_cons]

/-- Taking a key out keeps the order. -/
theorem map_sorted_del {α : Type} (k : Nat) (m : List (Nat × α)) (h : Map.sorted m = true) : Map.sorted (Map.del k m) = true := by
  rw [map_sorted_iff] at *
  exact h.sublist (by fun_induction Map.del k m <;> grind)

/-- Taking a range of keys out keeps the order. -/
theorem map_sorted_delRange {α : Type} (lo hi : Nat) (m : List (Nat × α)) (h : Map.sorted m = true) : Map.sorted (Map.delRange lo hi m) = true := by
  rw [map_sorted_iff] at *
  exact h.sublist List.filter_sublist

end Sys2Proof.Laws
end

