-- ==== Sys2Proof/Laws/State.lean ====
section
/-! SUPPORT. One lemma per field per named update of the state: what an update leaves as it is. -/

namespace Sys2Proof.Laws

open Sys2Proof.Machine

@[simp] theorem base_wr_time (b : Base) (v : Word) (r : Reg) (d u i j : Nat) : (b.wr v r d u i j).time = b.time := rfl
@[simp] theorem base_wr_free (b : Base) (v : Word) (r : Reg) (d u i j : Nat) : (b.wr v r d u i j).free = b.free := rfl
@[simp] theorem base_wr_waitIdle (b : Base) (v : Word) (r : Reg) (d u i j : Nat) : (b.wr v r d u i j).waitIdle = b.waitIdle := rfl
@[simp] theorem base_wr_catVals (b : Base) (v : Word) (r : Reg) (d u i j : Nat) : (b.wr v r d u i j).catVals = b.catVals := rfl
@[simp] theorem base_wr_poison (b : Base) (v : Word) (r : Reg) (d u i j : Nat) : (b.wr v r d u i j).poison = b.poison := rfl
@[simp] theorem base_wr_gens (b : Base) (v : Word) (r : Reg) (d u i j : Nat) : (b.wr v r d u i j).gens = b.gens := rfl
@[simp] theorem base_wr_seals (b : Base) (v : Word) (r : Reg) (d u i j : Nat) : (b.wr v r d u i j).seals = b.seals := rfl
@[simp] theorem base_wr_far (b : Base) (v : Word) (r : Reg) (d u i j : Nat) : (b.wr v r d u i j).far = b.far := rfl
@[simp] theorem base_wr_covers (b : Base) (v : Word) (r : Reg) (d u i j : Nat) : (b.wr v r d u i j).covers = b.covers := rfl
@[simp] theorem base_wr_links (b : Base) (v : Word) (r : Reg) (d u i j : Nat) : (b.wr v r d u i j).links = b.links := rfl
@[simp] theorem base_wr_verdicts (b : Base) (v : Word) (r : Reg) (d u i j : Nat) : (b.wr v r d u i j).verdicts = b.verdicts := rfl
@[simp] theorem base_wr_steps (b : Base) (v : Word) (r : Reg) (d u i j : Nat) : (b.wr v r d u i j).steps = b.steps := rfl
@[simp] theorem base_wr_inForce (b : Base) (v : Word) (r : Reg) (d u i j : Nat) : (b.wr v r d u i j).inForce = b.inForce := rfl
@[simp] theorem base_wr_unverified (b : Base) (v : Word) (r : Reg) (d u i j : Nat) : (b.wr v r d u i j).unverified = b.unverified := rfl
@[simp] theorem base_wr_log (b : Base) (v : Word) (r : Reg) (d u i j : Nat) : (b.wr v r d u i j).log = b.log := rfl
@[simp] theorem base_wr_logNext (b : Base) (v : Word) (r : Reg) (d u i j : Nat) : (b.wr v r d u i j).logNext = b.logNext := rfl
@[simp] theorem base_wr_rings (b : Base) (v : Word) (r : Reg) (d u i j : Nat) : (b.wr v r d u i j).rings = b.rings := rfl
@[simp] theorem base_wr_vectors (b : Base) (v : Word) (r : Reg) (d u i j : Nat) : (b.wr v r d u i j).vectors = b.vectors := rfl
@[simp] theorem base_wr_i3cAddr (b : Base) (v : Word) (r : Reg) (d u i j : Nat) : (b.wr v r d u i j).i3cAddr = b.i3cAddr := rfl
@[simp] theorem base_wr_inbandOn (b : Base) (v : Word) (r : Reg) (d u i j : Nat) : (b.wr v r d u i j).inbandOn = b.inbandOn := rfl
@[simp] theorem base_wr_inbandLast (b : Base) (v : Word) (r : Reg) (d u i j : Nat) : (b.wr v r d u i j).inbandLast = b.inbandLast := rfl
@[simp] theorem base_wr_sent (b : Base) (v : Word) (r : Reg) (d u i j : Nat) : (b.wr v r d u i j).sent = b.sent := rfl
@[simp] theorem base_wr_peaks (b : Base) (v : Word) (r : Reg) (d u i j : Nat) : (b.wr v r d u i j).peaks = b.peaks := rfl
@[simp] theorem base_wr_resp (b : Base) (v : Word) (r : Reg) (d u i j : Nat) : (b.wr v r d u i j).resp = b.resp := rfl
@[simp] theorem base_wr_occurs (b : Base) (v : Word) (r : Reg) (d u i j : Nat) : (b.wr v r d u i j).occurs = b.occurs := rfl

@[simp] theorem base_wf_time (b : Base) (lo w x : Nat) (r : Reg) (d u i j : Nat) : (b.wf lo w x r d u i j).time = b.time := rfl
@[simp] theorem base_wf_free (b : Base) (lo w x : Nat) (r : Reg) (d u i j : Nat) : (b.wf lo w x r d u i j).free = b.free := rfl
@[simp] theorem base_wf_waitIdle (b : Base) (lo w x : Nat) (r : Reg) (d u i j : Nat) : (b.wf lo w x r d u i j).waitIdle = b.waitIdle := rfl
@[simp] theorem base_wf_catVals (b : Base) (lo w x : Nat) (r : Reg) (d u i j : Nat) : (b.wf lo w x r d u i j).catVals = b.catVals := rfl
@[simp] theorem base_wf_poison (b : Base) (lo w x : Nat) (r : Reg) (d u i j : Nat) : (b.wf lo w x r d u i j).poison = b.poison := rfl
@[simp] theorem base_wf_gens (b : Base) (lo w x : Nat) (r : Reg) (d u i j : Nat) : (b.wf lo w x r d u i j).gens = b.gens := rfl
@[simp] theorem base_wf_seals (b : Base) (lo w x : Nat) (r : Reg) (d u i j : Nat) : (b.wf lo w x r d u i j).seals = b.seals := rfl
@[simp] theorem base_wf_far (b : Base) (lo w x : Nat) (r : Reg) (d u i j : Nat) : (b.wf lo w x r d u i j).far = b.far := rfl
@[simp] theorem base_wf_covers (b : Base) (lo w x : Nat) (r : Reg) (d u i j : Nat) : (b.wf lo w x r d u i j).covers = b.covers := rfl
@[simp] theorem base_wf_links (b : Base) (lo w x : Nat) (r : Reg) (d u i j : Nat) : (b.wf lo w x r d u i j).links = b.links := rfl
@[simp] theorem base_wf_verdicts (b : Base) (lo w x : Nat) (r : Reg) (d u i j : Nat) : (b.wf lo w x r d u i j).verdicts = b.verdicts := rfl
@[simp] theorem base_wf_steps (b : Base) (lo w x : Nat) (r : Reg) (d u i j : Nat) : (b.wf lo w x r d u i j).steps = b.steps := rfl
@[simp] theorem base_wf_inForce (b : Base) (lo w x : Nat) (r : Reg) (d u i j : Nat) : (b.wf lo w x r d u i j).inForce = b.inForce := rfl
@[simp] theorem base_wf_unverified (b : Base) (lo w x : Nat) (r : Reg) (d u i j : Nat) : (b.wf lo w x r d u i j).unverified = b.unverified := rfl
@[simp] theorem base_wf_log (b : Base) (lo w x : Nat) (r : Reg) (d u i j : Nat) : (b.wf lo w x r d u i j).log = b.log := rfl
@[simp] theorem base_wf_logNext (b : Base) (lo w x : Nat) (r : Reg) (d u i j : Nat) : (b.wf lo w x r d u i j).logNext = b.logNext := rfl
@[simp] theorem base_wf_rings (b : Base) (lo w x : Nat) (r : Reg) (d u i j : Nat) : (b.wf lo w x r d u i j).rings = b.rings := rfl
@[simp] theorem base_wf_vectors (b : Base) (lo w x : Nat) (r : Reg) (d u i j : Nat) : (b.wf lo w x r d u i j).vectors = b.vectors := rfl
@[simp] theorem base_wf_i3cAddr (b : Base) (lo w x : Nat) (r : Reg) (d u i j : Nat) : (b.wf lo w x r d u i j).i3cAddr = b.i3cAddr := rfl
@[simp] theorem base_wf_inbandOn (b : Base) (lo w x : Nat) (r : Reg) (d u i j : Nat) : (b.wf lo w x r d u i j).inbandOn = b.inbandOn := rfl
@[simp] theorem base_wf_inbandLast (b : Base) (lo w x : Nat) (r : Reg) (d u i j : Nat) : (b.wf lo w x r d u i j).inbandLast = b.inbandLast := rfl
@[simp] theorem base_wf_sent (b : Base) (lo w x : Nat) (r : Reg) (d u i j : Nat) : (b.wf lo w x r d u i j).sent = b.sent := rfl
@[simp] theorem base_wf_peaks (b : Base) (lo w x : Nat) (r : Reg) (d u i j : Nat) : (b.wf lo w x r d u i j).peaks = b.peaks := rfl
@[simp] theorem base_wf_resp (b : Base) (lo w x : Nat) (r : Reg) (d u i j : Nat) : (b.wf lo w x r d u i j).resp = b.resp := rfl
@[simp] theorem base_wf_occurs (b : Base) (lo w x : Nat) (r : Reg) (d u i j : Nat) : (b.wf lo w x r d u i j).occurs = b.occurs := rfl

@[simp] theorem base_setVerdict_time (b : Base) (p : Nat) (f : Verdict → Verdict) : (b.setVerdict p f).time = b.time := rfl
@[simp] theorem base_setVerdict_free (b : Base) (p : Nat) (f : Verdict → Verdict) : (b.setVerdict p f).free = b.free := rfl
@[simp] theorem base_setVerdict_regs (b : Base) (p : Nat) (f : Verdict → Verdict) : (b.setVerdict p f).regs = b.regs := rfl
@[simp] theorem base_setVerdict_waitIdle (b : Base) (p : Nat) (f : Verdict → Verdict) : (b.setVerdict p f).waitIdle = b.waitIdle := rfl
@[simp] theorem base_setVerdict_catVals (b : Base) (p : Nat) (f : Verdict → Verdict) : (b.setVerdict p f).catVals = b.catVals := rfl
@[simp] theorem base_setVerdict_mem (b : Base) (p : Nat) (f : Verdict → Verdict) : (b.setVerdict p f).mem = b.mem := rfl
@[simp] theorem base_setVerdict_poison (b : Base) (p : Nat) (f : Verdict → Verdict) : (b.setVerdict p f).poison = b.poison := rfl
@[simp] theorem base_setVerdict_gens (b : Base) (p : Nat) (f : Verdict → Verdict) : (b.setVerdict p f).gens = b.gens := rfl
@[simp] theorem base_setVerdict_seals (b : Base) (p : Nat) (f : Verdict → Verdict) : (b.setVerdict p f).seals = b.seals := rfl
@[simp] theorem base_setVerdict_far (b : Base) (p : Nat) (f : Verdict → Verdict) : (b.setVerdict p f).far = b.far := rfl
@[simp] theorem base_setVerdict_covers (b : Base) (p : Nat) (f : Verdict → Verdict) : (b.setVerdict p f).covers = b.covers := rfl
@[simp] theorem base_setVerdict_links (b : Base) (p : Nat) (f : Verdict → Verdict) : (b.setVerdict p f).links = b.links := rfl
@[simp] theorem base_setVerdict_steps (b : Base) (p : Nat) (f : Verdict → Verdict) : (b.setVerdict p f).steps = b.steps := rfl
@[simp] theorem base_setVerdict_inForce (b : Base) (p : Nat) (f : Verdict → Verdict) : (b.setVerdict p f).inForce = b.inForce := rfl
@[simp] theorem base_setVerdict_unverified (b : Base) (p : Nat) (f : Verdict → Verdict) : (b.setVerdict p f).unverified = b.unverified := rfl
@[simp] theorem base_setVerdict_log (b : Base) (p : Nat) (f : Verdict → Verdict) : (b.setVerdict p f).log = b.log := rfl
@[simp] theorem base_setVerdict_logNext (b : Base) (p : Nat) (f : Verdict → Verdict) : (b.setVerdict p f).logNext = b.logNext := rfl
@[simp] theorem base_setVerdict_rings (b : Base) (p : Nat) (f : Verdict → Verdict) : (b.setVerdict p f).rings = b.rings := rfl
@[simp] theorem base_setVerdict_vectors (b : Base) (p : Nat) (f : Verdict → Verdict) : (b.setVerdict p f).vectors = b.vectors := rfl
@[simp] theorem base_setVerdict_i3cAddr (b : Base) (p : Nat) (f : Verdict → Verdict) : (b.setVerdict p f).i3cAddr = b.i3cAddr := rfl
@[simp] theorem base_setVerdict_inbandOn (b : Base) (p : Nat) (f : Verdict → Verdict) : (b.setVerdict p f).inbandOn = b.inbandOn := rfl
@[simp] theorem base_setVerdict_inbandLast (b : Base) (p : Nat) (f : Verdict → Verdict) : (b.setVerdict p f).inbandLast = b.inbandLast := rfl
@[simp] theorem base_setVerdict_sent (b : Base) (p : Nat) (f : Verdict → Verdict) : (b.setVerdict p f).sent = b.sent := rfl
@[simp] theorem base_setVerdict_peaks (b : Base) (p : Nat) (f : Verdict → Verdict) : (b.setVerdict p f).peaks = b.peaks := rfl
@[simp] theorem base_setVerdict_resp (b : Base) (p : Nat) (f : Verdict → Verdict) : (b.setVerdict p f).resp = b.resp := rfl
@[simp] theorem base_setVerdict_occurs (b : Base) (p : Nat) (f : Verdict → Verdict) : (b.setVerdict p f).occurs = b.occurs := rfl

@[simp] theorem base_setStep_time (b : Base) (p : Nat) (f : StepAcc → StepAcc) : (b.setStep p f).time = b.time := rfl
@[simp] theorem base_setStep_free (b : Base) (p : Nat) (f : StepAcc → StepAcc) : (b.setStep p f).free = b.free := rfl
@[simp] theorem base_setStep_regs (b : Base) (p : Nat) (f : StepAcc → StepAcc) : (b.setStep p f).regs = b.regs := rfl
@[simp] theorem base_setStep_waitIdle (b : Base) (p : Nat) (f : StepAcc → StepAcc) : (b.setStep p f).waitIdle = b.waitIdle := rfl
@[simp] theorem base_setStep_catVals (b : Base) (p : Nat) (f : StepAcc → StepAcc) : (b.setStep p f).catVals = b.catVals := rfl
@[simp] theorem base_setStep_mem (b : Base) (p : Nat) (f : StepAcc → StepAcc) : (b.setStep p f).mem = b.mem := rfl
@[simp] theorem base_setStep_poison (b : Base) (p : Nat) (f : StepAcc → StepAcc) : (b.setStep p f).poison = b.poison := rfl
@[simp] theorem base_setStep_gens (b : Base) (p : Nat) (f : StepAcc → StepAcc) : (b.setStep p f).gens = b.gens := rfl
@[simp] theorem base_setStep_seals (b : Base) (p : Nat) (f : StepAcc → StepAcc) : (b.setStep p f).seals = b.seals := rfl
@[simp] theorem base_setStep_far (b : Base) (p : Nat) (f : StepAcc → StepAcc) : (b.setStep p f).far = b.far := rfl
@[simp] theorem base_setStep_covers (b : Base) (p : Nat) (f : StepAcc → StepAcc) : (b.setStep p f).covers = b.covers := rfl
@[simp] theorem base_setStep_links (b : Base) (p : Nat) (f : StepAcc → StepAcc) : (b.setStep p f).links = b.links := rfl
@[simp] theorem base_setStep_verdicts (b : Base) (p : Nat) (f : StepAcc → StepAcc) : (b.setStep p f).verdicts = b.verdicts := rfl
@[simp] theorem base_setStep_inForce (b : Base) (p : Nat) (f : StepAcc → StepAcc) : (b.setStep p f).inForce = b.inForce := rfl
@[simp] theorem base_setStep_unverified (b : Base) (p : Nat) (f : StepAcc → StepAcc) : (b.setStep p f).unverified = b.unverified := rfl
@[simp] theorem base_setStep_log (b : Base) (p : Nat) (f : StepAcc → StepAcc) : (b.setStep p f).log = b.log := rfl
@[simp] theorem base_setStep_logNext (b : Base) (p : Nat) (f : StepAcc → StepAcc) : (b.setStep p f).logNext = b.logNext := rfl
@[simp] theorem base_setStep_rings (b : Base) (p : Nat) (f : StepAcc → StepAcc) : (b.setStep p f).rings = b.rings := rfl
@[simp] theorem base_setStep_vectors (b : Base) (p : Nat) (f : StepAcc → StepAcc) : (b.setStep p f).vectors = b.vectors := rfl
@[simp] theorem base_setStep_i3cAddr (b : Base) (p : Nat) (f : StepAcc → StepAcc) : (b.setStep p f).i3cAddr = b.i3cAddr := rfl
@[simp] theorem base_setStep_inbandOn (b : Base) (p : Nat) (f : StepAcc → StepAcc) : (b.setStep p f).inbandOn = b.inbandOn := rfl
@[simp] theorem base_setStep_inbandLast (b : Base) (p : Nat) (f : StepAcc → StepAcc) : (b.setStep p f).inbandLast = b.inbandLast := rfl
@[simp] theorem base_setStep_sent (b : Base) (p : Nat) (f : StepAcc → StepAcc) : (b.setStep p f).sent = b.sent := rfl
@[simp] theorem base_setStep_peaks (b : Base) (p : Nat) (f : StepAcc → StepAcc) : (b.setStep p f).peaks = b.peaks := rfl
@[simp] theorem base_setStep_resp (b : Base) (p : Nat) (f : StepAcc → StepAcc) : (b.setStep p f).resp = b.resp := rfl
@[simp] theorem base_setStep_occurs (b : Base) (p : Nat) (f : StepAcc → StepAcc) : (b.setStep p f).occurs = b.occurs := rfl

@[simp] theorem base_setLink_time (b : Base) (L : Nat) (l : LinkSt) : (b.setLink L l).time = b.time := rfl
@[simp] theorem base_setLink_free (b : Base) (L : Nat) (l : LinkSt) : (b.setLink L l).free = b.free := rfl
@[simp] theorem base_setLink_regs (b : Base) (L : Nat) (l : LinkSt) : (b.setLink L l).regs = b.regs := rfl
@[simp] theorem base_setLink_waitIdle (b : Base) (L : Nat) (l : LinkSt) : (b.setLink L l).waitIdle = b.waitIdle := rfl
@[simp] theorem base_setLink_catVals (b : Base) (L : Nat) (l : LinkSt) : (b.setLink L l).catVals = b.catVals := rfl
@[simp] theorem base_setLink_mem (b : Base) (L : Nat) (l : LinkSt) : (b.setLink L l).mem = b.mem := rfl
@[simp] theorem base_setLink_poison (b : Base) (L : Nat) (l : LinkSt) : (b.setLink L l).poison = b.poison := rfl
@[simp] theorem base_setLink_gens (b : Base) (L : Nat) (l : LinkSt) : (b.setLink L l).gens = b.gens := rfl
@[simp] theorem base_setLink_seals (b : Base) (L : Nat) (l : LinkSt) : (b.setLink L l).seals = b.seals := rfl
@[simp] theorem base_setLink_far (b : Base) (L : Nat) (l : LinkSt) : (b.setLink L l).far = b.far := rfl
@[simp] theorem base_setLink_covers (b : Base) (L : Nat) (l : LinkSt) : (b.setLink L l).covers = b.covers := rfl
@[simp] theorem base_setLink_verdicts (b : Base) (L : Nat) (l : LinkSt) : (b.setLink L l).verdicts = b.verdicts := rfl
@[simp] theorem base_setLink_steps (b : Base) (L : Nat) (l : LinkSt) : (b.setLink L l).steps = b.steps := rfl
@[simp] theorem base_setLink_inForce (b : Base) (L : Nat) (l : LinkSt) : (b.setLink L l).inForce = b.inForce := rfl
@[simp] theorem base_setLink_unverified (b : Base) (L : Nat) (l : LinkSt) : (b.setLink L l).unverified = b.unverified := rfl
@[simp] theorem base_setLink_log (b : Base) (L : Nat) (l : LinkSt) : (b.setLink L l).log = b.log := rfl
@[simp] theorem base_setLink_logNext (b : Base) (L : Nat) (l : LinkSt) : (b.setLink L l).logNext = b.logNext := rfl
@[simp] theorem base_setLink_rings (b : Base) (L : Nat) (l : LinkSt) : (b.setLink L l).rings = b.rings := rfl
@[simp] theorem base_setLink_vectors (b : Base) (L : Nat) (l : LinkSt) : (b.setLink L l).vectors = b.vectors := rfl
@[simp] theorem base_setLink_i3cAddr (b : Base) (L : Nat) (l : LinkSt) : (b.setLink L l).i3cAddr = b.i3cAddr := rfl
@[simp] theorem base_setLink_inbandOn (b : Base) (L : Nat) (l : LinkSt) : (b.setLink L l).inbandOn = b.inbandOn := rfl
@[simp] theorem base_setLink_inbandLast (b : Base) (L : Nat) (l : LinkSt) : (b.setLink L l).inbandLast = b.inbandLast := rfl
@[simp] theorem base_setLink_sent (b : Base) (L : Nat) (l : LinkSt) : (b.setLink L l).sent = b.sent := rfl
@[simp] theorem base_setLink_peaks (b : Base) (L : Nat) (l : LinkSt) : (b.setLink L l).peaks = b.peaks := rfl
@[simp] theorem base_setLink_resp (b : Base) (L : Nat) (l : LinkSt) : (b.setLink L l).resp = b.resp := rfl
@[simp] theorem base_setLink_occurs (b : Base) (L : Nat) (l : LinkSt) : (b.setLink L l).occurs = b.occurs := rfl

@[simp] theorem work_setUnit_base (w : Work) (id : Nat) (u : UnitSt) : (w.setUnit id u).base = w.base := rfl
@[simp] theorem work_setUnit_tiles (w : Work) (id : Nat) (u : UnitSt) : (w.setUnit id u).tiles = w.tiles := rfl
@[simp] theorem work_setUnit_scale (w : Work) (id : Nat) (u : UnitSt) : (w.setUnit id u).scale = w.scale := rfl
@[simp] theorem work_setUnit_sid (w : Work) (id : Nat) (u : UnitSt) : (w.setUnit id u).sid = w.sid := rfl
@[simp] theorem work_setUnit_upd (w : Work) (id : Nat) (u : UnitSt) : (w.setUnit id u).upd = w.upd := rfl
@[simp] theorem work_setUnit_curv (w : Work) (id : Nat) (u : UnitSt) : (w.setUnit id u).curv = w.curv := rfl
@[simp] theorem work_setUnit_ring (w : Work) (id : Nat) (u : UnitSt) : (w.setUnit id u).ring = w.ring := rfl
@[simp] theorem work_setUnit_spare (w : Work) (id : Nat) (u : UnitSt) : (w.setUnit id u).spare = w.spare := rfl
@[simp] theorem work_setUnit_stepping (w : Work) (id : Nat) (u : UnitSt) : (w.setUnit id u).stepping = w.stepping := rfl

@[simp] theorem work_setWb_base (w : Work) (id : Nat) (x : Wb) : (w.setWb id x).base = w.base := rfl
@[simp] theorem work_setWb_tiles (w : Work) (id : Nat) (x : Wb) : (w.setWb id x).tiles = w.tiles := rfl
@[simp] theorem work_setWb_scale (w : Work) (id : Nat) (x : Wb) : (w.setWb id x).scale = w.scale := rfl
@[simp] theorem work_setWb_sid (w : Work) (id : Nat) (x : Wb) : (w.setWb id x).sid = w.sid := rfl
@[simp] theorem work_setWb_upd (w : Work) (id : Nat) (x : Wb) : (w.setWb id x).upd = w.upd := rfl
@[simp] theorem work_setWb_curv (w : Work) (id : Nat) (x : Wb) : (w.setWb id x).curv = w.curv := rfl
@[simp] theorem work_setWb_ring (w : Work) (id : Nat) (x : Wb) : (w.setWb id x).ring = w.ring := rfl
@[simp] theorem work_setWb_spare (w : Work) (id : Nat) (x : Wb) : (w.setWb id x).spare = w.spare := rfl
@[simp] theorem work_setWb_stepping (w : Work) (id : Nat) (x : Wb) : (w.setWb id x).stepping = w.stepping := rfl

@[simp] theorem work_dropWb_base (w : Work) (id : Nat) (x : Wb) : (w.dropWb id x).base = w.base := rfl
@[simp] theorem work_dropWb_tiles (w : Work) (id : Nat) (x : Wb) : (w.dropWb id x).tiles = w.tiles := rfl
@[simp] theorem work_dropWb_scale (w : Work) (id : Nat) (x : Wb) : (w.dropWb id x).scale = w.scale := rfl
@[simp] theorem work_dropWb_sid (w : Work) (id : Nat) (x : Wb) : (w.dropWb id x).sid = w.sid := rfl
@[simp] theorem work_dropWb_upd (w : Work) (id : Nat) (x : Wb) : (w.dropWb id x).upd = w.upd := rfl
@[simp] theorem work_dropWb_curv (w : Work) (id : Nat) (x : Wb) : (w.dropWb id x).curv = w.curv := rfl
@[simp] theorem work_dropWb_ring (w : Work) (id : Nat) (x : Wb) : (w.dropWb id x).ring = w.ring := rfl
@[simp] theorem work_dropWb_spare (w : Work) (id : Nat) (x : Wb) : (w.dropWb id x).spare = w.spare := rfl
@[simp] theorem work_dropWb_stepping (w : Work) (id : Nat) (x : Wb) : (w.dropWb id x).stepping = w.stepping := rfl

@[simp] theorem work_setJobs_base (w : Work) (id : Nat) (l : List Job) : (w.setJobs id l).base = w.base := rfl
@[simp] theorem work_setJobs_eng (w : Work) (id : Nat) (l : List Job) : (w.setJobs id l).eng = w.eng := rfl
@[simp] theorem work_setJobs_scale (w : Work) (id : Nat) (l : List Job) : (w.setJobs id l).scale = w.scale := rfl
@[simp] theorem work_setJobs_sid (w : Work) (id : Nat) (l : List Job) : (w.setJobs id l).sid = w.sid := rfl
@[simp] theorem work_setJobs_upd (w : Work) (id : Nat) (l : List Job) : (w.setJobs id l).upd = w.upd := rfl
@[simp] theorem work_setJobs_curv (w : Work) (id : Nat) (l : List Job) : (w.setJobs id l).curv = w.curv := rfl
@[simp] theorem work_setJobs_ring (w : Work) (id : Nat) (l : List Job) : (w.setJobs id l).ring = w.ring := rfl
@[simp] theorem work_setJobs_spare (w : Work) (id : Nat) (l : List Job) : (w.setJobs id l).spare = w.spare := rfl
@[simp] theorem work_setJobs_stepping (w : Work) (id : Nat) (l : List Job) : (w.setJobs id l).stepping = w.stepping := rfl

@[simp] theorem work_setDrains_base (w : Work) (id : Nat) (l : List (Nat × Nat × Nat × Nat)) : (w.setDrains id l).base = w.base := rfl
@[simp] theorem work_setDrains_eng (w : Work) (id : Nat) (l : List (Nat × Nat × Nat × Nat)) : (w.setDrains id l).eng = w.eng := rfl
@[simp] theorem work_setDrains_scale (w : Work) (id : Nat) (l : List (Nat × Nat × Nat × Nat)) : (w.setDrains id l).scale = w.scale := rfl
@[simp] theorem work_setDrains_sid (w : Work) (id : Nat) (l : List (Nat × Nat × Nat × Nat)) : (w.setDrains id l).sid = w.sid := rfl
@[simp] theorem work_setDrains_upd (w : Work) (id : Nat) (l : List (Nat × Nat × Nat × Nat)) : (w.setDrains id l).upd = w.upd := rfl
@[simp] theorem work_setDrains_curv (w : Work) (id : Nat) (l : List (Nat × Nat × Nat × Nat)) : (w.setDrains id l).curv = w.curv := rfl
@[simp] theorem work_setDrains_ring (w : Work) (id : Nat) (l : List (Nat × Nat × Nat × Nat)) : (w.setDrains id l).ring = w.ring := rfl
@[simp] theorem work_setDrains_spare (w : Work) (id : Nat) (l : List (Nat × Nat × Nat × Nat)) : (w.setDrains id l).spare = w.spare := rfl
@[simp] theorem work_setDrains_stepping (w : Work) (id : Nat) (l : List (Nat × Nat × Nat × Nat)) : (w.setDrains id l).stepping = w.stepping := rfl

@[simp] theorem work_setClaims_base (w : Work) (id : Nat) (l : List (Nat × Nat × Nat)) : (w.setClaims id l).base = w.base := rfl
@[simp] theorem work_setClaims_eng (w : Work) (id : Nat) (l : List (Nat × Nat × Nat)) : (w.setClaims id l).eng = w.eng := rfl
@[simp] theorem work_setClaims_scale (w : Work) (id : Nat) (l : List (Nat × Nat × Nat)) : (w.setClaims id l).scale = w.scale := rfl
@[simp] theorem work_setClaims_sid (w : Work) (id : Nat) (l : List (Nat × Nat × Nat)) : (w.setClaims id l).sid = w.sid := rfl
@[simp] theorem work_setClaims_upd (w : Work) (id : Nat) (l : List (Nat × Nat × Nat)) : (w.setClaims id l).upd = w.upd := rfl
@[simp] theorem work_setClaims_curv (w : Work) (id : Nat) (l : List (Nat × Nat × Nat)) : (w.setClaims id l).curv = w.curv := rfl
@[simp] theorem work_setClaims_ring (w : Work) (id : Nat) (l : List (Nat × Nat × Nat)) : (w.setClaims id l).ring = w.ring := rfl
@[simp] theorem work_setClaims_spare (w : Work) (id : Nat) (l : List (Nat × Nat × Nat)) : (w.setClaims id l).spare = w.spare := rfl
@[simp] theorem work_setClaims_stepping (w : Work) (id : Nat) (l : List (Nat × Nat × Nat)) : (w.setClaims id l).stepping = w.stepping := rfl

@[simp] theorem engine_setUnit_queuesOn (e : Engine) (id : Nat) (u : UnitSt) : (e.setUnit id u).queuesOn = e.queuesOn := rfl
@[simp] theorem engine_setUnit_aborts (e : Engine) (id : Nat) (u : UnitSt) : (e.setUnit id u).aborts = e.aborts := rfl
@[simp] theorem engine_setUnit_tokens (e : Engine) (id : Nat) (u : UnitSt) : (e.setUnit id u).tokens = e.tokens := rfl
@[simp] theorem engine_setUnit_watchers (e : Engine) (id : Nat) (u : UnitSt) : (e.setUnit id u).watchers = e.watchers := rfl
@[simp] theorem engine_setUnit_flying (e : Engine) (id : Nat) (u : UnitSt) : (e.setUnit id u).flying = e.flying := rfl
@[simp] theorem engine_setUnit_starts (e : Engine) (id : Nat) (u : UnitSt) : (e.setUnit id u).starts = e.starts := rfl
@[simp] theorem engine_setUnit_unstarted (e : Engine) (id : Nat) (u : UnitSt) : (e.setUnit id u).unstarted = e.unstarted := rfl
@[simp] theorem engine_setUnit_returns (e : Engine) (id : Nat) (u : UnitSt) : (e.setUnit id u).returns = e.returns := rfl

@[simp] theorem device_onWork_mem (v : Device) (f : Work → Work) : (v.onWork f).mem = v.mem := rfl
@[simp] theorem device_onWork_dock (v : Device) (f : Work → Work) : (v.onWork f).dock = v.dock := rfl
@[simp] theorem device_onWork_mgt (v : Device) (f : Work → Work) : (v.onWork f).mgt = v.mgt := rfl
@[simp] theorem device_onWork_pwr (v : Device) (f : Work → Work) : (v.onWork f).pwr = v.pwr := rfl
@[simp] theorem device_onWork_pmc (v : Device) (f : Work → Work) : (v.onWork f).pmc = v.pmc := rfl
@[simp] theorem device_onWork_work (v : Device) (f : Work → Work) : (v.onWork f).work = f v.work := rfl

@[simp] theorem device_setBase_mem (v : Device) (b : Base) : (v.setBase b).mem = v.mem := rfl
@[simp] theorem device_setBase_dock (v : Device) (b : Base) : (v.setBase b).dock = v.dock := rfl
@[simp] theorem device_setBase_mgt (v : Device) (b : Base) : (v.setBase b).mgt = v.mgt := rfl
@[simp] theorem device_setBase_pwr (v : Device) (b : Base) : (v.setBase b).pwr = v.pwr := rfl
@[simp] theorem device_setBase_pmc (v : Device) (b : Base) : (v.setBase b).pmc = v.pmc := rfl
@[simp] theorem device_setBase_work_eng (v : Device) (b : Base) : (v.setBase b).work.eng = v.work.eng := rfl
@[simp] theorem device_setBase_work_tiles (v : Device) (b : Base) : (v.setBase b).work.tiles = v.work.tiles := rfl
@[simp] theorem device_setBase_work_scale (v : Device) (b : Base) : (v.setBase b).work.scale = v.work.scale := rfl
@[simp] theorem device_setBase_work_sid (v : Device) (b : Base) : (v.setBase b).work.sid = v.work.sid := rfl
@[simp] theorem device_setBase_work_upd (v : Device) (b : Base) : (v.setBase b).work.upd = v.work.upd := rfl
@[simp] theorem device_setBase_work_curv (v : Device) (b : Base) : (v.setBase b).work.curv = v.work.curv := rfl
@[simp] theorem device_setBase_work_ring (v : Device) (b : Base) : (v.setBase b).work.ring = v.work.ring := rfl
@[simp] theorem device_setBase_work_spare (v : Device) (b : Base) : (v.setBase b).work.spare = v.work.spare := rfl
@[simp] theorem device_setBase_work_stepping (v : Device) (b : Base) : (v.setBase b).work.stepping = v.work.stepping := rfl

@[simp] theorem device_onBase_mem (v : Device) (f : Base → Base) : (v.onBase f).mem = v.mem := rfl
@[simp] theorem device_onBase_dock (v : Device) (f : Base → Base) : (v.onBase f).dock = v.dock := rfl
@[simp] theorem device_onBase_mgt (v : Device) (f : Base → Base) : (v.onBase f).mgt = v.mgt := rfl
@[simp] theorem device_onBase_pwr (v : Device) (f : Base → Base) : (v.onBase f).pwr = v.pwr := rfl
@[simp] theorem device_onBase_pmc (v : Device) (f : Base → Base) : (v.onBase f).pmc = v.pmc := rfl
@[simp] theorem device_onBase_work_eng (v : Device) (f : Base → Base) : (v.onBase f).work.eng = v.work.eng := rfl
@[simp] theorem device_onBase_work_tiles (v : Device) (f : Base → Base) : (v.onBase f).work.tiles = v.work.tiles := rfl
@[simp] theorem device_onBase_work_scale (v : Device) (f : Base → Base) : (v.onBase f).work.scale = v.work.scale := rfl
@[simp] theorem device_onBase_work_sid (v : Device) (f : Base → Base) : (v.onBase f).work.sid = v.work.sid := rfl
@[simp] theorem device_onBase_work_upd (v : Device) (f : Base → Base) : (v.onBase f).work.upd = v.work.upd := rfl
@[simp] theorem device_onBase_work_curv (v : Device) (f : Base → Base) : (v.onBase f).work.curv = v.work.curv := rfl
@[simp] theorem device_onBase_work_ring (v : Device) (f : Base → Base) : (v.onBase f).work.ring = v.work.ring := rfl
@[simp] theorem device_onBase_work_spare (v : Device) (f : Base → Base) : (v.onBase f).work.spare = v.work.spare := rfl
@[simp] theorem device_onBase_work_stepping (v : Device) (f : Base → Base) : (v.onBase f).work.stepping = v.work.stepping := rfl

@[simp] theorem device_answer_mem (v : Device) (r : Resp) : (v.answer r).mem = v.mem := rfl
@[simp] theorem device_answer_dock (v : Device) (r : Resp) : (v.answer r).dock = v.dock := rfl
@[simp] theorem device_answer_mgt (v : Device) (r : Resp) : (v.answer r).mgt = v.mgt := rfl
@[simp] theorem device_answer_pwr (v : Device) (r : Resp) : (v.answer r).pwr = v.pwr := rfl
@[simp] theorem device_answer_pmc (v : Device) (r : Resp) : (v.answer r).pmc = v.pmc := rfl
@[simp] theorem device_answer_work_eng (v : Device) (r : Resp) : (v.answer r).work.eng = v.work.eng := rfl
@[simp] theorem device_answer_work_tiles (v : Device) (r : Resp) : (v.answer r).work.tiles = v.work.tiles := rfl
@[simp] theorem device_answer_work_scale (v : Device) (r : Resp) : (v.answer r).work.scale = v.work.scale := rfl
@[simp] theorem device_answer_work_sid (v : Device) (r : Resp) : (v.answer r).work.sid = v.work.sid := rfl
@[simp] theorem device_answer_work_upd (v : Device) (r : Resp) : (v.answer r).work.upd = v.work.upd := rfl
@[simp] theorem device_answer_work_curv (v : Device) (r : Resp) : (v.answer r).work.curv = v.work.curv := rfl
@[simp] theorem device_answer_work_ring (v : Device) (r : Resp) : (v.answer r).work.ring = v.work.ring := rfl
@[simp] theorem device_answer_work_spare (v : Device) (r : Resp) : (v.answer r).work.spare = v.work.spare := rfl
@[simp] theorem device_answer_work_stepping (v : Device) (r : Resp) : (v.answer r).work.stepping = v.work.stepping := rfl

@[simp] theorem device_cleared_mem (v : Device) : (v.cleared).mem = v.mem := rfl
@[simp] theorem device_cleared_dock (v : Device) : (v.cleared).dock = v.dock := rfl
@[simp] theorem device_cleared_mgt (v : Device) : (v.cleared).mgt = v.mgt := rfl
@[simp] theorem device_cleared_pwr (v : Device) : (v.cleared).pwr = v.pwr := rfl
@[simp] theorem device_cleared_pmc (v : Device) : (v.cleared).pmc = v.pmc := rfl
@[simp] theorem device_cleared_work_eng (v : Device) : (v.cleared).work.eng = v.work.eng := rfl
@[simp] theorem device_cleared_work_tiles (v : Device) : (v.cleared).work.tiles = v.work.tiles := rfl
@[simp] theorem device_cleared_work_scale (v : Device) : (v.cleared).work.scale = v.work.scale := rfl
@[simp] theorem device_cleared_work_sid (v : Device) : (v.cleared).work.sid = v.work.sid := rfl
@[simp] theorem device_cleared_work_upd (v : Device) : (v.cleared).work.upd = v.work.upd := rfl
@[simp] theorem device_cleared_work_curv (v : Device) : (v.cleared).work.curv = v.work.curv := rfl
@[simp] theorem device_cleared_work_ring (v : Device) : (v.cleared).work.ring = v.work.ring := rfl
@[simp] theorem device_cleared_work_spare (v : Device) : (v.cleared).work.spare = v.work.spare := rfl
@[simp] theorem device_cleared_work_stepping (v : Device) : (v.cleared).work.stepping = v.work.stepping := rfl

@[simp] theorem device_setBase_base (v : Device) (b : Base) : (v.setBase b).work.base = b := rfl
@[simp] theorem device_onBase_base (v : Device) (f : Base → Base) : (v.onBase f).work.base = f v.work.base := rfl
@[simp] theorem device_answer_resp (v : Device) (r : Resp) : (v.answer r).work.base.resp = r := rfl
@[simp] theorem device_cleared_resp (v : Device) : v.cleared.work.base.resp = .none := rfl
@[simp] theorem device_cleared_sent (v : Device) : v.cleared.work.base.sent = [] := rfl

@[simp] theorem device_answer_work_base_time (v : Device) (r : Resp) : ((v.answer r).work.base).time = v.work.base.time := rfl
@[simp] theorem device_answer_work_base_free (v : Device) (r : Resp) : ((v.answer r).work.base).free = v.work.base.free := rfl
@[simp] theorem device_answer_work_base_regs (v : Device) (r : Resp) : ((v.answer r).work.base).regs = v.work.base.regs := rfl
@[simp] theorem device_answer_work_base_waitIdle (v : Device) (r : Resp) : ((v.answer r).work.base).waitIdle = v.work.base.waitIdle := rfl
@[simp] theorem device_answer_work_base_catVals (v : Device) (r : Resp) : ((v.answer r).work.base).catVals = v.work.base.catVals := rfl
@[simp] theorem device_answer_work_base_mem (v : Device) (r : Resp) : ((v.answer r).work.base).mem = v.work.base.mem := rfl
@[simp] theorem device_answer_work_base_poison (v : Device) (r : Resp) : ((v.answer r).work.base).poison = v.work.base.poison := rfl
@[simp] theorem device_answer_work_base_gens (v : Device) (r : Resp) : ((v.answer r).work.base).gens = v.work.base.gens := rfl
@[simp] theorem device_answer_work_base_seals (v : Device) (r : Resp) : ((v.answer r).work.base).seals = v.work.base.seals := rfl
@[simp] theorem device_answer_work_base_far (v : Device) (r : Resp) : ((v.answer r).work.base).far = v.work.base.far := rfl
@[simp] theorem device_answer_work_base_covers (v : Device) (r : Resp) : ((v.answer r).work.base).covers = v.work.base.covers := rfl
@[simp] theorem device_answer_work_base_links (v : Device) (r : Resp) : ((v.answer r).work.base).links = v.work.base.links := rfl
@[simp] theorem device_answer_work_base_verdicts (v : Device) (r : Resp) : ((v.answer r).work.base).verdicts = v.work.base.verdicts := rfl
@[simp] theorem device_answer_work_base_steps (v : Device) (r : Resp) : ((v.answer r).work.base).steps = v.work.base.steps := rfl
@[simp] theorem device_answer_work_base_inForce (v : Device) (r : Resp) : ((v.answer r).work.base).inForce = v.work.base.inForce := rfl
@[simp] theorem device_answer_work_base_unverified (v : Device) (r : Resp) : ((v.answer r).work.base).unverified = v.work.base.unverified := rfl
@[simp] theorem device_answer_work_base_log (v : Device) (r : Resp) : ((v.answer r).work.base).log = v.work.base.log := rfl
@[simp] theorem device_answer_work_base_logNext (v : Device) (r : Resp) : ((v.answer r).work.base).logNext = v.work.base.logNext := rfl
@[simp] theorem device_answer_work_base_rings (v : Device) (r : Resp) : ((v.answer r).work.base).rings = v.work.base.rings := rfl
@[simp] theorem device_answer_work_base_vectors (v : Device) (r : Resp) : ((v.answer r).work.base).vectors = v.work.base.vectors := rfl
@[simp] theorem device_answer_work_base_i3cAddr (v : Device) (r : Resp) : ((v.answer r).work.base).i3cAddr = v.work.base.i3cAddr := rfl
@[simp] theorem device_answer_work_base_inbandOn (v : Device) (r : Resp) : ((v.answer r).work.base).inbandOn = v.work.base.inbandOn := rfl
@[simp] theorem device_answer_work_base_inbandLast (v : Device) (r : Resp) : ((v.answer r).work.base).inbandLast = v.work.base.inbandLast := rfl
@[simp] theorem device_answer_work_base_sent (v : Device) (r : Resp) : ((v.answer r).work.base).sent = v.work.base.sent := rfl
@[simp] theorem device_answer_work_base_peaks (v : Device) (r : Resp) : ((v.answer r).work.base).peaks = v.work.base.peaks := rfl
@[simp] theorem device_answer_work_base_occurs (v : Device) (r : Resp) : ((v.answer r).work.base).occurs = v.work.base.occurs := rfl

@[simp] theorem device_cleared_work_base_time (v : Device) : (v.cleared.work.base).time = v.work.base.time := rfl
@[simp] theorem device_cleared_work_base_free (v : Device) : (v.cleared.work.base).free = v.work.base.free := rfl
@[simp] theorem device_cleared_work_base_regs (v : Device) : (v.cleared.work.base).regs = v.work.base.regs := rfl
@[simp] theorem device_cleared_work_base_waitIdle (v : Device) : (v.cleared.work.base).waitIdle = v.work.base.waitIdle := rfl
@[simp] theorem device_cleared_work_base_catVals (v : Device) : (v.cleared.work.base).catVals = v.work.base.catVals := rfl
@[simp] theorem device_cleared_work_base_mem (v : Device) : (v.cleared.work.base).mem = v.work.base.mem := rfl
@[simp] theorem device_cleared_work_base_poison (v : Device) : (v.cleared.work.base).poison = v.work.base.poison := rfl
@[simp] theorem device_cleared_work_base_gens (v : Device) : (v.cleared.work.base).gens = v.work.base.gens := rfl
@[simp] theorem device_cleared_work_base_seals (v : Device) : (v.cleared.work.base).seals = v.work.base.seals := rfl
@[simp] theorem device_cleared_work_base_far (v : Device) : (v.cleared.work.base).far = v.work.base.far := rfl
@[simp] theorem device_cleared_work_base_covers (v : Device) : (v.cleared.work.base).covers = v.work.base.covers := rfl
@[simp] theorem device_cleared_work_base_links (v : Device) : (v.cleared.work.base).links = v.work.base.links := rfl
@[simp] theorem device_cleared_work_base_verdicts (v : Device) : (v.cleared.work.base).verdicts = v.work.base.verdicts := rfl
@[simp] theorem device_cleared_work_base_steps (v : Device) : (v.cleared.work.base).steps = v.work.base.steps := rfl
@[simp] theorem device_cleared_work_base_inForce (v : Device) : (v.cleared.work.base).inForce = v.work.base.inForce := rfl
@[simp] theorem device_cleared_work_base_unverified (v : Device) : (v.cleared.work.base).unverified = v.work.base.unverified := rfl
@[simp] theorem device_cleared_work_base_log (v : Device) : (v.cleared.work.base).log = v.work.base.log := rfl
@[simp] theorem device_cleared_work_base_logNext (v : Device) : (v.cleared.work.base).logNext = v.work.base.logNext := rfl
@[simp] theorem device_cleared_work_base_rings (v : Device) : (v.cleared.work.base).rings = v.work.base.rings := rfl
@[simp] theorem device_cleared_work_base_vectors (v : Device) : (v.cleared.work.base).vectors = v.work.base.vectors := rfl
@[simp] theorem device_cleared_work_base_i3cAddr (v : Device) : (v.cleared.work.base).i3cAddr = v.work.base.i3cAddr := rfl
@[simp] theorem device_cleared_work_base_inbandOn (v : Device) : (v.cleared.work.base).inbandOn = v.work.base.inbandOn := rfl
@[simp] theorem device_cleared_work_base_inbandLast (v : Device) : (v.cleared.work.base).inbandLast = v.work.base.inbandLast := rfl
@[simp] theorem device_cleared_work_base_peaks (v : Device) : (v.cleared.work.base).peaks = v.work.base.peaks := rfl
@[simp] theorem device_cleared_work_base_occurs (v : Device) : (v.cleared.work.base).occurs = v.work.base.occurs := rfl

@[simp] theorem work_unit_setUnit (w : Work) (id : Nat) (u : UnitSt) : (w.setUnit id u).eng = w.eng.setUnit id u := rfl
@[simp] theorem device_act_false (v : Device) (f : Device → Device) : v.act false f = v.cleared := rfl
@[simp] theorem device_act_true (v : Device) (f : Device → Device) : v.act true f = (f v.cleared).settle := rfl
@[simp] theorem state_run_eq (s : State) (may : Bool) (f : Device → Device) : s.run may f = .next { s with dev := s.dev.act may f } := rfl

end Sys2Proof.Laws
end

