-- ==== Sys2Proof/Laws/Memory.lean ====
section
/-! SUPPORT. The laws of memory: every operation that changes the stacks' bytes keeps their canonical form. -/

namespace Sys2Proof.Laws

open Sys2Proof.Machine

theorem memory_wf_iff (m : List Host.Cell) : Memory.wf m = true ↔ m.Pairwise (fun a b => a.1 < b.1) ∧ ∀ c ∈ m, c.2 ≠ Memory.unlisted := by
  simp [Memory.wf, map_sorted_iff]

/-- The bytes that a write lists: their keys rise from k, below k + n. -/
theorem memory_listed (bytes : List Byte) (k : Nat) :
    (((bytes.zipIdx k).filter (fun c => c.1 ≠ 0)).map (fun c => (c.2, c.1))).Pairwise (fun a b => a.1 < b.1) ∧
    ∀ c ∈ ((bytes.zipIdx k).filter (fun c => c.1 ≠ 0)).map (fun c => (c.2, c.1)), k ≤ c.1 ∧ c.1 < k + bytes.length ∧ c.2 ≠ Memory.unlisted := by
  refine ⟨List.pairwise_map.mpr (List.Pairwise.filter _ (List.pairwise_iff_getElem.mpr ?_)), ?_⟩
  · grind
  · grind [Memory.unlisted, List.mem_zipIdx_iff_getElem?]

/-- Behind the first key that is not below n every key is from n on. -/
theorem memory_from (n : Nat) (m : List Host.Cell) (h : m.Pairwise fun a b => a.1 < b.1) : ∀ c ∈ m.dropWhile (fun c => decide (c.1 < n)), n ≤ c.1 := by
  induction m <;> grind [List.pairwise_cons, List.dropWhile_nil, List.dropWhile_cons]

/-- A write keeps the canonical form. -/
theorem memory_put_wf (m : List Host.Cell) (k : Nat) (bytes : List Byte) (h : Memory.wf m = true) : Memory.wf (Memory.put m k bytes) = true := by
  rw [memory_wf_iff] at *
  have hd := memory_from (k + bytes.length) m h.1
  have ht : ∀ c ∈ m.takeWhile (fun c => decide (c.1 < k)), c.1 < k := fun c hc => by simpa using List.mem_takeWhile_imp hc
  have hl := memory_listed bytes k
  have ts := List.takeWhile_sublist (l := m) (fun c => decide (c.1 < k))
  have ds := List.dropWhile_sublist (l := m) (fun c => decide (c.1 < k + bytes.length))
  have t1 := h.1.sublist ts
  have d1 := h.1.sublist ds
  unfold Memory.put
  generalize ((bytes.zipIdx k).filter (fun c => c.1 ≠ 0)).map (fun c => (c.2, c.1)) = l at *
  generalize m.takeWhile _ = t at *
  generalize m.dropWhile _ = d at *
  have := ts.subset
  have := ds.subset
  grind

/-- Dropping what a range held keeps the canonical form. -/
theorem memory_delRange_wf (m : List Host.Cell) (lo hi : Nat) (h : Memory.wf m = true) : Memory.wf (Map.delRange lo hi m) = true := by
  rw [memory_wf_iff] at *
  exact ⟨h.1.sublist List.filter_sublist, fun c hc => h.2 c (List.filter_sublist.subset hc)⟩

@[simp] theorem base_wr_mem (b : Base) (v : Word) (r : Reg) (d u i j : Nat) : (b.wr v r d u i j).mem = b.mem := rfl
@[simp] theorem base_wf_mem (b : Base) (lo w x : Nat) (r : Reg) (d u i j : Nat) : (b.wf lo w x r d u i j).mem = b.mem := rfl
@[simp] theorem base_countSat_mem (b : Base) (x lo w : Nat) (r : Reg) (d u i j : Nat) : (b.countSat x lo w r d u i j).mem = b.mem := rfl
@[simp] theorem base_addGen_mem (b : Base) (st off n : Nat) : (b.addGen st off n).mem = b.mem := by
  unfold Base.addGen
  dsimp only
  split <;> rfl

/-- A piece write puts its bytes at their place, and leaves every other byte of the stacks. -/
theorem base_pieceWrite_mem (b : Base) (st off : Nat) (bytes : List Byte) (bad : Bool) :
    (b.pieceWrite st off bytes bad).mem = Memory.put b.mem (memKey st off) bytes := by
  unfold Base.pieceWrite
  dsimp only
  rw [base_addGen_mem]
  dsimp only
  split
  · rw [base_countSat_mem]
  · rfl

theorem base_pieceWrite_wf (b : Base) (st off : Nat) (bytes : List Byte) (bad : Bool) (h : Memory.wf b.mem = true) :
    Memory.wf (b.pieceWrite st off bytes bad).mem = true := by
  rw [base_pieceWrite_mem]
  exact memory_put_wf _ _ _ h

/-- A block write puts its 4,096 bytes at their place. -/
theorem base_blockStore_mem (b : Base) (st off : Nat) (l : List (Byte × Bool)) :
    (b.blockStore st off l).mem = Memory.put b.mem (memKey st off) (l.map Prod.fst) := by
  simp [Base.blockStore]

theorem base_blockStore_wf (b : Base) (st off : Nat) (l : List (Byte × Bool)) (h : Memory.wf b.mem = true) :
    Memory.wf (b.blockStore st off l).mem = true := by
  rw [base_blockStore_mem]
  exact memory_put_wf _ _ _ h

/-- Cells found altered are put at their piece. -/
theorem base_alter_mem (b : Base) (n s : Nat) (l : List Byte) :
    (Base.alter b n s l).mem = Memory.put b.mem (memKey n (s / 256 * 256)) (l.take 256) := by
  unfold Base.alter
  rfl

theorem base_alter_wf (b : Base) (n s : Nat) (l : List Byte) (h : Memory.wf b.mem = true) : Memory.wf (Base.alter b n s l).mem = true := by
  rw [base_alter_mem]
  exact memory_put_wf _ _ _ h

/-- The local stores of tiles keep the form too. -/
theorem tiles_put_wf (t : Tiles) (k : Nat) (l : List Byte) (h : Memory.wf t.store = true) : Memory.wf (Memory.put t.store k l) = true :=
  memory_put_wf _ _ _ h

@[simp] theorem base_recordWrite_wf (b : Base) (die p a : Nat) (bytes : List Byte) (h : Memory.wf b.mem = true) :
    Memory.wf (b.recordWrite die p a bytes).mem = true := by
  unfold Base.recordWrite
  split
  · split
    · exact h
    · exact base_pieceWrite_wf _ _ _ _ _ h
  · exact h

/-- What a canonical memory lists at a key is what it reads there. -/
theorem memory_find_iff (m : List Host.Cell) (a : Nat) (h : Memory.wf m = true) (v : Byte) : Map.find a m = some v ↔ (a, v) ∈ m := by
  replace h := ((memory_wf_iff m).mp h).1
  fun_induction Map.find a m <;> grind [List.pairwise_cons]

end Sys2Proof.Laws
end

