-- ==== Sys2Proof/Laws/Registers.lean ====
section
/-! SUPPORT. What a register write that arrives does, once for every row that is one, and the effect of each register whose write does more than
store its fields. -/

namespace Sys2Proof.Laws

open Sys2Proof.Machine

/-- A command that may act answers the state after its effect and what follows at once. -/
theorem run_acts (s : State) (may : Bool) (f : Device → Device) (h : may = true) :
    s.run may f = .next { s with dev := (f s.dev.cleared).settle } := by
  rw [h]; rfl

/-- A command that may not act leaves the device as it found it. -/
theorem run_passes (s : State) (may : Bool) (f : Device → Device) (h : may = false) : s.run may f = .next { s with dev := s.dev.cleared } := by
  rw [h]; rfl

/-- Every command is an effect on the device under a condition. -/
theorem exec_form (c : Instr) (s : State) : ∃ may f, exec c s = s.run may f := by
  cases c <;> exact ⟨_, _, rfl⟩

theorem accessData_eight (a d : Nat) : accessData a 8 d = d % 2 ^ 64 := rfl
theorem accessMask_eight (a : Nat) : accessMask a 8 = 2 ^ 64 - 1 := rfl

/-- An access that was answered without an error leaves nothing for its port to signal. -/
theorem signalled_of_no_error (v : Device) (L : Nat) (h : v.base.resp ≠ .error) : v.signalled L = v := by
  simp [Device.signalled, h]

/-- A write that a register takes is applied and answered. -/
theorem writeArrives_eq (s : State) (rt : Route) (off size data m a : Nat) (r : RegAt) (v : Device) (h : s.writes rt off size data m a r v) :
    s.dev.cleared.writeArrives rt off size data = (v.regApply m r (accessData a size data) (accessMask a size)).answer .ok := by
  obtain ⟨⟨h1, h2, h3, h4⟩, ⟨h5, h5'⟩, h6, h7, h8, h9⟩ := h
  unfold Device.writeArrives
  rw [h5, h5']
  simp only [Bool.false_eq_true, if_false]
  have hl : (hasLk r.reg && !v.base.locked && v.base.whoIs m != .management) = false := by
    cases hh : hasLk r.reg
    · rfl
    · rcases h9 hh with h | h <;> simp [h]
  unfold Device.regWrite Device.masterWrite
  cases rt with
  | bar4 L => simp [Device.routed] at h2
  | bar0 L =>
    subst h4
    simp only [h2, h3, h6, if_true]
    simp only [Device.counted] at h8 hl
    simp only [Device.regStore, h7, h8, hl, if_false, Bool.not_true, Bool.false_eq_true]
    exact signalled_of_no_error _ _ (by simp [Device.answer, Device.base, Device.onBase, Device.setBase])
  | master k =>
    subst h4
    simp only [h2, h3, h6, if_true]
    simp only [Device.counted] at h8 hl
    simp only [Device.regStore, h7, h8, hl, if_false, Bool.not_true, Bool.false_eq_true]
    rfl

/-- A whole-register write of a row of its own. -/
theorem writeReg_eq (s : State) (rt : Route) (x data m a : Nat) (r : RegAt) (v : Device) (h : s.writes rt (routeOff rt a) 8 data m x r v) :
    s.writeReg rt a data = .next { s with dev := ((v.regApply m r (data % 2 ^ 64) (2 ^ 64 - 1)).answer .ok).settle } := by
  unfold State.writeReg
  rw [run_acts _ _ _ h.1.1, writeArrives_eq s _ _ _ _ _ _ _ _ h, accessData_eight, accessMask_eight]

/-- A register whose write does no more than store its fields. -/
theorem regApply_plain (v : Device) (m : Nat) (r : RegAt) (x k : Nat) (h : r.reg.acts = false) :
    v.regApply m r x k = v.setBase (v.base.wr (writeFields r.reg.spec.fields (v.base.rd r.reg r.die r.unit r.i r.j) x k v.base.locked)
      r.reg r.die r.unit r.i r.j) := by
  rcases r with ⟨r, d, u, i, j⟩
  unfold Device.regApply
  split <;> first | rfl | (exfalso; simp_all [Reg.acts])

section
variable (v : Device) (m d u i j x k : Nat)

theorem regApply_qcfg : v.regApply m ⟨.DOCK_QCFG, d, u, i, j⟩ x (2 ^ 64 - 1) =
    v.onWork fun w => w.qcfgWrite (2048 * d + u) (v.newValue .DOCK_QCFG d u i j x) := rfl
theorem regApply_qtail : v.regApply m ⟨.DOCK_QTAIL, d, u, i, j⟩ x (2 ^ 64 - 1) =
    v.onWork fun w => w.doorbell (2048 * d + u) (v.newValue .DOCK_QTAIL d u i j x) := rfl
theorem regApply_qabort : v.regApply m ⟨.DOCK_QABORT, d, u, i, j⟩ x k =
    v.onWork fun w => if x.testBit 0 then w.abortAll (2048 * d + u) (nget x 16 32) else w.abortOne (2048 * d + u) (nget x 16 32) := rfl
theorem regApply_hstep : v.regApply m ⟨.DOCK_SCL_HSTEP, d, u, i, j⟩ x (2 ^ 64 - 1) =
    v.onWork fun w => w.hstepWrite i (fget (v.newValue .DOCK_SCL_HSTEP d u i j x) 0 32) := rfl
theorem regApply_dbStep : v.regApply m ⟨.DOCK_DB_STEP, d, u, i, j⟩ x (2 ^ 64 - 1) =
    v.onWork fun w => w.dbStepWrite i (v.newValue .DOCK_DB_STEP d u i j x) := rfl
theorem regApply_dbCtl : v.regApply m ⟨.DOCK_DB_CTL, d, u, i, j⟩ x (2 ^ 64 - 1) =
    v.onWork fun w => w.dbCtlWrite i (v.newValue .DOCK_DB_CTL d u i j x) := rfl
theorem regApply_ttctl : v.regApply m ⟨.CRV_TTCTL, d, u, i, j⟩ x k =
    if x.testBit 0 then v.onWork fun w => w.timetableInstall (4 * d + u) else v := rfl
theorem regApply_fence : v.regApply m ⟨.DOCK_WT_FENCE, d, u, i, j⟩ x k =
    if x.testBit 7 then v.onWork fun w => w.tileFence d (nget x 0 7) else v := rfl
theorem regApply_stCmd : v.regApply m ⟨.DOCK_ST_CMD, d, u, i, j⟩ x (2 ^ 64 - 1) =
    if x.testBit 13 then (v.setBase (v.base.wr (v.newValue .DOCK_ST_CMD d u i j x) .DOCK_ST_CMD d u i j)).onWork fun w => w.selfTestStart d
    else v.setBase (v.base.wr (v.newValue .DOCK_ST_CMD d u i j x) .DOCK_ST_CMD d u i j) := rfl
theorem regApply_fuCtl : v.regApply m ⟨.CHK_FU_CTL, d, u, i, j⟩ x k =
    v.setBase (let b := if x.testBit 0 then v.base.fuStart d i m else v.base
      if x.testBit 1 then b.fuStop d i else b) := rfl
theorem regApply_bypass : v.regApply m ⟨.RING_BYPASS, d, u, i, j⟩ x k =
    if k.testBit 0 then v.onWork fun w => w.joinWrite (x.testBit 0) v.pwr.vauxLow else v := rfl
theorem regApply_lock : v.regApply m ⟨.DOCK_PT_LOCK, d, u, i, j⟩ x k = if x.testBit 0 then v.lockRequest else v := rfl
theorem regApply_bayCmd : v.regApply m ⟨.DOCK_BAYCMD, d, u, i, j⟩ x k = v.bayCommand i x := rfl
theorem regApply_rstCmd : v.regApply m ⟨.PWR_RST_CMD, d, u, i, j⟩ x k = v.resetCommand x := rfl

end

end Sys2Proof.Laws
end

