-- ==== Sys2Proof/Laws/Settle.lean ====
section
/-! SUPPORT. What follows a command at once, piece by piece: when each piece changes nothing, and what it can change. -/

namespace Sys2Proof.Laws

open Sys2Proof Sys2Proof.Machine

/-- Every command is a gate and a function of the device. -/
theorem exec_runs (c : Instr) (s : State) : ∃ m f, exec c s = s.run m f := by
  cases c <;> exact ⟨_, _, rfl⟩

/-- Whether a counter has a control does not depend on what has been noted. -/
theorem base_counting_occurs (b : Base) (l : List Occur) : Base.counting { b with occurs := l } = b.counting := by simp only [Base.counting]

/-- No doorbell waits: none is made. -/
theorem lateWrites_of_none_late (v : Device) (h : v.dock.late = []) : v.lateWrites = v := by
  rcases v with ⟨w, m, ⟨⟩, g, p, c⟩
  simp_all [Device.lateWrites]

/-- No link is locking: none begins to train. -/
theorem locksEnd_of_no_lock (w : Work) (h : ∀ c ∈ w.ring.engines, c.2.lockSince = none) : w.locksEnd = w := by
  unfold Work.locksEnd
  rw [List.filter_eq_nil_iff.mpr]
  · rfl
  · intro c hc
    simp [h c hc]

/-- No request waits: no unit moves. -/
theorem unitsSettle_of_no_request (v : Device) (h : v.mgt.requests = []) : v.unitsSettle = v := by unfold Device.unitsSettle; rw [h]; rfl

/-- No tile clock is off: none is woken. -/
theorem dozeWake_of_no_doze (v : Device) (h : v.pwr.doze = []) : v.dozeWake = v := by unfold Device.dozeWake; rw [h]; rfl

/-- No lock waits: none is taken. -/
theorem lockSettle_of_no_lock (v : Device) (h : v.dock.lockWaits = false) : v.lockSettle = v := by unfold Device.lockSettle; rw [h]; rfl

/-- The watch over diverging pairs changes only its own record. -/
theorem watchPairs_changes_diverge (v : Device) : ∃ d, v.watchPairs = { v with mgt := { v.mgt with diverge := d } } := by
  unfold Device.watchPairs
  split <;> exact ⟨_, rfl⟩

/-- Without a control no occurrence counts. -/
theorem occur_without_control (l : List Occur) (v : Device) (h : v.base.counting = false) : l.foldl Device.occur v = v := by
  induction l generalizing v <;> simp_all [Device.occur]

/-- Without a control the noted occurrences are dropped. -/
theorem countNoted_without_control (v : Device) (d) (hc : v.base.counting = false) : ({ v with mgt := { v.mgt with diverge := d } } : Device).countNoted = { v.onBase (fun x => { x with occurs := [] }) with mgt := { v.mgt with diverge := d } } := by
  simp only [Device.countNoted]
  split
  · next h =>
    have h : v.work.base.occurs = [] := by simpa [Device.base] using h
    simp [Device.onBase, Device.setBase, ← h]
  · exact occur_without_control _ _ ((base_counting_occurs _ _).trans hc)

/-- The stored copies of persistent entries change, and nothing else. -/
theorem syncStore_changes_store (v : Device) : ∃ (a b : Option StoreCopy) (k : Nat), v.syncStore = { v with mgt := { v.mgt with store0 := a, store1 := b, storeUsed := k } } := by
  have hp : ∃ (a b : Option StoreCopy) (k : Nat), v.persist = { v with mgt := { v.mgt with store0 := a, store1 := b, storeUsed := k } } := by
    simp only [Device.persist]
    split <;> exact ⟨_, _, _, rfl⟩
  unfold Device.syncStore
  split <;> (try split) <;> (try split) <;> first | exact hp | exact ⟨_, _, _, rfl⟩

/-- A command that the device does not heed leaves it as the command found it, but for the record of the command before it. -/
theorem run_idle (s : State) (f : Device → Device) : s.run false f = .next { s with dev := s.dev.cleared } := rfl

end Sys2Proof.Laws
end

