-- ==== Sys2Proof/Tests/Slice0.lean ====
section
/-! SUPPORT. Tests: well-formedness, words, and for each statement states and operands that meet its hypotheses together. -/

namespace Sys2Proof.Tests

set_option Elab.async false

open Sys2Proof Sys2Proof.Machine

def op0 : MemOp := ⟨0, some 0, 0, 0, 0, false, .unit, .none, false⟩
def head0 : ReqHead := ⟨1, List.replicate 16 0, List.replicate 16 0, 0, false, 1, true, [(0, 0, false)], 0, 0, []⟩

/-! Well-formed commands, and a term that each check refuses. -/

theorem test_wf_accepts :
    Instr.wf (.registerWrite (.master 0xF0) (2 ^ 52 - 1) 8 (2 ^ 64 - 1)) = true ∧ Instr.wf (.mm 0x1FF8 16383 (2 ^ 32 - 1) []) = true ∧
    Instr.wf (.ecall 0x1000 127) = true ∧ Instr.wf (.crvFold 0x20F8 0 0) = true ∧ Instr.wf (.updApply 0x30F8 0 0) = true ∧
    Instr.wf (.ringSend 0x4078 0 0) = true ∧ Instr.wf (.hello head0) = true ∧ Instr.wf (.ckptOpen 0x50F8 0 0) = true ∧ Instr.wf (.mbxSend (.bar0 7) 255 1 0) = true := by decide

theorem test_wf_refuses_accesses :
    Instr.wf (.registerWrite (.master 256) 0 8 0) = false ∧ Instr.wf (.registerWrite (.master 9) 0 8 0) = false ∧
    Instr.wf (.registerWrite (.master 0x18) 0 8 0) = false ∧ Instr.wf (.rcRead (.bar0 8) 0 8) = false ∧ Instr.wf (.rcRead (.bar4 8) 0 8) = false ∧
    Instr.wf (.rcRead (.master 0) (2 ^ 52) 8) = false ∧ Instr.wf (.rcRead (.master 0) 0 9) = false ∧
    Instr.wf (.registerWrite (.master 0) 0 8 (2 ^ 64)) = false ∧ Instr.wf (.doorbell (.master 0) 16384 0) = false ∧
    Instr.wf (.hstepWrite (.master 0) 8 0) = false ∧ Instr.wf (.hstepWrite (.master 0) 0 (2 ^ 32)) = false ∧
    Instr.wf (.timetableInstall (.master 0) 32) = false ∧ Instr.wf (.tileFence (.master 0) 0 68) = false ∧
    Instr.wf (.fuStart (.master 0) 8 0) = false ∧ Instr.wf (.fuStart (.master 0) 0 8) = false ∧ Instr.wf (.bayQuery (.master 0) 0 (2 ^ 15)) = false ∧
    Instr.wf (.mbxDataWrite (.master 0) 256 0 0 0) = false ∧ Instr.wf (.mbxDataWrite (.master 0) 0 2 0 0) = false ∧
    Instr.wf (.mbxDataWrite (.master 0) 0 0 7 0) = false ∧ Instr.wf (.pmcValRead (.master 0) 44 0) = false ∧
    Instr.wf (.pmcValRead (.master 0) 0 64) = false ∧ Instr.wf (.resetCmdTile (.master 0) 8 0) = false := by decide

theorem test_wf_refuses_units :
    Instr.wf (.waybillAccept 0x1004) = false ∧ Instr.wf (.mm 0x2000 0 0 []) = false ∧ Instr.wf (.crvFold 0x1000 0 0) = false ∧
    Instr.wf (.updApply 0x2000 0 0) = false ∧ Instr.wf (.ringSend 0x3000 0 0) = false ∧ Instr.wf (.ckptOpen 0x4000 0 0) = false ∧
    Instr.wf (.nop 0x1000 16384 0) = false ∧ Instr.wf (.nop 0x1000 0 (2 ^ 32)) = false ∧ Instr.wf (.ecall 0x1000 128) = false ∧
    Instr.wf (.tokenProduce 8 0) = false ∧ Instr.wf (.tokenProduce 0 (2 ^ 24)) = false ∧ Instr.wf (.tokenClear 8) = false ∧
    Instr.wf (.sliceUpdate 0x3000 0 0 (2 ^ 32)) = false ∧ Instr.wf (.deltaPiece 32) = false ∧ Instr.wf (.intakePiece 8) = false ∧
    Instr.wf (.generationCheckReturn 0x1000 0 0 (2 ^ 52)) = false := by decide

theorem test_wf_refuses_dies_and_links :
    Instr.wf (.stackLost 32) = false ∧ Instr.wf (.ticketNotify 0 4096) = false ∧ Instr.wf (.pcCopyEnd 0 64) = false ∧
    Instr.wf (.stackRead { op0 with master := 256 } 0 1) = false ∧ Instr.wf (.stackRead { op0 with die := 44 } 0 1) = false ∧
    Instr.wf (.stackRead { op0 with part := some 8 } 0 1) = false ∧ Instr.wf (.stackRead { op0 with requester := .core 3 } 0 1) = false ∧
    Instr.wf (.stackRead { op0 with requester := .port 8 } 0 1) = false ∧ Instr.wf (.stackRead op0 (2 ^ 52) 1) = false ∧
    Instr.wf (.stackRead op0 0 (2 ^ 32)) = false ∧ Instr.wf (.linkDown 16) = false ∧ Instr.wf (.wavelengthSpare 0 4 0) = false ∧
    Instr.wf (.wavelengthSpare 0 0 9) = false ∧ Instr.wf (.laserModuleRestored 8 0) = false ∧ Instr.wf (.d2dLinkFail 0 7) = false ∧
    Instr.wf (.wheelTap 8) = false ∧ Instr.wf (.coreFail 0 9) = false ∧ Instr.wf (.functionLevelReset 8) = false ∧ Instr.wf (.perstAssert 4) = false ∧
    Instr.wf (.bayTagInForce 0 4) = false ∧ Instr.wf (.avsResendExpiry 4) = false ∧ Instr.wf (.railTelemetry 40 0 0) = false ∧
    Instr.wf (.railTelemetry 0 65536 0) = false ∧ Instr.wf (.bringupStageReady 44) = false ∧ Instr.wf (.dozeDwellExpiry 0 8) = false ∧
    Instr.wf (.handshakeReask [72]) = false := by decide

theorem test_wf_refuses_requests :
    Instr.wf (.hello { head0 with transport := 0 }) = false ∧ Instr.wf (.hello { head0 with transport := 4 }) = false ∧
    Instr.wf (.hello { head0 with ver := 256 }) = false ∧ Instr.wf (.hello { head0 with txid := 2 ^ 16 }) = false ∧
    Instr.wf (.hello { head0 with session := 2 ^ 16 }) = false ∧ Instr.wf (.hello { head0 with port := 2 ^ 16 }) = false ∧
    Instr.wf (.hello { head0 with source := [] }) = false ∧ Instr.wf (.hello { head0 with dest := [] }) = false ∧
    Instr.wf (.hello { head0 with frags := [(2 ^ 16, 0, false)] }) = false ∧ Instr.wf (.auth head0 256 [] []) = false ∧
    Instr.wf (.read head0 65536 0 0 0) = false ∧ Instr.wf (.read head0 0 256 0 0) = false ∧ Instr.wf (.read head0 0 0 (2 ^ 32) 0) = false ∧
    Instr.wf (.unitFailRequest head0 0 4 0 ⟨true, []⟩) = false ∧ Instr.wf (.unitFailRequest head0 0 0 128 ⟨true, []⟩) = false := by decide

/-- No word spells a command: the table gives its rows no bits. -/
theorem test_no_word : decodeTableWord 64 0 = none ∧ decodeTableWord 0 7 = none := ⟨rfl, rfl⟩

/-! States for the witnesses. -/

/-- The device in RUN. -/
def up : State := { State.reset with dev := { State.reset.dev with
  pwr := { State.reset.dev.pwr with ready := true, iordy := true, bring := none }, mgt := { State.reset.dev.mgt with up := true } } }

def onDev (f : Device → Device) (s : State) : State := { s with dev := f s.dev }
def onWork (f : Work → Work) (s : State) : State := onDev (fun v => { v with work := f v.work }) s
def onBase (f : Base → Base) (s : State) : State := onDev (fun v => v.onBase f) s
def onEng (f : Engine → Engine) (s : State) : State := onWork (fun w => { w with eng := f w.eng }) s
def onPwr (f : Pwr → Pwr) (s : State) : State := onDev (fun v => { v with pwr := f v.pwr }) s

/-- A register set. -/
def put (r : Reg) (d u i x : Nat) (s : State) : State := onBase (fun b => b.wr (BitVec.ofNat 64 x) r d u i) s
def at_ (t : Nat) (s : State) : State := onBase (fun b => { b with time := t }) s

/-- Partition 0 is valid, the table is locked, and the units of compute die 0 and link 0 are bound to the partition. -/
def parted : State :=
  ([(Reg.DOCK_PT_PART, 1), (.DOCK_PT_LOCK, 2), (.DOCK_PT_QUEUE, 0x8888888888888888), (.DOCK_PT_TILE, 0x88888888), (.DOCK_PT_STACK, 0x8888888888888888),
    (.DOCK_PT_CRV, 0x8888888888888888), (.DOCK_PT_CORE, 0x888888888), (.DOCK_PT_LINK, 8)] : List (Reg × Nat)).foldl (fun s c => put c.1 40 0 0 c.2 s) up

/-- Units of each kind. -/
def tile : Nat := tileUnit 0 0
def crv : Nat := crvUnit 0
def upd : Nat := updUnit 0
def ring : Nat := ringUnit 0
def ckpt : Nat := ckptUnit 0

/-- A running waybill of queue 0, number 0, with an opcode, flags, OPARG, ARG and descriptors. -/
def wb (op flags oparg arg : Nat) (descs : List (List Byte) := [[], [], [], []]) : Wb :=
  { queue := 0, seq := 0, part := 0, filler := false, acceptTime := 0, phase := .running, descs := descs,
    bytes := leBytes 1 op ++ leBytes 1 flags ++ leBytes 4 0 ++ leBytes 2 oparg ++ leBytes 28 0 ++ leBytes 4 arg ++ leBytes 24 0 }

/-- A state whose unit's window holds a waybill. -/
def held (id : Nat) (x : Wb) (s : State := parted) : State := onWork (fun w => w.setUnit id { w.unit id with window := [x] }) s

/-- A descriptor of rank 1 or 2 with a base, format bits and sizes. -/
def desc (base f d0 d1 : Nat) (scale : Nat := 0) : List Byte :=
  leBytes 8 base ++ leBytes 2 f ++ leBytes 6 0 ++ leBytes 4 d0 ++ leBytes 4 d1 ++ leBytes 4 1 ++ leBytes 4 1 ++ leBytes 16 0 ++ leBytes 8 scale ++ leBytes 8 0

/-- What `State.writes` asks of a write by a master. -/
def writeOk (s : State) (m off size data : Nat) (r : RegAt) : Bool :=
  s.dev.regRuns (.master m) off && sizeOk off size && !s.dev.cleared.regHeld (.master m) off data && placeOf off == .reg r && r.reg.spec.block != .mbx &&
    s.dev.cleared.base.reaches m r true && (!hasLk r.reg || s.dev.cleared.base.locked || s.dev.cleared.base.whoIs m == .management)

theorem master_arrives (s : State) (m off size ev : Nat) (h : (s.dev.regRuns (.master m) off && sizeOk off size) = true) :
    s.arrives (.master m) off size ev m off s.dev.cleared := by
  simp only [Bool.and_eq_true] at h
  exact ⟨h.1, rfl, h.2, rfl⟩

theorem master_writes (s : State) (m off size data : Nat) (r : RegAt) (h : writeOk s m off size data r = true) :
    s.writes (.master m) off size data m off r s.dev.cleared := by
  simp only [writeOk, Bool.and_eq_true, Bool.or_eq_true, Bool.not_eq_true', beq_iff_eq, bne_iff_ne] at h
  obtain ⟨⟨⟨⟨⟨⟨h1, h2⟩, h3⟩, h4⟩, h5⟩, h6⟩, h7⟩ := h
  refine ⟨⟨h1, rfl, h2, rfl⟩, ⟨h3, rfl⟩, h4, h5, h6, fun hk => ?_⟩
  rcases h7 with (h7 | h7) | h7
  · rw [hk] at h7; cases h7
  · exact .inl h7
  · exact .inr h7

/-- The same for a whole register. -/
def regOk (s : State) (m data : Nat) (r : RegAt) : Bool := writeOk s m (regAddr r.reg r.die r.unit r.i r.j) 8 data r

theorem master_writesReg (s : State) (m data : Nat) (r : RegAt) (h : regOk s m data r = true) : s.writesReg (.master m) r data m s.dev.cleared :=
  ⟨_, master_writes s m _ 8 data r h⟩

/-- What `State.running` asks, for the waybill 0 of queue 0. -/
def runOk (s : State) (id op : Nat) (x : Wb) : Bool :=
  s.dev.unitRuns id && s.work.wb? id 0 0 == some x && x.phase == .running && x.opcode == op && !x.aborting

theorem running_of (s : State) (id op : Nat) (x : Wb) (h : runOk s id op x = true) : s.running id 0 0 op x := by
  simp only [runOk, Bool.and_eq_true, Bool.not_eq_true', beq_iff_eq] at h
  exact ⟨h.1.1.1.1, h.1.1.1.2, h.1.1.2, h.1.2, h.2⟩

/-! The witnesses, in the order of the statements. -/

def dark : State := onPwr (fun p => { p with dead := true }) State.reset

theorem witness_StepTakesTheFrontCommandOrTicks :
    State.reset.pending = [] ∧ State.reset.dev.pwr.dead = false ∧ dark.pending = [] ∧ dark.dev.pwr.dead = true := by decide +kernel

theorem witness_EveryCommandAnswersAndIsCounted :
    (State.reset.dev.base.occurs = [] ∧ ∃ t, step State.reset = .next t) ∧ (up.dev.calm ∧ up.dev.base.counting = false) :=
  ⟨⟨rfl, _, rfl⟩, ⟨rfl, by decide, by decide, rfl, rfl, rfl, rfl⟩, by decide +kernel⟩

theorem witness_PersistentStoreFollowsEveryStep : up.dev.mgt.up = true ∧ up.dev.stored ∧ ∃ t, step up = .next t :=
  by
  refine ⟨rfl, fun _ => ?_, _, rfl⟩
  rw [show up.dev.mgt.store = some (StoreCopy.written 0 []) from by decide +kernel]
  exact (by decide +kernel : (StoreCopy.written 0 []).entries = up.dev.base.toStore)

theorem witness_MemoryReadsWhatWasWritten : Memory.wf [(4, 9), (7, 1)] = true ∧ (4 ≤ 4 ∧ 4 < 4 + 2) ∧ (4 ≤ 5 ∧ 5 < 4 + 2) ∧ ¬(4 ≤ 6 ∧ 6 < 4 + 2) := by decide

/-- Fields of every access type, at both ends of a register; the registers themselves are in the statement's second clause. -/
theorem witness_FieldsTakeAWriteByAccessType :
    let fs : List Fld := [⟨0, 1, .rw, 0⟩, ⟨1, 7, .lk, 0⟩, ⟨8, 8, .w1c, 0⟩, ⟨16, 8, .w1s, 0⟩, ⟨24, 8, .ro, 0⟩, ⟨32, 8, .wo, 0⟩, ⟨40, 24, .rc, 0⟩]
    (∀ g ∈ fs, g.lo + g.width ≤ 64) ∧ fs.Pairwise (fun a b => a.lo + a.width ≤ b.lo ∨ b.lo + b.width ≤ a.lo) := by decide

theorem witness_RegisterHasOneHome :
    Map.sorted parted.dev.base.regs = true ∧ regAddr .DOCK_QTAIL 0 0 ≠ regAddr .DOCK_QTAIL 0 1 ∧ Reg.DOCK_QTAIL ∈ Reg.all ∧
    Reg.DOCK_QTAIL.spec.on.has 0 = true ∧ Reg.PWR_RST_CMD.spec.on.has 40 = true ∧ Reg.DOCK_MS_ID.spec.on.has 8 = true ∧
    instanceOk .DOCK_PMC_VAL 0 63 0 = true := by decide +kernel

theorem witness_RegisterWriteStoresItsFields :
    (parted.writes (.master 1) (regAddr .DOCK_QLIMIT 0 127) 8 5 1 (regAddr .DOCK_QLIMIT 0 127) ⟨.DOCK_QLIMIT, 0, 127, 0, 0⟩ parted.dev.cleared ∧
      Reg.DOCK_QLIMIT.acts = false) ∧
    parted.writes (.master 0) (regAddr .DOCK_PT_LINK 40 + 4) 4 5 0 (regAddr .DOCK_PT_LINK 40 + 4) ⟨.DOCK_PT_LINK, 40, 0, 0, 0⟩ parted.dev.cleared :=
  ⟨⟨master_writes _ _ _ _ _ _ (by decide +kernel), by decide⟩, master_writes _ _ _ _ _ _ (by decide +kernel)⟩

/-- A tile with a running waybill, queue 0 enabled, a free unit with a job, and a channel in use. -/
def runs : State := held tile (wb 1 0 0 0)
def enabledQ : State := put .DOCK_QCFG 0 0 0 (2 ^ 4) parted
def busyFu : State := put .CHK_FU_STATUS 0 0 0 1 parted
def boxed : State := put .MBX_BIND 40 0 0 (0 + 1 * 256 + 2 ^ 19) parted
/-- Writes of registers that do more than store their fields, and what each leaves. -/
def actingWrites : List (State × RegAt × Nat) :=
  [(parted, ⟨.DOCK_MS_CETHRESH, 8, 0, 0, 0⟩, 0), (busyFu, ⟨.CHK_FU_CFG, 0, 0, 0, 0⟩, 1), (parted, ⟨.CHK_FU_EXPECT, 0, 0, 0, 0⟩, 1),
    (enabledQ, ⟨.DOCK_QCOMP, 0, 0, 0, 0⟩, 4096), (enabledQ, ⟨.DOCK_QBASE, 0, 0, 0, 0⟩, 0), (parted, ⟨.DOCK_QDESC, 0, 0, 0, 0⟩, 4096),
    (parted, ⟨.TILE_LEND, 0, 0, 0, 0⟩, 1), (runs, ⟨.TILE_PF_CTL, 0, 0, 0, 0⟩, 1), (parted, ⟨.TILE_PMC_CTL, 0, 0, 7, 0⟩, 0),
    (parted, ⟨.TILE_PMC_CTL, 0, 0, 0, 0⟩, 1), (parted, ⟨.TILE_PMC_CTL, 0, 0, 0, 0⟩, 1 + 2 ^ 9 + 10 * 2 ^ 10), (parted, ⟨.DOCK_PMC_CTL, 8, 0, 15, 0⟩, 0),
    (parted, ⟨.DOCK_PMC_CTL, 8, 0, 0, 0⟩, 0x50 + 0xFF * 2 ^ 8), (parted, ⟨.DOCK_PMC_CTL, 0, 0, 63, 0⟩, 0x40 + 72 * 2 ^ 8 + 2 ^ 17 + 10 * 2 ^ 18)]
/-- The new value of a whole-register write, and what it meets. -/
def newOf (c : State × RegAt × Nat) : Word := c.1.dev.cleared.newValue c.2.1.reg c.2.1.die c.2.1.unit c.2.1.i c.2.1.j c.2.2
def oldOf (c : State × RegAt × Nat) : Word := c.1.dev.cleared.base.rd c.2.1.reg c.2.1.die c.2.1.unit c.2.1.i c.2.1.j

theorem witness_RegisterWriteActs :
    (actingWrites.all fun c => regOk c.1 0 c.2.2 c.2.1 && c.2.1.reg.acts) = true ∧
    (actingWrites.map fun c => (c.2.1.reg, decide (newOf c = oldOf c))) =
      [(.DOCK_MS_CETHRESH, false), (.CHK_FU_CFG, false), (.CHK_FU_EXPECT, false), (.DOCK_QCOMP, false), (.DOCK_QBASE, true), (.DOCK_QDESC, false),
        (.TILE_LEND, false), (.TILE_PF_CTL, false), (.TILE_PMC_CTL, true), (.TILE_PMC_CTL, false), (.TILE_PMC_CTL, false), (.DOCK_PMC_CTL, true),
        (.DOCK_PMC_CTL, false), (.DOCK_PMC_CTL, false)] ∧
    fget (newOf (parted, ⟨.DOCK_MS_CETHRESH, 8, 0, 0, 0⟩, 0)) 0 8 = 0 ∧ busyFu.dev.cleared.base.fuBusy 0 0 = true ∧
    parted.dev.cleared.base.fuBusy 0 0 = false ∧ enabledQ.dev.cleared.base.qEnabled 0 = true ∧ parted.dev.cleared.base.qEnabled 0 = false ∧
    parted.work.idleBoundary 0 0 = true ∧ runs.work.idleBoundary 0 0 = false ∧
    (actingWrites.filter fun c => c.2.1.reg == .TILE_PMC_CTL).map (fun c => (tileCtlBad (newOf c), bget (newOf c) 9)) = [(true, false), (false, false), (false, true)] ∧
    (actingWrites.filter fun c => c.2.1.reg == .DOCK_PMC_CTL).map (fun c => (c.1.dev.cleared.base.dieCtlBad c.2.1.die c.2.1.i (newOf c), bget (newOf c) 17)) =
      [(true, false), (false, false), (false, true)] := by decide +kernel

/-- Writes of mailbox registers: by a master of a channel in use, by management, and by another. -/
theorem witness_RegisterWriteOfMailboxes :
    (∀ c ∈ [(Reg.MBX_CFG, 1, true), (.MBX_CFG, 0xF0, false), (.MBX_DATA, 2, false)],
      boxed.arrives (.master c.2.1) (regAddr c.1 40) 8 0x70 c.2.1 (regAddr c.1 40) boxed.dev.cleared ∧
      boxed.dev.writeFree (.master c.2.1) (regAddr c.1 40) 0 ∧ placeOf (regAddr c.1 40) = .reg ⟨c.1, 40, 0, 0, 0⟩ ∧ c.1.spec.block = .mbx ∧
      (boxed.dev.cleared.base.mbxInUse 0 && (boxed.dev.cleared.base.mbxA 0 == c.2.1 || boxed.dev.cleared.base.mbxB 0 == c.2.1)) = c.2.2) := by
  refine fun c h => ⟨master_arrives _ _ _ _ _ ?_, ⟨?_, rfl⟩, ?_, ?_, ?_⟩ <;> (revert c; decide +kernel)

/-- A read of CHK_D2D_RETRY, and of the halves of PWR_TEMP. -/
theorem witness_ReadsThatDoMore :
    (∀ r ∈ [Reg.CHK_D2D_RETRY, .PWR_TEMP], parted.arrives (.master 0) (regAddr r 0) 8 0x71 0 (regAddr r 0) parted.dev.cleared ∧
      placeOf (regAddr r 0) = .reg ⟨r, 0, 0, 0, 0⟩ ∧ r.spec.block ≠ .mbx ∧ parted.dev.cleared.base.reaches 0 ⟨r, 0, 0, 0, 0⟩ false = true) ∧
    (accessMask (regAddr .PWR_TEMP 0) 8).testBit 16 = true ∧ (accessMask (regAddr .PWR_TEMP 0 + 4) 4).testBit 16 = false := by
  refine ⟨fun r h => ⟨master_arrives _ _ _ _ _ ?_, ?_⟩, by decide +kernel⟩ <;> (revert r; decide +kernel)

theorem witness_RegisterReadAnswersAndClears :
    (∀ off ∈ [regAddr .DOCK_QTAIL 0, regAddr .DOCK_QTAIL 0 + 4], parted.arrives (.master 1) off 4 0x71 1 off parted.dev.cleared) ∧
    parted.arrives (.master 0) (regAddr .TILE_PF_FETCH 0) 8 0x71 0 (regAddr .TILE_PF_FETCH 0) parted.dev.cleared ∧
    placeOf (regAddr .TILE_PF_FETCH 0) = .reg ⟨.TILE_PF_FETCH, 0, 0, 0, 0⟩ ∧ Reg.TILE_PF_FETCH.spec.block ≠ .mbx ∧
    parted.dev.cleared.base.reaches 0 ⟨.TILE_PF_FETCH, 0, 0, 0, 0⟩ false = true := by
  refine ⟨fun off h => master_arrives _ _ _ _ _ ?_, master_arrives _ _ _ _ _ ?_, ?_⟩
  · revert off; decide +kernel
  · decide +kernel
  · decide +kernel

/-- Link 0 is up, its port strapped as one x16 link. -/
def linked : State := onBase (fun b => b.linkState' 0 (some (5, 16, true))) (onBase (fun b => { b with regs := Map.put (regAddr .DOCK_PCIE_CFG 40) 0 b.regs }) parted)

theorem witness_AccessThatNamesNoRegister :
    (∀ c ∈ [(0x8000_0000_0000, 2), (0x8000_0000_0004, 8), (0x8000_0000_0002, 4)],
      parted.dev.regRuns (.master 0) c.1 = true ∧ parted.dev.cleared.routed (.master 0) c.1 = some (0, c.1) ∧
      parted.dev.writeFree (.master 0) c.1 0 ∧ sizeOk c.1 c.2 = false) ∧
    (sizeOk 0x8002_C000_0000 8 = true ∧ placeOf 0x8002_C000_0000 = .outside ∧ parted.dev.regRuns (.master 0) 0x8002_C000_0000 = true ∧
      parted.dev.writeFree (.master 0) 0x8002_C000_0000 0) ∧
    (sizeOk 0x8000_000F_FFF8 8 = true ∧ placeOf 0x8000_000F_FFF8 = .hole ∧ parted.dev.regRuns (.master 0) 0x8000_000F_FFF8 = true ∧
      parted.dev.writeFree (.master 0) 0x8000_000F_FFF8 0) ∧
    (linked.dev.regRuns (.bar0 0) 4 = true ∧ linked.dev.cleared.routed (.bar0 0) 4 = some (1, 0x8000_0000_0004) ∧
      linked.dev.writeFree (.bar0 0) 4 0 ∧ sizeOk 0x8000_0000_0004 8 = false) := by unfold Device.writeFree; decide +kernel

/-- Reads of mailbox registers by the management, by a master of the channel, and by another; and of DOCK_BAYRES, with and without a command that
waits, and of DOCK_PMC_VAL. -/
theorem witness_ReadsOfMailboxesAndBays :
    (∀ c ∈ [(0, true), (1, true), (2, false)],
      boxed.arrives (.master c.1) (regAddr .MBX_DATA 40) 4 0x71 c.1 (regAddr .MBX_DATA 40) boxed.dev.cleared ∧
      placeOf (regAddr .MBX_DATA 40) = .reg ⟨.MBX_DATA, 40, 0, 0, 0⟩ ∧ (boxed.dev.cleared.base.hears c.1 ⟨.MBX_DATA, 40, 0, 0, 0⟩ ↔ c.2 = true) ∧
      (boxed.dev.cleared.base.mbxA 0 == 2 || boxed.dev.cleared.base.mbxB 0 == 2) = false) ∧
    (∀ s ∈ [parted, onDev (fun v => v.setBays 0 { waiting := [0] }) parted], ∀ c ∈ [(Reg.DOCK_BAYRES, 1, 40), (.DOCK_PMC_VAL, 0, 0)],
      s.arrives (.master c.2.1) (regAddr c.1 c.2.2 + 4) 4 0x71 c.2.1 (regAddr c.1 c.2.2 + 4) s.dev.cleared ∧
      placeOf (regAddr c.1 c.2.2 + 4) = .reg ⟨c.1, c.2.2, 0, 0, 0⟩ ∧ s.dev.cleared.base.hears c.2.1 ⟨c.1, c.2.2, 0, 0, 0⟩ ∧
      s.dev.cleared.base.reaches c.2.1 ⟨c.1, c.2.2, 0, 0, 0⟩ false = true) ∧
    (parted.dev.cleared.bays 0).running = none ∧ (parted.dev.cleared.bays 0).waiting = [] := by
  refine ⟨fun c h => ⟨master_arrives _ _ _ _ _ ?_, ?_, ?_, ?_⟩, fun s hs c h => ⟨master_arrives _ _ _ _ _ ?_, ?_, ?_, ?_⟩, ?_⟩ <;> (try unfold Base.hears) <;>
    first | (revert c; decide +kernel) | (revert s c; decide +kernel) | decide +kernel

/-- BAR4 of a link that serves a partition, and of one that does not. -/
theorem witness_AccessOfTheMsixTable :
    linked.dev.pwr.iordy = true ∧ linked.dev.cleared.base.linkServes 0 ≠ none ∧ linked.dev.cleared.base.linkServes 1 = none ∧
    (∀ off ∈ [0, 32760, 32768, 33016, 33024, 65528], sizeOk off 8 = true) ∧ sizeOk 32764 8 = false := by decide +kernel

theorem witness_RegisterAccessIsDenied :
    (∀ r ∈ [Reg.DOCK_QLIMIT, .DOCK_QTAIL], placeOf (regAddr r 0) = .reg ⟨r, 0, 0, 0, 0⟩ ∧ r.spec.block ≠ .mbx ∧
      parted.arrives (.master 2) (regAddr r 0) 8 0x70 2 (regAddr r 0) parted.dev.cleared ∧
      parted.dev.writeFree (.master 2) (regAddr r 0) 0 ∧ parted.dev.cleared.base.reaches 2 ⟨r, 0, 0, 0, 0⟩ true = false) ∧
    parted.arrives (.master 2) (regAddr .DOCK_QLIMIT 0) 8 0x71 2 (regAddr .DOCK_QLIMIT 0) parted.dev.cleared ∧
    parted.dev.cleared.base.reaches 2 ⟨.DOCK_QLIMIT, 0, 0, 0, 0⟩ false = false := by
  refine ⟨fun r h => ⟨?_, ?_, master_arrives _ _ _ _ _ ?_, ⟨?_, rfl⟩, ?_⟩, master_arrives _ _ _ _ _ ?_, ?_⟩ <;> first | (revert r; decide +kernel) | decide +kernel

/-- Queue 0 bound to tile position 0, its base at 1 MiB, and more of DOCK_QCFG. -/
def queued (cfg tail head : Nat) (s : State := parted) : State :=
  onEng (fun e => { e with queuesOn := [0] })
    (put .DOCK_QHEAD 0 0 0 head (put .DOCK_QTAIL 0 0 0 tail (put .DOCK_QBASE 0 0 0 (256 * 4096) (put .DOCK_QCFG 0 0 0 (tile * 256 + cfg) s))))

def q0 (r : Reg) : RegAt := ⟨r, 0, 0, 0, 0⟩

theorem witness_QueuesAreEnabledAndRung :
    -- the largest SIZE is 10; 11 is refused; so are a queue of no partition and a unit of none
    (∀ size ∈ [0, 10], let b := parted.dev.cleared.base
      let new := parted.dev.cleared.newValue .DOCK_QCFG 0 0 0 0 (16 + size + tile * 256)
      bget (b.rd .DOCK_QCFG 0 0) 4 = false ∧ bget new 4 = true ∧ bget new 6 = false ∧ b.partOfQueue 0 = some 0 ∧
      b.unitServes (fget new 8 16) 0 = true ∧ fget new 8 16 % 8 = 0 ∧ fget new 0 4 ≤ 10 ∧
      (parted.dev.cleared.work.eng.queuesOn.countP fun k => b.qUnit k == fget new 8 16) < 64) ∧
    parted.writesReg (.master 1) (q0 .DOCK_QCFG) (16 + 10 + tile * 256) 1 parted.dev.cleared ∧
    10 < fget (parted.dev.cleared.newValue .DOCK_QCFG 0 0 0 0 (16 + 11 + tile * 256)) 0 4 ∧
    up.writesReg (.master 0) (q0 .DOCK_QCFG) (16 + tile * 256) 0 up.dev.cleared ∧ up.dev.cleared.base.partOfQueue 0 = none ∧
    parted.dev.cleared.base.unitServes (tile + 0x8000) 0 = false ∧
    -- the unit of an enabled queue does not change; a filler's queue is bound to a lent tile of another partition
    (queued 16 0 0).writesReg (.master 1) (q0 .DOCK_QCFG) (tile * 256 + 48) 1 (queued 16 0 0).dev.cleared ∧
    (queued 16 0 0).writesReg (.master 1) (q0 .DOCK_QCFG) ((tile + 8) * 256 + 16) 1 (queued 16 0 0).dev.cleared ∧
    bget ((queued 16 0 0).dev.base.rd .DOCK_QCFG 0 0) 4 = true ∧
    (let v := (put .TILE_LEND 0 0 0 1 parted).dev.cleared
     let new := v.newValue .DOCK_QCFG 0 0 0 0 (tile * 256 + 80)
     bget new 6 = true ∧ unitOf (fget new 8 16) = some (.tile, 0) ∧ v.base.tileOfPos 0 0 = some 0 ∧ v.base.rf 0 1 .TILE_LEND (cd 0) 0 = 1) ∧
    -- a full ring is no overflow, one more waybill is
    (queued 16 0 0).writesReg (.master 1) (q0 .DOCK_QTAIL) 64 1 (queued 16 0 0).dev.cleared ∧
    ((queued 16 64 0).dev.base.qTail 0 + 2 ^ 32 - (queued 16 64 0).dev.base.qHead 0) % 2 ^ 32 ≤ (queued 16 64 0).dev.base.qSize 0 ∧
    (queued 16 65 0).dev.base.qSize 0 < ((queued 16 65 0).dev.base.qTail 0 + 2 ^ 32 - (queued 16 65 0).dev.base.qHead 0) % 2 ^ 32 := by
  refine ⟨by decide +kernel, master_writesReg _ _ _ _ (by decide +kernel), by decide +kernel, master_writesReg _ _ _ _ (by decide +kernel), by decide +kernel,
    by decide +kernel, master_writesReg _ _ _ _ (by decide +kernel), master_writesReg _ _ _ _ (by decide +kernel), by decide +kernel, by decide +kernel,
    master_writesReg _ _ _ _ (by decide +kernel), by decide +kernel⟩

theorem witness_AbortsAreMadeByNumber :
    (∀ data ∈ [0, 2 ^ 16, 3 * 2 ^ 16, 2 ^ 16 + 1], parted.writesReg (.master 1) (q0 .DOCK_QABORT) data 1 parted.dev.cleared) ∧
    (∀ c ∈ [({ wb 0xF0 0 0 0 with phase := .accepted } : Wb), wb 0xF0 0 0 0, { wb 0xF0 0 0 0 with phase := .ended }, { wb 0xF0 0 0 0 with phase := .issued }],
      (held tile c).dev.work.findWb 0 0 = some (tile, c) ∧ c.chained = false ∧ c.opcode ≠ 0xF3 ∧ isDone c.status = true) ∧
    -- an issued waybill with a token produced, and with none; an accepted one of a ring engine
    (let x : Wb := { wb 0xF0 0 0 0 with phase := .issued, tokens := [4] }
     (held tile x).dev.work.findWb 0 0 = some (tile, x) ∧ x.tokens ≠ x.issued.tokens) ∧
    ((held ring { wb 0xF0 0 0 0 with phase := .accepted }).dev.work.findWb 0 0 = some (ring, { wb 0xF0 0 0 0 with phase := .accepted }) ∧
      kindOf ring = some .ring ∧ kindOf tile ≠ some .ring) ∧
    -- published up to TAIL − 1 = 2: 1 and 2 are ahead of HEAD = 1, 3 is not published, 0 is past
    ((queued 16 3 1).dev.work.findWb 0 1 = none ∧
      (∀ seq ∈ [1, 2], 1 ≤ behind 32 ((queued 16 3 1).dev.work.base.qTail 0) seq ∧
        behind 32 ((queued 16 3 1).dev.work.base.qTail 0) seq ≤
          ((queued 16 3 1).dev.work.base.qTail 0 + 2 ^ 32 - (queued 16 3 1).dev.work.base.qHead 0) % 2 ^ 32) ∧
      behind 32 ((queued 16 3 1).dev.work.base.qTail 0) 3 = 0 ∧
      ((queued 16 3 1).dev.work.base.qTail 0 + 2 ^ 32 - (queued 16 3 1).dev.work.base.qHead 0) % 2 ^ 32 < behind 32 ((queued 16 3 1).dev.work.base.qTail 0) 0) ∧
    (∀ u ∈ (queued 16 3 1).dev.work.eng.units, ∀ x ∈ u.2.window, x.queue ≠ 0) ∧
    -- two accepted members of a chain that no tile holds; one of a chain that a tile holds; a running and an ended member of it
    (let x : Wb := { wb 1 1 0 0 with phase := .accepted }
     let y : Wb := { wb 1 2 0 0 with phase := .accepted, seq := 1 }
     let s := onWork (fun w => w.setUnit tile { w.unit tile with window := [x, y] }) parted
     s.dev.work.findWb 0 0 = some (tile, x) ∧ s.dev.work.chainGroup tile x = (none, [x, y])) ∧
    (∀ ph ∈ [Phase.accepted, .running, .ended],
      let j : Job := { part := 0, chain := some 0, members := [(0, 9)], named := none, sets := [], pre := false, decl := 32, int := false, long := false }
      let x : Wb := { wb 1 3 0 0 with phase := ph }
      let s := onWork (fun w => w.setJobs tile [j]) (held tile x)
      s.dev.work.findWb 0 0 = some (tile, x) ∧ x.opcode ≠ 0xF3 ∧
        s.dev.work.chainGroup tile x = (some j, if ph = .accepted then [x] else []) ∧
        s.dev.work.endedGroup tile x = if ph = .ended then [x] else []) := by
  refine ⟨fun data h => master_writesReg _ _ _ _ ?_, by and_intros <;> decide +kernel⟩
  revert data; decide +kernel

/-- Token 9 of partition 0 is present; messages about it and about token 8 are on their way. -/
def tokens : State := onEng (fun e => { e with
  tokens := [9], watchers := [(8, [(tile, 0, 0)])],
  flying := [.watch tile 0 0 0 9, .notice tile 0 0 0 9, .produce 0 8 false, .produce 0 9 true, .clear 0 8 2 0 true] }) (held tile (wb 0xF0 0 0 0))

theorem witness_TokenHomesHandleTheirMessages :
    tokens.dev.pwr.ready = true ∧ tokens.dev.unitRuns tile = true ∧
    (tokenKey 0 9 ∈ (tokens.work.tokenSeen 0 (tokenHome 9) true).eng.tokens ∧ tokenKey 0 8 ∉ (tokens.work.tokenSeen 0 (tokenHome 8) false).eng.tokens) ∧
    (TokMsg.notice tile 0 0 0 9 ∈ tokens.work.eng.flying ∧ tokens.work.wb? tile 0 0 = some (wb 0xF0 0 0 0) ∧ (wb 0xF0 0 0 0).part = 0) ∧
    (tokens.work.eng.flying.find? (TokMsg.produces 0 8) = some (.produce 0 8 false) ∧
      tokens.work.eng.flying.find? (TokMsg.produces 0 9) = some (.produce 0 9 true)) ∧
    tokens.work.eng.flying.find? (TokMsg.clearsAt 0) = some (.clear 0 8 2 0 true) := by decide +kernel

theorem witness_QueueWaybillsActOnTokensAndCredits :
    (held tile (wb 0xF0 0 0 0)).running tile 0 0 0xF0 (wb 0xF0 0 0 0) ∧ (held tile (wb 0xF1 0 7 9)).running tile 0 0 0xF1 (wb 0xF1 0 7 9) ∧
    -- a curvature port's capacity is 4,096: 4,096 fit, 4,097 do not
    (∀ n ∈ [4096, 4097], (held crv (wb 0xF2 0 n tile)).running crv 0 0 0xF2 (wb 0xF2 0 n tile)) ∧
    (Map.find 0 ((held crv (wb 0xF2 0 4096 tile)).work.unit crv).granted).getD 0 + (wb 0xF2 0 4096 tile).grantCount
      = portCapacity crv parted.work.base.updCapacity ∧
    portCapacity crv parted.work.base.updCapacity < (wb 0xF2 0 4097 tile).grantCount ∧
    (onEng (fun e => { e with returns := [(tile, crv, 5)] }) parted).work.eng.returns = (tile, crv, 5) :: [] ∧ parted.work.eng.returns = [] ∧
    parted.dev.pwr.ready = true := by unfold State.running; decide +kernel

def late : Wb := { wb 0xF0 8 0 0 with phase := .accepted }

theorem witness_WaitLimitsAndDeadlinesPass :
    (let s := at_ 11 (put .DOCK_QLIMIT 0 0 0 10 (held tile late))
     s.dev.unitRuns tile = true ∧
     ((s.work.unit tile).window.find? fun x => x.phase == .accepted && !x.starved && s.work.base.qrf x.queue 0 32 .DOCK_QLIMIT != 0
        && decide (x.acceptTime + s.work.base.qrf x.queue 0 32 .DOCK_QLIMIT < s.work.base.time)) = some late ∧
     ((s.work.unit tile).window.find? fun x => x.phase == .accepted && s.work.base.expired tile x) = some late) ∧
    (let s := at_ 10 (put .DOCK_QLIMIT 0 0 0 10 (held tile late))
     ((s.work.unit tile).window.find? fun x => x.phase == .accepted && !x.starved && s.work.base.qrf x.queue 0 32 .DOCK_QLIMIT != 0
        && decide (x.acceptTime + s.work.base.qrf x.queue 0 32 .DOCK_QLIMIT < s.work.base.time)) = none) ∧
    ((at_ 0 (held tile late)).work.unit tile).window.find? (fun x => x.phase == .accepted && (at_ 0 (held tile late)).work.base.expired tile x) = none := by
  decide +kernel

/-- A waybill's bytes stand in the ring of queue 0. -/
def ringed (x : Wb) (unit : Nat := tile) : State :=
  onBase (fun b => { b with mem := (x.bytes.zipIdx 0x100000).foldl (fun m c => if c.1 = 0 then m else m ++ [(memKey 0 (c.2 - 0x100000 + 0x40000), c.1)]) [] })
    (put .DOCK_QCFG 0 0 0 (unit * 256 + 16) (queued 16 1 0))
def aborted : State := onEng (fun e => { e with aborts := [(0, [(0, 1, false)])] }) (ringed (wb 0xF0 0 0 0))

theorem witness_UnitAcceptsAndStartsWaybills :
    (parted.dev.unitAccepts tile = true ∧ unitOf tile = some (.tile, 0) ∧ parted.work.nextQueue tile .tile = none) ∧
    ((ringed (wb 0xF0 0 0 0)).dev.unitAccepts tile = true ∧ (ringed (wb 0xF0 0 0 0)).work.nextQueue tile .tile = some 0 ∧
      (ringed (wb 0xF0 0 0 0)).work.base.partOfQueue 0 = some 0) ∧
    (aborted.work.nextQueue tile .tile = some 0 ∧ aborted.work.eng.abortNamed 0 0 = some false ∧ (wb 0xF0 0 0 0).chained = false) ∧
    (ringed (wb 0xF0 0 0 0)).work.eng.abortNamed 0 0 = none ∧
    ((ringed (wb 0xF0 0 0 0)).work.base.unitLost tile = false ∧ (put .DOCK_WT_VACANT 0 0 0 1 (ringed (wb 0xF0 0 0 0))).work.base.unitLost tile = true) ∧
    ((ringed (wb 0xF0 0 0 0)).work.acceptCheck tile .tile { wb 0xF0 0 0 0 with phase := .accepted } false).2.2 = none ∧
    ((ringed (wb 0xF0 0 0 0)).work.acceptCheck tile .tile { wb 0xFF 0 0 0 with phase := .accepted } false).2.2 = some 0x0301 ∧
    (let s := held tile { late with bytes := (wb 0xF0 0 0 0).bytes }
     let x : Wb := { late with bytes := (wb 0xF0 0 0 0).bytes }
     s.dev.unitStarts tile = true ∧ (s.work.unit tile).window = [] ++ x :: [] ∧ s.work.basicReady tile x = true ∧ s.work.base.expired tile x = false ∧
     (match s.work.startOf tile x with | .start w => w.wb? tile x.queue x.seq == some x && w.tiles.pf tile == [] | _ => false) = true) ∧
    (let x : Wb := { wb 0x20 0 0xFFFF 0xFFFFFFFF with phase := .accepted }
     let s := held crv x
     s.dev.unitStarts crv = true ∧ (s.work.unit crv).window = [] ++ x :: [] ∧ s.work.basicReady crv x = true ∧
     (match s.work.startOf crv x with | .reject _ => true | _ => false) = true) ∧
    -- a ring engine of a partition with shares, and of one without
    (∀ share ∈ [0, 64], let s := put .RING_VC 40 0 0 (8 + 16 * share) (ringed (wb 0xF0 0 0 0) ring)
      s.dev.unitAccepts ring = true ∧ unitOf ring = some (.ring, 0) ∧ s.work.nextQueue ring .ring = some 0 ∧ s.work.base.vcShares 0 = share ∧
      (s.work.acceptCheck ring .ring { wb 0xF0 0 0 0 with phase := .accepted } false).2.2 = none) := by
  and_intros <;> decide +kernel

def done : Wb := { wb 0xF0 0 0 0 with phase := .ended }

theorem witness_WaybillCompletesWithItsRecord :
    (parted.dev.unitRuns ckpt = true ∧ (held ckpt done).work.wb? ckpt 0 0 = some done ∧ done.phase = .ended ∧
      (held ckpt done).work.completeWaits ckpt done = false ∧ updOf ckpt = none ∧ (held ckpt done).work.lending ckpt = none ∧
      (held ckpt done).work.tiles.pf ckpt = [] ∧ done.status ≠ 0x16 ∧ done.opcode ≠ 9 ∧ done.opcode ≠ 0xF3 ∧
      (held ckpt done).work.base.tileOf ckpt = none) ∧
    ((held tile (wb 0xF0 0 0 0)).work.wb? tile 0 0 = some (wb 0xF0 0 0 0) ∧ (wb 0xF0 0 0 0).phase ≠ .ended) ∧
    (let s := onWork (fun w => { w with scale := { w.scale with heldAmax := [⟨0, 0, 0, 0, 0, 0, 0⟩] } }) (held tile done)
     s.work.wb? tile 0 0 = some done ∧ s.work.completeWaits tile done = true) ∧
    (done.irq = false ∧ ∀ i, unitOf ckpt ≠ some (.tile, i)) := by
  refine ⟨by decide +kernel, by decide +kernel, by decide +kernel, by decide +kernel, fun i h => ?_⟩
  rw [show unitOf ckpt = some (.ckpt, 0) from by decide +kernel] at h
  cases h

theorem witness_AbortedWaybillStopsAtItsBoundary :
    (let x : Wb := { wb 0xF0 0 0 0 with aborting := true }
     (held tile x).dev.unitRuns tile = true ∧ (held tile x).work.wb? tile 0 0 = some x ∧ x.phase = .running ∧ x.aborting = true ∧ x.opcode ≠ 0xF3 ∧
       (held tile x).work.pairWaits tile x = false ∧ ((held tile x).work.stopOp tile x 0x11).wb? tile x.queue x.seq = some x) ∧
    ((held tile (wb 0xF0 0 0 0)).work.wb? tile 0 0 = some (wb 0xF0 0 0 0) ∧ (wb 0xF0 0 0 0).aborting = false) ∧
    (let x : Wb := { wb 0x20 0 0 0 with aborting := true }
     let s := onWork (fun w => w.setCrv 0 { w.crv 0 with refresh := some ⟨0, 0, 0, 1, 0, 0, false, 0, 0, 0, 0, false, false, [], [], []⟩ }) (held crv x)
     s.work.wb? crv 0 0 = some x ∧ s.work.pairWaits crv x = true) := by decide +kernel

/-- Whether the operands of a running waybill are fetched, on a unit that has no filler. -/
def fetched (s : State) (id : Nat) : Bool :=
  (match s.work.gate id 0 0 with | .ok _ => true | .error _ => false) && (s.work.lending id).isNone

theorem fetched_of (s : State) (id : Nat) (h : fetched s id = true) : s.fetched id 0 0 s.work := by
  unfold fetched at h
  rw [Bool.and_eq_true, Option.isNone_iff_eq_none] at h
  refine ⟨?_, by rw [h.2]⟩
  have g := h.1
  split at g
  · assumption
  · cases g

/-- A product of a 128 × 32 by a 32 × 128 tensor of F8 codes, of one output tile, and its job. -/
def ab (rows : Nat) : List (List Byte) := [desc 0x200000 0x401 32 rows 0x280000, desc 0x300000 0x401 32 128 0x2C0000, desc 0x400000 0x404 128 rows, []]
def mm (flags rows : Nat) : Wb := wb 1 flags 0 0 (ab rows)
def job (chain : Option Nat) : Job := { part := 0, chain := chain, members := [(0, 0)], named := none, sets := [], pre := false, decl := 32, int := false, long := false }
def product (x : Wb) (j : Job) (s : State := parted) : State := onWork (fun w => w.setJobs tile [j]) (held tile x s)

/-- What the statements on running products ask. -/
def productOk (x : Wb) (c : Option Nat) : Bool :=
  runOk (product x (job c)) tile 1 x && fetched (product x (job c)) tile && (product x (job c)).work.jobOf tile 0 0 == some (job c) &&
    decide (x.next < x.geo.tiles) && (product x (job c)).work.mmSets tile x (job c) == [0]

theorem witness_ProductAccumulatesItsNextTile :
    (∀ x c, productOk x c = true → (product x (job c)).running tile 0 0 1 x ∧ (product x (job c)).fetched tile 0 0 (product x (job c)).work) ∧
    (productOk (mm 0 128) none = true ∧ productOk (mm 3 256) (some 5) = true ∧ productOk (mm 3 128) (some 5) = true ∧ productOk (mm 2 128) (some 5) = true) ∧
    ((job none).moved = false ∧ (mm 3 256).next + 1 < (mm 3 256).geo.tiles ∧ (mm 3 128).next + 1 = (mm 3 128).geo.tiles ∧ (mm 3 128).keep = true ∧
      (mm 2 128).next + 1 = (mm 2 128).geo.tiles ∧ (mm 2 128).keep = false) ∧
    (let s := put .ACC_SET0 0 0 0 2 (put .ACC_SET1 0 0 0 2 (product (mm 0 128) (job none)))
     s.running tile 0 0 1 (mm 0 128) ∧ s.fetched tile 0 0 s.work ∧ s.work.jobOf tile 0 0 = some (job none) ∧
       s.work.mmSets tile (mm 0 128) (job none) = [] ∧ (s.work.freeSets tile 0 0).head? = none) ∧
    -- a long product with one set free claims it, once
    (let j := { job none with long := true }
     let s := put .ACC_SET1 0 0 0 2 (product (mm 0 128) j)
     s.running tile 0 0 1 (mm 0 128) ∧ s.fetched tile 0 0 s.work ∧ s.work.jobOf tile 0 0 = some j ∧ j.moved = false ∧ j.long = true ∧
       s.work.mmSets tile (mm 0 128) j = [] ∧ (s.work.claimsOf tile).filter (fun c => c.2.1 == 0 && c.2.2 == 0) = [] ∧ j.named = none ∧
       (s.work.freeSets tile 0 0).head? = some 0) := by
  refine ⟨fun x c h => ?_, by decide +kernel, by decide +kernel,
    ⟨running_of _ _ _ _ (by decide +kernel), fetched_of _ _ (by decide +kernel), by decide +kernel⟩,
    running_of _ _ _ _ (by decide +kernel), fetched_of _ _ (by decide +kernel), by decide +kernel⟩
  simp only [productOk, Bool.and_eq_true] at h
  exact ⟨running_of _ _ _ _ h.1.1.1.1, fetched_of _ _ h.1.1.1.2⟩

/-- The same product with one column, its set 0 waiting for the drain. -/
def small (rows : Nat) : Wb := { wb 1 0 0 0 [desc 0x200000 0x404 1 rows, desc 0x300000 0x404 1 1, desc 0x400000 0x404 1 rows, []] with next := (rows + 127) / 128 }
def acc1 (code : Nat) : AccTile := { rows := 1, cols := 1, a := [code] }
def drainJob (code : Nat) (failed : Bool) : Job := { job none with accs := [(0, acc1 code)], sets := [0], failed := failed }
def draining (x : Wb) (code : Nat) (failed : Bool) : State := onWork (fun w => w.setDrains tile [(0, 0, 0, 0)]) (product x (drainJob code failed))

/-- What the drain of that tile comes to: whether it traps, whether it is the last tile, and whether a check of the product has failed. -/
def drained (x : Wb) (code : Nat) (failed : Bool) : Bool × Bool × Bool :=
  let w := (draining x code failed).work
  let r := w.drainTile tile (w.base.cx tile x) (drainJob code failed) x 0 (acc1 code)
  let l := r.1.base.laneReport 0 0 r.2.1 0 (acc1 code).badSegment r.2.2.2 true
  (r.2.2.1.isSome, l.2.1.done + 1 == x.geo.tiles, failed || l.2.2)

/-- What the statement asks before the drain. -/
def drainOk (x : Wb) (code : Nat) (failed : Bool) : Bool :=
  let s := draining x code failed
  s.dev.unitRuns tile && s.work.drains tile == [(0, 0, 0, 0)] && s.work.wb? tile 0 0 == some x && s.work.jobOf tile 0 0 == some (drainJob code failed) &&
    s.work.base.tileOf tile == some (0, 0) && Map.find 0 (drainJob code failed).accs == some (acc1 code)

/-- The last drain of a filler's product that has failed a check: whether it does not trap, and what the tile lends then. -/
def lentDrain : LendSt := { queue := 0, seq := 0, borrower := 0 }
def drainedLent : Bool × Option LendSt :=
  let w := (draining (small 1) 0x3F800000 true).work.setLending tile (some lentDrain)
  let r := w.drainTile tile (w.base.cx tile (small 1)) (drainJob 0x3F800000 true) (small 1) 0 (acc1 0x3F800000)
  let l := r.1.base.laneReport 0 0 r.2.1 0 (acc1 0x3F800000).badSegment r.2.2.2 true
  let w1 := (({ r.1 with base := l.1 } : Work).setDrains tile []).drainFreed tile 0 [] { drainJob 0x3F800000 true with accs := [] } { l.2.1 with done := 1 }
  (r.2.2.1.isNone, w1.lending tile)

theorem witness_DrainWritesTheOldestTile :
    (parted.dev.unitRuns tile = true ∧ parted.work.drains tile = []) ∧
    (drainOk (small 129) 0x3F800000 false = true ∧ drained (small 129) 0x3F800000 false = (false, false, false)) ∧
    (drainOk (small 1) 0x3F800000 false = true ∧ drained (small 1) 0x3F800000 false = (false, true, false)) ∧
    (drainOk (small 1) 0x3F800000 true = true ∧ drained (small 1) 0x3F800000 true = (false, true, true)) ∧
    (drainOk { small 1 with trapOn := true } 0x7FC00000 false = true ∧ (drained { small 1 with trapOn := true } 0x7FC00000 false).1 = true) ∧
    (drainOk { small 1 with aborting := true } 0x3F800000 false = true ∧ ({ small 1 with aborting := true } : Wb).aborting = true ∧ (small 1).aborting = false) ∧
    (drainedLent = (true, some lentDrain) ∧ (drainJob 0x3F800000 true).members = [(lentDrain.queue, lentDrain.seq)] ∧ lentDrain.spilled = none) := by
  decide +kernel

/-- A product that failed a check and has drained: its replay. -/
def failedJob : Job := { job none with sets := [0], failed := true }
def failedX (part : Nat) : Wb := { small 1 with done := 1, part := part }
def replay (part : Nat) : State := product (failedX part) failedJob
/-- The same with no tile in the spare pool and no position of the waybill's partition. -/
def noSpare : State := ([64, 65, 66, 67] : List Nat).foldl (fun s k => put .TILE_STATE 0 k 0 2 s) (replay 1)
def replayed (ups : List (Nat × Nat)) : Bool × Bool × Bool :=
  let x := failedX 0
  let r := Work.replayTiles tile 0 64 failedJob ups x.geo.tiles 0 (replay 0).work { x with ovf := 0, van := 0, counts := [], nf := none, flags := x.flags / 2 * 2 }
  (r.2.2.1, r.2.2.2.isSome, r.2.1.aux == x.aux)

/-- The replay of a product whose operand has become a NaN, with the trap on. -/
def trapped : Bool × Bool :=
  let x := { failedX 0 with trapOn := true }
  let w := (replay 0).work
  let b := w.base.storeBytes (w.base.cx tile x).req 0x200000 (leBytes 2 0x7FC0)
  let r := Work.replayTiles tile 0 64 failedJob [] x.geo.tiles 0 { w with base := b } { x with ovf := 0, van := 0, counts := [], nf := none, flags := x.flags / 2 * 2 }
  (r.2.2.1, r.2.2.2.isSome)

/-- A chain whose set is held since 0, past a limit of 0. -/
def heldJob : Job := { job (some 5) with accs := [(0, acc1 0x3F800000)], sets := [0], heldSince := some 0 }
def orphan (t : Nat) : State := at_ t (put .ACC_HOLD_LIMIT 0 0 0 0 (product (small 1) heldJob))

theorem witness_FailedAndOrphanedChainsAreDrained :
    (∀ p ∈ [0, 1], runOk (replay p) tile 1 (failedX p) = true ∧ (replay p).work.jobOf tile 0 0 = some failedJob ∧
      (replay p).work.base.tileOf tile = some (0, 0) ∧ (failedX p).done = (failedX p).geo.tiles) ∧
    (runOk noSpare tile 1 (failedX 1) = true ∧ noSpare.work.jobOf tile 0 0 = some failedJob ∧ noSpare.work.replayTileFor tile (failedX 1) failedJob.pre = none) ∧
    (failedJob.failed = true ∧ failedJob.moved = false ∧ (replay 0).work.replayTileFor tile (failedX 0) failedJob.pre = some 64 ∧ (failedX 0).aux ≠ [5] ∧ (failedX 0).handed = false ∧
      replayed [] = (false, false, true) ∧ replayed [(0, 30)] = (true, false, true)) ∧
    -- a product that a FAILED tile handed over, before its last drain
    (let s := product (small 1) { failedJob with moved := true }
     runOk s tile 1 (small 1) = true ∧ s.work.jobOf tile 0 0 = some { failedJob with moved := true } ∧
       s.work.replayTileFor tile (small 1) false = some 64 ∧ (small 1).done ≠ (small 1).geo.tiles) ∧
    ((orphan 0).dev.unitRuns tile = true ∧ ((orphan 0).work.jobs tile).find? (fun j =>
      j.heldPast ((orphan 0).work.base.rf 0 32 .ACC_HOLD_LIMIT (cd 0) 0) (orphan 0).work.base.time) = none) ∧
    ((orphan 1).dev.unitRuns tile = true ∧ (orphan 1).work.base.tileOf tile = some (0, 0) ∧ ((orphan 1).work.jobs tile).find? (fun j =>
      j.heldPast ((orphan 1).work.base.rf 0 32 .ACC_HOLD_LIMIT (cd 0) 0) (orphan 1).work.base.time) = some heldJob ∧
      heldJob.members.getLast? = some (0, 0) ∧ (orphan 1).work.wb? tile 0 0 = some (small 1) ∧ (replay 0).work.jobOf tile 0 0 = some failedJob ∧ trapped = (false, true)) := by decide +kernel

/-- A tile lent to a filler of queue 0 whose owner's waybill of queue 1 is ready; the filler spilled, and back. -/
def lend (l : LendSt) (sets : Nat) (ws : List Wb) (s : State := parted) : State :=
  put .ACC_SET0 0 0 0 sets (put .ACC_SET1 0 0 0 sets (onWork (fun w => (w.setUnit tile { w.unit tile with window := ws }).setLending tile (some l)) s))
def filler : Wb := { wb 1 0 0 0 with filler := true }
def owner : Wb := { late with queue := 1, bytes := (wb 0xF0 0 0 0).bytes }
def spilling : LendSt := { queue := 0, seq := 0, borrower := 0, spillStart := some 0, spilled := some 0 }

theorem witness_FillersSpillAndResume :
    (let l : LendSt := { queue := 0, seq := 0, borrower := 0 }
     let s := lend l sLENT [filler, owner]
     s.dev.unitRuns tile = true ∧ s.work.lending tile = some l ∧ s.work.base.tileOf tile = some (0, 0) ∧ l.spilled = none ∧ s.work.lent tile = true ∧
       s.work.ownerReady tile = true ∧ s.work.drains tile = []) ∧
    -- while its record is reloaded, and after
    (let l : LendSt := { queue := 0, seq := 0, borrower := 0, reload := some 0 }
     let s := lend l sLENT [filler, owner]
     s.dev.unitRuns tile = true ∧ s.work.lending tile = some l ∧ s.work.base.tileOf tile = some (0, 0) ∧ s.work.ownerReady tile = true) ∧
    (let s := at_ (usTicks 9 + 1) (lend spilling sFREE [filler])
     s.dev.unitRuns tile = true ∧ s.work.lending tile = some spilling ∧ s.work.base.tileOf tile = some (0, 0) ∧ spilling.spillStart = some 0 ∧
       spilling.slow = false ∧ 0 + usTicks 9 < s.work.base.time ∧ spilling.spilled = some 0 ∧ spilling.waitRaised = false ∧
       0 + (put .DOCK_LEND_WAIT 40 0 0 (usTicks 9) s).work.base.rf 0 32 .DOCK_LEND_WAIT 40 < (put .DOCK_LEND_WAIT 40 0 0 (usTicks 9) s).work.base.time ∧
       (put .DOCK_LEND_WAIT 40 0 0 (usTicks 9) s).work.wb? tile 0 0 = some filler) ∧
    (let l := { spilling with spillStart := none }
     let s := put .TILE_LEND 0 0 0 1 (lend l sFREE [filler])
     s.work.lending tile = some l ∧ l.spilled.isSome = true ∧ s.work.base.eff 0 1 .TILE_LEND 0 0 = 1 ∧ s.work.tileStopped 0 0 = false ∧
       s.work.base.setState tile 0 = sFREE ∧ s.work.base.setState tile 1 = sFREE ∧ (∀ j ∈ s.work.jobs tile, j.members = [(l.queue, l.seq)]) ∧
       s.work.claimsOf tile = [] ∧ s.work.ownerReady tile = false) := by decide +kernel

/-- A mover's waybill: an F8 matrix in memory, or in local store, and another. -/
def memA (f : Nat) : List Byte := desc 0x200000 f 32 128 0x280000
def locA (f : Nat) : List Byte := desc (0xF * 2 ^ 48) f 32 128 (0xF * 2 ^ 48 + 0x10000)

theorem witness_MoversCopyAndConvert :
    (let x := wb 2 0 0 0 [memA 0x401, locA 0x401, [], []]
     (held tile x).running tile 0 0 2 x ∧ (held tile x).fetched tile 0 0 (held tile x).work ∧ x.desc 0 = some (Desc.parse (memA 0x401)) ∧
       x.desc 1 = some (Desc.parse (locA 0x401)) ∧ copyLoad (Desc.parse (memA 0x401)) (Desc.parse (locA 0x401)) x.transpose = true) ∧
    (let x := wb 2 0 0x4000 0 [memA 0x401, locA 0x401, [], []]
     (held tile x).running tile 0 0 2 x ∧ (held tile x).fetched tile 0 0 (held tile x).work ∧ x.desc 0 = some (Desc.parse (memA 0x401)) ∧
       x.desc 1 = some (Desc.parse (locA 0x401)) ∧ copyLoad (Desc.parse (memA 0x401)) (Desc.parse (locA 0x401)) x.transpose = false) ∧
    (let x := wb 3 0 0 0 [locA 0x401, memA 0x401, [], []]
     (held tile x).running tile 0 0 3 x ∧ (held tile x).fetched tile 0 0 (held tile x).work ∧ x.desc 0 = some (Desc.parse (locA 0x401)) ∧
       x.desc 1 = some (Desc.parse (memA 0x401))) ∧
    (∀ o ∈ [0, 0x1000], runOk (held tile (wb 4 0 o 0 [memA 0x404, [], memA 0x401, []])) tile 4 (wb 4 0 o 0 [memA 0x404, [], memA 0x401, []]) = true ∧
       fetched (held tile (wb 4 0 o 0 [memA 0x404, [], memA 0x401, []])) tile = true ∧
       (wb 4 0 o 0 [memA 0x404, [], memA 0x401, []]).desc 0 = some (Desc.parse (memA 0x404)) ∧
       (wb 4 0 o 0 [memA 0x404, [], memA 0x401, []]).desc 2 = some (Desc.parse (memA 0x401)) ∧
       (wb 4 0 o 0 [memA 0x404, [], memA 0x401, []]).amaxOnly = decide (o = 0x1000)) :=
  ⟨⟨running_of _ _ _ _ (by decide +kernel), fetched_of _ _ (by decide +kernel), by decide +kernel⟩,
    ⟨running_of _ _ _ _ (by decide +kernel), fetched_of _ _ (by decide +kernel), by decide +kernel⟩,
    ⟨running_of _ _ _ _ (by decide +kernel), fetched_of _ _ (by decide +kernel), by decide +kernel⟩, by decide +kernel⟩

/-- A STEP whose step was closed at its start. -/
def stepRun : StepRun := { unit := tile, queue := 0, seq := 0, acc := {}, verdict := {}, noise := [] }
def stepping : State := onWork (fun w => { w with stepping := [(0, stepRun)] }) (held tile (wb 0xF3 0 0 0))

theorem witness_StepClosesInItsOrder :
    stepping.dev.unitRuns tile = true ∧ stepping.work.wb? tile 0 0 = some (wb 0xF3 0 0 0) ∧ (wb 0xF3 0 0 0).phase = .running ∧
    (wb 0xF3 0 0 0).opcode = 0xF3 ∧ 0 = (wb 0xF3 0 0 0).part ∧ stepping.work.stepRun? 0 = some stepRun ∧ stepRun.queue = 0 ∧ stepRun.seq = 0 := by decide +kernel

def maximum : AmaxMsg := ⟨0, 1, 0, 0x3F800000, 0, 0, 0⟩
def report : WatchMsg := ⟨0, { slot := 1, fmt := 1 }, 0, 0⟩
def scaled (s : Scale) (b : State := parted) : State := onWork (fun w => { w with scale := s }) b

theorem witness_MaximaAndCountsReachTheirRecords :
    (parted.dev.pwr.ready = true ∧ (scaled { amax := [maximum] } stepping).work.scale.amax = maximum :: [] ∧
      (true && ((scaled { amax := [maximum] } stepping).work.stepRun? maximum.part).isSome) = true ∧
      (false && ((scaled { amax := [maximum] } stepping).work.stepRun? maximum.part).isSome) = false) ∧
    (∀ l ∈ [[], [(0, 1)]], (scaled { heldAmax := [maximum], lateRaised := l }).work.scale.heldAmax.find?
        (fun m => ((scaled { heldAmax := [maximum], lateRaised := l }).work.stepRun? m.part).isNone) = some maximum ∧
      (scaled { heldAmax := [maximum], lateRaised := l }).work.scale.lateRaised.contains (maximum.part, maximum.entry) = !l.isEmpty) ∧
    ((scaled { watch := [report] } stepping).work.scale.watch = report :: [] ∧
      (true && ((scaled { watch := [report] } stepping).work.stepRun? report.part).isSome) = true ∧
      (false && ((scaled { watch := [report] } stepping).work.stepRun? report.part).isSome) = false ∧
      (true && ((scaled { watch := [report] }).work.stepRun? report.part).isSome) = false) ∧
    parted.writesReg (.master 0) ⟨.DOCK_SCL_HSTEP, 40, 0, 0, 0⟩ (2 ^ 32 - 1) 0 parted.dev.cleared ∧
    stepping.writesReg (.master 0) ⟨.DOCK_SCL_HSTEP, 40, 0, 0, 0⟩ 0 0 stepping.dev.cleared ∧
    (parted.dev.cleared.work.stepRun? 0).isSome = false ∧ (stepping.dev.cleared.work.stepRun? 0).isSome = true := by
  exact ⟨by decide +kernel, by decide +kernel, by decide +kernel, master_writesReg _ _ _ _ (by decide +kernel), master_writesReg _ _ _ _ (by decide +kernel),
    by decide +kernel⟩

/-- A consist whose next instruction is i, its threads' registers given by lane. -/
def threading (i : Nat) (ts : List Thread) (x : Wb := wb 8 0 0 0) : State :=
  onWork (fun w => { w with tiles := w.tiles.localWrite 0 0 (leBytes 4 i) }) (onWork (fun w => w.setConsists tile [{ threads := ts }]) (held tile x))
def insIs (s : State) (p : Work → Issue → Bool) : Bool := match s.work.issueOf tile 0 with | some (w, x) => p w x | none => false
def fnIs (s : State) (op : FnOp) (p : Work → Issue → Nat → Bool) : Bool :=
  match s.work.fnIssue tile 0 with | some (w, x, i, o) => o == op && p w x i | none => false
def thread (x : List (Nat × Nat)) : Thread := { pc := 0, x := x }

/-- The words of instructions, from the layout of 04 R130 and RV32I. -/
def rtype (op f3 f7 rd rs1 rs2 : Nat) : Nat := op + rd * 128 + f3 * 4096 + rs1 * 2 ^ 15 + rs2 * 2 ^ 20 + f7 * 2 ^ 25

theorem witness_ConsistsStartAndEnd :
    (∀ n ∈ [0, 127], runOk (held tile (wb 8 0 n 0)) tile 8 (wb 8 0 n 0) = true ∧ (wb 8 0 n 0).handed = false ∧ (held tile (wb 8 0 n 0)).work.consists tile = []) ∧
    ((threading 0x73 [thread []]).dev.unitRuns tile = true ∧ insIs (threading 0x73 [thread []]) (fun _ i => i.ins == some 0x73) = true ∧
      insIs (threading 0x13 [thread []]) (fun _ i => i.ins != some 0x73) = true) ∧
    (((threading 0x73 [thread []]).work.consists tile).all Consist.over = false) ∧
    (let w := (threading 0x73 [{ thread [] with ended := true }]).work
     (w.consists tile).all Consist.over = true ∧ ((w.consists tile).flatMap (·.threads)).all (fun t => !t.faulted) = true) ∧
    (let t : Thread := { thread [] with faulted := true }
     let w := (threading 0x73 [t]).work
     (w.consists tile).all Consist.over = true ∧ ((w.consists tile).flatMap (·.threads)).zipIdx.find? (fun t => t.1.faulted) = some (t, 0)) := by decide +kernel

theorem witness_ThreadInstructionActsOnItsLanes :
    (threading 0x13 [thread []]).dev.unitRuns tile = true ∧
    insIs (threading 0x13 [{ thread [] with pc := 2 }]) (fun _ x => x.ins == none) = true ∧
    (isEcall 0x73 = true ∧ insIs (threading 0x73 [thread []]) (fun _ x => x.ins == some 0x73) = true) ∧
    -- addi x1, x2, 0; addi to x15, and to x16, in half file; a word of no instruction; jalr to 2
    insIs (threading 0x10093 [thread []]) (fun _ x => x.ins == some 0x10093 && namesOk x.x.fullFile 0x10093 && x.illegal 0 0x10093 == []) = true ∧
    insIs (threading (0x13 + 15 * 128) [thread []]) (fun _ x => namesOk x.x.fullFile (0x13 + 15 * 128)) = true ∧
    insIs (threading (0x13 + 16 * 128) [thread []]) (fun _ x => !namesOk x.x.fullFile (0x13 + 16 * 128)) = true ∧
    (isEcall 0x7F = false ∧ fnOp false 0x7F = none ∧ isMemory 0x7F = false ∧ insIs (threading 0x7F [thread []]) (fun _ x => x.illegal 0 0x7F != []) = true) ∧
    -- lw x1, 0(x2): good, misaligned, outside the window; sw x1, 0(x2)
    (isMemory 0x12083 = true ∧ insIs (threading 0x12083 [thread [(2, 64)]]) (fun w x => (w.accesses tile x 0x12083).length == x.lanes.length &&
        badLanes (w.accesses tile x 0x12083) == [] && !((w.accesses tile x 0x12083).all fun a => a.2.1.store)) = true) ∧
    insIs (threading 0x12083 [thread [(2, 66)]]) (fun w x => (w.accesses tile x 0x12083).length == x.lanes.length && badLanes (w.accesses tile x 0x12083) != []) = true ∧
    insIs (threading 0x112023 [thread [(2, 64)]]) (fun w x => (w.accesses tile x 0x112023).length == x.lanes.length &&
        badLanes (w.accesses tile x 0x112023) == [] && ((w.accesses tile x 0x112023).all fun a => a.2.1.store)) = true ∧
    -- a load of no defined width
    insIs (threading 0x17083 [thread [(2, 64)]]) (fun w x => namesOk x.x.fullFile 0x17083 && decide ((w.accesses tile x 0x17083).length < x.lanes.length)) = true := by
  decide +kernel

def present (t : Nat) (s : State) : State := onEng (fun e => { e with tokens := [tokenKey 0 t] }) s
def waiting (t : Nat) : State :=
  at_ t (put .DOCK_QLIMIT 0 0 0 10 (onWork (fun w => w.setConsists tile [{ threads := [thread [(1, 9)]], waiting := some ([9], 0) }]) (threading (rtype 0x0B 0 0 2 1 0) [])))

theorem witness_ThreadsUseTokens :
    parted.dev.unitRuns tile = true ∧
    fnIs (present 9 (threading (rtype 0x0B 0 0 2 1 0) [thread [(1, 9)]])) .twait (fun w x i => w.absent x.x.part (distinct (x.tokens i)) == []) = true ∧
    fnIs (threading (rtype 0x0B 0 0 2 1 0) [thread [(1, 9)]]) .twait (fun w x i => w.absent x.x.part (distinct (x.tokens i)) == [9]) = true ∧
    fnIs (threading (rtype 0x0B 1 0 0 1 0) [thread [(1, 9)]]) .tsig (fun _ _ _ => true) = true ∧
    fnIs (threading (rtype 0x0B 2 0 2 1 0) [thread [(1, 9)]]) .tpoll (fun _ _ _ => true) = true ∧
    fnIs (threading (rtype 0x0B 3 0 2 1 0) [thread [(1, crv)]]) .cred (fun _ _ _ => true) = true ∧
    ((waiting 10).work.threadsWb tile = some (wb 8 0 0 0) ∧
      ((waiting 10).work.consists tile)[0]? = some { threads := [thread [(1, 9)]], waiting := some ([9], 0) } ∧
      ({ threads := [thread [(1, 9)]], waiting := some ([9], 0) } : Consist).active = some (0, [0])) ∧
    ((present 9 (waiting 10)).work.absent 0 [9] = [] ∧ (waiting 10).work.absent 0 [9] = [9] ∧ (waiting 10).work.waitPassed (wb 8 0 0 0) 0 = false ∧
      (waiting 11).work.waitPassed (wb 8 0 0 0) 0 = true) := by decide +kernel

theorem witness_ThreadsConvertAndDraw :
    parted.dev.unitRuns tile = true ∧ fnIs (threading (rtype 0x0B 4 1 2 1 0) [thread []]) (.bscale 1) (fun _ _ _ => true) = true ∧
    (∀ c ∈ [(0xEFFF, false), (0xF000, true)], fnIs (threading (rtype 0x2B 0 1 2 1 0) [{ thread [] with stream := c.1 }]) (.cvt false false 1)
      (fun _ x _ => decide (x.lanes.filter (fun l => decide ((x.c.lane l).stream ≥ 0xF000)) ≠ []) == c.2) = true) ∧
    fnIs (threading (rtype 0x2B 1 1 2 1 0) [thread []]) (.draw 1) (fun _ _ _ => true) = true := by decide +kernel

theorem witness_ThreadsPushPopAndReadSets :
    parted.dev.unitRuns tile = true ∧ parted.work.base.tileOf tile = some (0, 0) ∧
    (∀ c ∈ [(rtype 0x2B 2 0 2 1 3, FnOp.spush), (rtype 0x2B 3 0 2 1 3, .spop)],
      fnIs (threading c.1 [thread [(1, 64), (3, 64)]]) c.2 (fun w x i => w.sidOperands tile x i == some (64, 64)) = true ∧
      fnIs (threading c.1 [thread [(1, 64), (3, 65600)]]) c.2 (fun w x i => w.sidOperands tile x i == none) = true) ∧
    fnIs (threading (rtype 0x2B 4 0 2 1 3) [thread []]) .accrd
      (fun w x i => x.lanes.any fun l => ((x.c.lane l).accElement w tile x.x.part i).isNone) = true ∧
    fnIs (onWork (fun w => w.setJobs tile [heldJob]) (put .ACC_SET0 0 0 0 sHELD (threading (rtype 0x2B 4 0 2 1 3) [thread []]))) .accrd
      (fun w x i => !(x.lanes.any fun l => ((x.c.lane l).accElement w tile x.x.part i).isNone)) = true := by decide +kernel

/-- Bytes in memory; a piece of memory that is poisoned. -/
def poke (a : Nat) (l : List Byte) (s : State) : State :=
  onBase (fun b => match b.place a with | .stack st off => { b with mem := Memory.put b.mem (memKey st off) l } | _ => b) s
def spoil (a : Nat) (s : State) : State :=
  onBase (fun b => match b.place a with | .stack st off => { b with poison := NSet.add (pieceKey st off) b.poison } | _ => b) s

def frame (dropped recomp closed : Bool) : Frame := ⟨0, 4, 2, 1, 0, dropped, recomp, closed, 0, 0, 0, 0, 0⟩
/-- A Siding operation of frame `index`, with a segment of 8 blocks at 16 MiB, a plan at 32 MiB, and frames. -/
def siding (l : List Frame) (x : Wb) (s : State := parted) : State :=
  put .DOCK_SID_SIZE 0 0 0 8 (put .DOCK_SID_BASE 0 0 0 (4096 * 4096) (put .DOCK_SID_PLAN 0 0 0 0x2000000
    (onWork (fun w => { w with sid := { w.sid with frames := if l.isEmpty then [] else [(sidKey 0 0, l)] } }) (held tile x s))))
def plan (full keep tarea ahead : Nat) (s : State) : State := poke 0x2000000 (leBytes 4 full ++ leBytes 4 keep ++ leBytes 4 tarea ++ leBytes 4 ahead) s
def sidOp (op action index arg : Nat) (descs : List (List Byte) := [[], [], [], []]) : Wb := wb op 0 (action + 4 * index) arg descs

def readyFor (s : State) (op action : Nat) (p : Work → Wb → Bool) : Bool :=
  s.dev.unitRuns tile && fetched s tile && (match s.work.sidReady tile 0 0 op action with | some (x, 0) => p s.work x | _ => false)

/-- What OPEN finds in its plan: whether it is poisoned, whether its entry is bad, and the choice. -/
def opening (s : State) : Bool × Bool × Option Bool :=
  match s.work.base.readBytes ((s.work.base.cx tile (sidOp 0x0B 1 0 0)).sidReq 0) (s.work.base.planAddr 0 0 0) 16 with
  | (b, e, bad) => (bad, planBad (fieldAt e 0 4) (fieldAt e 4 4) (fieldAt e 8 4) (fieldAt e 12 4),
      openChoice (usedOf (s.work.frames 0 0)) (b.rf 0 24 .DOCK_SID_SIZE 0 0 0) (fieldAt e 0 4) (fieldAt e 4 4) (fieldAt e 12 4 % 2 ^ 24)
        ((fieldAt e 12 4).testBit 24) (b.rf 24 1 .DOCK_SID_SIZE 0 0 0 == 0))

theorem witness_SidingFrameIsOpened :
    readyFor (siding [frame false false false] (sidOp 0x0B 1 0 0)) 0x0B 1 (fun w x => !mayOpen (w.frames 0 x.part) x.sidFrame) = true ∧
    (∀ c ∈ [(0, 1, 0), (8, 1, 0), (9, 1, 0), (9, 8, 2 ^ 24)], readyFor (plan c.1 c.2.1 0 c.2.2 (siding [] (sidOp 0x0B 1 0 0))) 0x0B 1
      (fun w x => mayOpen (w.frames 0 x.part) x.sidFrame) = true) ∧
    (opening (spoil 0x2000000 (siding [] (sidOp 0x0B 1 0 0)))).1 = true ∧
    opening (plan 0 1 0 0 (siding [] (sidOp 0x0B 1 0 0))) = (false, true, some false) ∧
    opening (plan 8 1 0 0 (siding [] (sidOp 0x0B 1 0 0))) = (false, false, some false) ∧
    opening (plan 9 1 0 0 (siding [] (sidOp 0x0B 1 0 0))) = (false, false, none) ∧
    opening (put .DOCK_SID_SIZE 0 0 0 (8 + 2 ^ 24) (plan 9 8 0 (2 ^ 24) (siding [] (sidOp 0x0B 1 0 0)))) = (false, false, some true) ∧
    (2 ≤ 4 ∧ openChoice 0 3 4 2 1 true false = some true ∧ openChoice 0 5 4 2 1 true false = some false) := by decide +kernel

def carOp (op arg : Nat) : Wb := sidOp op 0 0 arg [memA 0x401, [], [], []]
def topIs (w : Work) (x : Wb) (closed : Bool) (f : Frame) : Bool := w.topFrame 0 x.part x.sidFrame closed == some f
def carIs (x : Wb) (lo hi : Nat) : Bool := match x.desc 0 with | some d => x.carBlocks d == (lo, hi) | none => false

/-- BRANCH with two lists of one waybill number, at 48 and 64 MiB. -/
def listAt (a n : Nat) : List Byte := desc a 0x406 n 1
def branch (n0 n1 : Nat) (closed : Bool := true) : State :=
  poke 0x4000000 (leBytes 8 0) (poke 0x3000000 (leBytes 8 (5 * 65536)) (siding [frame false false closed] (sidOp 0x0C 2 0 0 [listAt 0x3000000 n0, listAt 0x4000000 n1, [], []])))
/-- What BRANCH reads: whether a list is poisoned, whether both are good, and whether one names another partition's queue. -/
def branching (s : State) : Option (Bool × Bool × Bool) :=
  match s.work.sidReady tile 0 0 0x0C 2 with
  | some (x, _) => match x.desc 0, x.desc 1 with
    | some d0, some d1 => match s.work.skipList (s.work.base.cx tile x) d0 with
      | (w1, l0, bad0) => match w1.skipList (w1.base.cx tile x) d1 with
        | (w, l1, bad1) => some (bad0 || bad1, l0.isSome && l1.isSome, w.base.foreign x.part (l0.getD []) || w.base.foreign x.part (l1.getD []))
    | _, _ => none
  | none => none

theorem witness_SidingCarsComeAndGo :
    -- pushes: no open frame; past the thread area; block 0; across KEEP; fitting; into the drop area
    (readyFor (siding [] (carOp 0x0B 1)) 0x0B 0 (fun w x => carIs x 1 2 && (w.topFrame 0 x.part x.sidFrame false).isNone) = true ∧
      (∀ lo ∈ [3, 0, 1, 2], readyFor (siding [frame false true false] (carOp 0x0B lo)) 0x0B 0 (fun w x => carIs x lo (lo + 1) && topIs w x false (frame false true false)) = true) ∧
      readyFor (siding [frame true true false] (carOp 0x0B 2)) 0x0B 0 (fun w x => carIs x 2 3 && topIs w x false (frame true true false)) = true ∧
      readyFor (siding [frame false true false] (sidOp 0x0B 0 0 1 [desc 0x200000 0x401 64 128, [], [], []])) 0x0B 0 (fun _ x => carIs x 1 3) = true) ∧
    (readyFor (siding [] (sidOp 0x0B 2 0 0)) 0x0B 2 (fun w x => (w.topFrame 0 x.part x.sidFrame false).isNone) = true ∧
      readyFor (siding [frame false true false] (sidOp 0x0B 2 0 0)) 0x0B 2 (fun w x => topIs w x false (frame false true false)) = true) ∧
    -- pops: no closed frame; past the thread area; from the drop area; from a kept and a dropped frame
    (readyFor (siding [frame false true false] (carOp 0x0C 1)) 0x0C 0 (fun w x => carIs x 1 2 && (w.topFrame 0 x.part x.sidFrame true).isNone) = true ∧
      (∀ c ∈ [(3, false), (2, true), (2, false), (1, true)], readyFor (siding [frame c.2 true true] (carOp 0x0C c.1)) 0x0C 0
        (fun w x => carIs x c.1 (c.1 + 1) && topIs w x true (frame c.2 true true)) = true)) ∧
    (readyFor (siding [] (sidOp 0x0C 1 0 0)) 0x0C 1 (fun w x => (w.topFrame 0 x.part x.sidFrame true).isNone) = true ∧
      readyFor (siding [frame false true true] (sidOp 0x0C 1 0 0)) 0x0C 1 (fun w x => topIs w x true (frame false true true)) = true ∧
      readyFor (siding [] (sidOp 0x0C 3 0 0)) 0x0C 3 (fun _ _ => true) = true) ∧
    (readyFor (branch 2 2 false) 0x0C 2 (fun w x => (w.topFrame 0 x.part x.sidFrame true).isNone && (x.desc 0).isSome && (x.desc 1).isSome) = true ∧
      readyFor (branch 2 2) 0x0C 2 (fun w x => topIs w x true (frame false false true)) = true ∧
      branching (spoil 0x4000000 (branch 2 2)) = some (true, true, false) ∧ branching (branch 2 3) = some (false, false, false) ∧
      branching (branch 2 2) = some (false, true, false) ∧ branching (poke 0x4000000 (leBytes 8 0xFFFF) (branch 2 2)) = some (false, true, true)) ∧
    ((Desc.parse (listAt 0 3)).fmt ≠ 6 ∨ (Desc.parse (listAt 0 3)).count % 2 ≠ 0) ∧
    (match parted.work.skipList (parted.work.base.cx tile (wb 0x0C 0 0 0)) (Desc.parse (listAt 0x3000000 2)) with | (_, some _, _) => true | _ => false) = true := by
  decide +kernel

/-- Generation records of partition 0 at 80 and 96 MiB. -/
def generation (gen state boundary manifest : Nat) (s : State) : State :=
  poke (if gen = 0 then 0x5000000 else 0x6000000) (parted.dev.base.ckRecord gen state 1 boundary manifest 0 0 0 (List.replicate 8 0)) s
def ckpting (x : Wb) (s : State := parted) : State :=
  put .DOCK_CK_GENA 40 0 0 0x5000000 (put .DOCK_CK_GENB 40 0 0 0x6000000 (held ckpt x s))
def ckWb (op oparg step arg : Nat) (descs : List (List Byte) := [[], [], [], []]) : Wb :=
  { wb op 0 oparg arg descs with step := step, bytes := leBytes 1 op ++ leBytes 1 0 ++ leBytes 4 0 ++ leBytes 2 oparg ++ leBytes 28 0 ++ leBytes 4 arg ++ leBytes 8 step ++ leBytes 16 0 }

/-- What OPEN and COMMIT find: the waybill's generation and the other, and the manifest of one entry. -/
def generations (s : State) (x : Wb) : Option (List Byte) × Option (List Byte) × Bool :=
  match s.work.base.ckRead (s.work.base.cx ckpt x).req 0 x.ckGen with
  | (b1, mine) => match b1.ckRead (s.work.base.cx ckpt x).req 0 (1 - x.ckGen) with
    | (b2, other) => match b2.readBytes (s.work.base.cx ckpt x).req (b2.ckEntry 0 x.ckGen 0) (64 * x.arg) with
      | (_, m, bad) => (mine, other, !bad && (List.range x.arg).all fun i => ckEntryGood (slice m (64 * i) 64) x.ckGen (ckBoundary (mine.getD [])))
def ckOk (s : State) (x : Wb) (op : Nat) (p : Option (List Byte) × Option (List Byte) × Bool → Bool) : Bool :=
  s.dev.unitRuns ckpt && s.work.ckReady ckpt 0 0 op == some (x, 0) && p (generations s x)

/-- A copy of 256 bytes under way, and a restore, with words of its progress. -/
def copyWb : Wb := { ckWb 0x80 0 0 0 [desc 0x7000000 0x406 32 1, desc 0x8000000 0x406 32 1, [], []] with aux := ckAux 0x7000000 0x8000000 0 256 0 digestCfg.init false 0 }
def bigCopy : Wb := { copyWb with aux := ckAux 0x7000000 0x8000000 0 4352 0 digestCfg.init false 0 }
def restWb (want : Nat) (len : Nat := 8) : Wb := { ckWb 0x80 4 0 0 with aux := ckAux 0x7000000 0x8000000 0 len 0 digestCfg.init false want }
def zeros : Nat := digest (List.replicate 8 0)
/-- What a block of a copy or restore comes to: whether it goes on, whether poison was read, and whether the digest is the wanted one. -/
def copied (s : State) (y : Wb) : Bool × Bool × Bool :=
  match s.work.ckBlock ckpt 0 y false with
  | (_, z) => (decide (4096 * z.next < z.aux.getD 3 0), z.aux.getD 6 0 == 1, digestCfg.finish (z.aux.getD 5 0) == z.aux.getD 7 0)
def isReady (s : State) (x : Wb) : Bool := s.dev.unitRuns ckpt && s.work.ckReady ckpt 0 0 0x80 == some (x, 0)
def copyStarts (s : State) (x : Wb) : Bool := match x.desc 0, x.desc 1 with | some a, some d => (s.work.ckCopyBegin ckpt x a d).2.isSome | _, _ => false
def restoreStarts (s : State) (x : Wb) : Bool := (s.work.ckRestoreBegin ckpt x).2.isSome
def entry (boundary want : Nat) (s : State) : State := poke 0x5001000 (ckManifest 0x8000000 0x7000000 256 want boundary 0 0) s

theorem witness_CheckpointsOpenCopyCommitRestore :
    -- OPEN of A: A is the newest; B holds the boundary; neither
    (∀ c ∈ [(generation 0 1 7 0, true, none), (generation 1 1 3 0, false, some 3), (id, false, none)],
      ckOk (c.1 (ckpting (ckWb 0x80 1 3 0))) (ckWb 0x80 1 3 0) 0x80 (fun g => ckIsNewest (ckValid g.1) (ckValid g.2.1) == c.2.1 && ckValid g.2.1 == c.2.2) = true) ∧
    ((ckWb 0x80 1 3 0).ckOpen = true ∧ (ckWb 0x80 1 3 0).step = 3) ∧
    -- COMMIT: no record; not open; the other's boundary; a good and a bad manifest
    ckOk (ckpting (ckWb 0x81 0 0 1)) (ckWb 0x81 0 0 1) 0x81 (fun g => g.1.isNone) = true ∧
    (let s := generation 0 1 7 0 (ckpting (ckWb 0x81 0 0 1)); ckOk s (ckWb 0x81 0 0 1) 0x81 (fun g => g.1.isSome && ckState (g.1.getD []) != 0) = true) ∧
    (∀ c ∈ [(generation 1 1 7 0, true, false), (entry 7 0, false, true), (id, false, false)],
      ckOk (c.1 (generation 0 0 7 0 (ckpting (ckWb 0x81 0 0 1)))) (ckWb 0x81 0 0 1) 0x81
        (fun g => g.1.isSome && ckState (g.1.getD []) == 0 && (ckValid g.2.1 == some (ckBoundary (g.1.getD []))) == c.2.1 && g.2.2 == c.2.2) = true) ∧
    -- COPY: refused; a block of two; poisoned; listed
    (let x := { copyWb with aux := [] }
     isReady (ckpting x) x = true ∧ copyStarts (ckpting x) x = false ∧ isReady (generation 0 0 7 0 (ckpting x)) x = true ∧ copyStarts (generation 0 0 7 0 (ckpting x)) x = true) ∧
    (copyWb.ckOpen = false ∧ copyWb.ckRestore = false ∧ isReady (ckpting copyWb) copyWb = true ∧ copyStarts (ckpting copyWb) copyWb = true ∧
      isReady (ckpting bigCopy) bigCopy = true ∧ copyStarts (ckpting bigCopy) bigCopy = true ∧ (copied (ckpting bigCopy) bigCopy).1 = true ∧
      (copied (ckpting copyWb) copyWb).1 = false ∧ (copied (ckpting copyWb) copyWb).2.1 = false ∧
      (copied (spoil 0x7000000 (ckpting copyWb)) copyWb).1 = false ∧ (copied (spoil 0x7000000 (ckpting copyWb)) copyWb).2.1 = true) ∧
    -- RESTORE: refused; begun; a block of two; the four ends
    (let x := { restWb 0 with aux := [] }
     isReady (ckpting x) x = true ∧ restoreStarts (ckpting x) x = false ∧ restoreStarts (entry 7 0 (generation 0 1 7 0 (ckpting x))) x = true) ∧
    ((restWb 0).ckOpen = false ∧ (restWb 0).ckRestore = true ∧ isReady (ckpting (restWb 0)) (restWb 0) = true ∧ restoreStarts (ckpting (restWb 0)) (restWb 0) = true ∧
      (copied (ckpting (restWb 0 4352)) (restWb 0 4352)).1 = true ∧
      copied (ckpting (restWb zeros)) (restWb zeros) = (false, false, true) ∧ copied (ckpting (restWb 0)) (restWb 0) = (false, false, false)) ∧
    -- a copy of a fenced stack's engine
    (let s := put .DOCK_MS_ID 8 0 0 1024 (ckpting copyWb)
     isReady s copyWb = true ∧ copyStarts s copyWb = true ∧ s.work.base.stackFenced 0 = true ∧ (ckpting copyWb).work.base.stackFenced 0 = false) ∧
    (let y := restWb 0
     (copied (spoil 0x7000000 (ckpting y)) y).1 = false ∧ (copied (spoil 0x7000000 (ckpting y)) y).2.1 = true ∧ (copied (spoil 0x7000000 (ckpting y)) y).2.2 = false) ∧
    (let y := restWb zeros
     isReady (spoil 0x7000000 (ckpting y)) y = true ∧ copied (spoil 0x7000000 (ckpting y)) y = (false, true, true)) := by decide +kernel

theorem witness_DaybookRegistersNeedQuiet :
    (parted.writesReg (.master 1) ⟨.DOCK_DB_STEP, 40, 0, 0, 0⟩ (2 ^ 64 - 1) 1 parted.dev.cleared ∧ parted.dev.cleared.work.quiet 0 = true) ∧
    ((held tile (wb 0xF0 0 0 0)).writesReg (.master 1) ⟨.DOCK_DB_STEP, 40, 0, 0, 0⟩ 5 1 (held tile (wb 0xF0 0 0 0)).dev.cleared ∧
      (held tile (wb 0xF0 0 0 0)).dev.cleared.work.quiet 0 = false) ∧
    (∀ data ∈ [0, 1], parted.writesReg (.master 1) ⟨.DOCK_DB_CTL, 40, 0, 0, 0⟩ data 1 parted.dev.cleared ∧
      fget (parted.dev.cleared.newValue .DOCK_DB_CTL 40 0 0 0 data) 0 1 = data) ∧
    fget (parted.dev.cleared.work.base.rd .DOCK_DB_CTL 40 0 0) 0 1 = 0 ∧
    (held tile (wb 0xF0 0 0 0)).writesReg (.master 1) ⟨.DOCK_DB_CTL, 40, 0, 0, 0⟩ 1 1 (held tile (wb 0xF0 0 0 0)).dev.cleared := by
  refine ⟨⟨master_writesReg _ _ _ _ (by decide +kernel), by decide +kernel⟩, ⟨master_writesReg _ _ _ _ (by decide +kernel), by decide +kernel⟩,
    fun data h => ⟨master_writesReg _ _ _ _ ?_, ?_⟩, by decide +kernel, master_writesReg _ _ _ _ (by decide +kernel)⟩
  · revert data; decide +kernel
  · revert data; decide +kernel

/-- Free unit 0 of CD0, for the CRC of 8 bits of 256 bytes at an address. -/
def freeJob (cfg status expect addr : Nat) (s : State := parted) : State :=
  put .CHK_FU_CFG 0 0 0 (8 + cfg) (put .CHK_FU_STATUS 0 0 0 status (put .CHK_FU_EXPECT 0 0 0 expect (put .CHK_FU_INIT 0 0 0 0 <| put .CHK_FU_POLY 0 0 0 7 (put .CHK_FU_LEN 0 0 0 8
    (put .CHK_FU_ADDR 0 0 0 addr s)))))
def ctl : RegAt := ⟨.CHK_FU_CTL, 0, 0, 0, 0⟩
def jobEnds (s : State) (p : Nat → Bool) : Bool :=
  s.dev.dieRuns 0 && s.work.base.fuBusy 0 0 && match s.work.base.fuJob 0 0 none with | (_, .inl reg) => p ((s.work.base.fuCfg 0 0).finish reg) | _ => false

theorem witness_FreeUnitsRunJobs :
    (freeUnit 0 0 = true ∧ freeUnit 43 3 = true ∧ freeUnit 0 7 = true) ∧
    ((freeJob 0 1 0 0x200000).writesReg (.master 0) ctl 1 0 (freeJob 0 1 0 0x200000).dev.cleared ∧ (freeJob 0 1 0 0x200000).dev.cleared.base.fuBusy 0 0 = true ∧
      (freeJob 0 0 256 0x200000).writesReg (.master 0) ctl 1 0 (freeJob 0 0 256 0x200000).dev.cleared ∧
      (freeJob 0 0 256 0x200000).dev.cleared.base.fuRefused 0 0 0 = true ∧
      (freeJob 0 0 255 0x200000).writesReg (.master 0) ctl 1 0 (freeJob 0 0 255 0x200000).dev.cleared ∧
      (freeJob 0 0 255 0x200000).dev.cleared.base.fuBusy 0 0 = false ∧ (freeJob 0 0 255 0x200000).dev.cleared.base.fuRefused 0 0 0 = false ∧
      (freeJob 0 1 0 0x200000).writesReg (.master 0) ctl 2 0 (freeJob 0 1 0 0x200000).dev.cleared) ∧
    (jobEnds (freeJob 0 1 0 0x200000) (fun _ => (freeJob 0 1 0 0x200000).work.base.rf 10 1 .CHK_FU_CFG 0 0 0 == 0) = true ∧
      jobEnds (freeJob 0x400 1 0 0x200000) (fun r => (freeJob 0x400 1 0 0x200000).work.base.rf 10 1 .CHK_FU_CFG 0 0 0 == 1 && r == 0) = true ∧
      jobEnds (freeJob 0x400 1 1 0x200000) (fun r => (freeJob 0x400 1 0 0x200000).work.base.rf 10 1 .CHK_FU_CFG 0 0 0 == 1 && r != 1) = true) ∧
    (match (spoil 0x200000 (freeJob 0 1 0 0x200000)).work.base.fuJob 0 0 none with | (_, .inr (0, 1)) => true | _ => false) = true ∧
    (parted.dev.dieRuns 0 = true ∧ d2dLink 0 6 = true ∧ bget (parted.work.base.rd .CHK_D2D_STATE 0) 0 = false ∧ bget (parted.work.base.rd .CHK_D2D_STATE 0) 6 = false ∧
      d2dOther 0 0 = some (40, 0) ∧ d2dOther 0 6 = none) := by
  refine ⟨by decide, ⟨master_writesReg _ _ _ _ (by decide +kernel), by decide +kernel, master_writesReg _ _ _ _ (by decide +kernel), by decide +kernel,
    master_writesReg _ _ _ _ (by decide +kernel), by decide +kernel, by decide +kernel, master_writesReg _ _ _ _ (by decide +kernel)⟩,
    by decide +kernel, by decide +kernel, by decide +kernel⟩

/-- A STATFEED of one piece and a PRECOND of one output tile for each phase, with descriptors of 128 × 128 matrices. -/
def sfWb : Wb := wb 0x0A 0 0 4096 [desc 0x200000 0x404 128 128, [], [], []]
def preWb (full next : Nat) : Wb :=
  { wb 9 0 0 0 [desc 0x200000 0x404 128 128, desc 0x300000 0x404 128 128, [], desc 0x400000 0x404 128 128] with aux := [full], next := next }
def noSets (s : State) : State := put .ACC_SET0 0 0 0 2 (put .ACC_SET1 0 0 0 2 s)
def onProduct (s : State) (op : Nat) (x : Wb) (p : Work → Job → Bool) : Bool :=
  runOk s tile op x && fetched s tile && match s.work.jobOf tile 0 0 with | some j => !j.moved && p s.work j | none => false

theorem witness_StatisticsAndPreconditioningRun :
    (runOk (held tile sfWb) tile 0x0A sfWb = true ∧ fetched (held tile sfWb) tile = true ∧ (sfWb.desc 0).isSome = true ∧ (held tile sfWb).work.jobOf tile 0 0 = none) ∧
    (sfWb.next < sfWb.sfCount ∧ sfWb.next + 1 = sfWb.sfCount ∧
      onProduct (product sfWb (job none)) 0x0A sfWb (fun w j => (w.productSet tile sfWb j).isSome) = true ∧
      onProduct (noSets (product sfWb (job none))) 0x0A sfWb (fun w j => (w.productSet tile sfWb j).isNone) = true) ∧
    (runOk (held tile (preWb 0 0)) tile 9 (preWb 0 0) = true ∧ fetched (held tile (preWb 0 0)) tile = true ∧ (preWb 0 0).preFull = false ∧
      preTiles (Desc.parse (desc 0x200000 0x404 128 128)) = 1 ∧ (preWb 0 0).desc 0 = some (Desc.parse (desc 0x200000 0x404 128 128)) ∧
      ((preWb 0 0).desc 1).isSome = true ∧ ((preWb 0 0).desc 3).isSome = true) ∧
    (∀ n ∈ [0, 1], (preWb 1 n).preFull = true ∧
      onProduct (product (preWb 1 n) (job none)) 9 (preWb 1 n) (fun w j => (w.productSet tile (preWb 1 n) j).isSome) = true ∧
      onProduct (noSets (product (preWb 1 n) (job none))) 9 (preWb 1 n) (fun w j => (w.productSet tile (preWb 1 n) j).isNone) = true) := by decide +kernel

/-- A STATFEED of one piece that failed its check, to be replayed. -/
def sfFailed : Wb := { wb 0x0A 0 0 4096 [desc 0x200000 0x404 1 1, [], [], []] with done := 1 }

theorem witness_ReplaysOfStatisticsConclude :
    let s := product sfFailed failedJob
    s.dev.unitRuns tile = true ∧ s.work.wb? tile 0 0 = some sfFailed ∧ sfFailed.phase = .running ∧ sfFailed.opcode = 0x0A ∧
      s.work.jobOf tile 0 0 = some failedJob ∧ s.work.base.tileOf tile = some (0, 0) ∧ failedJob.members = [(0, 0)] ∧ sfFailed.sfCount = 1 ∧
      s.work.replayTileFor tile sfFailed false = some 64 := by decide +kernel

/-- A stage descriptor of block 1 whose sides are 1, or 128 for folds, MODE 2, of some KIND; a timetable entry due in every step. -/
def sdBytes (side kind : Nat) (damp : Nat := 0x3F800000) : List Byte :=
  leBytes 8 0x200000 ++ leBytes 8 0x300000 ++ leBytes 8 0x400000 ++ leBytes 4 side ++ leBytes 4 side ++ leBytes 4 0 ++ leBytes 4 0x3F800000 ++ leBytes 4 1 ++ leBytes 1 2
    ++ leBytes 19 0 ++ leBytes 1 kind ++ leBytes 2 0 ++ leBytes 1 20 ++ leBytes 4 0 ++ leBytes 4 damp ++ leBytes 52 0
def ttBytes (op : Nat) : List Byte := leBytes 1 op ++ leBytes 1 0 ++ leBytes 2 0 ++ leBytes 2 1 ++ leBytes 2 0 ++ leBytes 8 0
def engine (c : CrvSt) (s : State := parted) : State := onWork (fun w => w.setCrv 0 c) s
def ttctl : RegAt := ⟨.CRV_TTCTL, 0, 0, 0, 0⟩
def delta (block : Nat) (data : List Nat) : DeltaPiece := ⟨0, 0, block, 0, 0, 128, 0, tile, data⟩
def foldRun : Wb := { wb 0x20 0 0 4096 with aux := [1] }
def folding (data : List Nat) : State := engine { sd := [sdBytes 128 1], tt := [ttBytes 1], held := [delta 1 data], folds := [{ sd := 0, opener := some (0, 0) }] } (held crv foldRun)
def foldsAs (data : List Nat) : Bool :=
  (folding data).dev.unitRuns (crvUnit 0) && match (folding data).work.foldable 0 with
    | some (d, k, _) => d == delta 1 data && k == 0
    | none => false
theorem fold_of_nothing (b : Base) (e blk : Nat) (sd : List Byte) : (b.foldRows e (delta blk []) sd).2.2 = true := by
  unfold Base.foldRows
  simp only [delta, List.drop_nil, List.take_nil, List.map_nil, Bool.and_eq_true, List.all_eq_true]
  refine ⟨fun x h => ?_, fun x h => ?_⟩
  · obtain ⟨i, -, rfl⟩ := List.mem_map.1 h; intro y hy; cases hy
  · obtain ⟨r, hr, rfl⟩ := List.mem_map.1 h
    obtain ⟨i, -, h2⟩ := List.mem_map.1 (List.of_mem_zip hr).2
    rw [← h2]; simp
theorem fold_of_infinity (b : Base) (e : Nat) (sd : List Byte) (hs : sdGamma sd = 0x3F800000) :
    (b.foldRows e (delta 1 [0x7F800000]) sd).2.2 = false := by
  have h : f32mul 0x3F800000 0x7F800000 = 0x7F800000 := by decide +kernel
  unfold Base.foldRows
  dsimp only
  rw [hs, Bool.and_eq_false_iff]
  refine .inl (List.all_eq_false.2 ⟨[0x7F800000], List.mem_map.2 ⟨0, by decide, ?_⟩, by decide⟩)
  simp [delta, h]

theorem witness_CurvatureInstallsAndFolds :
    (cd (0 / 4) = 0 / 4 ∧ up.writesReg (.master 0) ttctl 1 0 up.dev.cleared ∧ up.dev.cleared.work.base.partOfCrv 0 = none ∧
      parted.writesReg (.master 0) ttctl 1 0 parted.dev.cleared ∧ parted.dev.cleared.work.base.partOfCrv 0 = some 0 ∧
      (parted.dev.cleared.work.unit (crvUnit 0)).window = [] ∧ (parted.dev.cleared.work.crv 0).held = []) ∧
    (parted.dev.unitRuns (crvUnit 0) = true ∧
      ((engine { installing := some (some (1, 0), [], []) }).work.crv 0).installing = some (some (1, 0), [], []) ∧
      ((engine { installing := some (none, [sdBytes 1 1], []) }).work.crv 0).installing = some (none, [sdBytes 1 1], [])) ∧
    (∀ b ∈ [1, 2],
      let s := onWork (fun w => { w with curv := { w.curv with flying := [delta b []] } }) (folding [])
      (s.dev.unitRuns (crvUnit 0) && !s.dev.holds 3 (cd (0 / 4)) (0 % 4)) = true ∧
      (s.work.curv.flying.find? (fun d => d.engine == 0)).isSome = true ∧
      (b = 1 → let s := onWork (fun w => w.setCrv 0 { w.crv 0 with held := [] }) s; s.work.crvJudge 0 (s.work.base.stepOf 0) (delta b []) = none) ∧
      (b = 2 → s.work.crvJudge 0 (s.work.base.stepOf 0) (delta b []) = some (1, 0x0805))) ∧
    (foldsAs [] = true ∧ ((folding []).work.base.foldRows 0 (delta 1 []) (sdBytes 128 1)).2.2 = true ∧ foldsAs [0x7F800000] = true ∧
      ((folding [0x7F800000]).work.base.foldRows 0 (delta 1 [0x7F800000]) (sdBytes 128 1)).2.2 = false) ∧
    (runOk (held crv (wb 0x20 0 0 4096)) crv 0x20 (wb 0x20 0 0 4096) = true ∧ crvOf crv = some 0 ∧ (wb 0x20 0 0 4096).aux = []) ∧
    (((folding []).work.foldWb 0).isSome = true ∧
      (foldRun.startTime + (at_ 5 (put .CRV_FEEDLIMIT 0 0 0 5 (folding []))).work.base.rf 0 32 .CRV_FEEDLIMIT 0 0 ≤ 5) ∧
      5 < foldRun.startTime + (at_ 5 (put .CRV_FEEDLIMIT 0 0 0 6 (folding []))).work.base.rf 0 32 .CRV_FEEDLIMIT 0 0) := by
  refine ⟨⟨by decide, master_writesReg _ _ _ _ (by decide +kernel), by decide +kernel, master_writesReg _ _ _ _ (by decide +kernel), by decide +kernel⟩,
    ⟨by decide +kernel, by decide +kernel, by decide +kernel⟩, by decide +kernel, ⟨by decide +kernel, fold_of_nothing _ _ _ _, by decide +kernel, fold_of_infinity _ _ _ (by decide +kernel)⟩,
    by decide +kernel, by decide +kernel⟩

/-- A refresh on engine 0: one timetable entry and descriptor of side 1, a CRV_ROOT or CRV_INV that has begun, and what else is due. -/
def refWb (op next : Nat) (flags : Nat := 0) (deadline : Nat := 0) : Wb :=
  { wb op flags 0 4096 with
    aux := [1, 1]
    next := next
    bytes := leBytes 1 op ++ leBytes 1 flags ++ leBytes 4 0 ++ leBytes 2 0 ++ leBytes 28 0 ++ leBytes 4 4096 ++ leBytes 16 0 ++ leBytes 8 deadline }
def refreshing (damp : Nat) (x : Wb) (c : CrvSt := {}) (s : State := parted) : State :=
  at_ 1 (poke 0x200000 (leBytes 4 0x3F800000) (poke 0x300000 (leBytes 4 0x3F800000)
    (engine { c with sd := [sdBytes 1 4 damp], tt := [ttBytes (if x.opcode = 0x21 then 2 else 3)] ++ c.tt } (held crv x s))))
def refOk (s : State) (x : Wb) : Bool :=
  runOk s crv x.opcode x && (s.work.crv 0).refresh.isNone && (s.work.refEntry 0 x).isSome && !x.refReplay && !x.aux.isEmpty
/-- The result of a refresh. -/
def refResult (s : State) (x : Wb) (stop : Option Nat) : Option Nat :=
  match s.work.refEntry 0 x with
  | some (t, sd) => match s.work.base.dieRead x.part (sdRoots sd) 8 with
    | (b1, some word) => match b1.dieRead x.part (sdRoots sd + 8) 8 with
      | (b2, some info) => some (Work.refCompute { s.work with base := b2 } 0 x t sd word info (if x.hasDeadline then stop else none) .free).2.result
      | _ => none
    | _ => none
  | none => none
def pairOf (late waited : Bool) : PendingPair := ⟨0, 0, 0, 1, 0, 0, false, 0, 0, 0, 0, late, waited, [], [], []⟩

def pending (rw : Nat) (late : Bool) (x : Wb) (waited : Bool := false) (c : CrvSt := {}) : State :=
  poke 0x400000 (leBytes 8 rw) (refreshing 0x3F800000 x { c with refresh := some (pairOf late waited) })
/-- Whether the published word's other pair is held, the deadline had passed before its wait, and it has passed now. -/
def pendingOk (s : State) (held late passed : Bool) (waited : Bool := false) : Bool :=
  s.dev.unitRuns (crvUnit 0) && match s.work.refPending 0 with
    | some (r, y, _, sd) => r.late == late && r.waited == waited && !y.refReplay && (match s.work.base.dieRead y.part (sdRoots sd) 8 with
        | (b, some word) => (nget word (16 + 16 * (1 - word % 2)) 16 != 0) == held && b.refPassed y == passed
        | _ => false)
    | none => false
/-- A fold of the descriptor is due and open. -/
def dueFold : CrvSt := { tt := [ttBytes 1] }

/-- A refresh that replays, its record at 112 MiB. -/
def replayWb (op : Nat) : Wb := { wb op 0 2 4096 [desc 0x7000000 0x406 1 1, [], [], []] with aux := [1, 1] }
def replaying (op cause iters : Nat) : State := poke 0x7000000 (leBytes 8 (logRecord 0 3 false cause iters)) (refreshing 0x3F800000 (replayWb op))
def recordOf (s : State) (x : Wb) : Option (Nat × Nat) := (s.work.refRecord crv x).2.map fun v => (v / 2 ^ 28 % 16, v / 2 ^ 32 % 256)

theorem witness_RefreshesConcludeTheirBlocks :
    (crvOf crv = some 0 ∧ (wb 0x21 0 0 4096).aux = [] ∧
      (∀ op ∈ [0x21, 0x22], runOk (held crv (wb op 0 0 4096)) crv op (wb op 0 0 4096) = true)) ∧
    (∀ op ∈ [0x21, 0x22],
      -- passed; waiting for a fold; computing
      (refOk (refreshing 0 (refWb op 0 8 0)) (refWb op 0 8 0) = true ∧ (refreshing 0 (refWb op 0 8 0)).work.base.refPassed (refWb op 0 8 0) = true) ∧
      (refOk (refreshing 0 (refWb op 0) dueFold) (refWb op 0) = true ∧
        (refreshing 0 (refWb op 0) dueFold).work.refWaits 0 (refWb op 0) (ttBytes (if op = 0x21 then 2 else 3)) = true) ∧
      (refOk (refreshing 0 (refWb op 0)) (refWb op 0) = true ∧ (refreshing 0 (refWb op 0)).work.base.refPassed (refWb op 0) = false ∧
        (refreshing 0 (refWb op 0)).work.refWaits 0 (refWb op 0) (ttBytes (if op = 0x21 then 2 else 3)) = false)) ∧
    (refResult (refreshing 0 (refWb 0x22 0)) (refWb 0x22 0) none = some 3 ∧ refResult (refreshing 0x3F800000 (refWb 0x22 0)) (refWb 0x22 0) none = some 1) ∧
    (pendingOk (pending (2 ^ 32) false (refWb 0x22 0)) true false false = true ∧ pendingOk (pending (2 ^ 32) true (refWb 0x22 0)) true true false = true ∧
      pendingOk (pending (2 ^ 32) false (refWb 0x22 0 8 0)) true false true = true ∧
      pendingOk (pending 0 false (refWb 0x22 0 8 0) true) false false true true = true ∧
      pendingOk (pending 0 false (refWb 0x22 0)) false false false = true ∧ pendingOk (pending 0 false (refWb 0x22 0) true) false false false true = true) ∧
    -- the pair's wait has begun, or has not, when its deadline passes
    (∀ waited ∈ [true, false], ((pending 0 false (refWb 0x22 0 8 0) waited).work.crv 0).refresh = some (pairOf false waited)) ∧
    -- a replay: its record's cause is DEADLINE, at the start or at boundary 3, or HELD
    (∀ c ∈ [(0x22, 1, 0), (0x21, 1, 0xFF), (0x21, 1, 3), (0x22, 2, 0)],
      recordOf (replaying c.1 c.2.1 c.2.2) (replayWb c.1) = some (c.2.1, c.2.2) ∧ (replaying c.1 c.2.1 c.2.2).work.base.refPassed (replayWb c.1) = false ∧
      runOk (replaying c.1 c.2.1 c.2.2) crv c.1 (replayWb c.1) = true ∧ ((replaying c.1 c.2.1 c.2.2).work.refEntry 0 (replayWb c.1)).isSome = true) ∧
    (∀ op ∈ [0x21, 0x22], runOk (pending 0 false (refWb op 0 8 0)) crv op (refWb op 0 8 0) = true ∧
      (pending 0 false (refWb op 0 8 0)).work.base.refPassed (refWb op 0 8 0) = true ∧ ((pending 0 false (refWb op 0 8 0)).work.refPending 0).isSome = true ∧
      (refOk (refreshing 0 (refWb op 0 8 0) dueFold) (refWb op 0 8 0) = true ∧
        (refreshing 0 (refWb op 0 8 0) dueFold).work.refWaits 0 (refWb op 0 8 0) (ttBytes (if op = 0x21 then 2 else 3)) = true)) := by
  and_intros <;> decide +kernel

/-- An UPD_APPLY of one slice of stack 0, its gradient in memory or from the pool, its moments in memory or in the far tier. -/
def applyWb (grad : Bool) (far : Bool := false) : Wb :=
  wb 0x40 0 0 0 [desc 0x200000 0x401 2048 1, if grad then desc 0x300000 0x404 2048 1 else [], if far then desc (2 ^ 46) 0x401 2048 1 else [], []]
def applying (x : Wb) (u : Update := {}) : State := onWork (fun w => { w with upd := u }) (held upd x)
def applyOk (x : Wb) (u : Update) (p : Work → Wb → Nat → Desc → Bool) : Bool :=
  (applying x u).dev.unitRuns upd && match (applying x u).work.applyOf upd 0 0 with | some (x, n, d) => p (applying x u).work x n d | none => false
def finished : Update := { norms := [(((applyWb true).number), [(0, 0, 0)])] }
/-- Whether every slice of the unit is done after the ready ones. -/
def allDone (w : Work) (x : Wb) (n : Nat) (d : Desc) : Option Bool :=
  let v := (w.base.slicesOn n d).foldl (fun (w : Work) c => w.sliceUpdate upd 0 0 c.1) w
  (v.wb? upd 0 0).map fun _ => (w.base.slicesOn n d).all fun c => (Map.find c.1 (v.slicesDone x)).isSome

def piece (part tag : Nat) : GradPiece := { addr := 0x200000, part := part, tag := tag, spender := tile, data := [] }
def intake (p : GradPiece) (pool : List GradPiece) : State :=
  onWork (fun w => { w with upd := { flying := [p], pools := if pool.isEmpty then [] else [(0, pool)] } }) (put .DOCK_DB_STEP 40 0 0 1 parted)
/-- The piece's partition owns the stack; it is of a past step; it is there already. -/
def intakeIs (p : GradPiece) (pool : List GradPiece) : Bool × Bool × Bool :=
  let s := intake p pool
  let w : Work := { s.work with upd := { s.work.upd with flying := s.work.upd.flying.erase p } }
  ((s.dev.pwr.ready && !(upto 4 (8 + 4 * 0)).any fun d => s.dev.holds 4 d 1) && s.work.upd.flying.find? (s.work.base.inQuartet 0) == some p &&
    (match s.work.base.place p.addr with | .stack st _ => w.base.partOfStack st == some p.part | _ => false),
   older 16 p.tag (w.base.stepOf p.part), p.tag == w.base.stepOf p.part % 65536 && (w.pool 0).any p.same)

def tieWb (n : Nat) : Wb := wb 0x41 0 0 0 [desc 0x200000 0x404 n 1, [], desc 0x300000 0x404 n 1, []]
def exportWb (next d : Nat) : Wb := { wb 0x42 0 0 0 [desc 0x200000 0x401 d 1, desc 0x300000 0x406 128 1, [], []] with next := next }

theorem witness_UpdateUnitsUpdateSlices :
    (intakeIs (piece 1 1) [] = (false, false, false) ∧ (intake (piece 1 1) []).dev.pwr.ready = true ∧
      (intake (piece 1 1) []).work.upd.flying.find? ((intake (piece 1 1) []).work.base.inQuartet 0) = some (piece 1 1)) ∧
    (intakeIs (piece 0 0) [] = (true, true, false) ∧ intakeIs (piece 0 1) [piece 0 1] = (true, false, true) ∧ intakeIs (piece 0 1) [] = (true, false, false)) ∧
    -- no gradient; gradient from memory; far state, with its slot free or taken
    (applyOk (applyWb false) {} (fun w x n d => !w.sliceMay n x d 0 0 0) = true ∧
      applyOk (applyWb true) {} (fun w x n d => w.sliceMay n x d 0 0 0 && !w.base.sliceFar x) = true ∧
      applyOk (applyWb true true) {} (fun w x n d => w.sliceMay n x d 0 0 0 && w.base.sliceFar x && decide ((w.farSlots n).length < 512)) = true ∧
      applyOk (applyWb true true) { farWait := [(0, [{ queue := 0, seq := 0, slice := 0, grad := [] }])] }
        (fun w _ n _ => ((w.farSlots n).find? (·.isOf 0 0 0)).isSome) = true) ∧
    (applyOk (applyWb true) finished (fun w x n d => allDone w x n d == some true) = true ∧
      applyOk (applyWb false) {} (fun w x n d => allDone w x n d == some false) = true) ∧
    (∀ n ∈ [1, 1025], runOk (held upd (tieWb n)) upd 0x41 (tieWb n) = true ∧ ((tieWb n).desc 0).isSome = true ∧ ((tieWb n).desc 2).isSome = true ∧
      (((tieWb n).desc 0).map (·.d0)) = some n) ∧
    (∀ c ∈ [(0, 2048, 1), (1, 2048, 1), (0, 10240, 2)], runOk (held upd (exportWb c.1 c.2.1)) upd 0x42 (exportWb c.1 c.2.1) = true ∧
      ((exportWb c.1 c.2.1).desc 1).isSome = true ∧
      (((exportWb c.1 c.2.1).desc 0).map fun d => (parted.work.base.slicesOn 0 d).length) = some c.2.2) ∧ updOf upd = some 0 := by decide +kernel

/-- Line 0 of one member or two with this device at position 0 or 1, and a waybill of it. -/
def lined (pos size : Nat) (x : Wb) : State :=
  put .RING_CFG 40 0 0 (pos * 2 ^ 16 + 2 * 2 ^ 22) (put .RING_LINE 40 0 0 (1 + size * 64 + 2 ^ 13) (held ring x))
def begun (pos size op : Nat) (x : Wb) (p : Work → RingOp → Bool) : Bool :=
  let s := lined pos size x
  s.dev.unitRuns ring && s.work.ringBegin? ring 0 0 op == some x && p s.work (s.work.base.newOp ring x)
def bytes32 (a : Nat) : List Byte := desc a 0x406 4 1
/-- A SEND to the member that many ranks on, with a token or none, and a target of so many elements. -/
def sendWb (on : Nat) (token : Bool) (n : Nat) : Wb := wb 0x60 0 (on * 32 + b2n token * 2048) 9 [bytes32 0x200000, desc 0x300000 0x406 n 1, [], []]
def sendIs (on : Nat) (token : Bool) (n pos size : Nat) (own good : Bool) : Bool :=
  begun pos size 0x60 (sendWb on token n) fun w o => match (sendWb on token n).desc 0, (sendWb on token n).desc 1 with
    | some a, some t => match (w.addOp o).tensorBytes ((w.addOp o).base.cx ring (sendWb on token n)) a with
      | (w, l) => ((o.rank + (sendWb on token n).oparg / 32 % 64) % o.S == o.rank) == own && w.base.putTarget 0 t l.length == good
    | _, _ => false
def twoWb (op : Nat) (next : Nat := 0) : Wb := { wb op 0 0 4096 [bytes32 0x200000, bytes32 0x300000, [], []] with next := next }
/-- A line record, of epoch 1: all of a ring of two. -/
def resharding : Bool :=
  let x := wb 0x64 0 0 0 [desc 0x200000 0x406 4 1, [], [], []]
  let s := poke 0x200000 (leBytes 8 0 ++ leBytes 2 1 ++ leBytes 1 1 ++ leBytes 1 2 ++ leBytes 4 0) (lined 0 1 x)
  s.dev.unitRuns ring && s.work.ringBegin? ring 0 0 0x64 == some x && match x.desc 0 with
    | some d => match s.work.tensorBytes (s.work.base.cx ring x) d with
      | (w, l) =>
        let r := w.base.reshardOp ring x l
        let w1 := (((((w.addOp r).reshardEnds r).reshardInstall x.ringLine l).reshardTell r l ((r.rank + 1) % r.S)
          (r.eastTo r.rank ((r.rank + 1) % r.S))).reshardTell r l ((r.rank + r.S - 1) % r.S) (!(r.eastTo ((r.rank + r.S - 1) % r.S) r.rank))).reshardBegins ring x.ringLine
        r.S == 2 && (w1.ringOp? fun y => y.queue == 0 && y.seq == 0).isSome
    | none => false

theorem witness_RingWaybillsBegin :
    (sendIs 0 false 4 0 1 true true = true ∧ sendIs 0 true 4 0 1 true true = true ∧ sendIs 0 false 5 0 1 true false = true ∧
      sendIs 1 false 4 0 2 false true = true) ∧
    (begun 0 1 0x61 (twoWb 0x61) (fun _ o => decide (o.S ≤ 1)) = true ∧ begun 0 2 0x61 (twoWb 0x61) (fun _ o => decide (1 < o.S)) = true) ∧
    (begun 1 2 0x62 (twoWb 0x62) (fun _ o => o.rank != 0) = true ∧ begun 0 2 0x62 (twoWb 0x62) (fun _ o => o.rank == 0 && o.S != 1) = true ∧
      begun 0 1 0x62 (twoWb 0x62) (fun _ o => o.rank == 0 && o.S == 1) = true) ∧
    (((twoWb 0x63).desc 0).isSome = true ∧ begun 0 1 0x63 (twoWb 0x63) (fun _ o => decide (o.S ≤ 1)) = true ∧
      begun 0 2 0x63 (twoWb 0x63) (fun _ o => decide (1 < o.S) && o.rank == 0) = true ∧
      begun 1 2 0x63 (twoWb 0x63) (fun _ o => decide (1 < o.S) && o.rank != 0) = true) ∧
    resharding = true := by decide +kernel

/-! Frames whose check is good, whatever they carry. -/

theorem reverseBits_lt (w v : Nat) : reverseBits w v < 2 ^ w := by
  have h : ∀ (n : Nat) (r k : Nat) (l : List Nat), l.length = n → r < 2 ^ k → l.foldl (fun r i => 2 * r + v / 2 ^ i % 2) r < 2 ^ (k + n) := by
    intro n
    induction n with
    | zero => intro r k l hl hr; rw [List.length_eq_zero_iff.1 hl]; exact hr
    | succ n ih =>
      intro r k l hl hr
      cases l with
      | nil => cases hl
      | cons a l =>
        rw [List.foldl_cons, show k + (n + 1) = k + 1 + n by omega]
        exact ih _ _ l (Nat.succ.inj hl) (by rw [Nat.pow_succ]; omega)
  have := h w 0 0 (List.range w) List.length_range (by decide)
  rwa [Nat.zero_add] at this

theorem frame_check_lt (l : List Byte) : frameCfg.check l < 2 ^ 32 :=
  Nat.xor_lt_two_pow (reverseBits_lt 32 _) (by decide)

/-- A frame of a header of 24 bytes, a payload, and zeros, under the check of its fold prefix. -/
def framed (px h pay : List Byte) : List Byte := h ++ (pay ++ (leBytes 4 0 ++ leBytes 4 (frameCfg.check (px ++ (h ++ (pay ++ leBytes 4 0))))))

theorem leBytes_length (n v : Nat) : (leBytes n v).length = n := by simp [leBytes]

theorem field_left (a b : List Byte) (o n : Nat) (h : o + n ≤ a.length) : fieldAt (a ++ b) o n = fieldAt a o n := by
  unfold fieldAt slice
  have e : ((a ++ b).drop o).take n = (a.drop o).take n := by
    rw [List.drop_append_of_le_length (by omega), List.take_append_of_le_length (by simp; omega)]
  rw [e]

theorem field_right (a b : List Byte) (o n : Nat) : fieldAt (a ++ b) (a.length + o) n = fieldAt b o n := by
  unfold fieldAt slice
  rw [List.drop_length_add_append]

theorem ofLe_leBytes4 (v : Nat) (h : v < 2 ^ 32) : fieldAt (leBytes 4 v) 0 4 = v := by
  simp only [fieldAt, slice, leBytes, List.range, List.range.loop, List.map, List.drop, List.take, List.length, ofLe, List.append_nil,
    List.replicate, Nat.sub_self, BitVec.toNat_ofNat]
  omega

theorem framed_length (px h pay : List Byte) (hh : h.length = 24) : (framed px h pay).length = pay.length + 32 := by
  simp only [framed, List.length_append, leBytes_length, hh]; omega

theorem framed_field (px h pay : List Byte) (o n : Nat) (hh : h.length = 24) (ho : o + n ≤ 24) : fieldAt (framed px h pay) o n = fieldAt h o n :=
  field_left _ _ _ _ (by omega)

theorem framed_checked (px h pay : List Byte) (hh : h.length = 24) (hf : frameFolded h = true ∨ px = []) : frameChecked (framed px h pay) px = true := by
  have hl := framed_length px h pay hh
  have hx : (if frameFolded (framed px h pay) then px else []) = px := by
    have : frameFolded (framed px h pay) = frameFolded h := by unfold frameFolded; rw [framed_field _ _ _ _ _ hh (by omega)]
    rw [this]
    rcases hf with hf | hf
    · rw [hf, if_pos rfl]
    · rw [hf, ite_self]
  have e : framed px h pay = (h ++ (pay ++ leBytes 4 0)) ++ leBytes 4 (frameCfg.check (px ++ (h ++ (pay ++ leBytes 4 0)))) := by
    simp only [framed, List.append_assoc]
  have hn : (h ++ (pay ++ leBytes 4 0)).length = pay.length + 32 - 4 := by simp only [List.length_append, leBytes_length, hh]; omega
  have e1 : (framed px h pay).take (pay.length + 32 - 4) = h ++ (pay ++ leBytes 4 0) := by rw [e]; exact List.take_left' hn
  have e2 : fieldAt (framed px h pay) (pay.length + 32 - 4) 4 = frameCfg.check (px ++ (h ++ (pay ++ leBytes 4 0))) := by
    rw [e, ← hn, ← Nat.add_zero (h ++ (pay ++ leBytes 4 0)).length, field_right]
    exact ofLe_leBytes4 _ (frame_check_lt _)
  unfold frameChecked
  rw [hx, hl, e1, e2]
  exact beq_self_eq_true _

/-- What a header says of a frame whose payload is so long. -/
def headBad (h : List Byte) (n : Nat) : Bool :=
  (n + 32) % 32 != 0 || decide (n + 32 < 256 ∨ 16384 < n + 32) || fieldAt h 2 2 % 512 + 1 != (n + 32) / 32 || fieldAt h 2 2 ≥ 2048 || fieldAt h 0 1 % 16 ≥ 8
    || fieldAt h 4 1 ≥ 64 || fieldAt h 5 1 ≥ 64 || fieldAt h 11 1 ≥ 16 || fieldAt h 18 1 ≥ 64 || fieldAt h 19 1 != 0 || (frameFolded h && fieldAt h 1 1 != 0)
    || (!(fieldAt h 0 1 % 16 == 0 || fieldAt h 0 1 % 16 == 5 || fieldAt h 0 1 % 16 == 6) && fieldAt h 6 2 != 0)

theorem framed_formed (px h pay : List Byte) (hh : h.length = 24) (hb : headBad h pay.length = false) : frameMalformed (framed px h pay) = false := by
  have hl := framed_length px h pay hh
  have e : framed px h pay = (h ++ pay) ++ (leBytes 4 0 ++ leBytes 4 (frameCfg.check (px ++ (h ++ (pay ++ leBytes 4 0))))) := by
    simp only [framed, List.append_assoc]
  have h0 : fieldAt (framed px h pay) (pay.length + 32 - 8) 4 = 0 := by
    rw [e, show pay.length + 32 - 8 = (h ++ pay).length + 0 by rw [List.length_append, hh]; omega, field_right, field_left _ _ _ _ (by simp [leBytes_length])]
    decide
  have hf : frameFolded (framed px h pay) = frameFolded h := by unfold frameFolded; rw [framed_field _ _ _ _ _ hh (by omega)]
  unfold headBad at hb
  unfold frameMalformed
  simp only [hl, h0, hf, framed_field _ _ _ _ _ hh (show 2 + 2 ≤ 24 by omega), framed_field _ _ _ _ _ hh (show 0 + 1 ≤ 24 by omega),
    framed_field _ _ _ _ _ hh (show 4 + 1 ≤ 24 by omega), framed_field _ _ _ _ _ hh (show 5 + 1 ≤ 24 by omega), framed_field _ _ _ _ _ hh (show 11 + 1 ≤ 24 by omega),
    framed_field _ _ _ _ _ hh (show 18 + 1 ≤ 24 by omega), framed_field _ _ _ _ _ hh (show 19 + 1 ≤ 24 by omega),
    framed_field _ _ _ _ _ hh (show 1 + 1 ≤ 24 by omega), framed_field _ _ _ _ _ hh (show 6 + 2 ≤ 24 by omega)]
  simp only [Bool.or_eq_false_iff] at hb ⊢
  simp_all

/-- A header of a type, folded or with a sequence number, for a payload of so many bytes. -/
def headOf (type : Nat) (fold : Bool) (seq n : Nat) : List Byte := leBytes 1 (type + b2n fold * 16) ++ leBytes 1 seq ++ leBytes 2 (n / 32) ++ leBytes 20 0

theorem framed_payload (px h pay : List Byte) (hh : h.length = 24) : slice (framed px h pay) 24 ((framed px h pay).length - 32) = pay := by
  rw [framed_length _ _ _ hh, Nat.add_sub_cancel]
  unfold slice
  have e : (framed px h pay).drop 24 = pay ++ (leBytes 4 0 ++ leBytes 4 (frameCfg.check (px ++ (h ++ (pay ++ leBytes 4 0))))) := List.drop_left' hh
  rw [e, List.take_left' rfl]
  simp

/-- The good TEST frame n of link e. -/
def testGood (b : Base) (e n : Nat) : List Byte := framed (b.foldPrefix e n) (headOf 4 true 0 16352) (testPattern n)

theorem testGood_good (b : Base) (e n : Nat) : fieldAt (testGood b e n) 0 1 % 16 = 4 ∧ b.testBad e n (testGood b e n) = false := by
  have hh : (headOf 4 true 0 16352).length = 24 := by decide
  have hp : (testPattern n).length = 16352 := by simp [testPattern]
  refine ⟨by rw [testGood, framed_field _ _ _ _ _ hh (by omega)]; decide, ?_⟩
  have hf : frameFolded (testGood b e n) = true := by rw [testGood, frameFolded, framed_field _ _ _ _ _ hh (by omega)]; decide
  unfold Base.testBad
  rw [hf, testGood, framed_formed _ _ _ hh (by rw [hp]; decide +kernel), framed_checked _ _ _ hh (.inl (by decide)), framed_payload _ _ _ hh]
  simp

/-- A TRAIN frame. -/
def trainGood : List Byte := framed (foldTrain 0) (headOf 3 true 0 224) (List.replicate 224 0)

theorem trainGood_good : fieldAt trainGood 0 1 % 16 = 3 ∧ trainBad {} trainGood = false := by
  have hh : (headOf 3 true 0 224).length = 24 := by decide
  refine ⟨by rw [trainGood, framed_field _ _ _ _ _ hh (by omega)]; decide, ?_⟩
  have hf : frameFolded trainGood = true := by rw [trainGood, frameFolded, framed_field _ _ _ _ _ hh (by omega)]; decide
  unfold trainBad
  rw [hf, trainGood, framed_formed _ _ _ hh (by decide +kernel), show foldTrain ({} : RingEng).trains = foldTrain 0 from rfl,
    framed_checked _ _ _ hh (.inl (by decide))]
  rfl

theorem trainGood_first : frameMalformed trainGood = false ∧ frameFolded trainGood = true ∧ frameChecked trainGood (foldTrain 0) = true := by
  have hh : (headOf 3 true 0 224).length = 24 := by decide
  refine ⟨?_, ?_, ?_⟩ <;> rw [trainGood]
  · exact framed_formed _ _ _ hh (by decide +kernel)
  · rw [frameFolded, framed_field _ _ _ _ _ hh (by omega)]; decide
  · exact framed_checked _ _ _ hh (.inl (by decide))

/-- Link 0 of a device at position 0 of a ring of so many, in a state of its link. -/
def onRing (size state : Nat) (s : State := parted) : State :=
  put .RING_BYPASS 40 0 0 6 (put .RING_CFG 40 0 0 (size * 2 ^ 22) (put .RING_LASER 40 0 0 (3 + 1200 * 2 ^ 16) (put .RING_LINKST 40 0 0 (state + 0xF0000) s)))
/-- The same link without SENSE. -/
def unsensed (state : Nat) : State := put .RING_BYPASS 40 0 0 2 (onRing 2 state)
def opted (x : RingEng) (s : State) : State := onWork (fun w => w.setOpt 0 x) s
def train (b : Base) (pos loss : Nat) : TrainInfo := ⟨b.ringId, b.ringSize, pos, !facesEast 0, if facesEast 0 then 0 - 8 else 0 + 8, Machine.stepping, (List.range 8).map b.vcShare, loss⟩
def trainIs (size pos loss : Nat) : Bool × Nat := let b := (onRing size 2).work.base; (b.trainWrong 0 (train b pos loss), b.hops 0 pos)

theorem witness_LinksTrainAndFail :
    ((onRing 2 0).dev.pwr.iordy = true ∧ (onRing 2 0).work.mayTrain 0 15 = true ∧ (onRing 2 0).work.base.laserOk 0 = true ∧
      (onRing 2 0).work.mayTrain 0 8 = true ∧ ((onRing 2 0).work.base.lockLanes 0 15 []).eng 0 16 4 .RING_LINKST = 15 ∧
      ((onRing 2 0).work.base.lockLanes 0 8 [(3, 0)]).eng 0 16 4 .RING_LINKST = 8 ∧
      ((onRing 2 0).work.base.lockLanes 0 8 [(3, 0), (3, 1)]).eng 0 16 4 .RING_LINKST = 0 ∧
      (put .RING_LASER 40 0 0 3 (onRing 2 0)).work.mayTrain 0 15 = true ∧ (put .RING_LASER 40 0 0 3 (onRing 2 0)).work.base.laserOk 0 = false) ∧
    -- step 1 within its 5 ms, and past them
    (let w := (opted { lockSince := some 0 } (onRing 2 1)).work
     w.ring.engines = [(0, { lockSince := some 0 })] ∧ w.base.time < 0 + msTicks 5 ∧ w.base.linkState 0 = 1) ∧
    ((let s := at_ (msTicks 100) (opted { trainFailed := some 0 } (onRing 2 0)); (s.work.opt 0).trainFailed = some 0 ∧ 0 + msTicks 100 ≤ s.work.base.time) ∧
      (let s := at_ (msTicks 100) (opted { downSince := some 0 } (onRing 2 5))
       (s.work.opt 0).downSince = some 0 ∧ 0 + msTicks 100 ≤ s.work.base.time ∧ s.work.base.inService 0 = false) ∧
      (onRing 2 4).work.base.inService 0 = true ∧ ((onRing 2 4).work.opt 0).nextFrame [] ((onRing 2 4).work.opt 0).queue = none ∧
      (let x := (opted { queue := [{ type := 2 }] } (onRing 2 4)).work.opt 0; x.nextFrame [] x.queue = some { type := 2 })) ∧
    -- TRAIN: a frame that is good; the wrong ring; too far; too much loss; fitting
    ((fieldAt trainGood 0 1 % 16 = 3 ∧ trainBad {} trainGood = false) ∧ (frameMalformed trainGood = false ∧ frameFolded trainGood = true ∧ frameChecked trainGood (foldTrain 0) = true) ∧
      (∀ st ∈ [1, 2, 3], (onRing 2 st).work.base.senses = true ∧ (onRing 2 st).work.base.linkState 0 = st ∧ (onRing 2 st).dev.pwr.iordy = true ∧
        ((if st = 2 then (onRing 2 st).work else (onRing 2 st).work.trainBegin 0).opt 0).trains = 0) ∧
      (unsensed 2).work.base.senses = false ∧ trainBad {} [3] = true ∧
      (trainIs 2 0 800).1 = true ∧ (∀ c ∈ [(5, 800), (4, 801), (4, 800)], trainIs 16 (if facesEast 0 then c.1 else 16 - c.1) c.2 = (false, c.1))) ∧
    -- TEST
    ((∀ n, fieldAt (testGood (onRing 2 3).work.base 0 n) 0 1 % 16 = 4 ∧ (onRing 2 3).work.base.testBad 0 n (testGood (onRing 2 3).work.base 0 n) = false) ∧
      (onRing 2 3).work.base.linkState 0 = 3 ∧ (fieldAt [4] 0 1 % 16 = 4 ∧ (onRing 2 3).work.base.testBad 0 0 [4] = true) ∧
      ((opted { tests := 65534 } (onRing 2 3)).work.opt 0).tests + 1 < 65536 ∧ 65536 ≤ ((opted { tests := 65535 } (onRing 2 3)).work.opt 0).tests + 1 ∧
      (onRing 2 3).work.base.senses = true ∧ (unsensed 3).work.base.senses = false ∧
      -- the last good frame of a first training, and of one with frames to send again
      (∀ c ∈ [(none, []), (some 0, []), (some 0, [(7, { type := 2 })])],
        let x : RingEng := { tests := 65535, downSince := c.1, sent := c.2 }
        let w := (opted x (onRing 2 3)).work.setOpt 0 ((opted x (onRing 2 3)).work.opt 0)
        ((opted x (onRing 2 3)).work.opt 0).downSince = c.1 ∧ ((w.opt 0).inUse (w.base.eng 0 10 3 .RING_LINKST)).sent = c.2)) ∧
    -- wavelengths
    (((onRing 2 4).work.base.eng 0 16 4 .RING_LINKST).testBit 3 = true ∧ (onRing 2 4).work.base.spared 0 3 = false ∧
      (let s := put .RING_WAVE 40 0 0 (2 ^ 20 - 1) (onRing 2 4)
       s.work.base.spared 0 3 = true ∧ s.work.base.eng 0 (5 * 3) 4 .RING_WAVE = 15 ∧ s.work.base.eng 0 16 4 .RING_LINKST ≠ 2 ^ 3) ∧
      (let s := put .RING_LINKST 40 0 0 0x80004 (put .RING_WAVE 40 0 0 (2 ^ 20 - 1) (onRing 2 4))
       s.work.base.spared 0 3 = true ∧ s.work.base.eng 0 16 4 .RING_LINKST = 2 ^ 3)) ∧
    -- laser and coupler
    (parted.dev.heeds = true ∧ (∀ c ∈ [(true, false, 1200, true), (true, false, 1199, false), (true, true, 1200, false), (false, false, 1200, false)],
        (parted.work.base.wr (laserWord (parted.work.base.rd .RING_LASER 40 0 7) c.1 c.2.1 c.2.2.1) .RING_LASER 40 0 7).laserOk (2 * 7) = c.2.2.2) ∧ 1200 ≤ sext 16 1200 ∧
      (onRing 2 4).work.base.rf 1 1 .RING_BYPASS 40 = 1 ∧ (put .RING_BYPASS 40 0 0 0 parted).work.base.rf 1 1 .RING_BYPASS 40 ≠ 1) ∧
    (∀ j, parted.writesReg (.master 0) ⟨.RING_BYPASS, 40, 0, 0, 0⟩ (b2n j) 0 parted.dev.cleared ∧ (j && !parted.dev.cleared.pwr.vauxLow) = j) := by
  refine ⟨by decide +kernel, by decide +kernel, by decide +kernel, ⟨trainGood_good, trainGood_first, by and_intros <;> decide +kernel⟩,
    ⟨fun n => testGood_good _ 0 n, by decide +kernel⟩, by decide +kernel, by decide +kernel,
    fun j => ⟨master_writesReg _ _ _ _ ?_, ?_⟩⟩ <;> cases j <;> decide +kernel

/-- A folded frame of a type that link 0 of a state accepts next. -/
def frameGood (s : State) (type : Nat) : List Byte :=
  framed (s.work.base.foldPrefix 0 (s.work.opt 0).rxSeq) (headOf type true 0 224) (List.replicate 224 0)

theorem frameGood_good (s : State) (type : Nat) (ht : type ∈ [0, 1, 2, 5, 6, 7]) : fieldAt (frameGood s type) 0 1 % 16 = type ∧ s.work.frameBad 0 (frameGood s type) = false := by
  have hh : (headOf type true 0 224).length = 24 := by simp [headOf, leBytes_length]
  have hb : fieldAt (headOf type true 0 224) 0 1 % 16 = type ∧ frameFolded (headOf type true 0 224) = true ∧ headBad (headOf type true 0 224) 224 = false := by
    revert type; decide +kernel
  have hf : frameFolded (frameGood s type) = true := by
    rw [frameGood, frameFolded, framed_field _ _ _ _ _ hh (by omega)]; exact hb.2.1
  refine ⟨by rw [frameGood, framed_field _ _ _ _ _ hh (by omega)]; exact hb.1, ?_⟩
  unfold Work.frameBad
  rw [hf, frameGood, framed_formed _ _ _ hh (by rw [List.length_replicate]; exact hb.2.2), framed_checked _ _ _ hh (.inl hb.2.1)]
  rfl

/-- A link in service to the third device of a ring of so many. -/
def far3 (size : Nat) : State := put .RING_LINKST 40 0 0 (4 + (if facesEast 0 then 3 else size - 3) * 16 + 3 * 2 ^ 10 + 0xF0000) (onRing size 4)

theorem witness_FramesActByTheirType :
    ((onRing 2 4).dev.pwr.iordy = true ∧ (onRing 2 4).dev.pwr.ready = true ∧ (onRing 2 4).work.base.inService 0 = true ∧ ((onRing 2 4).work.opt 0).retrying = false ∧
      (onRing 2 4).dev.holds 6 (io (0 / 4)) (0 % 4) = false) ∧
    (∀ t ∈ [1, 2, 7, 8, 15], fieldAt [BitVec.ofNat 8 t] 0 1 % 16 = t ∧ (onRing 2 4).work.frameBad 0 [BitVec.ofNat 8 t] = true) ∧
    (∀ t ∈ [0, 1, 2, 5, 6, 7], fieldAt (frameGood (onRing 2 4) t) 0 1 % 16 = t ∧ (onRing 2 4).work.frameBad 0 (frameGood (onRing 2 4) t) = false) ∧
    -- the ends of links 0 and 8 of two devices of a ring
    (let b := (onRing 2 4).work.base
     (b.engSet 8 4 6 0 .RING_LINKST).ringId = b.ringId ∧ (b.engSet 8 4 6 0 .RING_LINKST).ringPos = b.eng 0 4 6 .RING_LINKST ∧
       ∀ t ∈ [0, 1, 2, 4, 5, 6, 7], ({ type := t } : OutFrame).vc < 8 ∧ t < 8 ∧ t ≠ 3) ∧
    (({ type := 0, dst := 0 } : OutFrame).dst = (onRing 2 4).work.base.ringPos) ∧
    -- on a ring of eight whose neighbour is three hops away: the neighbour, the two devices passed over, and the one behind it
    (∀ c ∈ [(0, 0), (1, 1), (2, 2), (3, 4)], let b := (far3 8).work.base
      let p := b.eng 0 4 6 .RING_LINKST
      let f : OutFrame := { type := 0, dst := if facesEast 0 then (p + 8 - c.2) % 8 else (p + c.2) % 8 }
      f.dst ≠ b.ringPos ∧ b.ringSize = 8 ∧ b.eng 0 10 3 .RING_LINKST = 3 ∧ (if facesEast 0 then (p + 8 - f.dst % 8) % 8 else (f.dst % 8 + 8 - p % 8) % 8) = c.2) ∧
    (((onRing 2 4).work.ownFrame 0 { type := 0, kind := 1 }).2 = false ∧
      ((lined 0 2 (wb 0x61 0 0 0)).work.ownFrame 0 { type := 0, kind := 1, src := some 1 }).2 = true) :=
  ⟨by decide +kernel, by decide +kernel, fun t ht => frameGood_good _ t ht, by decide +kernel, by decide +kernel, by decide +kernel⟩

def onMem (m : MemSys) (s : State) : State := onDev (fun v => { v with mem := m }) s
def dieOf (d : MemDie) (s : State := parted) : State := onMem { dies := [(0, d)] } s
def opP : MemOp := { op0 with part := some 0 }
def readJob : MemJob := .read 0x200000 256
/-- A stack request of partition p: whether the address is served, no route is broken, no fence stands, and what holds it off. -/
def submits (op : MemOp) (d : MemDie) : Bool × Bool × Option (Option Nat) :=
  let b := parted.work.base
  (b.served (reqOf b op) 0x200000, !b.routeBroken (reqOf b op).src.die (ms 0) && !b.stackFenced 0, (readJob.banks 0x80000).findSome? (d.queueFor (readJob.banks 0x80000).length))

theorem witness_MemoryServesItsRequests :
    (∀ a ∈ [0x200000, 0x2000FF], parted.dev.memRuns a = true ∧ parted.dev.memHeld a = false ∧ 0 < 1 ∧ 1 ≤ 256 - a % 256) ∧
    (0x200000 % 4096 = 0 ∧ (List.replicate 4096 (0 : Byte)).length = 4096 ∧ op0.requester = .unit ∧ [(0 : Byte)] ≠ []) ∧
    (parted.work.base.place readJob.addr = .stack 0 0x80000 ∧ submits { op0 with part := some 1 } {} = (false, true, none) ∧
      submits opP {} = (true, true, none) ∧
      submits opP { waiting := [{ order := none, op := opP, job := readJob }] } = (true, true, some none)) ∧
    -- a fenced stack; a failed link
    (let b := (put .DOCK_MS_ID 8 0 0 (2 * 2 ^ 9) parted).work.base
     b.place readJob.addr = .stack 0 0x80000 ∧ b.served (reqOf b opP) readJob.addr = true ∧ b.stackFenced 0 = true) ∧
    (let b := (put .CHK_D2D_STATE 0 0 0 8 parted).work.base
     b.place readJob.addr = .stack 0 0x80000 ∧ b.served (reqOf b opP) readJob.addr = true ∧ b.stackFenced 0 = false ∧
       b.routeBroken (reqOf b opP).src.die (ms 0) = true) ∧
    op0.err = .none :=
  ⟨by decide +kernel, ⟨by decide, by rw [List.length_replicate], rfl, by decide⟩, by decide +kernel, by decide +kernel, by decide +kernel, rfl⟩

def farReq : FarReq := { part := 0, offset := 0, len := 1, data := none, op := opP }
def farOf (waiting : List FarReq) (out : Nat) : State := onMem { links := [(0, { waiting := waiting, out := List.replicate out farReq })] } linked
def pfWb : Wb := { mm 0 128 with phase := .accepted }
def fetching (ws : List Wb) : State := put .TILE_PF_CTL 0 0 0 0x401 (onWork (fun w => w.setUnit tile { w.unit tile with window := ws }) parted)
def entryOf (gen : Nat) : PfEntry := { addr := 0x200000, queue := 0, seq := 0, time := 0, gen := gen, far := false, check := 1, data := [] }
def checking (gen : Nat) : State := onWork (fun w => { w with tiles := w.tiles.setPf tile [entryOf gen] }) parted

theorem witness_MemoryDiesKeepTheirOrder :
    (parted.dev.dieRuns (ms 0) = true ∧
      (let s := put .DOCK_MS_HOTDWELL 8 0 0 5 (at_ 5 (dieOf { hotSince := [(3, 0)], fullSince := some 0 }))
       Map.find 3 (s.dev.mem.die 0).hotSince = some 0 ∧ 0 + s.work.base.rf 0 32 .DOCK_MS_HOTDWELL (ms 0) ≤ s.work.base.time ∧
         (s.dev.mem.die 0).hotSeen.contains 3 = false ∧ (s.dev.mem.die 0).spares 3 = false ∧ (s.dev.mem.die 0).fullSince = some 0 ∧
         (s.dev.mem.die 0).fullSeen = false) ∧
      (0 < 32 ∧ 255 / 256 * 256 < 96 * 2 ^ 30 ∧ parted.work.base.stackFenced 0 = false) ∧
      ((dieOf { sparing := [(3, 0)] }).dev.mem.die 0).sparing.find? (fun e => e.1 == 3) = some (3, 0) ∧
      (∀ off ∈ [0, 255, 256], ((dieOf { sparing := [(0, 0)] }).dev.mem.die 0).spares (bankOf (off / 256 * 256)) = decide (off ≠ 256)) ∧
      ((dieOf { copying := [3] }).dev.mem.die 0).copying.contains 3 = true) ∧
    (parted.dev.pwr.ready = true ∧ parted.work.base.stackFenced 0 = false ∧ (put .DOCK_MS_ID 8 0 0 (2 * 2 ^ 9) parted).work.base.stackFenced 0 = true) ∧
    (parted.dev.unitRuns tile = true ∧ parted.work.base.tileOf tile = some (0, 0) ∧ (fetching []).work.pfMay tile 0 0 = true ∧
      (fetching []).work.pfWanted tile = none ∧ (fetching [pfWb]).work.pfMay tile 0 0 = true ∧ ((fetching [pfWb]).work.pfWanted tile).isSome = true) ∧
    (∀ gen ∈ [0, 1], ((checking gen).work.tiles.pf tile).find? (PfEntry.checks 0 0 0x200000) = some (entryOf gen) ∧
      (checking gen).work.base.genHolds 0x200000 (entryOf gen) = decide (gen = 0)) ∧
    ((linked.dev.pwr.ready && linked.dev.pwr.iordy) = true ∧ linked.work.base.linkUp 0 = true ∧ farReq.data = none ∧
      ((farOf [farReq] 0).dev.mem.link 0).waiting = farReq :: [] ∧ ((farOf [farReq] 0).dev.mem.link 0).out.length < (farOf [farReq] 0).work.base.farLimit 0 ∧
      (farOf [farReq] 1024).work.base.farLimit 0 ≤ ((farOf [farReq] 1024).dev.mem.link 0).out.length ∧
      ((farOf [] 1).dev.mem.link 0).out[0]? = some farReq ∧ [(0 : Byte)].length = farReq.len) := by decide +kernel

/-- The catalogue entry of the wheel-tap of CD0 set, and more of its state. -/
def tapped (on phase : Nat) (t : TapSt) (s : State := parted) : State :=
  at_ (sTicks 100000) (put .DOCK_WT_STATE 0 0 0 phase (onWork (fun w => { w with base := w.base.catSet 0x4010 1 1 on }.setTap 0 t) s))
def tileIs (m st : Nat) (s : State) : State := put .TILE_STATE 0 m 0 st s
/-- What a tap of tile m finds. -/
def tapSees (s : State) : Nat × Nat × Option Nat × Option Nat :=
  let b := s.work.base.tapSkip 0 68
  let m := b.rf 0 7 .DOCK_WT_STATE 0
  (m, b.tileState 0 m, b.posOfTile 0 m, (b.posOfTile 0 m).bind (b.spareFor 0))
def noPool (s : State) : State := ([64, 65, 66, 67] : List Nat).foldl (fun s m => tileIs m 2 s) s
/-- Tile m is tapped, and may be fenced. -/
def moving (m : Nat) (fence : Bool) (s : State := parted) : State :=
  tapped 1 (2 ^ 8 + m * 2 ^ 16) {} (onWork (fun w => { w with spare := { w.spare with fencing := if fence then [tileCode 0 m] else [] } }) s)
def moves (s : State) (m : Nat) : Option Nat × Bool × Option Nat × Option Nat :=
  match s.work.base.posOfTile 0 m with
  | some p => (s.work.base.donorFor 0 p s.work.spare.fencing, s.work.spare.fencing.contains (tileCode 0 m), s.work.base.spareFor 0 p,
      (s.work.base.donorFor 0 p s.work.spare.fencing).bind (s.work.base.posOfTile 0))
  | none => (none, false, none, none)
/-- Tile 64 of position 5 is to take the vacant position 0; the pool holds tile 5, which no lead can use. -/
def awaited (s : State := parted) : State :=
  put .DOCK_WT_VACANT 0 0 0 1 (put .TILE_POS 0 0 0 0 (tileIs 0 3 (put .TILE_POS 0 64 0 (5 + 64) (put .TILE_POS 0 5 0 0 (tileIs 64 0 (tileIs 5 1 (noPool s)))))))
/-- Tile 64 holds position 5 in place of tile 5, and no tile is left in the pool. -/
def donor (s : State) : State := put .TILE_POS 0 64 0 (5 + 64) (put .TILE_POS 0 5 0 0 (tileIs 64 0 (tileIs 5 3 (noPool s))))

def fence : RegAt := ⟨.DOCK_WT_FENCE, 0, 0, 0, 0⟩
def tested (tap : Bool) (s : State := parted) : State := onWork (fun w => { w with spare := { w.spare with tests := [⟨0, 1, 64, 3, tap, 1⟩] } }) s

theorem witness_SparesMoveAndAreTested :
    (parted.dev.dieRuns 0 = true ∧ parted.dev.holds 7 0 0 = false ∧ (tapped 1 0 {}).work.tapDue 0 = true ∧
      (∀ on ∈ [0, 1], ((tapped on 0 { retryAt := some 0 }).work.tap 0).retryAt = some 0 ∧ (tapped on 0 { retryAt := some 0 }).work.base.tapPhase 0 = 0 ∧
        0 ≤ (tapped on 0 { retryAt := some 0 }).work.base.time ∧ (tapped on 0 {}).work.base.dieRuns (cd 0) = true ∧
        (tapped on 0 { retryAt := some 0 }).work.base.tapOn 0 = decide (on = 1))) ∧
    (tapSees (tapped 1 64 {}) = (64, tSPARE, none, none) ∧ tapSees (tapped 1 5 {}) = (5, tACTIVE, some 5, some 64) ∧
      tapSees (noPool (tapped 1 5 {})) = (5, tACTIVE, some 5, none)) ∧
    (let s := tapped 1 (2 ^ 8) { waitFrom := some 0 }
     (s.work.tap 0).waitFrom = some 0 ∧ s.work.base.tapPhase 0 = 1 ∧ 0 + msTicks (s.work.base.catNum 0x4012 (0 + 1)) ≤ s.work.base.time ∧
       s.work.idleBoundary 0 (s.work.base.tapTile 0) = true) ∧
    (∀ on ∈ [0, 1], let s := tapped on (2 ^ 8) { waitFrom := some 0 } (held tile (wb 1 0 0 0))
     (s.work.tap 0).waitFrom = some 0 ∧ s.work.base.tapPhase 0 = 1 ∧ 0 + msTicks (s.work.base.catNum 0x4012 (0 + 1)) ≤ s.work.base.time ∧
       s.work.idleBoundary 0 (s.work.base.tapTile 0) = false ∧ s.work.base.tapOn 0 = decide (on = 1)) ∧
    ((∀ c ∈ [(5, true), (5, false)], (moving c.1 c.2).dev.dieRuns 0 = true ∧ (moving c.1 c.2).work.idleBoundary 0 c.1 = true ∧ (moving c.1 c.2).work.leadAwaits 0 c.1 = none ∧
        (moving c.1 c.2).work.tapped 0 c.1 = true ∧ moves (moving c.1 c.2) c.1 = (none, c.2, some 64, none)) ∧
      (moves (donor (moving 0 true)) 0 = (some 64, true, none, some 5) ∧ (donor (moving 0 true)).work.idleBoundary 0 0 = true ∧
        (donor (moving 0 true)).work.leadAwaits 0 0 = none ∧
        (donor (moving 0 true)).work.idleBoundary 0 64 = true) ∧
      (moves (noPool (moving 5 false)) 5 = (none, false, none, none) ∧ (noPool (moving 5 false)).work.idleBoundary 0 5 = true ∧
        (noPool (moving 5 false)).work.leadAwaits 0 5 = none) ∧
      (awaited.dev.dieRuns 0 = true ∧ awaited.work.idleBoundary 0 64 = true ∧ awaited.work.base.posOfTile 0 64 = some 5 ∧ awaited.work.leadAwaits 0 64 = some 0 ∧
        awaited.work.tapped 0 64 = false)) ∧
    (∀ c ∈ [(0, 0), (64, 1), (67, 2)], (tileIs c.1 c.2 parted).writesReg (.master 0) fence (c.1 + 2 ^ 7) 0 (tileIs c.1 c.2 parted).dev.cleared ∧
      (tileIs c.1 c.2 parted).dev.cleared.base.tileState 0 c.1 = c.2) ∧
    (∀ d ∈ [0, 2 ^ 64 - 1], parted.writesReg (.master 0) ⟨.DOCK_ST_CMD, 0, 0, 0, 0⟩ (d ||| 2 ^ 13) 0 parted.dev.cleared ∧
      ((d ||| 2 ^ 13) % 2 ^ 64).testBit 13 = true) ∧
    (∀ c ∈ [(1 + 64 * 16 + 2 ^ 11, true), (1 + 64 * 16, true), (1 + 5 * 16 + 2 ^ 11, false)],
      let b := (put .DOCK_ST_CMD 0 0 0 c.1 parted).work.base
      (put .DOCK_ST_CMD 0 0 0 c.1 parted).work.testable 0 (fget (b.rd .DOCK_ST_CMD 0) 0 4) (testIndex (fget (b.rd .DOCK_ST_CMD 0) 0 4) (fget (b.rd .DOCK_ST_CMD 0) 4 7)) = c.2 ∧
      fget (b.rd .DOCK_ST_CMD 0) 11 2 = c.1 / 2 ^ 11 ∧ b.rf 0 2 .DOCK_ST_STATUS 0 = 0) ∧
    ((∀ tap ∈ [true, false], (tested tap).work.spare.tests.find? (fun t => t.die == 0 && t.tap == tap) = some ⟨0, 1, 64, 3, tap, 1⟩) ∧
      parted.work.spare.tests.find? (fun t => t.die == 0 && t.tap == false) = none) ∧
    (let x := parted.work.base.rd .DOCK_WT_CORE (cd 0)
     (∀ k ∈ [7, 8], bget x (9 + k) = false) ∧ fget x 18 4 = 15 ∧ bget x 17 = false ∧
     (let y := (put .DOCK_WT_CORE 0 0 0 (0xFF + 2 ^ 8 + 3 * 2 ^ 18) parted).work.base.rd .DOCK_WT_CORE (cd 0)
      fget y 18 4 ≠ 15 ∧ bget y (9 + 8) = false ∧ (if 8 < 8 then 8 else fget y 18 4) < 8)) := by
  refine ⟨by decide +kernel, by decide +kernel, by decide +kernel, by decide +kernel, by decide +kernel, fun c h => ⟨master_writesReg _ _ _ _ ?_, ?_⟩,
    fun d h => ⟨master_writesReg _ _ _ _ ?_, ?_⟩, by decide +kernel, by decide +kernel, by decide +kernel⟩
  · revert c; decide +kernel
  · revert c; decide +kernel
  · revert d; decide +kernel
  · revert d; decide +kernel

/-- The lock of the partition table withdrawn. -/
def unlocked (s : State) : State := put .DOCK_PT_LOCK 40 0 0 0 s
/-- Link 0 with a Dock of two bays at 2 MiB, its tags all of a kind. -/
def docked (tag : Nat) (s : State := linked) : State :=
  put .DOCK_PT_DOCKSIZE 40 0 0 2 (put .DOCK_PT_DOCK 40 0 0 0x200000 (onDev (fun v => v.setBays 0 { base := tag }) s))
def baysOf (b : BaySt) (s : State := docked 0) : State := onDev (fun v => v.setBays 0 b) s

/-- What `State.arrives` asks of a whole register that a master names. -/
def reachable (s : State) (m : Nat) (r : RegAt) (write : Bool) : Bool :=
  (s.dev.regRuns (.master m) (regAddr r.reg r.die r.unit r.i r.j) && sizeOk (regAddr r.reg r.die r.unit r.i r.j) 8) &&
    placeOf (regAddr r.reg r.die r.unit r.i r.j) == .reg r && s.dev.cleared.base.reaches m r write

theorem witness_HostsReachTheDock :
    ((linked.dev.pwr.iordy = true ∧ linked.work.base.rf 0 3 .DOCK_PCIE_LNK (io (0 / 2)) 0 (0 % 2) ≠ 0 ∧ (linked.work.base.link 0).disabled = false ∧
        (linked.work.base.link 0).l2 = false ∧ linked.work.base.locked = true ∧ linked.work.base.partOfLink 0 = some 0 ∧ (barShape 4).isSome = true) ∧
      ((unlocked linked).work.base.rf 0 3 .DOCK_PCIE_LNK (io (0 / 2)) 0 (0 % 2) ≠ 0 ∧ (unlocked linked).work.base.locked = false)) ∧
    ((onBase (fun b => { b with resp := .error }) linked).dev.base.resp = .error ∧ linked.dev.base.resp ≠ .error ∧
      (∀ m ∈ [0, 2 ^ 13], let s := onBase (fun b => { b.setLink 0 { b.link 0 with aerMask := m } with resp := .error }) linked
        s.dev.base.resp = .error ∧ (s.dev.base.link 0).aerMask.testBit 13 = decide (m ≠ 0))) ∧
    (∀ tag ∈ [0, 1], ((docked tag).dev.pwr.ready && (docked tag).dev.pwr.iordy) = true ∧ (docked tag).dev.cleared.base.linkServes 0 = some 0 ∧
      (docked tag).dev.cleared.base.dockBays 0 = 2 ∧ ((docked tag).dev.cleared.bays 0).tag (0 / 2) 1 = tag ∧
      (∀ off ∈ [0x3FFFFF, 0x400000], off % 4096 + 1 ≤ 4096 ∧ off < 2 ^ 36 ∧ (off / 2 ^ 21 < 2 ↔ off = 0x3FFFFF)) ∧
      (docked tag).dev.cleared.memHeld ((docked tag).dev.cleared.base.dockBase 0 + 0x3FFFFF) = false) ∧
    (∀ d ∈ [0, 2 ^ 64 - 1], (docked 0).writesReg (.master 0) ⟨.DOCK_BAYCMD, 40, 0, 0, 0⟩ d 0 (docked 0).dev.cleared ∧
      (docked 0).writesReg (.master 0) ⟨.DOCK_BAYCMD, 40, 0, 0, 0⟩ (d % 2 ^ 15 + 2 ^ 35) 0 (docked 0).dev.cleared) ∧
    (∀ d ∈ [2 ^ 34, 2 ^ 35, 2 ^ 64 - 1], ((baysOf { waiting := [d] }).dev.bays 0).running = none ∧ ((baysOf { waiting := [d] }).dev.bays 0).waiting = d :: []) ∧
    (∀ dies ∈ [[], [1, 2, 3]], (baysOf { running := some (0, dies) }).dev.pwr.iordy = true ∧
      ((baysOf { running := some (0, dies) }).dev.cleared.bays 0).running = some (0, dies) ∧ dies.contains 0 = false) ∧
    (∀ b ∈ [({} : BaySt), { running := some (0, []) }], (baysOf b).arrives (.master 0) (routeOff (.master 0) (regAddr .DOCK_BAYRES 40 0 0)) 8 0x71 0
        (regAddr .DOCK_BAYRES 40 0 0) (baysOf b).dev.cleared ∧
      reachable (baysOf b) 0 ⟨.DOCK_BAYRES, 40, 0, 0, 0⟩ false = true ∧ (baysOf b).dev.cleared.bays 0 = b) := by
  refine ⟨by decide +kernel, by decide +kernel, by decide +kernel, fun d h => ⟨master_writesReg _ _ _ _ ?_, master_writesReg _ _ _ _ ?_⟩, by decide +kernel, by decide +kernel,
    fun b h => ⟨master_arrives _ _ _ _ _ ?_, ?_, ?_⟩⟩
  · revert d; decide +kernel
  · revert d; decide +kernel
  · revert b; decide +kernel
  · revert b; decide +kernel
  · revert b; decide +kernel

def high (s : State := linked) : State := onDev (fun v => v.setPort 0 { perstHigh := true }) s
/-- The bindings of a partition that is not valid, not locked yet. -/
def faulty : State := put .DOCK_PT_PART 40 0 0 0 (unlocked parted)
/-- RUN, before the lock, with every port strapped as one x16 link. -/
def strapped : State := onBase (fun b => { b with regs := (List.range 4).foldl (fun m n => Map.put (regAddr .DOCK_PCIE_CFG (io n)) 0 m) b.regs }) up
/-- Two partitions, and the binding of the links of port 0, in a transition. -/
def twoLinks (x : Nat) : State := put .DOCK_PT_LINK 40 0 0 (x % 16) (put .DOCK_PT_LINK 40 0 1 (x / 16) (put .DOCK_PT_PART 40 0 1 1 (onPwr (fun p => { p with trans := some 2 }) parted)))
def lockReg : RegAt := ⟨.DOCK_PT_LOCK, 40, 0, 0, 0⟩

theorem witness_HostResetsReachTheirPartitions :
    (linked.dev.pwr.iordy = true ∧ linked.dev.cleared.linkActive 0 = true ∧ (linked.dev.cleared.base.link 0).l2 = false ∧ linked.dev.pwr.ready = true ∧
      linked.dev.cleared.base.locked = true ∧
      (let s := onBase (fun b => b.wf 9 1 1 .DOCK_PCIE_LNK (io 0) 0 0) linked
       s.dev.cleared.linkActive 0 = true ∧ s.dev.cleared.base.locked = true ∧ s.dev.cleared.base.partOfLink 0 = some 0 ∧ bget (s.dev.cleared.base.rd .DOCK_PCIE_LNK (io (0 / 2)) 0 (0 % 2)) 9 = true)) ∧
    ((high.dev.cleared.port (0 / 2)).perstHigh = true ∧ high.dev.cleared.linkActive 0 = true ∧ (high parted).dev.cleared.linkActive 0 = false) ∧
    (parted.dev.base.partOfLink 0 = some 0 ∧ up.dev.base.partOfLink 0 = none) ∧
    -- no transition; a transition, with and without the reset kept
    (parted.dev.pwr.trans = none ∧ ∀ l ∈ [[], [ResetKind.link 1], [ResetKind.link 0]], let s := onPwr (fun p => { p with trans := some 2, resets := l }) parted
      s.dev.pwr.trans.isSome = true ∧ s.dev.base.partOfLink 0 = some 0 ∧ s.dev.pwr.resets.contains (.link 0) = decide (l = [.link 0])) ∧
    -- a port whose links serve one partition, and two
    (∀ c ∈ [0x88, 0x98], let v1 := [0, 1].foldl (fun (w : Device) h => w.onBase fun b => b.linkCold (2 * 0 + h)) (twoLinks c).dev
      v1.base.partOfLink (2 * 0) = some 0 ∧ (v1.linkEvent (2 * 0)).base.partOfLink (2 * 0 + 1) = some (if c = 0x88 then 0 else 1)) ∧
    (high.dev.cleared.heeds = true ∧ high.dev.cleared.pwr.iordy = true ∧ State.reset.dev.cleared.heeds = true ∧ State.reset.dev.cleared.pwr.iordy = false ∧
      (State.reset.dev.cleared.port 0).perstHigh = false ∧
      -- a rising edge in HOLD, enabled to wake or not
      (∀ x ∈ [0, 4], let v := (put .PWR_WAKE 40 0 0 x (onPwr (fun p => { p with effective := 3, ready := false, iordy := false }) up)).dev.cleared
        v.heeds = true ∧ ((!(v.port 0).perstHigh && bget ((v.setPort 0 { perstHigh := true, bifur := some true, train := [] }).base.rd .PWR_WAKE 40) (2 + 0)) = decide (x ≠ 0)))) ∧
    (parted.writesReg (.master 0) lockReg 1 0 parted.dev.cleared ∧ parted.dev.cleared.base.locked = true ∧
      strapped.writesReg (.master 0) lockReg 1 0 strapped.dev.cleared ∧ strapped.dev.cleared.base.locked = false ∧ strapped.dev.cleared.base.lockFaults = [] ∧
      faulty.writesReg (.master 0) lockReg 1 0 faulty.dev.cleared ∧ faulty.dev.cleared.base.locked = false ∧
      faulty.dev.cleared.base.lockFaults ≠ []) ∧
    (let v : Device := { strapped.dev with dock := { strapped.dev.dock with lockWaits := true } }
     v.dock.lockWaits = true ∧ v.pwr.hs = none ∧ v.pwr.trans = none ∧ v.pwr.bring = none ∧ v.pwr.parked.filter v.base.holdsTable = [] ∧ v.base.lockFaults = []) := by
  refine ⟨by decide +kernel, by decide +kernel, by decide +kernel, by decide +kernel, by decide +kernel, by decide +kernel,
    ⟨master_writesReg _ _ _ _ (by decide +kernel), by decide +kernel,
    master_writesReg _ _ _ _ (by decide +kernel), by decide +kernel, ?_, master_writesReg _ _ _ _ (by decide +kernel), by decide +kernel, ?_⟩, ?_⟩
  · decide +kernel
  · decide +kernel
  · decide +kernel

/-! Mailboxes and the management core. -/

/-- Channel 0 between masters a and b of partition 0, with the states of its directions. -/
def channel (a b tx0 tx1 : Nat) (s : State := linked) : State :=
  onBase (fun v => (v.wr (BitVec.ofNat 64 tx0) .MBX_TXSTAT 40 0 0 0).wr (BitVec.ofNat 64 tx1) .MBX_TXSTAT 40 0 0 1) (put .MBX_BIND 40 0 0 (a + b * 256 + 2 ^ 19) s)
def mailOk (s : State) (m : Nat) (r : RegAt) (data : Nat) : Bool :=
  (s.dev.regRuns (.master m) (regAddr r.reg r.die r.unit r.i r.j) && sizeOk (regAddr r.reg r.die r.unit r.i r.j) 8) &&
    !s.dev.cleared.regHeld (.master m) (regAddr r.reg r.die r.unit r.i r.j) data && placeOf (regAddr r.reg r.die r.unit r.i r.j) == .reg r

theorem master_mails (s : State) (r : RegAt) (data m : Nat) (h : mailOk s m r data = true) : s.mails (.master m) r data m s.dev.cleared := by
  simp only [mailOk, Bool.and_eq_true, Bool.not_eq_true', beq_iff_eq] at h
  exact ⟨_, master_arrives _ _ _ _ _ (by simp only [Bool.and_eq_true]; exact h.1.1), ⟨h.1.2, rfl⟩, h.2⟩

def dataReg : RegAt := ⟨.MBX_DATA, 40, 0, 0, 16 * 0 + 6⟩
def sendReg : RegAt := ⟨.MBX_SEND, 40, 0, 0, 0⟩
def ackReg : RegAt := ⟨.MBX_ACK, 40, 0, 0, 0⟩
/-- Whether the channel serves a master, and who sends, and whether direction 0 is pending, and its receiver down. -/
def mailState (s : State) (m : Nat) : Bool × Nat × Bool × Bool :=
  let b := s.dev.cleared.base
  (b.mbxInUse 0 && (b.mbxA 0 == m || b.mbxB 0 == m), b.mbxSender 0 0, b.mbxPending 0 0, b.domainDown (b.mbxReceiver 0 0))
def sees (s : State) (len tag word : Nat) : Bool := mbxDiffers (len + tag * 256 + word) (s.dev.cleared.base.mbxCheck 0 0 (mbxLen (len + tag * 256 + word)) (mbxTag (len + tag * 256 + word)))

theorem witness_MailboxesCarryMessages :
    (∀ c ∈ [(channel 0 1 0 0, 1, true, 0, false), (channel 0 1 1 0, 0, true, 0, true), (channel 0 1 0 0, 0, true, 0, false), (unlocked (channel 0 1 0 0), 0, false, 0, false)],
      c.1.mails (.master c.2.1) dataReg 5 c.2.1 c.1.dev.cleared ∧ c.1.mails (.master c.2.1) sendReg 0 c.2.1 c.1.dev.cleared ∧
      (mailState c.1 c.2.1).1 = c.2.2.1 ∧ (mailState c.1 c.2.1).2.1 = c.2.2.2.1 ∧ (mailState c.1 c.2.1).2.2.1 = c.2.2.2.2) ∧
    ((unlocked (channel 0 1 0 0)).dev.cleared.base.reaches 0 dataReg true = true ∧ (unlocked (channel 0 1 0 0)).dev.cleared.base.mbxInUse 0 = false) ∧
    -- sends: too long; a wrong CHECK; a right one to a receiver that is down, and to one that is not
    (56 < mbxLen 57 ∧ mbxLen 56 = 56 ∧ sees (channel 0 1 0 0) 0 0 (2 ^ 16) = true ∧ sees (channel 0 1 0 0) 0 0 0 = false ∧
      (channel 0 1 0 0).mails (.master 0) sendReg (2 ^ 16) 0 (channel 0 1 0 0).dev.cleared ∧
      (mailState (channel 0 1 0 0 parted) 0).2.2.2 = true ∧ (mailState (channel 0 1 0 0) 0).2.2.2 = false ∧
      (channel 0 1 0 0 parted).mails (.master 0) sendReg 0 0 (channel 0 1 0 0 parted).dev.cleared ∧ mailState (channel 0 1 0 0 parted) 0 = (true, 0, false, true)) ∧
    -- acknowledgements, by the sender, of nothing, and of a message of a host and of the management
    (∀ c ∈ [(channel 0 1 1 0, 0, 0, true, 1), (channel 0 1 0 0, 1, 0, false, 1), (channel 0 1 1 0, 1, 0, true, 1), (channel 1 0 1 0, 0, 1, true, 0)],
      c.1.mails (.master c.2.1) ackReg 5 c.2.1 c.1.dev.cleared ∧ mailState c.1 c.2.1 = (true, c.2.2.1, c.2.2.2.1, (mailState c.1 c.2.1).2.2.2) ∧
      c.1.dev.cleared.base.mbxReceiver 0 0 = c.2.2.2.2) ∧
    ((unlocked linked).dev.cleared.base.locked = false ∧ (1 ≠ 0 ∧ 1 ≠ 0xF0)) ∧
    (∀ t ∈ [4, 5], let s := at_ t (put .MBX_CFG 40 0 0 5 (onDev (fun v => { v with dock := { v.dock with sentAt := [(0, 0)] } }) (channel 0 1 1 0)))
      s.dev.pwr.iordy = true ∧ Map.find (2 * 0 + 0) s.dev.cleared.dock.sentAt = some 0 ∧ s.dev.cleared.base.mbxPending 0 0 = true ∧
      s.dev.cleared.base.rf 0 32 .MBX_CFG 40 0 0 ≠ 0 ∧ (0 + s.dev.cleared.base.rf 0 32 .MBX_CFG 40 0 0 ≤ s.dev.cleared.base.time ↔ t = 5)) ∧
    (parted.dev.pwr.iordy = true ∧ parted.dev.cleared.base.domainDown 1 = true ∧ linked.dev.cleared.base.domainDown 1 = false) := by
  refine ⟨fun c h => ⟨master_mails _ _ _ _ ?_, master_mails _ _ _ _ ?_, ?_⟩, by decide +kernel,
    ⟨by decide +kernel, by decide +kernel, by decide +kernel, by decide +kernel, master_mails _ _ _ _ (by decide +kernel), by decide +kernel, by decide +kernel,
      master_mails _ _ _ _ (by decide +kernel), by decide +kernel⟩,
    fun c h => ⟨master_mails _ _ _ _ ?_, ?_⟩, by decide +kernel, by decide +kernel, by decide +kernel⟩
  · simp only [List.mem_cons, List.not_mem_nil, or_false] at h
    rcases h with rfl | rfl | rfl | rfl <;> decide +kernel
  · simp only [List.mem_cons, List.not_mem_nil, or_false] at h
    rcases h with rfl | rfl | rfl | rfl <;> decide +kernel
  · simp only [List.mem_cons, List.not_mem_nil, or_false] at h
    rcases h with rfl | rfl | rfl | rfl <;> decide +kernel
  · simp only [List.mem_cons, List.not_mem_nil, or_false] at h
    rcases h with rfl | rfl | rfl | rfl <;> decide +kernel
  · simp only [List.mem_cons, List.not_mem_nil, or_false] at h
    rcases h with rfl | rfl | rfl | rfl <;> decide +kernel

/-- The device with an interface identifier. -/
def home : State := onBase (fun b => { b with catVals := [(catKey 0x1010 4, leBytes 8 9)] }) up
/-- A source of the 10BASE-T1S port, a request of it, a message of a client on channel 0, and the request that such a message is. -/
def netSource : List Byte := [0xFE, 0x80] ++ leBytes 14 0
def netHead (ver session len : Nat) : ReqHead :=
  { transport := 1, source := netSource, dest := home.dev.base.t1sAddress, port := home.dev.base.catNum 0x1010 5, extension := false, ver := ver, zeros := true
    frags := [(0, len, false)], txid := 0, session := session, tag := [] }
def mailHead (len txid : Nat) : ReqHead := { netHead 1 5 len with transport := 3, source := leBytes 2 0, txid := txid }
def message (op txid session frag : Nat) (more : Bool) (body : List Byte) : List Byte :=
  leBytes 1 1 ++ leBytes 1 op ++ leBytes 2 txid ++ leBytes 2 session ++ leBytes 1 0 ++ leBytes 1 (b2n more) ++ leBytes 2 frag ++ leBytes 2 body.length ++ body
def session (transport role : Nat) (txid : Option Nat) : Session := ⟨5, role, transport, if transport = 3 then leBytes 2 0 else netSource, [], txid, (0, [], []), 0⟩
def withMgt (f : Mgt → Mgt) (s : State := home) : State := onDev (fun v => { v with mgt := f v.mgt }) s
def net (txid : Option Nat := none) : State := withMgt (fun m => { m with sessions := [session 1 3 txid] })
def readOp : ReqOp := .read 0x1000 1 0 16
def readLen : Nat := readOp.body.length
/-- Channel 0 of the management controller and partition 0, whose host has sent a message; an answer is on its way or not. -/
def mail (tx0 : Nat) (txid : Option Nat := none) (l : List Byte := message 4 7 5 0 false readOp.body) : State :=
  withMgt (fun m => { m with up := true, sessions := [session 3 3 txid] })
    (put .MBX_RXHDR 40 0 0 0 (onBase (fun b => b.wr (BitVec.ofNat 64 (l.length + 64)) .MBX_RXHDR 40 0 0 1)
      (onBase (fun b => (List.range 7).foldl (fun (b : Base) w => b.wr (BitVec.ofNat 64 (fieldAt l (8 * w) 8)) .MBX_DATA 40 0 0 (16 + w)) b) (channel 0 1 tx0 1))))
/-- What a request meets: whether it is heard whole, fits, and the TAG and the TXID of its session. -/
def meets (s : State) (h : ReqHead) (op : ReqOp) : Bool × Bool × Option (Bool × Option Nat) :=
  let v := s.dev.cleared
  (v.hears h op && fragsWhole h, v.mgt.fits h op, ((v.mbxTake h).sessionOf h).map fun x => (x.tagBad h op, x.txid))
def authOp : ReqOp := .auth 3 (List.replicate 32 0) (List.replicate 32 0)
/-- What joining a message finds: what came before it decides. -/
def joins (l : List Byte) (m : Mgt → Mgt) : Option (Option (Nat × Bool × Bool)) :=
  (ProtoMsg.parse l).map fun x => ((withMgt m (mail 0)).dev.mailJoin 0 x).map fun r => (r.body.length, x.more, bodyFits r.op r.body)

theorem witness_RequestsAreAnsweredInTheirSession :
    (requestOf (.read (netHead 1 5 readLen) 0x1000 1 0 16) = some (netHead 1 5 readLen, readOp, ⟨true, []⟩) ∧
      requestOf (.hello (netHead 1 0 0)) = some (netHead 1 0 0, .hello, ⟨true, []⟩) ∧
      requestOf (.auth (netHead 1 0 authOp.body.length) 3 (List.replicate 32 0) (List.replicate 32 0)) = some (netHead 1 0 authOp.body.length, authOp, ⟨true, []⟩)) ∧
    -- not up; another port's number; to all nodes; an extension header; a fragment missing; not heard through the channel; malformed
    ((meets State.reset (netHead 1 5 readLen) readOp).1 = false ∧
      (∀ h ∈ [{ netHead 1 5 readLen with port := 0 }, { netHead 1 5 readLen with dest := allNodes }, { netHead 1 5 readLen with extension := true },
        { netHead 1 5 readLen with frags := [(0, readLen, true)] }, mailHead readLen 7], (meets net h readOp).1 = false) ∧
      (meets home { netHead 1 0 0 with dest := allNodes } .hello).1 = true ∧ (meets (mail 0) (mailHead readLen 8) readOp).1 = false ∧
      meets net (netHead 2 5 readLen) readOp = (true, false, some (true, none))) ∧
    (meets home (netHead 1 0 0) .hello = (true, true, none) ∧ meets home (netHead 1 0 authOp.body.length) authOp = (true, true, none) ∧
      meets home (netHead 1 5 readLen) readOp = (true, true, none) ∧ readOp ≠ .hello ∧ readOp.code ≠ 2) ∧
    (meets net (netHead 1 5 readLen) readOp = (true, true, some (true, none)) ∧
      ([none, some 6, some 7, some 8].all fun t => meets (mail 0 t) (mailHead readLen 7) readOp == (true, true, some (false, t))) = true ∧
      ([(6, true), (7, false)].all fun c => (some c.1).all fun t => decide (t < 7) == c.2) = true) ∧
    (net.dev.sessionOf (netHead 1 5 0) = some (session 1 3 none) ∧ home.dev.sessionOf (netHead 1 5 0) = none) ∧
    ((netHead 1 5 0).transport ≠ 3 ∧ (mailHead 0 7).transport = 3 ∧ (mail 0).dev.base.mgtSends (sourceChannel (mailHead 0 7).source) = some 0) ∧
    -- messages: while an answer is on its way, or is still to go; malformed; out of order; the first of more, the last of a request, one of no length
    (((mail 1).dev.base.mbxPending 0 (1 - 1) = true ∧ (Map.find 0 (withMgt (fun m => { m with outbox := [(0, [])] }) (mail 0)).dev.mgt.outbox).isSome = true) ∧
      (mail 0).dev.base.mbxPending 0 (1 - 1) = false ∧ Map.find 0 (mail 0).dev.mgt.outbox = none ∧
      (ProtoMsg.parse (message 4 7 5 0 false readOp.body)).isSome = true ∧ ProtoMsg.parse (List.drop 1 (message 4 7 5 0 false readOp.body)) = none ∧
      joins (message 4 7 5 1 false readOp.body) id = some none ∧ joins (message 4 7 5 0 true []) id = some (some (0, true, false)) ∧
      joins (message 4 7 5 0 false readOp.body) id = some (some (12, false, true)) ∧
      joins (message 4 7 5 1 false (List.drop 4 readOp.body)) (fun m => { m with inbox := [(0, ⟨4, 7, 5, true, 0, List.take 4 readOp.body⟩)] }) =
        some (some (12, false, true)) ∧
      joins (message 4 7 5 0 false []) id = some (some (0, false, false))) := by
  and_intros <;> decide +kernel

def netNonce : Nonce := ⟨1, netSource, List.replicate 32 0, 0⟩
def opens (m : Mgt → Mgt) : Device := (withMgt m up).dev

theorem witness_SessionsOpenAndExpire :
    ((opens fun m => { m with lockout := some 0 }).lockedOut = true ∧ (opens id).lockedOut = false ∧ (opens id).nonceOf (netHead 1 0 0) = none ∧
      (opens id).base.roleKey 2 = none ∧ (opens fun m => { m with nonces := [netNonce] }).nonceOf (netHead 1 0 0) = some netNonce ∧
      ((opens fun m => { m with nonces := [netNonce] }).base.roleKey 3).isSome = true ∧
      (opens fun m => { m with nonces := [netNonce] }).mgt.full (netHead 1 0 0) = false ∧
      (opens fun m => { m with nonces := [netNonce], sessions := List.replicate 8 (session 1 1 none) }).mgt.full (netHead 1 0 0) = true) ∧
    (∀ key n c, ∃ proof, proof ≠ authProof key n c 3 (netHead 1 0 0)) ∧
    (∀ t ∈ [0, 1000000000000], (let f := fun x : Session => x.id == 5 && decide (x.time + sTicks ((at_ t net).dev.cleared.base.catNum 0x1020 1) ≤ (at_ t net).dev.cleared.base.time)
      (at_ t net).dev.cleared.mgt.sessions.any f = decide (t ≠ 0))) ∧
    (∀ t ∈ [sTicks 60 - 1, sTicks 60], (at_ t (withMgt fun m => { m with lockout := some 0 })).dev.cleared.mgt.lockout = some 0 ∧
      (0 + sTicks 60 ≤ (at_ t (withMgt fun m => { m with lockout := some 0 })).dev.cleared.base.time ↔ t = sTicks 60)) :=
  ⟨by decide +kernel, fun key n c => ⟨authProof key n c 3 (netHead 1 0 0) ++ [0], by simp⟩, by decide +kernel, by decide +kernel⟩

/-- An entry of the Catalogue with an access and a type, whether a session may read and write it. -/
def entryIs (x : Session) (i k : Nat) : Option (CatAcc × CatType × Bool × Bool) :=
  let v := (mail 0).dev
  (v.entry i k).map fun e => (e.acc, e.type, v.mayRead x e, v.mayWrite x e)

/-- A session at management's ports and one of a channel, on entries of each access: what may be read and written, and what is in range. -/
theorem witness_EntriesAreReadAndWritten :
    (entryIs (session 1 3 none) 0x1000 99 = none ∧ entryIs (session 3 3 none) 0x7010 2 = some (.rw, .u64, false, false) ∧
      entryIs (session 1 1 none) 0x1030 1 = some (.wo, .blob, true, false) ∧ entryIs (session 1 3 none) 0x1000 1 = some (.ro, .str, true, true) ∧
      entryIs (session 1 3 none) 0x1020 1 = some (.rw, .u16, true, true) ∧ entryIs (session 3 3 none) 0x7010 1 = some (.rw, .u64, true, true)) ∧
    ((mail 0).dev.mgt.recovery = false ∧
      (∀ c ∈ [(9, false), (10, true)], ((mail 0).dev.entry 0x1020 1).map (fun e => (e.persist, e.lengthOk 2, (mail 0).dev.inRange 0x1020 1 e (leBytes 2 c.1))) =
        some (false, true, c.2)) ∧
      ((mail 0).dev.entry 0x1010 1).map (fun e => (e.persist, e.acc == .rw, e.lengthOk 1, (mail 0).dev.inRange 0x1010 1 e [1])) = some (true, true, true, true)) ∧
    (∃ v1, (mail 0).dev.writeEntry (session 1 3 none) 0x1000 99 .u8 [] ⟨true, []⟩ = (v1, stNOENTRY) ∧ stNOENTRY ≠ stOK ∧ stNOENTRY ≠ stFLASH) ∧
    ((session 3 3 none).transport = 3 ∧ entryIs (session 3 3 none) 0x7010 1 = some (.rw, .u64, true, true)) ∧
    (outOfService (((tileIs 5 3 parted).dev.unitStored 0 1 5 1).work.unitState 0 1 5) = true ∧ outOfService ((parted.dev.unitStored 0 1 5 1).work.unitState 0 1 5) = false ∧
      outOfService ((parted.dev.unitStored 8 1 0 2).work.unitState 8 1 0) = false) ∧
    -- an update of another session, and one's own, whose data are two bytes of four
    ((session 1 2 none).mayUpdate = true ∧ (∀ id ∈ [5, 6], let u : FwUpdate := ⟨id, 0, 4, [0, 0]⟩
      (withMgt (fun m => { m with update := some u }) up).dev.mgt.update = some u ∧ (u.session = (session 1 2 none).id ↔ id = 5) ∧
        u.data.length + [0, (0 : Byte)].length ≤ u.length ∧ (0 ≠ u.data.length)) ∧ parted.dev.base.imageValid [] = false) :=
  ⟨by and_intros <;> decide +kernel, by decide +kernel, ⟨_, rfl, by decide, by decide⟩, by decide +kernel, by decide +kernel, by decide +kernel⟩

theorem witness_ManagementPortsAndNotices :
    (up.dev.cleared.t1sHears netSource false = true ∧ ([] : List Byte) ≠ up.dev.cleared.base.t1sAddress) ∧
    (up.dev.cleared.mgt.up = true ∧ up.dev.cleared.heeds = true ∧ up.dev.cleared.base.catNum 0x1011 1 = 1 ∧ up.dev.cleared.base.i3cAddr = none ∧
      (onBase (fun b => { b with i3cAddr := some 9 }) up).dev.cleared.base.i3cAddr = some 9 ∧ (3 : Nat).testBit 0 = true) ∧
    (∀ t ∈ [usTicks 1 - 1, usTicks 1], (let s := at_ t (onBase (fun b => { b with rings := Map.put 0 { b.ring 0 with lastSignal := some 0, pending := true } b.rings }) up)
      s.dev.pwr.iordy = true ∧ (s.work.base.ring 0).lastSignal = some 0 ∧ (s.work.base.ring 0).pending = true ∧ (0 + usTicks 1 ≤ s.work.base.time ↔ t = usTicks 1))) ∧
    (∀ t ∈ [msTicks 100 - 1, msTicks 100], (let s := at_ t (withMgt (fun m => { m with diverge := [(catKey 0x2001 1, 0, false)] }) (onPwr (fun p => { p with effective := 1 }) up))
      Map.find (catKey 0x2001 1) s.dev.cleared.mgt.diverge = some (0, false) ∧ s.dev.cleared.mgt.up = true ∧
        s.dev.cleared.pairAgrees (catKey 0x2001 1) = false ∧ (0 + msTicks 100 ≤ s.dev.cleared.base.time ↔ t = msTicks 100))) ∧
    Map.find (catKey 0x2001 1) (withMgt fun m => { m with diverge := [(catKey 0x2001 1, 0, true)] }).dev.mgt.diverge = some (0, true) := by decide +kernel

/-- A rail request on bus 0 of a state at a time; a bring-up with dies in their stages. -/
def railed (q : RailReq) (t : Nat) : State := at_ t (onPwr (fun p => { p with buses := [(0, [q])] }) up)
def bringing (io d s t : Nat) : State :=
  at_ t (onPwr (fun p => { p with bring := some 0, ready := false, stage := [(40, io), (41, io), (42, io), (43, io)] |>.filter (fun c => c.1 != d) |> Map.put d s }) up)
/-- Stack 3 trains again after the reset of its die. -/
def retraining (t : Nat) : State := at_ t (onPwr (fun p => { p with retrain := [(11, 0)] }) up)
/-- Every compute and memory-side die in service but one. -/
def allBut (d s : Nat) : State :=
  onPwr (fun p => { p with bring := some 0, stage := (List.range 44).map fun k => (k, if k = d then s else 4) }) up

theorem witness_RailsBringTheDiesUp :
    (up.dev.cleared.heeds = true ∧ (onPwr (fun p => { p with ioLow := true }) up).dev.cleared.heeds = false) ∧
    (∀ c ∈ [(0, usTicks 10), (1, usTicks 100), (2, msTicks 10)], ∀ f ∈ [1, 2], let q : RailReq := { rail := 0, on := true, fails := f, phase := c.1 }
      (railed q c.2).dev.cleared.pwr.bus 0 = q :: [] ∧ q.phase = c.1 ∧ q.time + c.2 ≤ (railed q c.2).dev.cleared.base.time) ∧
    ((onPwr (fun p => { p with rails := [3] }) up).dev.cleared.pwr.rails.contains 3 = true ∧ (onPwr (fun p => { p with rails := [3] }) up).dev.cleared.pwr.rails.contains 4 = false) ∧
    (∀ t ∈ [0, stageLimit 11 2], (retraining t).dev.cleared.alive = true ∧ Map.find 11 (retraining t).dev.cleared.pwr.retrain = some 0 ∧
      (0 + stageLimit 11 2 ≤ (retraining t).dev.cleared.base.time ↔ t ≠ 0)) ∧
    (up.dev.cleared.alive = true ∧ Map.find 5 (bringing 4 5 3 0).dev.cleared.pwr.retrain = none ∧
      (let v := (allBut 5 3).dev.cleared; v.pwr.bringing.contains 5 = true ∧ v.pwr.stageOf 5 = 3 ∧ (v.stageDone 5).allUp = true) ∧
      (∀ s ∈ [1, 2, 3], ∀ d ∈ [5, 8, 39], let v := (bringing 4 d s (stageLimit d s)).dev.cleared
        v.pwr.bringing.contains d = true ∧ v.pwr.stageOf d = s ∧ (v.stageDone d).allUp = false ∧
          (Map.find d v.pwr.since).getD 0 + stageLimit d (v.pwr.stageOf d) ≤ v.base.time) ∧
      (let v := (bringing 4 5 3 (stageLimit 5 3 - 1)).dev.cleared
       v.pwr.bringing.contains 5 = true ∧ v.base.time < (Map.find 5 v.pwr.since).getD 0 + stageLimit 5 (v.pwr.stageOf 5))) := by decide +kernel

/-- A handshake into PARK of compute die 0, at a time; a waybill that runs, or one that waits, on the die's Curvature unit 0. -/
def hs2 (granted : Nat) : Handshake := { target := 2, start := 0, dies := [0], granted := granted }
def shaking (t granted : Nat) (s : State) : State := at_ t (onPwr (fun p => { p with hs := some (hs2 granted) }) s)
def busyCrv : State := put .PWR_HS_TIMEOUT 40 0 0 5 (held crv (wb 8 0 0 0))
def refusing : State := held crv { wb 8 0 0 0 with phase := .accepted }
/-- A block's answer is of a kind: 0 grant, 1 delay, 2 refuse. -/
def answers (s : State) (kind : Nat) (k : Block16) : Bool :=
  match s.dev.cleared.answerOf [] k with | .grant => kind == 0 | .delay _ => kind == 1 | .refuse _ => kind == 2
def dozing (t : Nat) : State := put .PWR_DOZE_DWELL 0 0 0 5 (at_ t (onPwr (fun p => { p with effective := 1, dozing := [0], gated := [(3, 0)] }) up))
def atRest (e : Nat) (s : State := up) : State := onPwr (fun p => { p with effective := e }) s

/-- The wake frame of the device with an interface identifier, from a source. -/
def wakes : List Byte :=
  let l := List.replicate 6 0xFF ++ leBytes 6 0 ++ [0x88, 0xB5, 0x46, 0x4E, 0x57, 0x4B] ++ (leBytes 8 9).reverse ++ leBytes 34 0
  l ++ leBytes 4 (frameCfg.check l)

theorem witness_PowerControllerActs :
    (∀ t ∈ [0, usTicks 10 - 1, usTicks 10], (shaking t 0 up).dev.cleared.pwr.hs = some (hs2 0) ∧
      (((hs2 0).askedAt + usTicks 10 ≤ (shaking t 0 up).dev.cleared.base.time) ↔ t = usTicks 10)) ∧
    (∀ t ∈ [4, 5], (((blocksOf 2 [0]).drop 69).take 1).all (answers (shaking t 69 busyCrv) 1) = true ∧ 69 < (blocksOf 2 [0]).length ∧
      (0 + (shaking t 69 busyCrv).dev.cleared.base.rf 0 32 .PWR_HS_TIMEOUT 40 ≤ (shaking t 69 busyCrv).dev.cleared.base.time ↔ t = 5)) ∧
    (∃ l k rest, (blocksOf 2 [0]).drop 0 = l ++ k :: rest ∧ l.all (answers busyCrv 0) = true ∧ answers busyCrv 1 k = true ∧ answers refusing 2 k = true) ∧
    (blocksOf 2 [0]).all (answers up 0) = true ∧
    (home.dev.cleared.wakeSource (.i3c 0x11) = none ∧ home.dev.cleared.wakeSource (.i3c (home.dev.base.catNum 0x1011 2)) = some 0 ∧
      home.dev.cleared.wakeSource (.t1s wakes) = some 1 ∧ home.dev.cleared.wakeSource (.t1s (wakes.set 30 1)) = none ∧
      (∀ c ∈ [(WakeEvent.perst 0 false [], 2), (.perst 3 false [], 5)],
      up.dev.cleared.wakeSource c.1 = some c.2 ∧ bget (up.dev.cleared.base.rd .PWR_WAKE 40) c.2 = true ∧ up.dev.cleared.alive = true ∧
      bget ((put .PWR_WAKE 40 0 0 0 up).dev.cleared.base.rd .PWR_WAKE 40) c.2 = false)) ∧
    (∀ stopped ∈ [false, true], let v := (onPwr (fun p => { p with stopped := stopped }) (atRest 3)).dev
      v.pwr.trans = none ∧ v.pwr.hs = none ∧ v.pwr.effective = 3 ∧ v.pwr.bring = none ∧ v.pwr.stopped = stopped) ∧
    (up.dev.pwr.idle = true ∧ (shaking 0 0 up).dev.pwr.idle = false) ∧
    (∀ t ∈ [4, 5], let v := (dozing t).dev.cleared
      v.dieState 0 = 1 ∧ v.pwr.doze.contains (8 * 0 + 3) = false ∧ v.work.domainBusy 0 3 = false ∧ Map.find (8 * 0 + 3) v.pwr.gated = some 0 ∧
        (0 + v.base.rf 0 32 .PWR_DOZE_DWELL 0 ≤ v.base.time ↔ t = 5)) ∧
    (∀ t ∈ [-400, 950, 951, 1150, 1151], ∀ d ∈ [0, 43], up.dev.cleared.alive = true ∧
      (((up.dev.cleared.onBase fun b => b.sensed d t).warned d t).trips t = decide (t = 1151))) ∧
    -- the first reading; a higher and a lower one after it
    (up.dev.base.peaks.contains 9 = false ∧ (let b := up.dev.base.sensed 9 (-40)
      b.peaks.contains 9 = true ∧ ∀ t ∈ [-39, -40], (decide (sext 16 ((b.wf 0 16 (tc 16 t) .PWR_TEMP 9).rf 16 16 .PWR_TEMP 9) < t) = decide (t = -39)))) ∧
    (let v := (onPwr (fun p => { p with hot := [0] }) up).dev; (v.base.catNum 0x2012 1 : Int) < 951 ∧ v.pwr.hot.contains 0 = true) ∧
    (up.dev.alive = true ∧ (onPwr (fun p => { p with ioLow := true }) up).dev.cleared.alive = true ∧
      (onPwr (fun p => { p with ioLow := true }) up).dev.cleared.pwr.ioLow = true) := by
  refine ⟨by decide +kernel, by decide +kernel, ⟨(blocksOf 2 [0]).take 69, (blocksOf 2 [0])[69], (blocksOf 2 [0]).drop 70, ?_⟩, ?_⟩
  · decide +kernel
  · and_intros <;> decide +kernel

/-- A device whose dies are in a transition, with a reset kept. -/
def changing (l : List ResetKind) : State := onPwr (fun p => { p with trans := some 2, resets := l }) up
def rstCmd : RegAt := ⟨.PWR_RST_CMD, 40, 0, 0, 0⟩
def tileIn (k : Nat) : State := tileIs 0 k up

theorem witness_ResetsAreMadeOrRefused :
    (up.dev.cleared.heeds = true ∧ (onPwr (fun p => { p with ioLow := true }) up).dev.cleared.heeds = false) ∧
    (∀ c ∈ [1, 2, 2 + 8 * 7, 3, 3 + 64 * 63, 4, 4 + 64 * 63 + 4096 * 127, 5], up.writesReg (.master 0) rstCmd (c + 2 ^ 19) 0 up.dev.cleared) ∧
    ((changing [.part 0]).dev.pwr.trans ≠ none ∧ (changing [.part 0]).dev.pwr.resets.contains (.part 0) = true ∧
      (changing [.part 0]).dev.pwr.resets.contains (.part 1) = false ∧ up.dev.pwr.trans = none) ∧
    (parted.dev.base.partValid 0 = true ∧ parted.dev.base.partValid 7 = false ∧ (∀ b ∈ [1, 2], ResetKind.part 0 ≠ .cold b) ∧
      (∀ c ∈ [(ResetKind.part 0, false), (.part 7, true), (.die 40, true), (.die 43, false), (.die 44, true), (.tile 0 0, true), (.link 0, false), (.warm 3, false)],
        parted.dev.resetRefused c.1 = c.2) ∧ (∀ d ∈ [0, 8, 39, 41, 43], d < 44 ∧ d ≠ 40)) ∧
    ((atRest 3).dev.pwr.effective = 3 ∧ (atRest 3).dev.pwr.bring = none ∧ (atRest 2).dev.pwr.effective < 3) ∧
    ((tileIn tACTIVE).dev.base.tileState 0 0 = tACTIVE ∧ (tileIn tTEST).dev.base.tileState 0 0 = tTEST) := by
  refine ⟨by decide +kernel, fun c h => master_writesReg _ _ _ _ ?_, by decide +kernel, by decide +kernel, by decide +kernel⟩
  revert c; decide +kernel


/-- A counter of compute die 0 that counts event 0x60 of any unit, at a value, with more control bits; a latched upper counter. -/
def counterAt (i x more : Nat) (s : State := up) : State := put .DOCK_PMC_VAL 0 0 i x (put .DOCK_PMC_CTL 0 0 i (0x60 + 0xFF00 + 2 ^ 16 + more) s)
def latchedAt (i x : Nat) (s : State := up) : State := onDev (fun v => { v with pmc := { v.pmc with latched := [(i, x)] } }) s
/-- The die's device counters are frozen. -/
def frozen : State := put .DOCK_PMC_GLOBAL 0 0 0 1 up
/-- Counter 2 of die 0 lent to partition 0. -/
def lent (s : State) : State := onBase (fun b => { b with catVals := [(catKey 0x5001 1, leBytes 8 4)] }) s
def happens : Occur := { die := 0, unit := 7, event := 0x60, adds := 16, identity := some 3, part := some 0 }
def everyClass : Nat := 127 * 2 ^ 25

theorem witness_CountersCountAndAreRead :
    (∀ s ∈ [latchedAt 1 9, up, counterAt 0 5 (2 ^ 24)], ∀ i ∈ [0, 1, 63],
      s.arrives (.master 0) (routeOff (.master 0) (regAddr .DOCK_PMC_VAL 0 0 i)) 8 0x71 0 (regAddr .DOCK_PMC_VAL 0 0 i) s.dev.cleared ∧
      reachable s 0 ⟨.DOCK_PMC_VAL, 0, 0, i, 0⟩ false = true) ∧
    (Map.find (64 * 0 + 1) (latchedAt 1 9).dev.cleared.pmc.latched = some 9 ∧ Map.find (64 * 0 + 0) up.dev.cleared.pmc.latched = none ∧
      up.dev.cleared.base.chained 0 0 = false ∧ Map.find (64 * 0 + 0) (counterAt 0 5 (2 ^ 24)).dev.cleared.pmc.latched = none ∧
      (counterAt 0 5 (2 ^ 24)).dev.cleared.base.chained 0 0 = true) ∧
    -- which counters an occurrence reaches: off, another event, another source, ignored, the upper one of a chain, frozen; and all but frozen
    ((bget (up.dev.base.rd .DOCK_PMC_CTL 0 0 0) 16 = false ∧ fget ((counterAt 0 0 0).dev.base.rd .DOCK_PMC_CTL 0 0 0) 0 8 ≠ 0x61 ∧
        bget ((put .DOCK_PMC_BAD 0 0 0 1 up).dev.base.rd .DOCK_PMC_BAD 0) 0 = true ∧ (counterAt 0 5 (2 ^ 24)).dev.base.chained 0 (1 - 1) = true ∧
        up.dev.base.counterOwner 0 2 = none ∧ bget (frozen.dev.base.rd .DOCK_PMC_GLOBAL 0) 0 = true) ∧
      (let c := (put .DOCK_PMC_CTL 0 0 0 (0x60 + 80 * 256 + 2 ^ 16) up).dev.base.rd .DOCK_PMC_CTL 0 0 0
       fget c 8 8 ≠ 0xFF ∧ fget c 8 8 ≠ 81 ∧ fget c 8 8 = 80) ∧
      ((counterAt 2 0 0 frozen).dev.base.dieSelects 0 2 7 0x60 = false ∧ (let c := (counterAt 2 0 0 frozen).dev.base.rd .DOCK_PMC_CTL 0 0 2
        bget c 16 = true ∧ fget c 0 8 = 0x60 ∧ fget c 8 8 = 0xFF ∧ bget ((counterAt 2 0 0 frozen).dev.base.rd .DOCK_PMC_BAD 0) 2 = false))) ∧
    ((lent up).dev.base.counterOwner 0 2 = some 0 ∧ (let o : Occur := { happens with part := some 1 }; o.cls ≠ 6 ∧ o.part ≠ some 0) ∧
      (lent parted).dev.base.partOfSrc { happens with unit := 81, cls := 6 } ≠ some 0 ∧ up.dev.base.counterOwner 0 2 = none ∧
      (fget ((counterAt 2 0 0).dev.base.rd .DOCK_PMC_CTL 0 0 2) 25 7).testBit happens.cls = false ∧
      (let b := (put .DOCK_PMC_RLIMIT 0 0 0 15 (put .DOCK_PMC_RBASE 0 0 0 8 (counterAt 2 0 (2 ^ 48)))).dev.base
       0 < fget (b.rd .DOCK_PMC_CTL 0 0 2) 48 3 ∧ ∀ a ∈ [7, 16], a < b.rf 0 52 .DOCK_PMC_RBASE 0 0 (1 - 1) ∨ b.rf 0 52 .DOCK_PMC_RLIMIT 0 0 (1 - 1) < a)) ∧
    ((counterAt 2 0 everyClass).dev.base.counting = true ∧ 0 < happens.adds ∧ 68 ≤ ({ happens with unit := 80 } : Occur).unit) ∧
    -- additions: below the limit and at it, to a counter of the device, of a partition, that samples, and of a chain
    (∀ x ∈ [2 ^ 48 - 17, 2 ^ 48 - 16], ∀ l ∈ [false, true], ∀ more ∈ [0, 2 ^ 17], let b := (if l then lent (counterAt 2 x more) else counterAt 2 x more).dev.base
      (b.rf 0 48 .DOCK_PMC_VAL 0 0 2 + 16 < 2 ^ 48 ↔ x = 2 ^ 48 - 17) ∧ bget (b.rd .DOCK_PMC_CTL 0 0 2) 17 = decide (more ≠ 0) ∧
      b.chained 0 2 = false ∧ b.counterOwner 0 2 = (if l then some 0 else none)) ∧
    (∀ y ∈ [2 ^ 48 - 2, 2 ^ 48 - 1], let b := (put .DOCK_PMC_VAL 0 0 1 y (counterAt 0 (2 ^ 48 - 1) (2 ^ 24))).dev.base
      b.chained 0 0 = true ∧ b.counterOwner 0 0 = none ∧ 2 ^ 48 ≤ b.rf 0 48 .DOCK_PMC_VAL 0 0 0 + 1 ∧ bget (b.rd .DOCK_PMC_CTL 0 0 0) 17 = false ∧
      (b.rf 0 48 .DOCK_PMC_VAL 0 0 (0 + 1) + 1 < 2 ^ 48 ↔ y = 2 ^ 48 - 2)) ∧
    (bget ((put .DOCK_PMC_SAT 0 0 0 4 (lent up)).dev.base.rd .DOCK_PMC_SAT 0) 2 = true ∧ bget ((lent up).dev.base.rd .DOCK_PMC_SAT 0) 2 = false) ∧
    -- a cycle in which one counter's wrap freezes the die
    (let b := (counterAt 2 0 0 (counterAt 4 (2 ^ 48 - 1) 0 (put .DOCK_PMC_GLOBAL 0 0 0 2 up))).dev.base
     b.freezes 0 4 1 = true ∧ b.freezes 0 2 1 = false ∧ b.counterOwner 0 2 = none ∧ bget (b.rd .DOCK_PMC_GLOBAL 0) 0 = false) ∧
    -- tile counters
    (∀ x ∈ [2 ^ 48 - 2, 2 ^ 48 - 1], ∀ more ∈ [0, 2 ^ 9], ∀ st ∈ [0, 4],
      let b := (put .TILE_PMC_STATUS 0 5 0 st (put .TILE_PMC_VAL 0 5 2 x (put .TILE_PMC_CTL 0 5 2 more up))).dev.base
      (b.rf 0 48 .TILE_PMC_VAL (cd 0) 5 2 + 1 < 2 ^ 48 ↔ x = 2 ^ 48 - 2) ∧ bget (b.rd .TILE_PMC_CTL (cd 0) 5 2) 9 = decide (more ≠ 0) ∧
      bget (b.rd .TILE_PMC_STATUS (cd 0) 5) 2 = decide (st ≠ 0)) := by
  refine ⟨fun s h i h' => ⟨master_arrives _ _ _ _ _ ?_, ?_⟩, ?_⟩
  · revert i; revert s; decide +kernel
  · revert i; revert s; decide +kernel
  · and_intros <;> decide +kernel

theorem witness_BlockGenerationWrapIsTimed :
    (∀ c ∈ [(0xFFFE, false), (0xFFFF, true)], let b : Base := { up.dev.base with gens := [(3 * 2 ^ 25 + 1, c.1)] }
      Map.sorted b.gens = true ∧ 3 * 2 ^ 25 + 1 = 3 * 2 ^ 25 + 4096 / 4096 ∧
      (2 ^ 16 ≤ (Map.find (3 * 2 ^ 25 + 1) b.gens).getD 0 + 1 ↔ c.2 = true)) := by decide +kernel

theorem witness_DockTagsFollowResets : parted.dev.base.partValid 0 = true ∧ (1 : Nat) ≠ 0 := by decide +kernel

end Sys2Proof.Tests
end

section
/-! Fields of a register: what reading a field answers after another, or the same, has been set; and what a whole-register write leaves in each
field (00 R3, R9). -/

namespace Sys2Proof.Proofs

open Sys2Proof.Machine

/-- Two fields of a register share no bit. -/
abbrev FieldsApart (f g : Fld) : Prop := f.lo + f.width ≤ g.lo ∨ g.lo + g.width ≤ f.lo

/-- Bit i of a field is bit lo + i of its register. -/
theorem fget_testBit (v : Word) (lo w i : Nat) : (fget v lo w).testBit i = (decide (i < w) && v.toNat.testBit (lo + i)) := by
  rw [fget, Nat.testBit_mod_two_pow, Nat.testBit_div_two_pow, Nat.add_comm]

/-- A register with a field set has the field's bits from the value, and every other bit as before. -/
theorem fput_testBit (v : Word) (lo w x i : Nat) :
    (fput v lo w x).toNat.testBit i =
      (decide (i < 64) && if lo ≤ i ∧ i < lo + w then x.testBit (i - lo) else v.toNat.testBit i) := by
  have hlow : v.toNat % 2 ^ lo < 2 ^ lo := Nat.mod_lt _ (Nat.two_pow_pos lo)
  have hmid : x % 2 ^ w * 2 ^ lo + v.toNat % 2 ^ lo < 2 ^ (lo + w) := by
    have hx : x % 2 ^ w + 1 ≤ 2 ^ w := Nat.mod_lt _ (Nat.two_pow_pos w)
    calc x % 2 ^ w * 2 ^ lo + v.toNat % 2 ^ lo < (x % 2 ^ w + 1) * 2 ^ lo := by rw [Nat.add_mul, Nat.one_mul]; omega
      _ ≤ 2 ^ w * 2 ^ lo := Nat.mul_le_mul_right _ hx
      _ = 2 ^ (lo + w) := by rw [Nat.pow_add, Nat.mul_comm]
  rw [fput, BitVec.toNat_ofNat, Nat.testBit_mod_two_pow, Nat.add_assoc, Nat.mul_comm _ (2 ^ (lo + w)),
    Nat.testBit_two_pow_mul_add _ hmid, Nat.mul_comm _ (2 ^ lo), Nat.testBit_two_pow_mul_add _ hlow]
  simp only [Nat.testBit_mod_two_pow, Nat.testBit_div_two_pow]
  congr 1
  by_cases h1 : i < lo
  · simp [h1, show i < lo + w by omega, show ¬ lo ≤ i by omega]
  · by_cases h2 : i < lo + w
    · simp [h1, h2, show lo ≤ i by omega, show i - lo < w by omega]
    · simp [h2, show i - (lo + w) + (lo + w) = i by omega]

/-- A field that was set reads the value, cut to its width. -/
theorem fget_fput_same (v : Word) (lo w x : Nat) (h : lo + w ≤ 64) : fget (fput v lo w x) lo w = x % 2 ^ w := by
  refine Nat.eq_of_testBit_eq fun i => ?_
  rw [fget_testBit, fput_testBit, Nat.testBit_mod_two_pow]
  by_cases hi : i < w
  · simp [hi, show lo + i < 64 by omega]
  · simp [hi]

/-- A field apart from the one that was set reads as before. -/
theorem fget_fput_apart (v : Word) (f g : Fld) (x : Nat) (h : FieldsApart f g) (hg : g.lo + g.width ≤ 64) :
    fget (fput v f.lo f.width x) g.lo g.width = fget v g.lo g.width := by
  refine Nat.eq_of_testBit_eq fun i => ?_
  rw [fget_testBit, fget_testBit, fput_testBit]
  by_cases hi : i < g.width
  · simp [hi, show g.lo + i < 64 by omega, show ¬ (f.lo ≤ g.lo + i ∧ g.lo + i < f.lo + f.width) by unfold FieldsApart at h; omega]
  · simp [hi]

/-- A field is below 2 to its width. -/
theorem fget_lt (v : Word) (lo w : Nat) : fget v lo w < 2 ^ w := Nat.mod_lt _ (Nat.two_pow_pos w)

/-- A field of a number that fits a register. -/
theorem fget_ofNat (x lo w : Nat) (h : x < 2 ^ 64) : fget (BitVec.ofNat 64 x) lo w = x / 2 ^ lo % 2 ^ w := by
  rw [fget, BitVec.toNat_ofNat, Nat.mod_eq_of_lt h]

/-- A register rewritten field by field, each step leaving the fields apart from its own: a listed field ends as its own step leaves it,
which finds it as it was at first. -/
theorem fget_foldl_fields (step : Word → Fld → Word) (old : Word) (f : Fld) (y : Nat)
    (keeps : ∀ g : Fld, FieldsApart g f → ∀ v, fget (step v g) f.lo f.width = fget v f.lo f.width)
    (sets : ∀ v, fget v f.lo f.width = fget old f.lo f.width → fget (step v f) f.lo f.width = y)
    (fs : List Fld) (hf : f ∈ fs) (hp : fs.Pairwise FieldsApart) : fget (fs.foldl step old) f.lo f.width = y := by
  have keepsAll : ∀ (gs : List Fld), (∀ g ∈ gs, FieldsApart g f) → ∀ v, fget (gs.foldl step v) f.lo f.width = fget v f.lo f.width := by
    intro gs
    induction gs with
    | nil => exact fun _ _ => rfl
    | cons g gs ih =>
      intro h v
      rw [List.foldl_cons, ih fun g' h' => h g' (List.mem_cons_of_mem _ h'), keeps g (h g List.mem_cons_self)]
  obtain ⟨before, after, rfl⟩ := List.append_of_mem hf
  obtain ⟨-, hafter, hbefore⟩ := List.pairwise_append.mp hp
  rw [List.foldl_append, List.foldl_cons, keepsAll after fun g hg => ((List.pairwise_cons.mp hafter).1 g hg).symm]
  exact sets _ (keepsAll before (fun g hg => hbefore g hg f List.mem_cons_self) old)

/-- What a whole-register write leaves in one of fields that lie apart, by its access type (00 R9). -/
theorem fget_writeFields (fs : List Fld) (f : Fld) (old : Word) (x : Nat) (locked : Bool) (hf : f ∈ fs) (hx : x < 2 ^ 64)
    (hw : f.lo + f.width ≤ 64) (hp : fs.Pairwise FieldsApart) :
    fget (writeFields fs old x (2 ^ 64 - 1) locked) f.lo f.width =
      match f.acc with
      | .rw => x / 2 ^ f.lo % 2 ^ f.width
      | .lk => if locked then fget old f.lo f.width else x / 2 ^ f.lo % 2 ^ f.width
      | .w1c => fget old f.lo f.width &&& (x / 2 ^ f.lo % 2 ^ f.width ^^^ (2 ^ f.width - 1))
      | .w1s => fget old f.lo f.width ||| x / 2 ^ f.lo % 2 ^ f.width
      | .ro | .wo | .rc => fget old f.lo f.width := by
  have hmerged : old.toNat &&& ((2 ^ 64 - 1) ^^^ (2 ^ 64 - 1)) ||| x &&& 2 ^ 64 - 1 = x := by
    rw [Nat.xor_self, Nat.and_zero, Nat.zero_or, Nat.and_two_pow_sub_one_eq_mod, Nat.mod_eq_of_lt hx]
  have hy := fget_lt (BitVec.ofNat 64 x) f.lo f.width
  have hold := fget_lt old f.lo f.width
  unfold writeFields
  simp only [hmerged, ← fget_ofNat x f.lo f.width hx]
  refine fget_foldl_fields _ old f _ (fun g hg v => ?_) (fun v hv => ?_) fs hf hp
  · cases g.acc with
    | rw | w1c | w1s => exact fget_fput_apart _ _ _ _ hg hw
    | lk => cases locked with
      | true => rfl
      | false => exact fget_fput_apart _ _ _ _ hg hw
    | ro | wo | rc => rfl
  · cases f.acc with
    | rw => exact (fget_fput_same _ _ _ _ hw).trans (Nat.mod_eq_of_lt hy)
    | lk => cases locked with
      | true => exact hv
      | false => exact (fget_fput_same _ _ _ _ hw).trans (Nat.mod_eq_of_lt hy)
    | w1c => exact (fget_fput_same _ _ _ _ hw).trans (Nat.mod_eq_of_lt (lt_of_le_of_lt Nat.and_le_left hold))
    | w1s => exact (fget_fput_same _ _ _ _ hw).trans (Nat.mod_eq_of_lt (Nat.or_lt_two_pow hold hy))
    | ro | wo | rc => exact hv

/-- The fields of every register lie apart within 64 bits. -/
theorem registers_fields_apart : ∀ r ∈ Reg.all, (∀ g ∈ r.spec.fields, g.lo + g.width ≤ 64) ∧ r.spec.fields.Pairwise FieldsApart := by
  decide +kernel

/-- Settles O7: field by field, the fold of a write leaves the fields apart from the one that a step sets. -/
theorem fieldsTakeAWriteByAccessType : Obligations.FieldsTakeAWriteByAccessType :=
  ⟨fun fs f old x locked hf hx hw hp => fget_writeFields fs f old x locked hf hx (hw f hf) hp, registers_fields_apart⟩

end Sys2Proof.Proofs
end

section
/-! The machine right after reset (00 R11, 16 R477, R483). -/

namespace Sys2Proof.Proofs

open Sys2Proof.Machine Sys2Proof.Laws

/-- Where the register file lists nothing, every register reads its reset value. -/
theorem rd_of_regs_nil (b : Base) (h : b.regs = []) (r : Reg) (d u i j : Nat) : b.rd r d u i j = r.reset d u := by
  rw [Base.rd, h, map_find_nil, Option.getD_none]

/-- After reset the partition table is not locked. -/
theorem reset_not_locked : State.reset.dev.base.locked = false := by
  rw [Base.locked, rd_of_regs_nil _ rfl]
  decide

/-- Until the partition table is locked no host link serves a partition (14 R410). -/
theorem linkServes_of_not_locked (b : Base) (h : b.locked = false) (L : Nat) : b.linkServes L = none := by
  simp [Base.linkServes, h]

/-- Settles O3: reset lists no register and no byte of memory, so each reads its reset value. -/
theorem resetStateHoldsResetValues : Obligations.ResetStateHoldsResetValues := by
  have registers := rd_of_regs_nil State.reset.dev.base rfl
  have links := linkServes_of_not_locked _ reset_not_locked
  exact ⟨rfl, rfl, registers, rfl, links, rfl, rfl, rfl, rfl, rfl, rfl, rfl, rfl, rfl, rfl, rfl, rfl, rfl, rfl, rfl, rfl, fun _ => rfl⟩

end Sys2Proof.Proofs
end

section
/-! Register accesses as they arrive, whatever they name (00 R6, R8, 14 R403 to R405). -/

namespace Sys2Proof.Proofs

open Sys2Proof Sys2Proof.Machine Sys2Proof.Laws

/-- A command that acts leaves what its effect makes of the device as the command finds it. -/
theorem leaves_of_run {c : Instr} {s : State} {may : Bool} {f : Device → Device} (hc : exec c s = s.run may f) (hmay : may = true)
    {v : Device} (hv : f s.dev.cleared = v) : Leaves c s v := by
  rw [Leaves, hc, run_acts s may f hmay, hv]

/-- A register write in service leaves what the arriving write makes of the device. -/
theorem registerWrite_leaves {s : State} {rt : Route} {off size data : Nat} (hrun : s.dev.regRuns rt off = true) {v : Device}
    (hv : s.dev.cleared.writeArrives rt off size data = v) : Leaves (.registerWrite rt off size data) s v :=
  leaves_of_run rfl hrun hv

/-- A register read in service leaves what the arriving read makes of the device. -/
theorem rcRead_leaves {s : State} {rt : Route} {off size : Nat} (hrun : s.dev.regRuns rt off = true) {v : Device}
    (hv : s.dev.cleared.regRead rt off size = v) : Leaves (.rcRead rt off size) s v :=
  leaves_of_run rfl hrun hv

/-- A write that nothing holds off is made at once. -/
theorem writeArrives_of_writeFree {v : Device} {rt : Route} {off data : Nat} (h : v.writeFree rt off data) (size : Nat) :
    v.cleared.writeArrives rt off size data = v.cleared.regWrite rt off size data := by
  obtain ⟨hheld, hbehind⟩ := h
  simp [Device.writeArrives, hheld, hbehind]

/-- A write of a link that serves a partition, or of another master, is its master's write, counted before and reported after by its port. -/
theorem regWrite_of_routed {v : Device} {rt : Route} {off m a : Nat} (h : v.routed rt off = some (m, a)) (size data : Nat) :
    v.regWrite rt off size data = ((v.counted rt 0x70 size a).masterWrite m a size data).reported rt := by
  cases rt with
  | bar4 L => simp [Device.routed] at h
  | bar0 L | master k => simp only [Device.regWrite, h, Device.counted, Device.reported]

/-- A device whose last answer is no error has nothing to report on a link: neither for a write nor for a read (14 R405). -/
theorem reported_of_no_error {v : Device} (h : v.base.resp ≠ .error) (rt : Route) : v.reported rt = v := by
  cases rt with
  | bar0 L => exact signalled_of_no_error v L h
  | bar4 L | master k => rfl

theorem readFailed_of_no_error {v : Device} (h : v.base.resp ≠ .error) (rt : Route) : v.readFailed rt = v := by
  cases rt with
  | bar0 L => simp [Device.readFailed, Device.advised, h]
  | bar4 L | master k => rfl

/-- An answer is what the device answered last. -/
@[simp] theorem answer_base_resp (v : Device) (x : Resp) : (v.answer x).base.resp = x := rfl

/-- A read by a master of an address of control space (00 R6, R8). -/
def masterRead (v : Device) (m a size : Nat) : Device :=
  if sizeOk a size then
    match placeOf a with
    | .outside => v.answer .error
    | .hole => v.answer (.value 0)
    | .reg r => v.regLoad m r a size
  else v.answer .error

/-- A read of a link that serves a partition, or of another master, is its master's read, counted before and reported after by its port. -/
theorem regRead_of_routed {v : Device} {rt : Route} {off m a : Nat} (h : v.routed rt off = some (m, a)) (size : Nat) :
    v.regRead rt off size = (masterRead (v.counted rt 0x71 size a) m a size).readFailed rt := by
  cases rt with
  | bar4 L => simp [Device.routed] at h
  | bar0 L | master k =>
    simp only [Device.regRead, h, masterRead, Device.counted]
    split
    · cases placeOf a with
      | outside | reg r => rfl
      | hole => exact (readFailed_of_no_error (by simp) _).symm
    · rfl

/-- An access of a size or alignment that is not allowed, or outside every block, answers an error (00 R6, R8). -/
theorem masterWrite_error {a size : Nat} (h : sizeOk a size = false ∨ placeOf a = .outside) (v : Device) (m data : Nat) :
    v.masterWrite m a size data = v.answer .error := by
  unfold Device.masterWrite
  split
  · next ok =>
    have hout : placeOf a = .outside := h.resolve_left (by simp [ok])
    rw [hout]
  · rfl

theorem masterRead_error {a size : Nat} (h : sizeOk a size = false ∨ placeOf a = .outside) (v : Device) (m : Nat) :
    masterRead v m a size = v.answer .error := by
  unfold masterRead
  split
  · next ok =>
    have hout : placeOf a = .outside := h.resolve_left (by simp [ok])
    rw [hout]
  · rfl

/-- An unoccupied offset of a block ignores a write and reads as zero (00 R8). -/
theorem masterWrite_hole {a size : Nat} (ok : sizeOk a size = true) (h : placeOf a = .hole) (v : Device) (m data : Nat) :
    v.masterWrite m a size data = v.answer .ok := by
  simp only [Device.masterWrite, ok, h, if_true]

theorem masterRead_hole {a size : Nat} (ok : sizeOk a size = true) (h : placeOf a = .hole) (v : Device) (m : Nat) :
    masterRead v m a size = v.answer (.value 0) := by
  simp only [masterRead, ok, h, if_true]

/-- An access that names a register is that register's. -/
theorem masterWrite_reg {a size : Nat} {r : RegAt} (ok : sizeOk a size = true) (h : placeOf a = .reg r) (v : Device) (m data : Nat) :
    v.masterWrite m a size data = v.regStore m r (accessData a size data) (accessMask a size) := by
  simp only [Device.masterWrite, ok, h, if_true]

theorem masterRead_reg {a size : Nat} {r : RegAt} (ok : sizeOk a size = true) (h : placeOf a = .reg r) (v : Device) (m : Nat) :
    masterRead v m a size = v.regLoad m r a size := by
  simp only [masterRead, ok, h, if_true]

/-- A write in service that nothing holds off leaves what its master's write makes of the device. -/
theorem registerWrite_leaves_masterWrite {s : State} {rt : Route} {off size data m a : Nat} (hrun : s.dev.regRuns rt off = true)
    (hrt : s.dev.cleared.routed rt off = some (m, a)) (hfree : s.dev.writeFree rt off data) {w : Device}
    (hw : (s.dev.cleared.counted rt 0x70 size a).masterWrite m a size data = w) :
    Leaves (.registerWrite rt off size data) s (w.reported rt) :=
  registerWrite_leaves hrun (by rw [writeArrives_of_writeFree hfree, regWrite_of_routed hrt, hw])

/-- A read in service leaves what its master's read makes of the device. -/
theorem rcRead_leaves_masterRead {s : State} {rt : Route} {off size m a : Nat} (hrun : s.dev.regRuns rt off = true)
    (hrt : s.dev.cleared.routed rt off = some (m, a)) {w : Device}
    (hw : masterRead (s.dev.cleared.counted rt 0x71 size a) m a size = w) : Leaves (.rcRead rt off size) s (w.readFailed rt) :=
  rcRead_leaves hrun (by rw [regRead_of_routed hrt, hw])

end Sys2Proof.Proofs
end

section
/-! Accesses that name no register: by size, by place, and through BAR4 (00 R6, R8, 14 R403, R405, R413). -/

namespace Sys2Proof.Proofs

open Sys2Proof Sys2Proof.Machine Sys2Proof.Laws

/-- The offsets and strides of every register are multiples of 8 (00 R6). -/
theorem spec_aligned (r : Reg) : r.spec.off % 8 = 0 ∧ r.spec.s1 % 8 = 0 ∧ r.spec.s2 % 8 = 0 := by
  cases r <;> exact ⟨rfl, rfl, rfl⟩

theorem blockOffset_aligned (b : Block) (u : Nat) : blockOffset b u % 8 = 0 := by
  cases b <;> simp only [blockOffset] <;> omega

/-- Every register sits at a multiple of 8 (00 R6). -/
theorem regAddr_aligned (r : Reg) (d u i j : Nat) : regAddr r d u i j % 8 = 0 := by
  obtain ⟨hoff, h1, h2⟩ := spec_aligned r
  have hblock := blockOffset_aligned r.spec.block u
  have hi : r.spec.s1 * i % 8 = 0 := by rw [Nat.mul_mod, h1, Nat.zero_mul, Nat.zero_mod]
  have hj : r.spec.s2 * j % 8 = 0 := by rw [Nat.mul_mod, h2, Nat.zero_mul, Nat.zero_mod]
  unfold regAddr controlBase
  omega

/-- The allowed accesses: 8 bytes, or 4 bytes to either half, aligned (00 R6). -/
theorem sizeOk_iff (a size : Nat) : sizeOk a size = true ↔ (size = 8 ∧ a % 8 = 0) ∨ (size = 4 ∧ a % 4 = 0) := by
  simp [sizeOk]

/-- The bits of the number of a truth value. -/
theorem b2n_testBit (c : Bool) (i : Nat) : (b2n c).testBit i = (decide (i = 0) && c) := by
  cases c
  · simp [b2n]
  · cases i with
    | zero => rfl
    | succ i => simp [b2n, Nat.testBit_succ]

/-- A number made of one bit for each place below n has these bits, and is below 2^n. -/
theorem foldl_bits (p : Nat → Bool) (n : Nat) :
    let x := (List.range n).foldl (fun (m : Nat) i => m + b2n (p i) * 2 ^ i) 0
    x < 2 ^ n ∧ ∀ i, x.testBit i = (decide (i < n) && p i) := by
  induction n with
  | zero => simp
  | succ n ih =>
    obtain ⟨hlt, hbits⟩ := ih
    simp only [List.range_succ, List.foldl_append, List.foldl_cons, List.foldl_nil]
    generalize (List.range n).foldl (fun (m : Nat) i => m + b2n (p i) * 2 ^ i) 0 = x at hlt hbits
    refine ⟨?_, fun i => ?_⟩
    · have hone : b2n (p n) * 2 ^ n ≤ 1 * 2 ^ n := Nat.mul_le_mul_right _ (by unfold b2n; split <;> omega)
      rw [Nat.pow_succ]
      omega
    · rw [Nat.add_comm, Nat.mul_comm, Nat.testBit_two_pow_mul_add _ hlt, hbits, b2n_testBit]
      rcases Nat.lt_trichotomy i n with h | rfl | h
      · simp [h, Nat.lt_succ_of_lt h]
      · simp
      · simp [show ¬ i < n by omega, show ¬ i < n + 1 by omega, show i - n ≠ 0 by omega]

/-- A write through BAR4 meets no block that holds it off and no earlier write: it is made at once. -/
theorem writeArrives_bar4 (v : Device) (L off size data : Nat) : v.writeArrives (.bar4 L) off size data = v.bar4Write L off size data := rfl

theorem regRead_bar4 (v : Device) (L off size : Nat) : v.regRead (.bar4 L) off size = v.bar4Read L off size := rfl

/-- Entry k of a link's MSI-X table (14 R413). -/
def vectorOf (b : Base) (L k : Nat) : Vec := (Map.find (L * 2048 + k) b.vectors).getD {}

section
variable {v : Device} {L off size : Nat}

/-- A link that serves no partition is not answered through BAR4 (14 R403). -/
theorem bar4Read_of_unserved (h : v.base.linkServes L = none) : v.bar4Read L off size = v := by simp [Device.bar4Read, h]

theorem linkServes_isNone_of_served (h : v.base.linkServes L ≠ none) : (v.base.linkServes L).isNone = false :=
  Option.isNone_eq_false_iff.mpr (Option.isSome_iff_ne_none.mpr h)

/-- A read through BAR4 of a wrong size or past its end answers an error (00 R6, 14 R403). -/
theorem bar4Read_error (h : v.base.linkServes L ≠ none) (hbad : sizeOk off size = false ∨ 65536 ≤ off) :
    v.bar4Read L off size = v.answer .error := by
  simp [Device.bar4Read, linkServes_isNone_of_served h, hbad]

/-- A read through BAR4 below 0x8000 answers bytes of the table (14 R403, R413). -/
theorem bar4Read_entry (h : v.base.linkServes L ≠ none) (ok : sizeOk off size = true) (hoff : off < 32768) :
    v.bar4Read L off size =
      v.answer (.value (BitVec.ofNat 64 (nget (vectorOf v.base L (off / 16)).entry (8 * (off % 16)) (8 * size)))) := by
  simp [Device.bar4Read, vectorOf, linkServes_isNone_of_served h, ok, hoff, show ¬ 65536 ≤ off by omega]

/-- A read through BAR4 of the pending bits of the 2,048 entries (14 R403, R413). -/
theorem bar4Read_pending (h : v.base.linkServes L ≠ none) (ok : sizeOk off size = true) (hlo : 32768 ≤ off) (hhi : off < 33024) :
    v.bar4Read L off size = v.answer (.value (BitVec.ofNat 64
      ((List.range (8 * size)).foldl (fun (m : Nat) i => m + b2n (vectorOf v.base L (8 * (off - 0x8000) + i)).pending * 2 ^ i) 0))) := by
  simp [Device.bar4Read, vectorOf, linkServes_isNone_of_served h, ok, hhi, show ¬ 65536 ≤ off by omega, show ¬ off < 32768 by omega]

/-- A read through BAR4 behind the pending bits answers zero (00 R8). -/
theorem bar4Read_behind (h : v.base.linkServes L ≠ none) (ok : sizeOk off size = true) (hlo : 33024 ≤ off) (hhi : off < 65536) :
    v.bar4Read L off size = v.answer (.value 0) := by
  simp [Device.bar4Read, linkServes_isNone_of_served h, ok, show ¬ 65536 ≤ off by omega,
    show ¬ off < 32768 by omega, show ¬ off < 33024 by omega]

/-- A write through BAR4 that its link does not serve, of a wrong size, or past the table, changes nothing (14 R403). -/
theorem bar4Write_ignored (h : v.base.linkServes L = none ∨ sizeOk off size = false ∨ 32768 ≤ off) (data : Nat) :
    v.bar4Write L off size data = v := by
  simp [Device.bar4Write, h]

/-- A write through BAR4 into the table replaces the bytes that it covers, and messages that nothing masks any more are sent (14 R413). -/
theorem bar4Write_entry (h : v.base.linkServes L ≠ none) (ok : sizeOk off size = true) (hoff : off < 32768) (data new : Nat) (e e' : Vec)
    (he : e = vectorOf v.base L (off / 16))
    (hnew : new = e.entry / 2 ^ (8 * (off % 16) + 8 * size) * 2 ^ (8 * (off % 16) + 8 * size) + data % 2 ^ (8 * size) * 2 ^ (8 * (off % 16)) +
      e.entry % 2 ^ (8 * (off % 16)))
    (he' : e' = { e with addr := new % 2 ^ 64 / 4 * 4, data := new / 2 ^ 64 % 2 ^ 32, masked := new.testBit 96 }) :
    v.bar4Write L off size data = v.onBase fun b =>
      ({ b with
         resp := .ok,
         vectors :=
           if e' = {} then Map.del (L * 2048 + off / 16) b.vectors
           else Map.put (L * 2048 + off / 16) e' b.vectors } : Base).msixFlush L := by
  subst he hnew he'
  simp [Device.bar4Write, vectorOf, nget, h, ok, show ¬ 32768 ≤ off by omega]

end

/-- Settles O11: an access is one of its master at an address, and BAR4 has its own cases. -/
theorem accessThatNamesNoRegister : Obligations.AccessThatNamesNoRegister := by
  refine ⟨regAddr_aligned, sizeOk_iff, ?_, ?_⟩
  · rintro s rt off size data m a v w hrun hrt hfree rfl rfl
    refine ⟨fun bad => ⟨?_, ?_⟩, fun ok hole => ⟨?_, ?_⟩⟩
    · exact registerWrite_leaves_masterWrite hrun hrt hfree (masterWrite_error bad _ m data)
    · exact rcRead_leaves_masterRead hrun hrt (masterRead_error bad _ m)
    · have written := registerWrite_leaves_masterWrite hrun hrt hfree (masterWrite_hole ok hole _ m data)
      rwa [reported_of_no_error (by simp)] at written
    · have read := rcRead_leaves_masterRead hrun hrt (masterRead_hole ok hole _ m)
      rwa [readFailed_of_no_error (by simp)] at read
  · rintro s L off size data v hrun rfl
    have read {w : Device} (hw : s.dev.cleared.bar4Read L off size = w) : Leaves (.rcRead (.bar4 L) off size) s w :=
      rcRead_leaves (rt := .bar4 L) hrun hw
    have written {w : Device} (hw : s.dev.cleared.bar4Write L off size data = w) : Leaves (.registerWrite (.bar4 L) off size data) s w :=
      registerWrite_leaves (rt := .bar4 L) hrun hw
    refine ⟨fun unserved => ⟨read (bar4Read_of_unserved unserved), written (bar4Write_ignored (.inl unserved) _)⟩,
      fun served => ⟨fun bad => read (bar4Read_error served bad), fun bad => written (bar4Write_ignored (.inr bad) _),
        fun ok lo hi => read (bar4Read_behind served ok lo hi),
        fun ok lo hi => ⟨_, read (bar4Read_pending served ok lo hi), fun i hi64 => ?_⟩, ?_⟩⟩
    · rw [BitVec.getLsbD_ofNat, (foldl_bits _ _).2]
      simp only [hi64, decide_true, Bool.true_and, vectorOf]
    · rintro ok hoff e lo bits old new rfl rfl rfl rfl hnew
      exact ⟨read (bar4Read_entry served ok hoff), fun e' he' => written (bar4Write_entry served ok hoff data new _ e' rfl hnew he')⟩

end Sys2Proof.Proofs
end

section
/-! What REGISTER_WRITE leaves: a register's fields, and the effect of each register whose write does more (00 R6, R9). -/

namespace Sys2Proof.Proofs

open Sys2Proof Sys2Proof.Machine Sys2Proof.Laws

/-- What register r holds after a write of x to the bits of a mask (00 R9). -/
abbrev writtenValue (b : Base) (r : RegAt) (x mask : Nat) : Word :=
  writeFields r.reg.spec.fields (b.rd r.reg r.die r.unit r.i r.j) x mask b.locked

/-- A write that a register takes leaves what the register does with it, answered. -/
theorem registerWrite_leaves_regApply {s : State} {rt : Route} {off size data m a : Nat} {r : RegAt} {v : Device}
    (h : s.writes rt off size data m a r v) {w : Device} (hw : v.regApply m r (accessData a size data) (accessMask a size) = w) :
    Leaves (.registerWrite rt off size data) s (w.answer .ok) :=
  registerWrite_leaves h.1.1 (by rw [writeArrives_eq s rt off size data m a r v h, hw])

section
variable (v : Device) (m x k : Nat) (r : RegAt)

/-- CETHRESH stores 1 for 0 (05 R151). -/
theorem regApply_cethresh (h : r.reg = .DOCK_MS_CETHRESH) :
    v.regApply m r x k =
      v.setBase (v.base.wr (if fget (writtenValue v.base r x k) 0 8 = 0 then fput (writtenValue v.base r x k) 0 8 1 else writtenValue v.base r x k)
        .DOCK_MS_CETHRESH r.die) := by
  obtain ⟨reg, d, u, i, j⟩ := r
  subst h
  rfl

/-- The controls of a free unit keep what they hold while it is busy (12 R345). -/
theorem regApply_freeUnit (h : r.reg ∈ [Reg.CHK_FU_CFG, .CHK_FU_POLY, .CHK_FU_INIT, .CHK_FU_ADDR, .CHK_FU_LEN, .CHK_FU_EXPECT]) :
    v.regApply m r x k =
      if v.base.fuBusy r.die r.i then v.setBase (v.base.fuEvent r.die 1 0x0B06)
      else v.setBase (v.base.wr (writtenValue v.base r x k) r.reg r.die r.unit r.i r.j) := by
  obtain ⟨reg, d, u, i, j⟩ := r
  simp only [List.mem_cons, List.not_mem_nil, or_false] at h
  rcases h with rfl | rfl | rfl | rfl | rfl | rfl <;> rfl

/-- The held fields of a queue are written by way of its state (04 R101). -/
theorem regApply_queueHeld (h : r.reg ∈ [Reg.DOCK_QBASE, .DOCK_QCOMP, .DOCK_QDESC, .DOCK_QDCNT]) :
    v.regApply m r x k = v.onWork fun w => w.heldWrite (2048 * r.die + r.unit) r (writtenValue v.base r x k) := by
  obtain ⟨reg, d, u, i, j⟩ := r
  simp only [List.mem_cons, List.not_mem_nil, or_false] at h
  rcases h with rfl | rfl | rfl | rfl <;> rfl

/-- TILE_LEND and TILE_PF_CTL are written by way of the tile's idle boundary (03 R96, 05 R160). -/
theorem regApply_idle (h : r.reg ∈ [Reg.TILE_LEND, .TILE_PF_CTL]) :
    v.regApply m r x k = v.onWork fun w => w.idleWrite r.reg r.die r.unit (writtenValue v.base r x k) := by
  obtain ⟨reg, d, u, i, j⟩ := r
  simp only [List.mem_cons, List.not_mem_nil, or_false] at h
  rcases h with rfl | rfl <;> rfl

/-- A counter's control is written by way of its check (17 R497). -/
theorem regApply_tileCtl (h : r.reg = .TILE_PMC_CTL) :
    v.regApply m r x k = v.setBase (v.base.tileCtl r.die r.unit r.i (writtenValue v.base r x k)) := by
  obtain ⟨reg, d, u, i, j⟩ := r
  subst h
  rfl

theorem regApply_dieCtl (h : r.reg = .DOCK_PMC_CTL) :
    v.regApply m r x k = v.setBase (v.base.dieCtl r.die r.i (writtenValue v.base r x k)) := by
  obtain ⟨reg, d, u, i, j⟩ := r
  subst h
  rfl

end

section
variable (w : Work) (q : Nat) (r : RegAt) (new : Word)

/-- A held field of an enabled queue keeps what it holds; a change of it raises TOK.QBIND (04 R101). -/
theorem heldWrite_enabled_changed (h : w.base.qEnabled q = true) (hne : new ≠ w.base.rd r.reg r.die r.unit) :
    w.heldWrite q r new = { w with base := w.base.raise 0x030C (queueSrc q) (w.base.partOfQueue q) } := by
  simp only [Work.heldWrite, h, if_true, hne, if_false]

theorem heldWrite_enabled_same (h : w.base.qEnabled q = true) (he : new = w.base.rd r.reg r.die r.unit) : w.heldWrite q r new = w := by
  simp only [Work.heldWrite, h, if_true, he]

theorem heldWrite_disabled (h : w.base.qEnabled q = false) :
    w.heldWrite q r new = { w with base := w.base.wr new r.reg r.die r.unit } := by
  simp only [Work.heldWrite, h, Bool.false_eq_true, if_false]

end

section
variable (w : Work) (n m : Nat)

/-- Values that wait stay while their tile is not at its idle boundary, and are taken there (03 R96, 05 R160). -/
theorem idleSweep_not_idle (h : w.idleBoundary n m = false) : w.idleSweep n m = w := by
  simp only [Work.idleSweep, h, Bool.false_eq_true, if_false, ite_self]

theorem idleSweep_idle (hw : w.base.waitIdle ≠ []) (h : w.idleBoundary n m = true) :
    w.idleSweep n m =
      { w with base := { w.base with waitIdle := Map.del (regAddr .TILE_LEND n m) (Map.del (regAddr .TILE_PF_CTL n m) w.base.waitIdle) } } := by
  simp only [Work.idleSweep, List.isEmpty_iff, hw, if_false, h, if_true]

/-- A table into which a value was put lists something. -/
theorem map_put_ne_nil {α : Type} (k : Nat) (x : α) (t : List (Nat × α)) : Map.put k x t ≠ [] := by
  intro h
  have found := map_find_put k k x t
  simp [h] at found

/-- A written value that waits for the idle boundary leaves on record the value in effect, unless one is on record already (03 R96, 05 R160). -/
theorem idleWrite_eq (r : Reg) (new : Word) (kept : List (Nat × Word))
    (hk : kept = if (Map.find (regAddr r n m) w.base.waitIdle).isSome then w.base.waitIdle
      else Map.put (regAddr r n m) (w.base.rd r n m) w.base.waitIdle) :
    kept ≠ [] ∧
      w.idleWrite r n m new = ({ w with base := ({ w.base with waitIdle := kept } : Base).wr new r n m } : Work).idleSweep n m := by
  subst hk
  by_cases found : (Map.find (regAddr r n m) w.base.waitIdle).isSome = true
  · refine ⟨fun h => ?_, by simp only [Work.idleWrite, if_pos found]⟩
    simp only [if_pos found] at h
    simp [h] at found
  · simp only [Work.idleWrite, if_neg found]
    exact ⟨map_put_ne_nil _ _ _, trivial⟩

end

section
variable (b : Base) (n m i : Nat) (new : Word)

/-- An invalid control is stored with its BAD bit set and PMC.CFG raised; a valid one clears the bit, and with SAMPLE loads its counter
(17 R497, R499). -/
theorem tileCtl_bad (h : tileCtlBad new = true) (flagged : Base)
    (hf : flagged = (b.wr new .TILE_PMC_CTL (cd n) m i).wf (8 + i) 1 1 .TILE_PMC_STATUS (cd n) m) :
    b.tileCtl n m i new = flagged.pmcEvent (cd n) 5 0x1006 ⟨cd n, m⟩ (flagged.partOfTile n m) := by
  subst hf
  simp [Base.tileCtl, h, b2n]

theorem tileCtl_plain (h : tileCtlBad new = false) (hs : bget new 9 = false) :
    b.tileCtl n m i new = (b.wr new .TILE_PMC_CTL (cd n) m i).wf (8 + i) 1 0 .TILE_PMC_STATUS (cd n) m := by
  simp [Base.tileCtl, h, hs, b2n]

theorem tileCtl_sample (h : tileCtlBad new = false) (hs : bget new 9 = true) :
    b.tileCtl n m i new =
      ((b.wr new .TILE_PMC_CTL (cd n) m i).wf (8 + i) 1 0 .TILE_PMC_STATUS (cd n) m).wf 0 48 (2 ^ 48 - 2 ^ fget new 10 6)
        .TILE_PMC_VAL (cd n) m i := by
  simp [Base.tileCtl, h, hs, b2n, sampleLoad]

theorem dieCtl_bad (h : b.dieCtlBad n i new = true) (flagged : Base)
    (hf : flagged = (b.wr new .DOCK_PMC_CTL n 0 i).wf i 1 1 .DOCK_PMC_BAD n) :
    b.dieCtl n i new = flagged.pmcEvent n 5 0x1006 (logic n) (flagged.counterOwner n i) := by
  subst hf
  simp [Base.dieCtl, h, b2n]

theorem dieCtl_plain (h : b.dieCtlBad n i new = false) (hs : bget new 17 = false) :
    b.dieCtl n i new = (b.wr new .DOCK_PMC_CTL n 0 i).wf i 1 0 .DOCK_PMC_BAD n := by
  simp [Base.dieCtl, h, hs, b2n]

theorem dieCtl_sample (h : b.dieCtlBad n i new = false) (hs : bget new 17 = true) :
    b.dieCtl n i new =
      ((b.wr new .DOCK_PMC_CTL n 0 i).wf i 1 0 .DOCK_PMC_BAD n).wf 0 48 (2 ^ 48 - 2 ^ fget new 18 6) .DOCK_PMC_VAL n 0 i := by
  simp [Base.dieCtl, h, hs, b2n, sampleLoad]

end

/-- A mailbox register does no more with a write than store its fields. -/
theorem acts_false_of_mbx (r : Reg) (h : r.spec.block = .mbx) : r.acts = false := by
  revert h
  cases r <;> decide

section
variable (v : Device) (m x k : Nat) (r : RegAt)

/-- A mailbox register that is none of its data, send and acknowledge registers is written by a master that the channel serves, and MBX_BIND and
MBX_CFG by the management controller and the test access port (14 R411, R419). -/
theorem mbxApply_stores (hreg : r.reg ∉ [Reg.MBX_DATA, .MBX_SEND, .MBX_ACK])
    (h : (v.base.mbxInUse r.i && (v.base.mbxA r.i == m || v.base.mbxB r.i == m)) = true ∨
      (r.reg = .MBX_BIND ∨ r.reg = .MBX_CFG) ∧ (m = 0 ∨ m = 0xF0)) :
    v.mbxApply m r x k = (v.regApply m r x k).answer .ok := by
  simp only [List.mem_cons, List.not_mem_nil, or_false, not_or] at hreg
  obtain ⟨hdata, hsend, hack⟩ := hreg
  -- The three inequalities in the context leave the last case of the write's match over mailbox registers.
  simp only [Device.mbxApply]
  by_cases managed : ((r.reg == .MBX_BIND || r.reg == .MBX_CFG) && (m == 0 || m == 0xF0)) = true
  · rw [if_pos managed]
  · have serves := h.resolve_right (by simpa using managed)
    rw [if_neg managed, serves, if_neg (by simp)]

/-- Any other write of a mailbox register is refused (14 R408, R411, R419). -/
theorem mbxApply_refuses (hserves : ¬(v.base.mbxInUse r.i && (v.base.mbxA r.i == m || v.base.mbxB r.i == m)) = true)
    (hmanages : ¬((r.reg = .MBX_BIND ∨ r.reg = .MBX_CFG) ∧ (m = 0 ∨ m = 0xF0))) :
    v.mbxApply m r x k =
      v.onBase fun b => (if v.base.reaches m r true && (v.base.locked || !hasLk r.reg) then b else b.regDeny m r.die).mbxRefuse r.i m 4 0x0D06 := by
  unfold Device.mbxApply
  dsimp only
  rw [if_neg (by simpa using hmanages), if_pos (by rw [Bool.eq_false_of_not_eq_true hserves]; rfl)]
  rfl

end

/-- A mailbox write that nothing holds off leaves what its mailbox makes of it, reported by its port. -/
theorem registerWrite_leaves_mbxApply {s : State} {rt : Route} {off size data m a : Nat} {r : RegAt} {v : Device}
    (arrives : s.arrives rt off size 0x70 m a v) (free : s.dev.writeFree rt off data) (place : placeOf a = .reg r)
    (mbx : r.reg.spec.block = .mbx) {w : Device} (hw : v.mbxApply m r (accessData a size data) (accessMask a size) = w) :
    Leaves (.registerWrite rt off size data) s (w.reported rt) := by
  obtain ⟨hrun, hrt, ok, rfl⟩ := arrives
  exact registerWrite_leaves_masterWrite hrun hrt free (by rw [masterWrite_reg ok place, Device.regStore, if_pos mbx, hw])

/-- What a write that a register takes leaves, where the register makes a new data path, or new registers and records, of it. -/
theorem registerWrite_leaves_onWork {s : State} {rt : Route} {off size data m a : Nat} {r : RegAt} {v : Device}
    (h : s.writes rt off size data m a r v) {f : Work → Work} {w : Work}
    (hr : v.regApply m r (accessData a size data) (accessMask a size) = v.onWork f) (hf : f v.work = w) :
    Leaves (.registerWrite rt off size data) s ({ v with work := w }.answer .ok) :=
  registerWrite_leaves_regApply h (by rw [hr, Device.onWork, hf])

theorem registerWrite_leaves_setBase {s : State} {rt : Route} {off size data m a : Nat} {r : RegAt} {v : Device}
    (h : s.writes rt off size data m a r v) {b b' : Base}
    (hr : v.regApply m r (accessData a size data) (accessMask a size) = v.setBase b) (hb : b = b') :
    Leaves (.registerWrite rt off size data) s ((v.setBase b').answer .ok) :=
  registerWrite_leaves_regApply h (by rw [hr, hb])

/-- Settles O9: a write that a register takes is what the register does with it, register by register; a mailbox asks its channel first. -/
theorem registerWriteStoresItsFields : Obligations.RegisterWriteStoresItsFields := by
  refine ⟨fun s rt off size data m a r v h => ?_, fun s rt off size data m a r v arrives free place mbx => ?_⟩
  · intro b old new put leaves base
    refine ⟨fun plain => registerWrite_leaves_regApply h (regApply_plain v m r _ _ plain),
      fun reg => registerWrite_leaves_regApply h (regApply_cethresh v m _ _ r reg),
      fun reg => ?freeUnit, fun reg => ?queue, fun reg => ?idle, fun reg => ?tileControl, fun reg => ?dieControl⟩
    case freeUnit =>
      have applied := regApply_freeUnit v m (accessData a size data) (accessMask a size) r reg
      exact ⟨fun busy => registerWrite_leaves_regApply h (applied.trans (if_pos busy)),
        fun idle => registerWrite_leaves_regApply h (applied.trans (if_neg (ne_true_of_eq_false idle)))⟩
    case queue =>
      have applied := regApply_queueHeld v m (accessData a size data) (accessMask a size) r reg
      exact ⟨fun on changed => registerWrite_leaves_onWork h applied (heldWrite_enabled_changed v.work _ r new on changed),
        fun on same => registerWrite_leaves_onWork h applied (heldWrite_enabled_same v.work _ r new on same),
        fun off => registerWrite_leaves_onWork h applied (heldWrite_disabled v.work _ r new off)⟩
    case idle =>
      intro key kept w
      have applied := regApply_idle v m (accessData a size data) (accessMask a size) r reg
      obtain ⟨nonempty, waits⟩ := idleWrite_eq v.work r.die r.unit r.reg new kept rfl
      exact ⟨fun busy => registerWrite_leaves_onWork h applied (waits.trans (idleSweep_not_idle w _ _ busy)),
        fun idle => registerWrite_leaves_onWork h applied (waits.trans (idleSweep_idle w _ _ nonempty idle))⟩
    case tileControl =>
      have applied := regApply_tileCtl v m (accessData a size data) (accessMask a size) r reg
      exact ⟨fun bad => registerWrite_leaves_setBase h applied (tileCtl_bad b _ _ _ new bad _ rfl),
        fun good plain => registerWrite_leaves_setBase h applied (tileCtl_plain b _ _ _ new good plain),
        fun good sample => registerWrite_leaves_setBase h applied (tileCtl_sample b _ _ _ new good sample)⟩
    case dieControl =>
      have applied := regApply_dieCtl v m (accessData a size data) (accessMask a size) r reg
      exact ⟨fun bad => registerWrite_leaves_setBase h applied (dieCtl_bad b _ _ new bad _ rfl),
        fun good plain => registerWrite_leaves_setBase h applied (dieCtl_plain b _ _ new good plain),
        fun good sample => registerWrite_leaves_setBase h applied (dieCtl_sample b _ _ new good sample)⟩
  · intro b serves manages
    refine ⟨fun reg allowed => ?_, fun hserves hmanages => ?_⟩
    · have stored := registerWrite_leaves_mbxApply arrives free place mbx (mbxApply_stores v m _ _ r reg allowed)
      rwa [reported_of_no_error (by simp), regApply_plain v m r _ _ (acts_false_of_mbx r.reg mbx)] at stored
    · exact registerWrite_leaves_mbxApply arrives free place mbx (mbxApply_refuses v m _ _ r hserves hmanages)

end Sys2Proof.Proofs
end

section
/-! What RC_READ answers and clears (00 R9, R10), and whom the mailboxes answer (14 R411, R419). -/

namespace Sys2Proof.Proofs

open Sys2Proof Sys2Proof.Machine Sys2Proof.Laws

/-- The part of a register that an access of a size at an address covers: all of it, or its upper or lower half (00 R6). -/
theorem regPart_accessPart (a size : Nat) (x : Word) :
    regPart (accessPart a size) x =
      if size = 8 then x else BitVec.ofNat 64 (if a % 8 = 4 then x.toNat / 2 ^ 32 else x.toNat % 2 ^ 32) := by
  unfold accessPart
  by_cases h8 : size = 8
  · simp [h8, regPart]
  · by_cases h4 : a % 8 = 4 <;> simp [h8, h4, regPart]

/-- The read rule of mailboxes as the read itself asks it: a mailbox register that is read neither by the management nor by a master of its channel,
in use, is not heard (14 R411). -/
theorem hears_iff (b : Base) (m : Nat) (r : RegAt) :
    b.hears m r ↔ ¬(r.reg.spec.block = .mbx ∧ (!(b.whoIs m == .management)) = true ∧
      (!(b.mbxInUse r.i && (b.mbxA r.i == m || b.mbxB r.i == m))) = true) := by
  unfold Base.hears
  generalize (b.mbxInUse r.i && (b.mbxA r.i == m || b.mbxB r.i == m)) = serves
  cases serves with
  | true => simp
  | false => simp; tauto

section
variable {v : Device} {m : Nat} {r : RegAt}

/-- A read that the mailbox rules do not admit is refused, and denied too where its master is not one of the channel's (14 R411, R419). -/
theorem regLoad_not_heard_own (h : ¬v.base.hears m r) (own : (v.base.mbxA r.i == m || v.base.mbxB r.i == m) = true) (a size : Nat) :
    v.regLoad m r a size = v.onBase fun b => b.mbxRefuse r.i m 4 0x0D06 := by
  rw [hears_iff, not_not] at h
  simp only [Device.regLoad]
  rw [if_pos h]
  simp only [own, if_true]

theorem regLoad_not_heard_other (h : ¬v.base.hears m r) (other : ¬(v.base.mbxA r.i == m || v.base.mbxB r.i == m) = true) (a size : Nat) :
    v.regLoad m r a size = v.onBase fun b => (b.regDeny m r.die).mbxRefuse r.i m 4 0x0D06 := by
  rw [hears_iff, not_not] at h
  simp only [Device.regLoad]
  rw [if_pos h]
  simp only [other, Bool.false_eq_true, if_false]

section
variable (heard : v.base.hears m r) (reached : v.base.reaches m r false = true)
include heard reached

/-- A read of DOCK_BAYRES asks the bays of its partition (14 R417). -/
theorem regLoad_bayres (h : r.reg = .DOCK_BAYRES) (a size : Nat) : v.regLoad m r a size = v.bayRead r.i (accessPart a size) := by
  obtain ⟨reg, d, u, i, j⟩ := r
  subst h
  simp only [Device.regLoad]
  rw [if_neg ((hears_iff _ _ _).mp heard), if_neg (by simp [reached])]

/-- A read of a counter answers its value, or what was latched (17 R498). -/
theorem regLoad_pmcVal (h : r.reg = .DOCK_PMC_VAL) (a size : Nat) :
    v.regLoad m r a size =
      (v.counterRead r.die r.i).2.answer (.value (regPart (accessPart a size) (v.counterRead r.die r.i).1)) := by
  obtain ⟨reg, d, u, i, j⟩ := r
  subst h
  simp only [Device.regLoad]
  rw [if_neg ((hears_iff _ _ _).mp heard), if_neg (by simp [reached])]

/-- A read of CHK_D2D_RETRY counts a free number of flits first (12 R349). -/
theorem regLoad_d2dRetry (h : r.reg = .CHK_D2D_RETRY) (a size : Nat) :
    v.regLoad m r a size =
      (v.setBase (v.base.flitsRetried r.die)).answer
        (.value (regPart (accessPart a size) ((v.base.flitsRetried r.die).rd .CHK_D2D_RETRY r.die))) := by
  obtain ⟨reg, d, u, i, j⟩ := r
  subst h
  simp only [Device.regLoad]
  rw [if_neg ((hears_iff _ _ _).mp heard), if_neg (by simp [reached])]
  rfl

/-- A read of any other register answers its fields, WO fields as 0, and clears the RC fields that it covers (00 R9, R10). -/
theorem regLoad_plain (hbay : r.reg ≠ .DOCK_BAYRES) (hval : r.reg ≠ .DOCK_PMC_VAL) (hretry : r.reg ≠ .CHK_D2D_RETRY) (a size : Nat)
    (old shown left : Word) (ho : old = v.base.rd r.reg r.die r.unit r.i r.j)
    (hs : shown = r.reg.spec.fields.foldl (fun (y : Word) f => if f.acc == .wo then fput y f.lo f.width 0 else y) (v.view r))
    (hl : left = r.reg.spec.fields.foldl
      (fun (y : Word) f => if f.acc == .rc && (accessMask a size).testBit f.lo then fput y f.lo f.width 0 else y) old)
    (b : Base)
    (hb : b = if r.reg = .PWR_TEMP && (accessMask a size).testBit 16 then { v.base with peaks := NSet.remove r.die v.base.peaks } else v.base) :
    v.regLoad m r a size =
      (v.setBase (if left = old then b else b.wr left r.reg r.die r.unit r.i r.j)).answer (.value (regPart (accessPart a size) shown)) := by
  subst ho hs hl hb
  -- The three inequalities in the context leave the last case of the read's match over registers.
  simp only [Device.regLoad]
  rw [if_neg ((hears_iff _ _ _).mp heard), if_neg (by simp [reached])]

end
end

/-- A read of DOCK_BAYRES is held behind the commands of its partition, and answered where none waits (14 R417). -/
theorem bayRead_held (v : Device) (p part n : Nat) (hn : n = (v.bays p).waiting.length + (if (v.bays p).running = none then 0 else 1)) (h : 0 < n) :
    v.bayRead p part = (v.setBays p { v.bays p with readers := (v.bays p).readers ++ [(n, part)] }).answer .held := by
  have hahead : (v.bays p).waiting.length + (if (v.bays p).running.isSome then 1 else 0) = n := by
    rw [hn]
    cases (v.bays p).running <;> rfl
  simp only [Device.bayRead, hahead]
  rw [if_neg (by omega)]

theorem bayRead_answered (v : Device) (p part : Nat) (hrun : (v.bays p).running = none) (hwait : (v.bays p).waiting = []) :
    v.bayRead p part = v.answer (.value (regPart part (v.base.rd .DOCK_BAYRES 40 0 p))) := by
  simp [Device.bayRead, hrun, hwait]

/-- A read that arrives leaves what its register makes of it, reported by its port. -/
theorem rcRead_leaves_regLoad {s : State} {rt : Route} {off size m a : Nat} {r : RegAt} {v : Device}
    (arrives : s.arrives rt off size 0x71 m a v) (place : placeOf a = .reg r) {w : Device} (hw : v.regLoad m r a size = w) :
    Leaves (.rcRead rt off size) s (w.readFailed rt) := by
  obtain ⟨hrun, hrt, ok, rfl⟩ := arrives
  exact rcRead_leaves_masterRead hrun hrt (by rw [masterRead_reg ok place, hw])

/-- A read that is answered without an error has nothing to report. -/
theorem rcRead_leaves_answer {s : State} {rt : Route} {off size m a : Nat} {r : RegAt} {v : Device}
    (arrives : s.arrives rt off size 0x71 m a v) (place : placeOf a = .reg r) {w : Device} {x : Resp} (hx : x ≠ .error)
    (hw : v.regLoad m r a size = w.answer x) : Leaves (.rcRead rt off size) s (w.answer x) := by
  have read := rcRead_leaves_regLoad arrives place hw
  rwa [readFailed_of_no_error (v := w.answer x) hx] at read

/-- Settles O10: a read that is heard and reaches its register is the register's, case by case; another is refused. -/
theorem registerReadAnswersAndClears : Obligations.RegisterReadAnswersAndClears := by
  intro s rt off size m a r v arrives place half own
  have answered {w : Device} {x : Resp} (hx : x ≠ .error) (hw : v.regLoad m r a size = w.answer x) :
      Leaves (.rcRead rt off size) s (w.answer x) := rcRead_leaves_answer arrives place hx hw
  have halves (x : Word) : regPart (accessPart a size) x = half x := regPart_accessPart a size x
  refine ⟨fun heard reached => ⟨fun reg => ?retry, fun reg st hst => ?bays, fun reg w x hread => ?counter, fun hbay hval hretry => ?plain⟩,
    fun unheard => ⟨fun isOwn => ?ownRefused, fun notOwn => ?refused⟩⟩
  case retry =>
    refine ⟨Config.retriedFlits v.base.free, answered (by simp) ?_⟩
    rw [regLoad_d2dRetry heard reached reg, halves]
    rfl
  case bays =>
    subst hst
    refine ⟨fun hrun hwait => answered (by simp) ?_, fun n hn hpos => answered (by simp) ?_⟩
    · rw [regLoad_bayres heard reached reg, bayRead_answered v _ _ hrun hwait, halves]
    · rw [regLoad_bayres heard reached reg, bayRead_held v _ _ n hn hpos]
  case counter =>
    refine answered (by simp) ?_
    rw [regLoad_pmcVal heard reached reg, ← hread, halves]
  case plain =>
    intro old shown left b
    refine answered (by simp) ?_
    rw [← halves]
    exact regLoad_plain heard reached hbay hval hretry a size old shown left rfl rfl rfl b rfl
  case ownRefused => exact rcRead_leaves_regLoad arrives place (regLoad_not_heard_own unheard isOwn a size)
  case refused => exact rcRead_leaves_regLoad arrives place (regLoad_not_heard_other unheard notOwn a size)

end Sys2Proof.Proofs
end

section
/-! What a command of a unit leaves of the data path, and what its window answers after a change. -/

namespace Sys2Proof.Proofs

open Sys2Proof Sys2Proof.Machine Sys2Proof.Laws

/-- Work that changes nothing makes no request, and is taken as it is. -/
@[simp] theorem take_work (v : Device) : v.take v.work = v := by
  simp [Device.take, Device.base]

section
variable {c : Instr} {s : State} {may : Bool} {f : Work → Work} (hc : exec c s = s.run may fun v => v.doWork f) (hmay : may = true)
include hc hmay

/-- A command of the data path does what its function makes of the work as the command finds it. -/
theorem does_of_doWork {w : Work} (hw : f s.work = w) : Does c s w :=
  leaves_of_run hc hmay (congrArg s.dev.cleared.take hw)

/-- One whose function leaves the work as it is passes. -/
theorem passes_of_doWork (hw : f s.work = s.work) : Passes c s :=
  leaves_of_run hc hmay ((congrArg s.dev.cleared.take hw).trans (take_work _))

end

/-- A waybill that a window answers has the queue and the sequence number asked for. -/
theorem wb?_named {w : Work} {id q seq : Nat} {x : Wb} (h : w.wb? id q seq = some x) : x.queue = q ∧ x.seq = seq := by
  simpa using List.find?_some h

/-- The windows are the engine's alone. -/
theorem wb?_of_eng_eq {u w : Work} (h : u.eng = w.eng) (id q seq : Nat) : u.wb? id q seq = w.wb? id q seq := by
  simp only [Work.wb?, Work.unit, h]

/-- A unit that holds something is what was set. -/
theorem unit_setUnit_of_ne {u : UnitSt} (h : u ≠ {}) (w : Work) (id : Nat) : (w.setUnit id u).unit id = u := by
  simp [Work.unit, Work.setUnit, Engine.unit, Engine.setUnit, h, map_find_put]

/-- A waybill that replaces one of the window is what its window answers. -/
theorem wb?_setWb {w : Work} {id q seq : Nat} {x y : Wb} (h : w.wb? id q seq = some x) (hq : y.queue = q) (hs : y.seq = seq) :
    (w.setWb id y).wb? id q seq = some y := by
  have listed : x ∈ (w.unit id).window := List.mem_of_find?_eq_some h
  have window : (w.setWb id y).unit id =
      { w.unit id with window := (w.unit id).window.map fun z => if z.queue = y.queue ∧ z.seq = y.seq then y else z } := by
    refine unit_setUnit_of_ne (fun empty => ?_) w id
    have none : (w.unit id).window = [] := by simpa using congrArg UnitSt.window empty
    simp [none] at listed
  have asked : ((fun z : Wb => z.queue == q && z.seq == seq) ∘ fun z => if z.queue = y.queue ∧ z.seq = y.seq then y else z) =
      fun z => z.queue == q && z.seq == seq := by
    funext z
    by_cases hz : z.queue = y.queue ∧ z.seq = y.seq
    · simp [hz, hq, hs]
    · simp [hz]
  obtain ⟨xq, xs⟩ := wb?_named h
  unfold Work.wb? at h ⊢
  rw [window, List.find?_map, asked, h]
  simp [hq, hs, xq, xs]

end Sys2Proof.Proofs
end

section
/-! MM: what a running product does with its next output tile (03 R70 to R73, R78 to R81, R89). -/

namespace Sys2Proof.Proofs

open Sys2Proof Sys2Proof.Machine Sys2Proof.Laws

/-- The end of a reload keeps the windows. -/
@[simp] theorem reloadEnd_eng (w : Work) (id : Nat) (l : LendSt) : (w.reloadEnd id l).eng = w.eng := rfl

section
variable {s : State} {id q seq : Nat} {w : Work} (h : s.fetched id q seq w)
include h

/-- A waybill whose operands are fetched works on what the fetch left. -/
theorem whenFetched_of_fetched (f : Work → Work) : s.work.whenFetched id q seq f = f w := by
  obtain ⟨gate, rfl⟩ := h
  simp only [Work.whenFetched, gate]
  cases s.work.lending id with
  | none => rfl
  | some l => exact (apply_ite f _ _ _).symm

/-- The fetch keeps the windows. -/
theorem wb?_of_fetched (q' seq' : Nat) : w.wb? id q' seq' = s.work.wb? id q' seq' := by
  obtain ⟨-, rfl⟩ := h
  refine wb?_of_eng_eq ?_ ..
  cases s.work.lending id with
  | none => rfl
  | some l =>
    dsimp only
    split <;> rfl

end

section
variable {w : Work} {id q seq : Nat} {ups : List (Nat × Nat)} {x : Wb} {j : Job}

/-- A running product without a set may claim one, and one with sets accumulates its next output tile in the first. -/
theorem mm_of_running (hx : w.wb? id q seq = some x) (hj : w.jobOf id q seq = some j) (phase : x.phase = .running) (op : x.opcode = 1)
    (going : x.aborting = false) (here : j.moved = false) (more : x.next < x.geo.tiles) :
    (w.mmSets id x j = [] → w.mm id q seq ups = w.mmClaim id x j) ∧
    (∀ k r u acc, w.mmSets id x j = k :: r →
      (w.unclaim id x).accumulate ((w.unclaim id x).base.cx id x true) j x x.next (Map.find x.next j.accs) ups j.terms = (u, acc) →
      w.mm id q seq ups = u.mmNext id x j (k :: r) k acc) := by
  refine ⟨fun sets => ?_, fun k r u acc sets hacc => ?_⟩
  · simp [Work.mm, hx, hj, phase, op, going, here, more, sets]
  · simp [Work.mm, hx, hj, phase, op, going, here, more, sets, hacc]

end

/-- A product that holds sets uses them. -/
theorem sets_eq_nil_of_mmSets {w : Work} {id : Nat} {x : Wb} {j : Job} (h : w.mmSets id x j = []) : j.sets = [] := by
  by_contra held
  rw [Work.mmSets, if_pos held] at h
  exact held h

/-- The set that a long product claims first: the one it names, or the first that is free (03 R73, R89). -/
def firstFree (w : Work) (id : Nat) (x : Wb) (j : Job) : Option Nat :=
  match j.named with
  | some k => (w.freeSets id x.queue x.seq).find? (· == k)
  | none => (w.freeSets id x.queue x.seq).head?

/-- The claims of a waybill on its tile (03 R89). -/
def ownClaims (w : Work) (id : Nat) (x : Wb) : List (Nat × Nat × Nat) := (w.claimsOf id).filter fun c => c.2.1 == x.queue && c.2.2 == x.seq

/-- A long product without a set claims the first that is free, once (03 R89). -/
theorem mmClaim_eq (w : Work) (id : Nat) (x : Wb) (j : Job) :
    w.mmClaim id x j = (firstFree w id x j).elim w fun k =>
      if (j.long && j.sets.isEmpty && (ownClaims w id x).isEmpty) = true then w.setClaims id (w.claimsOf id ++ [(k, x.queue, x.seq)]) else w := by
  have unclaimed : (ownClaims w id x).isEmpty = (w.claimsOf id).all fun c => !(c.2.1 == x.queue && c.2.2 == x.seq) := by
    unfold ownClaims
    generalize w.claimsOf id = l
    induction l with
    | nil => rfl
    | cons c l ih =>
      rw [List.filter_cons, List.all_cons, ← ih]
      cases c.2.1 == x.queue && c.2.2 == x.seq <;> rfl
  rw [unclaimed]
  unfold Work.mmClaim firstFree
  cases j.named with
  | none =>
    dsimp only
    cases (w.freeSets id x.queue x.seq).head? <;> rfl
  | some k =>
    dsimp only
    cases (w.freeSets id x.queue x.seq).find? (· == k) <;> rfl

section
variable {w : Work} {id : Nat} {x : Wb} {j : Job}

theorem mmClaim_of_first {k : Nat} (long : j.long = true) (sets : j.sets = []) (claims : ownClaims w id x = []) (first : firstFree w id x j = some k) :
    w.mmClaim id x j = w.setClaims id (w.claimsOf id ++ [(k, x.queue, x.seq)]) := by
  simp [mmClaim_eq, long, sets, claims, first]

theorem mmClaim_of_none (h : j.long = false ∨ ownClaims w id x ≠ [] ∨ firstFree w id x j = none) : w.mmClaim id x j = w := by
  rw [mmClaim_eq]
  rcases h with long | claims | first
  · cases firstFree w id x j <;> simp [long]
  · cases firstFree w id x j <;> simp [claims]
  · rw [first]
    rfl

end

section
variable (w : Work) (id : Nat) (x : Wb) (j : Job) (sets : List Nat) (k : Nat) (acc : AccTile)

/-- A chain's member goes on accumulating until its last output tile (03 R72, R79). -/
theorem mmNext_of_chain (chain : j.chain.isSome = true) (more : x.next + 1 < x.geo.tiles) :
    w.mmNext id x j sets k acc =
      ((w.setJob id { j with accs := Map.put x.next acc j.accs, sets := sets }).mmShow id sets k sACCUM j x).setWb id { x with next := x.next + 1 } := by
  simp [Work.mmNext, chain, more.ne]

/-- At its last it holds its set, or leaves all the chain's output tiles to the drain (03 R80, R81). -/
theorem mmNext_of_keep (chain : j.chain.isSome = true) (last : x.next + 1 = x.geo.tiles) (keep : x.keep = true) :
    w.mmNext id x j sets k acc =
      ((w.setJob id { j with
          accs := Map.put x.next acc j.accs, sets := sets, terms := j.terms + x.geo.K, heldSince := some w.base.time }).mmShow id sets k sHELD j x).setWb
        id { x with next := x.next + 1 } := by
  simp [Work.mmNext, chain, last, keep]

theorem mmNext_of_end (chain : j.chain.isSome = true) (last : x.next + 1 = x.geo.tiles) (keep : x.keep = false) :
    w.mmNext id x j sets k acc =
      (((w.setJob id { j with accs := Map.put x.next acc j.accs, sets := sets, terms := j.terms + x.geo.K }).setDrains id
        (w.drains id ++ (List.range x.geo.tiles).map fun t => (k, t, x.queue, x.seq))).mmShow id sets k sDRAIN j x).setWb id
        { x with next := x.next + 1 } := by
  simp [Work.mmNext, chain, last, keep]

/-- A product of its own leaves each output tile to the drain (03 R75). -/
theorem mmNext_of_no_chain (chain : j.chain = none) :
    w.mmNext id x j sets k acc =
      (((w.setJob id { j with
          accs := Map.put x.next acc j.accs, sets := if x.filler then sets else [],
          terms := if x.next + 1 = x.geo.tiles then j.terms + x.geo.K else j.terms }).setDrains id
        (w.drains id ++ [(k, x.next, x.queue, x.seq)])).mmShow id sets k sDRAIN j x).setWb id { x with next := x.next + 1 } := by
  simp [Work.mmNext, chain]

end

/-- Settles O21: without a set the product claims one or waits; with one the next output tile goes where its chain has it. -/
theorem productAccumulatesItsNextTile : Obligations.ProductAccumulatesItsNextTile := by
  intro s id q seq ups x j w0 running fetched hj here more claims first
  obtain ⟨runs, window, phase, op, going⟩ := running
  obtain ⟨rfl, rfl⟩ := wb?_named window
  have does {w : Work} (hw : w0.mm id x.queue x.seq ups = w) : Does (.mm id x.queue x.seq ups) s w :=
    does_of_doWork (may := s.dev.unitRuns id) rfl runs ((whenFetched_of_fetched fetched _).trans hw)
  obtain ⟨unset, set⟩ := mm_of_running (ups := ups) ((wb?_of_fetched fetched _ _).trans window) hj phase op going here more
  refine ⟨fun sets => ⟨fun idle => ?_, fun k long unclaimed free => ?_⟩, fun k r u w acc sets hu hacc => ?_⟩
  · exact does ((unset sets).trans (mmClaim_of_none idle))
  · exact does ((unset sets).trans (mmClaim_of_first long (sets_eq_nil_of_mmSets sets) unclaimed free))
  · subst hu
    have next := set k r w acc sets hacc
    refine ⟨fun chain more' => ?_, fun chain last keep => ?_, fun chain last keep => ?_, fun chain => ?_⟩
    · exact does (next.trans (mmNext_of_chain _ _ _ _ _ _ _ chain more'))
    · exact does (next.trans (mmNext_of_keep _ _ _ _ _ _ _ chain last keep))
    · exact does (next.trans (mmNext_of_end _ _ _ _ _ _ _ chain last keep))
    · exact does (next.trans (mmNext_of_no_chain _ _ _ _ _ _ _ chain))

end Sys2Proof.Proofs
end

section
/-! ACC_DRAIN: what the oldest output tile's drain leaves (03 R75, R90 to R93, 02 R61). -/

namespace Sys2Proof.Proofs

open Sys2Proof Sys2Proof.Machine Sys2Proof.Laws

/-- What follows an output tile's drain: a trap ends the product; its last output tile ends it too, or parks it for its replay. -/
def drainEnds (w : Work) (id : Nat) (rest : List (Nat × Nat × Nat × Nat)) (x : Wb) (j : Job) : TrapAt → Work
  | some tr => w.drainTrapped id rest x j tr
  | none =>
    if x.done = x.geo.tiles then (if j.failed then w.parkJob id j else w.endJob id j (if x.aux = [5] then 0x05 else 0x01))
    else w

section
variable {w : Work} {id k t q seq n m : Nat} {rest : List (Nat × Nat × Nat × Nat)} {x : Wb} {j : Job}
variable (oldest : w.drains id = (k, t, q, seq) :: rest) (hx : w.wb? id q seq = some x) (hj : w.jobOf id q seq = some j)
  (tile : w.base.tileOf id = some (n, m))
include oldest hx hj tile

/-- A waybill that an abort has named drains no further (04 R122). -/
theorem accDrain_of_aborting (aborting : x.aborting = true) : w.accDrain id = w := by
  simp [Work.accDrain, oldest, hx, hj, tile, aborting]

/-- The oldest output tile is converted and written, its lane reports, and its set is freed; then the product goes on or ends. -/
theorem accDrain_of_oldest (going : x.aborting = false) {acc : AccTile} (hacc : Map.find t j.accs = some acc) {u : Work} {y z : Wb} {b : Base}
    {lane : Lane} {trap : TrapAt} {bad : Bool} (drained : w.drainTile id (w.base.cx id x) j x t acc = (u, y, trap, lane))
    (judged : u.base.laneReport n m y t acc.badSegment lane true = (b, z, bad)) {z1 : Wb} {j1 : Job} (hz : z1 = { z with done := z.done + 1 })
    (hj1 : j1 = { j with accs := Map.del t j.accs, failed := j.failed || bad }) :
    w.accDrain id = drainEnds ((({ u with base := b } : Work).setDrains id rest).drainFreed id k rest j1 z1) id rest z1 j1 trap := by
  subst hz hj1
  simp only [Work.accDrain, oldest, hx, hj, tile, going, hacc, drained, judged, Bool.false_eq_true, if_false]
  cases trap <;> rfl

end

section
variable {w : Work} {id : Nat} {j : Job}

/-- On a tile that is not lent a parked product gives its sets back (03 R93). -/
theorem parkJob_of_not_lending (h : w.lending id = none) :
    w.parkJob id j = ({ w with base := w.base.setsTo id sFREE j.sets } : Work).setJob id { j with sets := [] } := by
  have stays (l : List (Nat × Nat)) : l.foldl (fun (w : Work) m => w.lendOver id m.1 m.2) w = w := by
    induction l with
    | nil => rfl
    | cons m l ih => simpa only [List.foldl_cons, Work.lendOver, h] using ih
  simp only [Work.parkJob, stays]

/-- With a parked filler its lending ends too (18 R507). -/
theorem parkJob_of_filler {l : LendSt} (h : w.lending id = some l) (mine : j.members = [(l.queue, l.seq)]) {d : Base} {u : Work}
    (hd : d = if w.lent id = true ∧ l.spilled = none then w.base.setsTo id sFREE [0, 1] else w.base)
    (hu : u = ({ w with base := d.lendPhase id 0 } : Work).setLending id none) :
    w.parkJob id j = ({ u with base := u.base.setsTo id sFREE j.sets } : Work).setJob id { j with sets := [] } := by
  have lent : w.lendOver id l.queue l.seq = u := by
    simp [Work.lendOver, h, hu, hd]
  simp only [Work.parkJob, mine, List.foldl_cons, List.foldl_nil, lent]

end

/-- Settles O22: the oldest output tile is drained, and what follows is the trap's, the last output tile's, or nothing. -/
theorem drainWritesTheOldestTile : Obligations.DrainWritesTheOldestTile := by
  intro s id runs
  have does {w : Work} (hw : s.work.accDrain id = w) : Does (.accDrain id) s w := does_of_doWork (may := s.dev.unitRuns id) rfl runs hw
  have passes (hw : s.work.accDrain id = s.work) : Passes (.accDrain id) s := passes_of_doWork (may := s.dev.unitRuns id) rfl runs hw
  refine ⟨fun none => passes (by simp only [Work.accDrain, none]),
    fun k t q seq n m rest x j oldest hx hj tile aborting => passes (accDrain_of_aborting oldest hx hj tile aborting), ?_⟩
  intro k t q seq n m rest x y z j acc w b lane trap bad oldest hx hj tile going hacc drained judged z1 j1 w1 hz hj1 hw1
  have effect := accDrain_of_oldest oldest hx hj tile going hacc drained judged hz hj1
  rw [← hw1] at effect
  refine ⟨fun whole more => does (effect.trans ?_), fun whole last good => does (effect.trans ?_), fun whole last failed => ?_,
    fun tr trapped => does (effect.trans ?_)⟩
  · simp only [whole, drainEnds, more, if_false]
  · simp only [whole, drainEnds, last, good, if_true, Bool.false_eq_true, if_false]
  · have parks : drainEnds w1 id rest z1 j1 trap = w1.parkJob id j1 := by simp only [whole, drainEnds, last, failed, if_true]
    exact ⟨fun free => does (effect.trans (parks.trans (parkJob_of_not_lending free))),
      fun l d u lends mine hd hu => does (effect.trans (parks.trans (parkJob_of_filler lends mine hd hu)))⟩
  · simp only [trapped, drainEnds]

end Sys2Proof.Proofs
end

section
/-! The output stage keeps a waybill's working numbers (02 R43 to R63): so the end of a product's replay finds what its drains left there. -/

namespace Sys2Proof.Proofs

open Sys2Proof Sys2Proof.Machine Sys2Proof.Laws

@[simp] theorem once_aux (b : Base) (id : Nat) (x : Wb) (code : Nat) : (b.once id x code).2.aux = x.aux := by
  unfold Base.once
  split <;> rfl

/-- An event raised on a condition keeps them either way. -/
theorem if_once_aux (c : Bool) (b b' : Base) (id : Nat) (x : Wb) (code : Nat) : (if c then b.once id x code else (b', x)).2.aux = x.aux := by
  cases c
  · rfl
  · exact once_aux ..

@[simp] theorem nonFinite_aux (b : Base) (id : Nat) (x : Wb) (pos : Nat × Nat) : (b.nonFinite id x pos).2.aux = x.aux :=
  if_once_aux x.nfOn b b id { x with flags := x.flags ||| 1, nf := lowerPos x.nf pos } 0x0105

@[simp] theorem account_aux (w : Work) (id : Nat) (x : Wb) (slot : Nat) (f : Fmt) (grad : Bool) (pos : Nat) (l : List (Nat × OutElem)) :
    (w.account id x slot f grad pos l).2.aux = x.aux := by
  have counted (c : Counts) : (if f.watched then (x.addLosses (l.map (·.2))).addCounts c else x.addLosses (l.map (·.2))).aux = x.aux := by
    split <;> rfl
  unfold Work.account
  dsimp only
  split
  · exact counted _
  · exact (nonFinite_aux ..).trans (counted _)

@[simp] theorem stageWrite_aux (w : Work) (id : Nat) (c : Cx) (x : Wb) (d : Desc) (pos r0 c0 rows cols : Nat) (vals : List Machine.Num) :
    (w.stageWrite id c x d pos r0 c0 rows cols vals).2.1.aux = x.aux := by
  simp only [Work.stageWrite, account_aux]

@[simp] theorem outRow_aux (w : Work) (id : Nat) (c : Cx) (x : Wb) (d : Desc) (raw : Bool) (index i1 i2 i3 c0 : Nat) (vals : List Machine.Num)
    (codes : List Nat) : (w.outRow id c x d raw index i1 i2 i3 c0 vals codes).2.1.aux = x.aux := by
  unfold Work.outRow
  dsimp only
  split
  · rfl
  · split
    · exact if_once_aux ..
    · exact if_once_aux ..

@[simp] theorem outRows_aux (id : Nat) (c : Cx) (d : Desc) (raw : Bool) (index : Nat → Nat) (i2 i3 c0 cols r0 : Nat) (vals : List Machine.Num)
    (codes : List Nat) (n i : Nat) (w : Work) (x : Wb) : (Work.outRows id c d raw index i2 i3 c0 cols r0 vals codes n i w x).2.1.aux = x.aux := by
  induction n generalizing i w x with
  | zero => rfl
  | succ n ih => simp only [Work.outRows, ih, outRow_aux]

@[simp] theorem outTile_aux (w : Work) (id : Nat) (c : Cx) (x : Wb) (d : Desc) (index : Nat → Nat) (hist pos i2 i3 r0 c0 rows cols : Nat) (raw : Bool)
    (vals : List Machine.Num) (codes : List Nat) :
    (w.outTile id c x d index hist pos i2 i3 r0 c0 rows cols raw vals codes).2.1.aux = x.aux := by
  unfold Work.outTile
  split
  · exact stageWrite_aux ..
  · simp only [account_aux, outRows_aux]

@[simp] theorem drainTile_aux (w : Work) (id : Nat) (c : Cx) (j : Job) (x : Wb) (t : Nat) (acc : AccTile) :
    (w.drainTile id c j x t acc).2.1.aux = x.aux := by
  have marked (l : Lane) (y : Wb) : (if l = .unchecked then { y with flags := y.flags ||| 16 } else y).aux = y.aux := by
    split <;> rfl
  have saturated (c : Bool) (b b' : Base) (y : Wb) :
      (if c then (b', y) else b.once id { y with flags := y.flags ||| 2 } 0x0204).2.aux = y.aux := by
    cases c
    · exact once_aux ..
    · rfl
  unfold Work.drainTile
  split
  · exact (outTile_aux ..).trans ((marked ..).trans ((saturated ..).trans (if_once_aux ..)))
  · rfl

@[simp] theorem laneReport_aux (b : Base) (n m : Nat) (x : Wb) (t seg : Nat) (l : Lane) (first : Bool) :
    (b.laneReport n m x t seg l first).2.1.aux = x.aux := by
  rcases l with _ | ⟨_ | _, _ | _⟩ <;> rfl

/-- A replay too, output tile by output tile (03 R93). -/
@[simp] theorem replayTiles_aux (id n m : Nat) (j : Job) (ups : List (Nat × Nat)) (k t : Nat) (w : Work) (x : Wb) :
    (Work.replayTiles id n m j ups k t w x).2.1.aux = x.aux := by
  induction k generalizing ups t w x with
  | zero => rfl
  | succ k ih =>
    unfold Work.replayTiles
    dsimp only
    split
    · exact (laneReport_aux ..).trans (drainTile_aux ..)
    · exact (ih ..).trans ((laneReport_aux ..).trans (drainTile_aux ..))

end Sys2Proof.Proofs
end

section
/-! ABFT_REPLAY of a matrix product, and HOLD_LIMIT_EXPIRY (03 R82, R93, 12 R356, 13 R366). -/

namespace Sys2Proof.Proofs

open Sys2Proof Sys2Proof.Machine Sys2Proof.Laws

/-- An event raised once leaves which waybill it is, and whether it was handed over. -/
theorem once_keeps_name (b : Base) (id : Nat) (x : Wb) (code : Nat) :
    (b.once id x code).2.queue = x.queue ∧ (b.once id x code).2.seq = x.seq ∧ (b.once id x code).2.handed = x.handed := by
  unfold Base.once
  split <;> exact ⟨rfl, rfl, rfl⟩

/-- A waybill that no FAILED tile handed over, or that has ended, does not run again (15 R459). -/
theorem runAgain_of_not_handed {w : Work} {id q seq : Nat} (h : ∀ y, w.wb? id q seq = some y → y.handed = false ∨ y.phase = .ended) :
    w.runAgain id q seq = w := by
  unfold Work.runAgain
  cases hy : w.wb? id q seq with
  | none => rfl
  | some y =>
    cases w.base.tileOf id with
    | none => rfl
    | some tile => rcases h y hy with hand | ended <;> simp [*]

section
variable {w u : Work} {id q seq : Nat} {ups : List (Nat × Nat)} {x : Wb}
variable (hx : w.wb? id q seq = some x) (op : x.opcode = 1)
include hx op

/-- A product whose replay asks for no fence is replayed, and nothing of it runs again by itself. -/
theorem replay_of_no_fence (h : w.abftReplay id q seq ups = (u, none)) (rests : ∀ y, u.wb? id q seq = some y → y.handed = false ∨ y.phase = .ended) :
    w.replay id q seq ups = u := by
  simp [Work.replay, hx, op, h, runAgain_of_not_handed rests]

/-- A replay that failed too fences the tile (13 R366). -/
theorem replay_of_fence {n m : Nat} (h : w.abftReplay id q seq ups = (u, some (n, m))) : w.replay id q seq ups = u.fenceItself n m := by
  simp [Work.replay, hx, op, h]

end

/-- A replay is due once the failed product has drained, or a FAILED tile handed it over (03 R93, 15 R459). -/
theorem replay_due {x : Wb} {j : Job} (phase : x.phase = .running) (going : x.aborting = false) (failed : j.failed = true)
    (drained : j.moved = true ∨ x.done = x.geo.tiles) :
    (j.failed && x.phase == .running && !x.aborting && (j.moved || x.done == x.geo.tiles)) = true := by
  rcases drained with moved | whole
  · simp [phase, going, failed, moved]
  · simp [phase, going, failed, whole]

section
variable {w : Work} {id q seq n m : Nat} {ups : List (Nat × Nat)} {x : Wb} {j : Job}
variable (hx : w.wb? id q seq = some x) (hj : w.jobOf id q seq = some j) (tile : w.base.tileOf id = some (n, m))
  (phase : x.phase = .running) (going : x.aborting = false) (failed : j.failed = true) (drained : j.moved = true ∨ x.done = x.geo.tiles)
include hx hj tile phase going failed drained

/-- With no tile free the replay waits (03 R93). -/
theorem abftReplay_of_no_tile (h : w.replayTileFor id x j.pre = none) : w.abftReplay id q seq ups = (w.replayWaits id n m x, none) := by
  simp only [Work.abftReplay, hx, hj, tile, h]
  exact if_pos (replay_due phase going failed drained)

/-- On a free tile the whole product runs again, and ends; the working numbers that say how are the waybill's own. -/
theorem abftReplay_of_tile {k : Nat} (h : w.replayTileFor id x j.pre = some k) {u : Work} {y : Wb} {bad : Bool} {trap : TrapAt}
    (replayed : Work.replayTiles id n k j ups x.geo.tiles 0 w x.replayed = (u, y, bad, trap)) :
    w.abftReplay id q seq ups = u.replayEnd id n m k j y bad trap (if x.aux = [5] then 0x05 else 0x01) := by
  have aux : y.aux = x.aux := by
    have kept := replayTiles_aux id n k j ups x.geo.tiles 0 w x.replayed
    rwa [replayed] at kept
  rw [← aux]
  simp only [Work.abftReplay, hx, hj, tile, h, replayed]
  exact if_pos (replay_due phase going failed drained)

end

/-- The last member of a product that ends has ended. -/
theorem endJob_ends_last {w : Work} {id q seq status : Nat} {j : Job} (last : j.members.getLast? = some (q, seq)) {y : Wb}
    (h : (w.endJob id j status).wb? id q seq = some y) : y.phase = .ended := by
  obtain ⟨before, members⟩ := List.getLast?_eq_some_iff.mp last
  unfold Work.endJob at h
  rw [members, List.foldl_append] at h
  generalize before.foldl _ w = u at h
  dsimp only [List.foldl_cons, List.foldl_nil] at h
  cases hx : u.wb? id q seq with
  | none =>
    rw [hx] at h
    exact absurd ((wb?_of_eng_eq (w := u) rfl id q seq).symm.trans h) (by simp [hx])
  | some x =>
    rw [hx] at h
    obtain ⟨named, numbered⟩ := wb?_named hx
    have marked : (j.mark x).queue = x.queue ∧ (j.mark x).seq = x.seq := by
      unfold Job.mark
      split
      · split <;> exact ⟨rfl, rfl⟩
      · exact ⟨rfl, rfl⟩
    have ended := wb?_setWb (y := (j.mark x).endWith status) hx (marked.1.trans named) (marked.2.trans numbered)
    have same := ended.symm.trans ((wb?_of_eng_eq rfl id q seq).symm.trans h)
    rw [← Option.some.inj same]
    rfl

/-- What a replay's outcome leaves in the registers and the verdict: ACC_ABFT_PEER, and the members that it failed, or that the step has replayed
(03 R93, 12 R356). -/
def replayReported (b : Base) (n m k : Nat) (j : Job) (x : Wb) (bad : Bool) : Base :=
  let peer := b.wr (BitVec.ofNat 64 (n + k * 8 + (if bad then 2 else 1) * 1024)) .ACC_ABFT_PEER n m
  if j.moved && !bad then peer
  else peer.reportOf x fun v => if bad then { v with replayFail := v.replayFail + j.members.length } else { v with replayed := true }

section
variable (w : Work) (id n m k : Nat) (j : Job) (x : Wb) (done : Nat)

/-- A replay that matched ends its product, done, or trapped where an output tile traps; one that failed too ends it CHECK_FAILED. -/
theorem replayEnd_of_matched :
    w.replayEnd id n m k j x false none done =
      ((({ w with base := replayReported w.base n m k j x false } : Work).setWb id { x with flags := x.flags ||| 64, tile := tileCode n k }).endJob id j done,
        none) := rfl

theorem replayEnd_of_trapped {tr : Nat × Nat × Nat} {e : Base} {z : Wb}
    (taken : (replayReported w.base n m k j x false).takeTrap id { x with flags := x.flags ||| 64, tile := tileCode n k } tr = (e, z)) :
    w.replayEnd id n m k j x false (some tr) done = ((({ w with base := e } : Work).setWb id z).endJob id j 0x13, none) := by
  have same : w.replayEnd id n m k j x false (some tr) done =
      ((fun r : Base × Wb => ((({ w with base := r.1 } : Work).setWb id r.2).endJob id j 0x13, none))
        ((replayReported w.base n m k j x false).takeTrap id { x with flags := x.flags ||| 64, tile := tileCode n k } tr)) := rfl
  rw [same, taken]

theorem replayEnd_of_failed (trap : TrapAt) :
    w.replayEnd id n m k j x true trap done =
      ((({ w with base := replayReported w.base n m k j x true } : Work).setWb id { x with flags := x.flags ||| 64, tile := tileCode n k }).endJob id j 0x14,
        some (n, m)) := by
  cases trap <;> simp [Work.replayEnd, replayReported, cd]

end

section
variable {w : Work} {id q seq n m : Nat} {ups : List (Nat × Nat)} {x : Wb} {j : Job}
variable (hx : w.wb? id q seq = some x) (hj : w.jobOf id q seq = some j) (tile : w.base.tileOf id = some (n, m)) (op : x.opcode = 1)
  (phase : x.phase = .running) (going : x.aborting = false) (failed : j.failed = true) (drained : j.moved = true ∨ x.done = x.geo.tiles)
include hx hj tile op phase going failed drained

/-- While no tile is free the product waits, and does nothing else. -/
theorem replay_of_no_tile (own : x.handed = false) (h : w.replayTileFor id x j.pre = none) {b : Base} {y : Wb} (raised : w.base.once id x 0x020D = (b, y)) :
    w.replay id q seq ups = ({ w with base := b.wf 10 2 3 .ACC_ABFT_PEER n m } : Work).setWb id y := by
  have waits : w.replayWaits id n m x = ({ w with base := b.wf 10 2 3 .ACC_ABFT_PEER n m } : Work).setWb id y := by
    simp only [Work.replayWaits, raised, cd]
  obtain ⟨queue, number, handed⟩ : y.queue = x.queue ∧ y.seq = x.seq ∧ y.handed = x.handed := by
    have kept := once_keeps_name w.base id x 0x020D
    rwa [raised] at kept
  obtain ⟨rfl, rfl⟩ := wb?_named hx
  rw [← waits]
  refine replay_of_no_fence hx op (abftReplay_of_no_tile hx hj tile phase going failed drained h) fun z hz => .inl ?_
  rw [waits, wb?_setWb (id := id) (w := { w with base := b.wf 10 2 3 .ACC_ABFT_PEER n m }) hx queue number] at hz
  rw [← Option.some.inj hz, handed, own]

section
variable {k : Nat} (free : w.replayTileFor id x j.pre = some k) {u v : Work} {y : Wb} {bad : Bool} {trap : TrapAt}
  (replayed : Work.replayTiles id n k j ups x.geo.tiles 0 w x.replayed = (u, y, bad, trap))
include free replayed

/-- A replay whose end fences no tile leaves the product ended. -/
theorem replay_of_ended {status : Nat} {t : Work}
    (ends : u.replayEnd id n m k j y bad trap (if x.aux = [5] then 0x05 else 0x01) = (t.endJob id j status, none)) :
    w.replay id q seq ups = t.endJob id j status := by
  have last : j.members.getLast? = some (q, seq) := by simpa using List.find?_some hj
  exact replay_of_no_fence hx op ((abftReplay_of_tile hx hj tile phase going failed drained free replayed).trans ends)
    fun z hz => .inr (endJob_ends_last last hz)

/-- One whose end fences the tile does that too (13 R366). -/
theorem replay_of_fenced {t : Work}
    (ends : u.replayEnd id n m k j y bad trap (if x.aux = [5] then 0x05 else 0x01) = (t, some (n, m))) :
    w.replay id q seq ups = t.fenceItself n m :=
  replay_of_fence hx op ((abftReplay_of_tile hx hj tile phase going failed drained free replayed).trans ends)

end
end

section
variable {w : Work} {id n m : Nat} (tile : w.base.tileOf id = some (n, m))
include tile

/-- With no set held past the limit nothing is drained (03 R82). -/
theorem holdExpiry_of_none_held
    (h : (w.jobs id).find? (fun j => j.heldPast (w.base.rf 0 32 .ACC_HOLD_LIMIT (cd n) m) w.base.time) = none) : w.holdExpiry id = w := by
  simp only [Work.holdExpiry, tile, h]

/-- The first product held past it goes to its drain, to the output of its last member (03 R82). -/
theorem holdExpiry_of_held {j : Job} {q seq : Nat} {x : Wb}
    (h : (w.jobs id).find? (fun j => j.heldPast (w.base.rf 0 32 .ACC_HOLD_LIMIT (cd n) m) w.base.time) = some j)
    (last : j.members.getLast? = some (q, seq)) (hx : w.wb? id q seq = some x) :
    w.holdExpiry id = ({ w with base := w.base.accEvent n m 4 0x0205 (some x.part) x.number } : Work).orphanDrain id j
      { x with event := if x.event = 0 then 0x0205 else x.event } := by
  simp only [Work.holdExpiry, tile, h, last, hx]

end

/-- Settles O23: a failed product waits for a tile or runs again there and ends as the replay does; a set held too long goes to its drain. -/
theorem failedAndOrphanedChainsAreDrained : Obligations.FailedAndOrphanedChainsAreDrained := by
  refine ⟨?replay, ?limit⟩
  case replay =>
    intro s id q seq n m ups x j running hj tile own failed drained
    obtain ⟨runs, hx, phase, op, going⟩ := running
    have does {w : Work} (hw : s.work.replay id q seq ups = w) : Does (.abftReplay id q seq ups) s w :=
      does_of_doWork (may := s.dev.unitRuns id) rfl runs hw
    refine ⟨fun none b y raised => does (replay_of_no_tile hx hj tile op phase going failed drained own none raised), ?_⟩
    intro k w y bad trap free replayed b c z hb hc hz
    have ended {status : Nat} {t : Work} := replay_of_ended hx hj tile op phase going failed drained free replayed (status := status) (t := t)
    have matched (h : bad = false) : replayReported w.base n m k j y false = if j.moved then b else c := by
      rw [hc, hb, h]
      cases hm : j.moved <;> simp [replayReported, hm]
    refine ⟨fun good whole d hd => does (ended ?_), fun good tr d e z1 trapped hd taken => does (ended ?_), fun failed' => does ?_⟩
    · rw [hd, hz, ← matched good, good, whole, replayEnd_of_matched]
    · rw [hz, hd, ← matched good] at taken
      rw [good, trapped, replayEnd_of_trapped _ _ _ _ _ _ _ _ taken]
    · refine replay_of_fenced hx hj tile op phase going failed drained free replayed ?_
      rw [hz, hc, hb, failed', replayEnd_of_failed]
      simp [replayReported]
  case limit =>
    intro s id n m runs tile held
    have does {w : Work} (hw : s.work.holdExpiry id = w) : Does (.holdLimitExpiry id) s w :=
      does_of_doWork (may := s.dev.unitRuns id) rfl runs hw
    refine ⟨fun none => passes_of_doWork (may := s.dev.unitRuns id) rfl runs (holdExpiry_of_none_held tile none), ?_⟩
    intro j q seq k x w found last hx hk hw
    subst hk hw
    exact does (holdExpiry_of_held tile found last hx)

end Sys2Proof.Proofs
end

section
/-! Lending: the spill of a filler, its write-back, its resumption, and their limits (03 R94, R96, 11 R334, R335). -/

namespace Sys2Proof.Proofs

open Sys2Proof Sys2Proof.Machine Sys2Proof.Laws

/-- A request for the record of a tile's filler, in the privilege class of its write-back or of its reload (11 R334, 17 R494). -/
def fillerReq (w : Work) (id : Nat) (l : LendSt) (cls : Nat) : MemReq :=
  unitReq l.borrower (w.base.unitSrc id) (waybillNumber l.queue l.seq) (cls := cls)

/-- The products of a tile hold these sets from now on. -/
def withSets (w : Work) (id : Nat) (sets : List Nat) : Work := w.setJobs id ((w.jobs id).map fun j => { j with sets := sets })

section
variable {w : Work} {id : Nat} {l : LendSt} (lends : w.lending id = some l)
include lends

section
variable {n m : Nat} (tile : w.base.tileOf id = some (n, m))
include tile

/-- A filler that holds its sets gives them up for an owner waybill: they go into the lend region (03 R94). -/
theorem fillerSpill_of_holding (whole : l.spilled = none) (settled : l.reload = none) (lent : w.lent id = true) (ready : w.ownerReady id = true)
    (drained : w.drains id = []) {b : Base} {u : Work}
    (hb : b = (({ w.base with free := w.base.free + spillBytes } : Base).setsTo id sFREE [0, 1]).lendPhase id 3)
    (hu : u = { w with base := b, tiles := w.tiles.localWrite (tileCode n m) (w.base.lendRegion id).1 (spilledBytes w.base.free) }) :
    w.fillerSpill id = ((withSets u id []).setLending id
      (some { l with spillStart := some b.time, spilled := some b.time, slow := false, waitRaised := false, bytes := w.base.free })).startWaybill id := by
  simp [Work.fillerSpill, withSets, lends, tile, whole, settled, lent, ready, drained, hu, hb]

/-- One whose record is still being reloaded stops the reload, and its record stays as it is (11 R334). -/
theorem fillerSpill_of_reloading {t : Nat} (reloads : l.reload = some t) (ready : w.ownerReady id = true) :
    w.fillerSpill id =
      ((withSets { w with base := (w.base.setsTo id sFREE [0, 1]).lendPhase id 0 } id []).setLending id
        (some { l with spilled := some t, reload := none })).startWaybill id := by
  simp [Work.fillerSpill, withSets, lends, tile, reloads, ready]

/-- The spill's write-back ends in the borrower's spill area, and the region is offered again (03 R94). -/
theorem spillEnd_of_spilling {t : Nat} (since : l.spillStart = some t) {b : Base}
    (hb : b = w.base.storeBytes (fillerReq w id l 3) (w.base.spillAddr id l.borrower)
      (w.tiles.localRead (tileCode n m) (w.base.lendRegion id).1 spillBytes)) :
    w.spillEnd id =
      ({ w with base := (b.wf 32 32 (min (b.time - t) (2 ^ 32 - 1)) .ACC_LEND n m).lendPhase id 0 } : Work).setLending id
        (some { l with spillStart := none }) := by
  simp only [Work.spillEnd, lends, tile, since, hb, fillerReq, cd]

/-- A write-back that has taken 9 µs is reported once (03 R94). -/
theorem spillSlow_of_late {t : Nat} (since : l.spillStart = some t) (first : l.slow = false) (late : t + usTicks 9 < w.base.time) :
    w.spillSlow id =
      ({ w with base := w.base.accEvent n m 11 0x020C (some l.borrower) (waybillNumber l.queue l.seq) } : Work).setLending id
        (some { l with slow := true }) := by
  simp [Work.spillSlow, lends, tile, since, first, late]

/-- A spilled filler takes both sets again where one could start, and its record's reload begins (11 R334). -/
theorem fillerResume_of_free (spilled : l.spilled.isSome = true) (written : l.spillStart = none) (offered : w.base.eff 0 1 .TILE_LEND n m = 1)
    (going : w.tileStopped n m = false) (free0 : w.base.setState id 0 = sFREE) (free1 : w.base.setState id 1 = sFREE)
    (mine : ∀ j ∈ w.jobs id, j.members = [(l.queue, l.seq)]) (unclaimed : w.claimsOf id = []) (ready : w.ownerReady id = false) :
    w.fillerResume id =
      (withSets { w with base := ((w.base.setPut id 0 sLENT false l.borrower 0 0).setPut id 1 sLENT false l.borrower 0 0).lendPhase id 1 } id
        [0, 1]).setLending id (some { l with spilled := none, reload := l.spilled }) := by
  have all : ((w.jobs id).all fun j => j.members == [(l.queue, l.seq)]) = true := by simpa using mine
  simp [Work.fillerResume, withSets, lends, tile, spilled, written, offered, going, free0, free1, all, unclaimed, ready]

end

/-- A filler spilled longer than DOCK_LEND_WAIT is reported once (11 R335). -/
theorem lendWait_of_late {t : Nat} {x y : Wb} {b : Base} (since : l.spilled = some t) (first : l.waitRaised = false)
    (late : t + w.base.rf 0 32 .DOCK_LEND_WAIT 40 < w.base.time) (hx : w.wb? id l.queue l.seq = some x) (raised : w.base.each id x 0x0A12 = (b, y)) :
    w.lendWait id = ((({ w with base := b } : Work).setWb id y).setLending id (some { l with waitRaised := true })) := by
  simp [Work.lendWait, lends, since, first, late, hx, raised]

end

/-- The reload's end reads the record back, and the sets hold what was spilled where its bytes are unchanged, else open values (11 R334). -/
theorem reloadEnd_eq (w : Work) (id : Nat) (l : LendSt) {b : Base} {d : List (Byte × Bool)}
    (record : w.base.read (fillerReq w id l 4) (w.base.spillAddr id l.borrower) spillBytes = (b, d)) {same : Bool} {jobs : List Job}
    (hs : same = (d == (spilledBytes l.bytes).map fun v => (v, false)))
    (hj : jobs = if same then w.jobs id else (w.jobs id).map fun j => { j with accs := j.accs.map fun a => (a.1, a.2.reloaded b.free) }) :
    w.reloadEnd id l =
      (({ w with base := if same then b else { b with free := b.free + 16896 } } : Work).setJobs id jobs).setLending id
        (some { l with reload := none, slow := false, waitRaised := false }) := by
  unfold fillerReq at record
  subst hs hj
  simp only [Work.reloadEnd, record]

/-- Settles O24: each step of a lending does what it does once its conditions hold. -/
theorem fillersSpillAndResume : Obligations.FillersSpillAndResume := by
  intro s id n m l runs lends tile rq spilledFrom
  have does {c : Instr} {f : Work → Work} {w : Work} (hc : exec c s = s.run (s.dev.unitRuns id) fun v => v.doWork f) (hw : f s.work = w) : Does c s w :=
    does_of_doWork hc runs hw
  refine ⟨fun whole settled lent ready drained b w hb hw => ?spill, fun t reloads ready w hw => ?stopReload, fun t since b hb => ?writeBack,
    fun t since first late => ?slow, fun spilled written offered going free0 free1 mine unclaimed ready w hw => ?resume,
    fun b d record same jobs hs hj => ?reload, fun t x since first late hx b y raised => ?wait⟩
  case spill => exact does rfl (fillerSpill_of_holding lends tile whole settled lent ready drained hb hw)
  case stopReload =>
    subst hw
    exact does rfl (fillerSpill_of_reloading lends tile reloads ready)
  case writeBack => exact does rfl (spillEnd_of_spilling lends tile since hb)
  case slow => exact does rfl (spillSlow_of_late lends tile since first late)
  case resume =>
    subst hw
    exact does rfl (fillerResume_of_free lends tile spilled written offered going free0 free1 mine unclaimed ready)
  case reload => exact reloadEnd_eq s.work id l record hs hj
  case wait => exact does rfl (lendWait_of_late lends since first late hx raised)

end Sys2Proof.Proofs
end

section
/-! What the commands of this chapter share: a write of a whole register whose effect is the data path's, and a command of a unit that runs. -/

namespace Sys2Proof.Proofs

open Sys2Proof Sys2Proof.Machine Sys2Proof.Laws

/-- A write of a whole register that has a row of its own, and whose effect is the data path's, leaves what that effect makes of it. -/
theorem leaves_of_writeReg {c : Instr} {s : State} {rt : Route} {r : RegAt} {data m : Nat} {v : Device} {f : Work → Work}
    (h : s.writesReg rt r data m v) (hc : exec c s = s.writeReg rt (regAddr r.reg r.die r.unit r.i r.j) data)
    (effect : v.regApply m r (data % 2 ^ 64) (2 ^ 64 - 1) = v.onWork f) {w : Work} (hw : f v.work = w) :
    Leaves c s ((v.onWork fun _ => w).answer .ok) := by
  obtain ⟨a, ha⟩ := h
  subst hw
  rw [Leaves, hc, writeReg_eq _ _ _ _ _ _ _ _ ha, effect]
  rfl

section
variable {c : Instr} {s : State} {id : Nat} {f : Work → Work} (hc : exec c s = s.unitRun id f) (runs : s.dev.unitRuns id = true)
include hc runs

/-- A command of a unit that runs does what its function makes of the work, or passes where that is nothing. -/
theorem does_of_unitRun {w : Work} (hw : f s.work = w) : Does c s w := does_of_doWork hc runs hw

theorem passes_of_unitRun (hw : f s.work = s.work) : Passes c s := passes_of_doWork hc runs hw

end

section
variable {c : Instr} {s : State} {f : Work → Work} (hc : exec c s = s.run s.dev.pwr.ready fun v => v.doWork f) (ready : s.dev.pwr.ready = true)
include hc ready

/-- The same of a command of the data path that no unit makes. -/
theorem does_of_ready {w : Work} (hw : f s.work = w) : Does c s w := does_of_doWork hc ready hw

theorem passes_of_ready (hw : f s.work = s.work) : Passes c s := passes_of_doWork hc ready hw

end

end Sys2Proof.Proofs
end

section
/-! Aborts by number: what an abort makes of one waybill, by where the waybill is, and of the waybills behind it (04 R122, R123). -/

namespace Sys2Proof.Proofs

open Sys2Proof Sys2Proof.Machine Sys2Proof.Laws

/-- What a write of DOCK_QABORT does: SEQ is bits 16 to 47, ALL bit 0 (04 R122). -/
theorem regApply_qabort_one (v : Device) (m q k : Nat) {seq : Nat} (hseq : seq < 2 ^ 32) :
    v.regApply m ⟨.DOCK_QABORT, q / 2048, q % 2048, 0, 0⟩ (seq * 2 ^ 16 % 2 ^ 64) k = v.onWork fun w => w.abortOne q seq := by
  have bit : (seq * 2 ^ 16 % 2 ^ 64).testBit 0 = false := by rw [Nat.testBit_zero]; simp; omega
  have named : nget (seq * 2 ^ 16 % 2 ^ 64) 16 32 = seq := by unfold nget; omega
  simp only [regApply_qabort, bit, named, Nat.div_add_mod, Bool.false_eq_true, if_false]

theorem regApply_qabort_all (v : Device) (m q k : Nat) {seq : Nat} (hseq : seq < 2 ^ 32) :
    v.regApply m ⟨.DOCK_QABORT, q / 2048, q % 2048, 0, 0⟩ ((seq * 2 ^ 16 + 1) % 2 ^ 64) k = v.onWork fun w => w.abortAll q seq := by
  have bit : ((seq * 2 ^ 16 + 1) % 2 ^ 64).testBit 0 = true := by rw [Nat.testBit_zero]; simp; omega
  have named : nget ((seq * 2 ^ 16 + 1) % 2 ^ 64) 16 32 = seq := by unfold nget; omega
  simp only [regApply_qabort, bit, named, Nat.div_add_mod, if_true]

/-- A waybill that an abort ends at once: it is to complete ABORTED (04 R122). -/
def endAborted (id : Nat) (branch : Bool) (w : Work) (y : Wb) : Work := w.setWb id ({ y with byBranch := branch }.endWith 0x11)

/-- A mate of a waybill that an abort ends with it (04 R122). -/
def endMate (id : Nat) (x : Wb) (branch : Bool) (w : Work) (y : Wb) : Work :=
  if y.queue = x.queue ∧ y.seq = x.seq then w else endAborted id branch w y

section
variable {w : Work} {id : Nat} {x : Wb} {branch : Bool}

/-- A waybill of no chain has no mates. -/
theorem chainGroup_of_not_chained (alone : x.chained = false) : w.chainGroup id x = (none, []) := by simp [Work.chainGroup, alone]

theorem endedGroup_of_not_chained (alone : x.chained = false) : w.endedGroup id x = [x] := by simp [Work.endedGroup, alone]

/-- An accepted waybill ends, and its mates with it; those that a tile holds are marked (04 R122). -/
theorem abortAccepted_of_no_job (kind : kindOf id ≠ some .ring) {mates : List Wb} (group : w.chainGroup id x = (none, mates)) :
    w.abortAccepted id x branch = mates.foldl (endMate id x branch) (endAborted id branch w x) := by
  simp only [Work.abortAccepted, group, if_neg kind]
  rfl

theorem abortAccepted_of_job (kind : kindOf id ≠ some .ring) {mates : List Wb} {j : Job} (group : w.chainGroup id x = (some j, mates)) :
    w.abortAccepted id x branch = (mates.foldl (endMate id x branch) (endAborted id branch w x)).markJob id j branch := by
  simp only [Work.abortAccepted, group, if_neg kind]
  rfl

/-- One of no chain ends alone; one of a ring engine leaves the frames that come later to be dropped (11 R321). -/
theorem abortAccepted_of_not_chained (alone : x.chained = false) (kind : kindOf id ≠ some .ring) :
    w.abortAccepted id x branch = endAborted id branch w x :=
  abortAccepted_of_no_job kind (chainGroup_of_not_chained alone)

theorem abortAccepted_of_ring (alone : x.chained = false) (kind : kindOf id = some .ring) :
    w.abortAccepted id x branch = endAborted id branch (w.ringAbort x) x := by
  simp only [Work.abortAccepted, chainGroup_of_not_chained alone, if_pos kind, List.foldl_nil]
  rfl

end

section
variable {w : Work} {q seq id : Nat} {x : Wb} {branch : Bool} (found : w.findWb q seq = some (id, x))
include found

/-- What an abort makes of a waybill that a window holds, by its phase (04 R122, R123). -/
theorem abortNow_of_accepted (phase : x.phase = .accepted) : w.abortNow q seq branch = (w.abortAccepted id x branch, 1) := by
  simp [Work.abortNow, found, phase]

theorem abortNow_of_running (phase : x.phase = .running) (op : x.opcode ≠ 0xF3) (alone : x.chained = false) :
    w.abortNow q seq branch = (w.markAbort id x branch, 1) := by
  simp [Work.abortNow, found, phase, op, chainGroup_of_not_chained alone]

theorem abortNow_of_running_job (phase : x.phase = .running) (op : x.opcode ≠ 0xF3) {mates : List Wb} {j : Job}
    (group : w.chainGroup id x = (some j, mates)) :
    w.abortNow q seq branch = ((mates.foldl (endAborted id branch) w).markJob id j branch, 1) := by
  simp only [Work.abortNow, found, phase, if_neg op, group]
  rfl

theorem abortNow_of_ended (phase : x.phase = .ended) (op : x.opcode ≠ 0xF3) :
    w.abortNow q seq branch =
      ((w.endedGroup id x).foldl (fun (w : Work) y => w.setWb id { y with status := 0x11, byBranch := branch, posA := y.done }) w, 1) := by
  simp [Work.abortNow, found, phase, op]

theorem abortNow_of_issued (phase : x.phase = .issued) (unproduced : x.tokens = x.issued.tokens) :
    w.abortNow q seq branch = (w.lateAbort id x, 2) := by
  simp only [Work.abortNow, found, phase, if_pos unproduced]

theorem abortNow_of_produced (phase : x.phase = .issued) (produced : x.tokens ≠ x.issued.tokens) : w.abortNow q seq branch = (w, 3) := by
  simp only [Work.abortNow, found, phase, if_neg produced]

end

/-- The published waybills of a queue that are not accepted. -/
def publishedAhead (w : Work) (q : Nat) : Nat := (w.base.qTail q + 2 ^ 32 - w.base.qHead q) % 2 ^ 32

/-- An abort of waybills noted for their acceptance: n of a queue from number seq on (04 R122). -/
def noteAbort (w : Work) (q seq n : Nat) (branch : Bool) : Work :=
  { w with eng := { w.eng with aborts := Map.put q ((seq, n, branch) :: (Map.find q w.eng.aborts).getD []) w.eng.aborts } }

section
variable {w : Work} {q seq : Nat} {branch : Bool} (missing : w.findWb q seq = none)
include missing

/-- What an abort makes of a waybill that no window holds: one that is published is noted (04 R122). -/
theorem abortNow_of_published (ahead : 1 ≤ behind 32 (w.base.qTail q) seq ∧ behind 32 (w.base.qTail q) seq ≤ publishedAhead w q) :
    w.abortNow q seq branch = (noteAbort w q seq 1 branch, 1) := by
  simp only [Work.abortNow, missing]
  exact if_pos ahead

theorem abortNow_of_unpublished (past : behind 32 (w.base.qTail q) seq = 0 ∨ publishedAhead w q < behind 32 (w.base.qTail q) seq) :
    w.abortNow q seq branch = (w, 3) := by
  have past : ¬(1 ≤ behind 32 (w.base.qTail q) seq ∧ behind 32 (w.base.qTail q) seq ≤ publishedAhead w q) := by omega
  simp only [Work.abortNow, missing]
  exact if_neg past

end

/-- ABORTRES reports what became of the waybill (04 R122). -/
theorem abortOne_of_abortNow {w u : Work} {q seq res : Nat} (now : w.abortNow q seq false = (u, res)) :
    w.abortOne q seq = { u with base := u.base.qwf q 6 2 res .DOCK_QSTAT } := by
  simp only [Work.abortOne, now]

section
variable {w : Work} {q : Nat} (empty : ∀ u ∈ w.eng.units, ∀ x ∈ u.2.window, x.queue ≠ q)
include empty

/-- Where no window holds a waybill of the queue, none is found, and none is named by number. -/
theorem findWb_of_empty (seq : Nat) : w.findWb q seq = none := by
  refine List.findSome?_eq_none_iff.mpr fun u hu => ?_
  rw [Option.map_eq_none_iff, List.find?_eq_none]
  intro x hx
  simp [empty u hu x hx]

theorem laterNamed_of_empty (seq d : Nat) :
    (w.eng.units.flatMap fun u => u.2.window.filterMap fun x =>
      if x.queue = q ∧ x.seq ≠ seq ∧ (x.seq + 2 ^ 32 - seq) % 2 ^ 32 < d then some x.seq else none) = [] :=
  List.flatMap_eq_nil_iff.mpr fun u hu => List.filterMap_eq_nil_iff.mpr fun x hx => if_neg fun named => empty u hu x hx named.1

/-- An abort of a queue with no waybill in a window notes SEQ and all published behind it (04 R122). -/
theorem abortAll_of_empty {seq d : Nat} (hd : behind 32 (w.base.qTail q) seq = d) (later : 1 ≤ d) (ahead : d ≤ publishedAhead w q)
    (near : d ≤ 2 ^ 31) :
    w.abortAll q seq =
      let u := noteAbort (noteAbort w q seq 1 false) q ((w.base.qTail q + 2 ^ 32 - d) % 2 ^ 32) d false
      { u with base := u.base.qwf q 6 2 1 .DOCK_QSTAT } := by
  have now : w.abortNow q seq false = (noteAbort w q seq 1 false, 1) :=
    abortNow_of_published (findWb_of_empty empty seq) (by rw [hd]; exact ⟨later, ahead⟩)
  have least : min d ((w.base.qTail q + 2 ^ 32 - (noteAbort w q seq 1 false).base.qHead q) % 2 ^ 32) = d := Nat.min_eq_left ahead
  simp only [Work.abortAll, hd, now, laterNamed_of_empty empty, List.foldl_nil, least]
  rw [if_neg (by omega), if_neg (by omega)]
  rfl

end

/-- An abort of waybills that are not published yet changes ABORTRES alone (04 R122). -/
theorem abortAll_of_unpublished {w : Work} {q seq : Nat} (past : behind 32 (w.base.qTail q) seq = 0 ∨ 2 ^ 31 < behind 32 (w.base.qTail q) seq) :
    w.abortAll q seq = { w with base := w.base.qwf q 6 2 3 .DOCK_QSTAT } :=
  if_pos past

/-- Settles O14: the row's write is one abort by number, which answers by the waybill's phase, or by whether it is published. -/
theorem abortsAreMadeByNumber : Obligations.AbortsAreMadeByNumber := by
  refine ⟨fun s rt q seq m v hseq h => ?_, fun s rt q seq m v hseq h => ?_⟩
  · have answers {u : Work} {res : Nat} (now : v.work.abortNow q seq false = (u, res)) :
        Leaves (.abortOne rt q seq) s ((v.onWork fun _ => { u with base := u.base.qwf q 6 2 res .DOCK_QSTAT }).answer .ok) :=
      leaves_of_writeReg h rfl (regApply_qabort_one v m q _ hseq) (abortOne_of_abortNow now)
    refine ⟨fun id x found => ⟨fun phase alone kind => ?accepted, fun phase alone kind => ?ring, fun phase kind mates group => ?mates,
      fun phase kind mates j group => ?heldChain, fun phase op alone => ?running, fun phase op mates j group => ?runningChain,
      fun phase op => ?ended, fun _ alone => endedGroup_of_not_chained alone, fun phase produced => ?produced,
      fun phase unproduced => ?issued⟩, fun missing => ⟨fun ahead => ?published, fun past => ?unpublished⟩⟩
    case accepted => exact answers ((abortNow_of_accepted found phase).trans (by rw [abortAccepted_of_not_chained alone kind]; rfl))
    case ring => exact answers ((abortNow_of_accepted found phase).trans (by rw [abortAccepted_of_ring alone kind]; rfl))
    case mates => exact answers ((abortNow_of_accepted found phase).trans (by rw [abortAccepted_of_no_job kind group]; rfl))
    case heldChain => exact answers ((abortNow_of_accepted found phase).trans (by rw [abortAccepted_of_job kind group]; rfl))
    case running => exact answers (abortNow_of_running found phase op alone)
    case runningChain => exact answers (abortNow_of_running_job found phase op group)
    case ended => exact answers (abortNow_of_ended found phase op)
    case produced => exact answers (abortNow_of_produced found phase produced)
    case issued => exact answers (abortNow_of_issued found phase unproduced)
    case published => exact answers (abortNow_of_published missing ahead)
    case unpublished => exact answers (abortNow_of_unpublished missing past)
  · have leaves {w : Work} (all : v.work.abortAll q seq = w) : Leaves (.abortAll rt q seq) s ((v.onWork fun _ => w).answer .ok) :=
      leaves_of_writeReg h rfl (regApply_qabort_all v m q _ hseq) all
    exact ⟨fun empty later ahead near => leaves (abortAll_of_empty empty rfl later ahead near), fun past => leaves (abortAll_of_unpublished past)⟩

end Sys2Proof.Proofs
end

section
/-! What a unit makes of the next waybill of its queues, and which waybill of its window it starts (04 R103, R111, R116, R122, R537). -/

namespace Sys2Proof.Proofs

open Sys2Proof Sys2Proof.Machine Sys2Proof.Laws

/-- The waybill that a unit takes is the one at HEAD of its queue, and HEAD advances behind it (04 R103). -/
theorem takeNext_takes_head {b c : Base} {id q p : Nat} {x : Wb} {bad : Bool} (taken : b.takeNext id q p = (c, x, bad)) :
    x.queue = q ∧ x.seq = b.qHead q ∧ x.part = p ∧ x.phase = .accepted ∧
      ∃ (d : Base) (rq : MemReq), c = (d.qwf q 0 32 (x.seq + 1) .DOCK_QHEAD).noteWork rq 0x27 1 := by
  simp only [Base.takeNext, Prod.mk.injEq] at taken
  obtain ⟨rfl, rfl, -⟩ := taken
  exact ⟨rfl, rfl, rfl, rfl, _, _, rfl⟩

section
variable {w : Work} {id i : Nat} {kind : UnitKind} (unit : unitOf id = some (kind, i))
include unit

theorem kindOf_of_unitOf : kindOf id = some kind := by rw [kindOf, unit, Option.map_some]

/-- A unit whose queues offer nothing takes nothing; else it judges the waybill that it takes (04 R103). -/
theorem acceptWaybill_of_none (idle : w.nextQueue id kind = none) : w.acceptWaybill id = w := by
  simp only [Work.acceptWaybill, unit, idle]

theorem acceptWaybill_of_next {q p : Nat} {b : Base} {x : Wb} {bad : Bool} (next : w.nextQueue id kind = some q)
    (part : w.base.partOfQueue q = some p) (taken : w.base.takeNext id q p = (b, x, bad)) :
    w.acceptWaybill id = (({ w with base := b } : Work).setUnit id ((w.unit id).accept x)).judgeAccepted id kind x bad := by
  simp only [Work.acceptWaybill, unit, next, part, taken]

end

/-- The checks of an accepted waybill, and behind them, for a ring engine, the partition's share of its virtual channels (04 R537, 11 R319). -/
def acceptFault (kind : UnitKind) (w : Work) (p : Nat) (fault : Option Nat) : Option Nat :=
  match kind, fault with
  | .ring, none => if w.base.vcShares p = 0 then some 0x0A0F else none
  | _, e => e

section
variable {w : Work} {id : Nat} {kind : UnitKind} {x : Wb} {bad : Bool}

/-- What the unit makes of a waybill that an abort had named: it ends, and its chain with it where its bytes can be read (04 R122). -/
theorem judgeAccepted_of_named_poisoned {branch : Bool} (named : w.eng.abortNamed x.queue x.seq = some branch) :
    w.judgeAccepted id kind x true = endAborted id branch w x := by
  simp only [Work.judgeAccepted, named, if_true]
  rfl

theorem judgeAccepted_of_named {branch : Bool} (named : w.eng.abortNamed x.queue x.seq = some branch) :
    w.judgeAccepted id kind x false = w.abortAccepted id x branch := by
  simp only [Work.judgeAccepted, named, Bool.false_eq_true, if_false]

section
variable (unnamed : w.eng.abortNamed x.queue x.seq = none)
include unnamed

/-- What it makes of one of a lost unit, and of every other (04 R103, R537, 13 R370). -/
theorem judgeAccepted_of_lost (lost : w.base.unitLost id = true) : w.judgeAccepted id kind x bad = w.setWb id (x.endWith 0x16) := by
  simp [Work.judgeAccepted, unnamed, lost]

theorem judgeAccepted_of_check (kept : w.base.unitLost id = false) {u : Work} {y : Wb} {fault : Option Nat}
    (check : w.acceptCheck id kind x bad = (u, y, fault)) :
    w.judgeAccepted id kind x bad = (acceptFault kind u x.part fault).elim ((u.setWb id y).askTokens id y) fun code =>
      (({ u with base := u.base.rootLast id code } : Work).setWb id y).reject id y code := by
  simp only [Work.judgeAccepted, unnamed, kept, check, Bool.false_eq_true, if_false]
  cases kind with
  | ring => cases fault with
    | none =>
      by_cases shares : u.base.vcShares x.part = 0
      · simp only [acceptFault, if_pos shares]
        rfl
      · simp only [acceptFault, if_neg shares]
        rfl
    | some code => rfl
  | tile | crv | upd | ckpt => cases fault <;> rfl

end

end

/-- A check's event stands; a partition without a share of the virtual channels is rejected on a ring engine alone (11 R319). -/
theorem acceptFault_of_fault (kind : UnitKind) (w : Work) (p code : Nat) : acceptFault kind w p (some code) = some code := by
  cases kind <;> rfl

theorem acceptFault_of_no_share {w : Work} {p : Nat} (shares : w.base.vcShares p = 0) : acceptFault .ring w p none = some 0x0A0F := by
  simp [acceptFault, shares]

theorem acceptFault_of_share {kind : UnitKind} {w : Work} {p : Nat} (shares : kind = .ring → w.base.vcShares p ≠ 0) :
    acceptFault kind w p none = none := by
  cases kind with
  | ring => simp [acceptFault, shares rfl]
  | tile | crv | upd | ckpt => rfl

section
variable {w : Work} {id : Nat}

/-- The unit passes over the waybills of its window that lack a notice or a credit (04 R111). -/
theorem startFirst_of_not_ready {pre : List Wb} (waiting : ∀ y ∈ pre, w.basicReady id y = false) (rest : List Wb) :
    Work.startFirst id (pre ++ rest) w = Work.startFirst id rest w := by
  induction pre with
  | nil => rfl
  | cons y pre ih =>
    obtain ⟨first, others⟩ := List.forall_mem_cons.mp waiting
    rw [List.cons_append, Work.startFirst, first, Bool.false_and, if_neg Bool.false_ne_true, ih others]

section
variable {pre post : List Wb} {x : Wb} (window : (w.unit id).window = pre ++ x :: post) (waiting : ∀ y ∈ pre, w.basicReady id y = false)
  (ready : w.basicReady id x = true) (timely : w.base.expired id x = false)
include window waiting ready timely

/-- The first waybill with its notices and credits, in time, begins where its unit's conditions hold, or is rejected by its last checks (04 R111). -/
theorem startWaybill_of_start {u : Work} {y : Wb} (starts : w.startOf id x = .start u) (found : u.wb? id x.queue x.seq = some y) :
    w.startWaybill id = u.begin id y := by
  rw [Work.startWaybill, window, startFirst_of_not_ready waiting]
  simp [Work.startFirst, ready, timely, starts, found]

theorem startWaybill_of_reject {code : Nat} (rejects : w.startOf id x = .reject code) :
    w.startWaybill id = ({ w with base := w.base.rootLast id code } : Work).reject id x code := by
  rw [Work.startWaybill, window, startFirst_of_not_ready waiting]
  simp [Work.startFirst, ready, timely, rejects]

end

/-- A tile position without prefetch entries has none to check (05 R145). -/
theorem pfStart_of_no_entry (entries : w.tiles.pf id = []) (q seq : Nat) : w.pfStart id q seq = w := by
  simp only [Work.pfStart, entries]

/-- The starts are counted (04 R111). -/
def oneMoreStart (w : Work) : Work := { w with eng := { w.eng with starts := w.eng.starts + 1 } }

/-- A waybill begins: a STEP closes its partition's step with it (04 R111, 13 R378). -/
theorem begin_of_step {x : Wb} {u : Work} (op : x.opcode = 0xF3)
    (hu : u = (w.setUnit id ((w.unit id).spend (sumByPort x.creds))).setWb id (w.started id x)) :
    w.begin id x = ((oneMoreStart u).pfStart id x.queue x.seq).stepClose id (w.started id x) := by
  subst hu
  exact if_pos op

theorem begin_of_not_step {x : Wb} {u : Work} (op : x.opcode ≠ 0xF3)
    (hu : u = (w.setUnit id ((w.unit id).spend (sumByPort x.creds))).setWb id (w.started id x)) :
    w.begin id x = (oneMoreStart u).pfStart id x.queue x.seq := by
  subst hu
  exact if_neg op

end

/-- Settles O18: the unit judges the waybill that it takes, and starts the first of its window that is ready. -/
theorem unitAcceptsAndStartsWaybills : Obligations.UnitAcceptsAndStartsWaybills := by
  refine ⟨fun s id i kind accepts unit => ⟨fun idle => ?idle, fun q p b x bad w next part taken hw => ?next⟩,
    fun s id pre post x starts window waiting ready timely => ⟨fun w y w1 w2 may found hw1 hw2 => ?start, fun code rejects => ?reject⟩⟩
  case idle => exact passes_of_doWork (may := s.dev.unitAccepts id) rfl accepts (acceptWaybill_of_none unit idle)
  case next =>
    obtain ⟨rfl, seq, rfl, phase, advances⟩ := takeNext_takes_head taken
    have judged {u : Work} (hu : w.judgeAccepted id kind x bad = u) : Does (.waybillAccept id) s u :=
      does_of_doWork (may := s.dev.unitAccepts id) rfl accepts ((acceptWaybill_of_next unit next part taken).trans (hw ▸ hu))
    refine ⟨⟨rfl, seq, rfl, phase, advances⟩, fun branch named => ⟨fun ends => ?_, fun good => ?_⟩, fun unnamed lost => ?_,
      fun unnamed kept u y fault check => ?_⟩
    · cases bad with
      | true => exact judged (judgeAccepted_of_named_poisoned named)
      | false =>
        obtain ⟨alone, notRing⟩ := ends.resolve_left Bool.false_ne_true
        have notRing : kindOf id ≠ some .ring := by rw [kindOf_of_unitOf unit]; simpa using notRing
        exact judged ((judgeAccepted_of_named named).trans (abortAccepted_of_not_chained alone notRing))
    · subst good
      exact judged (judgeAccepted_of_named named)
    · exact judged (judgeAccepted_of_lost unnamed lost)
    · have checked := judgeAccepted_of_check unnamed kept check
      refine ⟨?_, ?_, ?_⟩
      · rintro rfl shares
        exact judged (checked.trans (by rw [acceptFault_of_share shares]; rfl))
      · rintro rfl rfl shares
        exact judged (checked.trans (by rw [acceptFault_of_no_share shares]; rfl))
      · rintro code rfl
        exact judged (checked.trans (by rw [acceptFault_of_fault]; rfl))
  case start =>
    have begun {u : Work} (hu : w.begin id y = u) : Does (.waybillStart id) s u :=
      does_of_doWork (may := s.dev.unitStarts id) rfl starts ((startWaybill_of_start window waiting ready timely may found).trans hu)
    subst hw2
    exact ⟨fun op => begun (begin_of_not_step op hw1), fun op => begun (begin_of_step op hw1),
      fun entries => pfStart_of_no_entry (w := oneMoreStart w1) entries _ _, rfl, rfl, rfl⟩
  case reject =>
    exact does_of_doWork (may := s.dev.unitStarts id) rfl starts (startWaybill_of_reject window waiting ready timely rejects)

end Sys2Proof.Proofs
end

section
/-! The registers of a queue: which queues may be enabled, what DOCK_QCFG keeps while one is, and what a doorbell stores (04 R100 to R102). -/

namespace Sys2Proof.Proofs

open Sys2Proof Sys2Proof.Machine Sys2Proof.Laws

/-- A unit is a tile position whose tile lends its free sets (03 R94). -/
def lendsSets (b : Base) (unit : Nat) : Bool :=
  match unitOf unit with
  | some (.tile, i) =>
    match b.tileOfPos (i / 64) (i % 64) with
    | some t => b.eff 0 1 .TILE_LEND (cd (i / 64)) t == 1
    | none => false
  | _ => false

theorem lendsSets_iff (b : Base) (unit : Nat) : lendsSets b unit = true ↔
    ∃ i t, unitOf unit = some (.tile, i) ∧ b.tileOfPos (i / 64) (i % 64) = some t ∧ b.eff 0 1 .TILE_LEND (cd (i / 64)) t = 1 := by
  unfold lendsSets
  rcases unitOf unit with _ | ⟨_ | _ | _ | _ | _, i⟩
  case some.tile => cases lent : b.tileOfPos (i / 64) (i % 64) <;> simp [lent]
  all_goals simp

/-- A filler's queue may be bound to the unit that a value of DOCK_QCFG names (04 R100, 18 R514). -/
def Borrows (b : Base) (new : Word) : Prop :=
  bget new 6 = true ∧ b.lendingOn = true ∧
    ∃ i t, unitOf (fget new 8 16) = some (.tile, i) ∧ b.tileOfPos (i / 64) (i % 64) = some t ∧ b.eff 0 1 .TILE_LEND (cd (i / 64)) t = 1

/-- A queue may be enabled with a value of DOCK_QCFG (04 R100). -/
def mayEnable (w : Work) (q : Nat) (new : Word) : Bool :=
  match w.base.partOfQueue q with
  | none => false
  | some p =>
    (w.base.unitServes (fget new 8 16) p && fget new 8 16 % 8 == 0 || (bget new 6 && w.base.lendingOn && lendsSets w.base (fget new 8 16)))
      && decide (fget new 0 4 ≤ 10) && decide ((w.eng.queuesOn.countP fun k => w.base.qUnit k == fget new 8 16) < 64)

theorem mayEnable_iff (w : Work) (q : Nat) (new : Word) : mayEnable w q new = true ↔
    ∃ p, w.base.partOfQueue q = some p ∧ (w.base.unitServes (fget new 8 16) p = true ∧ fget new 8 16 % 8 = 0 ∨ Borrows w.base new) ∧
      fget new 0 4 ≤ 10 ∧ (w.eng.queuesOn.countP fun k => w.base.qUnit k == fget new 8 16) < 64 := by
  unfold mayEnable
  cases part : w.base.partOfQueue q with
  | none => simp
  | some p => simp [Borrows, lendsSets_iff, and_assoc]

/-- A value of DOCK_QCFG with the fields that no write changes (04 R104). -/
def keepRO (old new : Word) : Word := fput new 24 40 (fget old 24 40)

section
variable {w : Work} {q : Nat} {new old : Word} (hold : old = w.base.rd .DOCK_QCFG (q / 2048) (q % 2048))
include hold

section
variable (off : bget old 4 = false) (enables : bget new 4 = true)
include off enables

/-- Setting ENABLE on a queue that may be enabled, and on one that may not (04 R100, R101). -/
theorem qcfgWrite_of_mayEnable (may : mayEnable w q new = true) {on : Base} (hon : on = w.base.wr (keepRO old new) .DOCK_QCFG (q / 2048) (q % 2048)) :
    w.qcfgWrite q new =
      { w with
        base := (on.qwf q 0 64 (on.qTail q) .DOCK_QHEAD).qwf q 0 4 0 .DOCK_QSTAT,
        eng := { w.eng with
                 queuesOn := NSet.add q w.eng.queuesOn, aborts := Map.del q w.eng.aborts, unstarted := Map.del q w.eng.unstarted } } := by
  subst hold hon
  exact (if_neg (ne_true_of_eq_false off)).trans ((if_pos enables).trans (if_pos may))

theorem qcfgWrite_of_not_mayEnable (may : ¬mayEnable w q new = true) {u : Base}
    (hu : u = w.base.wr (fput (keepRO old new) 4 1 0) .DOCK_QCFG (q / 2048) (q % 2048)) :
    w.qcfgWrite q new = { w with base := u.raise 0x030C (queueSrc q) (u.partOfQueue q) } := by
  subst hold hu
  exact (if_neg (ne_true_of_eq_false off)).trans ((if_pos enables).trans (if_neg may))

end

section
variable (on : bget old 4 = true) {value : Word}
  (hvalue : value = fput (fput (fput (fput old 4 1 (fget new 4 1)) 5 1 (fget new 5 1)) 7 1 (fget new 7 1)) 4 1 (fget new 4 1))
  {set : Base} (hset : set = w.base.wr (keepRO old value) .DOCK_QCFG (q / 2048) (q % 2048))
include on hvalue hset

/-- A write to an enabled queue keeps SIZE, FILLER and UNIT; one that would change them raises TOK.QBIND (04 R101). -/
theorem qcfgWrite_of_enabled {held : Bool}
    (hheld : (fget new 0 4 != fget old 0 4 || fget new 6 1 != fget old 6 1 || fget new 8 16 != fget old 8 16) = held) :
    w.qcfgWrite q new =
      { w with
        base := if held then set.raise 0x030C (queueSrc q) (set.partOfQueue q) else set,
        eng := { w.eng with queuesOn := if bget new 4 then w.eng.queuesOn else NSet.remove q w.eng.queuesOn } } := by
  subst hold hvalue hset hheld
  exact if_pos on

theorem qcfgWrite_of_enabled_same (same : fget new 0 4 = fget old 0 4 ∧ fget new 6 1 = fget old 6 1 ∧ fget new 8 16 = fget old 8 16) :
    w.qcfgWrite q new =
      { w with
        base := set, eng := { w.eng with queuesOn := if bget new 4 then w.eng.queuesOn else NSet.remove q w.eng.queuesOn } } := by
  rw [qcfgWrite_of_enabled hold on hvalue hset (held := false) (by simp [same]), if_neg Bool.false_ne_true]

theorem qcfgWrite_of_enabled_changed (changed : ¬(fget new 0 4 = fget old 0 4 ∧ fget new 6 1 = fget old 6 1 ∧ fget new 8 16 = fget old 8 16)) :
    w.qcfgWrite q new =
      { w with
        base := set.raise 0x030C (queueSrc q) (set.partOfQueue q),
        eng := { w.eng with queuesOn := if bget new 4 then w.eng.queuesOn else NSet.remove q w.eng.queuesOn } } := by
  have held : (fget new 0 4 != fget old 0 4 || fget new 6 1 != fget old 6 1 || fget new 8 16 != fget old 8 16) = true := by
    rw [not_and_or, not_and_or] at changed
    simpa [or_assoc] using changed
  rw [qcfgWrite_of_enabled hold on hvalue hset held, if_pos rfl]

end

end

section
variable {w : Work} {q : Nat} {new : Word} {b : Base} (hb : b = w.base.wr new .DOCK_QTAIL (q / 2048) (q % 2048))
include hb

/-- A doorbell stores TAIL; where the queue then holds more than its ring, it stops (04 R102). -/
theorem doorbell_within (room : (b.qTail q + 2 ^ 32 - b.qHead q) % 2 ^ 32 ≤ b.qSize q) : w.doorbell q new = { w with base := b } := by
  subst hb
  exact if_neg (by rw [decide_eq_true_eq]; exact Nat.not_lt.mpr room)

theorem doorbell_beyond (beyond : b.qSize q < (b.qTail q + 2 ^ 32 - b.qHead q) % 2 ^ 32) :
    w.doorbell q new = { w with base := (b.qStop q 1).raise 0x030B (queueSrc q) (b.partOfQueue q) } := by
  subst hb
  exact if_pos (decide_eq_true beyond)

end

/-- Settles O13: the row's write is the queue's, which asks whether it may be enabled, or keeps what an enabled queue holds. -/
theorem queuesAreEnabledAndRung : Obligations.QueuesAreEnabledAndRung := by
  refine ⟨fun s rt q data m v h => ?qcfg, fun s rt q data m v h => ?doorbell⟩
  case qcfg =>
    have written {w : Work} (hw : v.work.qcfgWrite q (v.newValue .DOCK_QCFG (q / 2048) (q % 2048) 0 0 (data % 2 ^ 64)) = w) :
        Leaves (.dockQcfgWrite rt q data) s ((v.onWork fun _ => w).answer .ok) :=
      leaves_of_writeReg h rfl (by rw [regApply_qcfg, Nat.div_add_mod]) hw
    refine ⟨fun off enables => ⟨fun p part bound size room => ?_, fun refused => ?_⟩, fun on => ⟨fun same => ?_, fun changed => ?_⟩⟩
    · exact written (qcfgWrite_of_mayEnable rfl off enables ((mayEnable_iff _ _ _).mpr ⟨p, part, bound, size, room⟩) rfl)
    · refine written (qcfgWrite_of_not_mayEnable rfl off enables (fun may => ?_) rfl)
      obtain ⟨p, part, bound, size, room⟩ := (mayEnable_iff _ _ _).mp may
      rcases refused with unowned | large | full | ⟨p', part', unserved, unlent⟩
      · exact Option.some_ne_none p (part.symm.trans unowned)
      · exact absurd size (Nat.not_le.mpr large)
      · exact absurd room (Nat.not_lt.mpr full)
      · obtain rfl := Option.some.inj (part.symm.trans part')
        rcases bound with ⟨serves, whole⟩ | lends
        · exact unserved.elim (fun no => Bool.false_ne_true (no.symm.trans serves)) (fun no => no whole)
        · exact unlent lends
    · exact written (qcfgWrite_of_enabled_same rfl on rfl rfl same)
    · exact written (qcfgWrite_of_enabled_changed rfl on rfl rfl changed)
  case doorbell =>
    have rung {w : Work} (hw : v.work.doorbell q (v.newValue .DOCK_QTAIL (q / 2048) (q % 2048) 0 0 (data % 2 ^ 64)) = w) :
        Leaves (.doorbell rt q data) s ((v.onWork fun _ => w).answer .ok) :=
      leaves_of_writeReg h rfl (by rw [regApply_qtail, Nat.div_add_mod]) hw
    exact ⟨fun room => rung (doorbell_within rfl room), fun beyond => rung (doorbell_beyond rfl beyond)⟩

end Sys2Proof.Proofs
end

section
/-! The homes of tokens: watches, notices, productions and clears (04 R110 to R113). -/

namespace Sys2Proof.Proofs

open Sys2Proof Sys2Proof.Machine Sys2Proof.Laws

/-- A token is present where its home lists it. -/
theorem present_iff (e : Engine) (p t : Nat) : e.present p t = true ↔ tokenKey p t ∈ e.tokens := by simp [Engine.present]

section
variable {w u : Work} {id q seq p t : Nat} (seen : u = w.tokenSeen p (tokenHome t) ((w.wb? id q seq).any Wb.filler))
  {left : List TokMsg} (hleft : left = u.eng.flying.erase (.watch id q seq p t))
include seen hleft

/-- A watch is answered at once where the token is present, and kept where it is absent (04 R111). -/
theorem tokenWatch_of_present (there : tokenKey p t ∈ u.eng.tokens) :
    w.tokenWatch id q seq p t = { u with eng := { u.eng with flying := left ++ [.notice id q seq p t] } } := by
  subst seen hleft
  exact if_pos ((present_iff _ _ _).mpr there)

theorem tokenWatch_of_absent (gone : tokenKey p t ∉ u.eng.tokens) :
    w.tokenWatch id q seq p t =
      { u with eng := { u.eng with
          flying := left
          watchers := Map.put (tokenKey p t) ((Map.find (tokenKey p t) u.eng.watchers).getD [] ++ [(id, q, seq)]) u.eng.watchers } } := by
  subst seen hleft
  exact if_neg fun there => gone ((present_iff _ _ _).mp there)

end

/-- A notice on its way reaches the waybill that waits for it (04 R111). -/
theorem tokenNotice_of_flying {w : Work} {id q seq p t : Nat} {x : Wb} (flies : TokMsg.notice id q seq p t ∈ w.eng.flying)
    (waits : w.wb? id q seq = some x) (part : x.part = p) :
    w.tokenNotice id q seq p t =
      ({ w with eng := { w.eng with flying := w.eng.flying.erase (.notice id q seq p t) } } : Work).setWb id (x.noticed t) := by
  have found : ({ w with eng := { w.eng with flying := w.eng.flying.erase (.notice id q seq p t) } } : Work).wb? id q seq = some x := waits
  simp only [Work.tokenNotice, List.contains_iff_mem, flies, if_true, found, part]

section
variable {w : Work} {p t : Nat}

/-- A home marks an absent token present and tells its watchers; a present one raises TOK.DUP (04 R112). -/
theorem produce_of_absent (gone : tokenKey p t ∉ w.eng.tokens) :
    w.produce p t =
      { w with eng := { w.eng with
          tokens := NSet.add (tokenKey p t) w.eng.tokens
          watchers := Map.del (tokenKey p t) w.eng.watchers
          flying := w.eng.flying ++ ((Map.find (tokenKey p t) w.eng.watchers).getD []).map fun x => .notice x.1 x.2.1 x.2.2 p t } } :=
  if_neg fun there => gone ((present_iff _ _ _).mp there)

theorem produce_of_present (there : tokenKey p t ∈ w.eng.tokens) :
    w.produce p t = { w with base := w.base.raise 0x0304 (logic (tokenHome t)) (some p) } :=
  if_pos ((present_iff _ _ _).mpr there)

/-- A production on its way is made at its home (04 R112). -/
theorem tokenProduce_of_flying {filler : Bool} (flies : w.eng.flying.find? (TokMsg.produces p t) = some (.produce p t filler)) :
    w.tokenProduce p t =
      Work.produce
        (({ w with eng := { w.eng with flying := w.eng.flying.erase (.produce p t filler) } } : Work).tokenSeen p (tokenHome t) filler) p t := by
  have sender : (TokMsg.produce p t filler == TokMsg.produce p t true) = filler := by cases filler <;> simp
  simp only [Work.tokenProduce, flies, sender]

end

/-- The tokens of a home that a clear names. -/
def clears (p first count home k : Nat) : Bool := decide (tokenKey p first ≤ k ∧ k < tokenKey p first + count) && k % 8 == home

/-- The oldest clear on its way to a home makes its tokens absent (04 R113). -/
theorem tokenClear_of_flying {w : Work} {home p first count : Nat} {filler : Bool}
    (flies : w.eng.flying.find? (TokMsg.clearsAt home) = some (.clear p first count home filler)) :
    w.tokenClear home =
      { w.tokenSeen p home filler with
        eng := { w.eng with
                 flying := w.eng.flying.erase (.clear p first count home filler)
                 tokens := w.eng.tokens.filter fun k => !clears p first count home k } } := by
  simp only [Work.tokenClear, flies]
  rfl

/-- Settles O15: each message of a home, by whether the token is present. -/
theorem tokenHomesHandleTheirMessages : Obligations.TokenHomesHandleTheirMessages := by
  refine ⟨fun s id q seq p t ready => ⟨fun there => ?watchPresent, fun gone => ?watchAbsent⟩,
    fun s id q seq p t x runs flies waits part => ?notice,
    fun s p t filler ready flies => ⟨fun gone => ?produceAbsent, fun there => ?producePresent⟩,
    fun s home p first count filler ready flies => ?clear⟩
  case watchPresent => exact does_of_ready rfl ready (tokenWatch_of_present rfl rfl there)
  case watchAbsent => exact does_of_ready rfl ready (tokenWatch_of_absent rfl rfl gone)
  case notice => exact does_of_unitRun rfl runs (tokenNotice_of_flying flies waits part)
  case produceAbsent => exact does_of_ready rfl ready ((tokenProduce_of_flying flies).trans (produce_of_absent gone))
  case producePresent => exact does_of_ready rfl ready ((tokenProduce_of_flying flies).trans (produce_of_present there))
  case clear => exact does_of_ready rfl ready (tokenClear_of_flying flies)

end Sys2Proof.Proofs
end

section
/-! What waybills of any unit do with tokens and credits, and the limits of their waits (04 R107, R113 to R117). -/

namespace Sys2Proof.Proofs

open Sys2Proof Sys2Proof.Machine Sys2Proof.Laws

/-- A unit's running waybill of an opcode that no abort has named. -/
theorem running?_of_running {s : State} {id q seq opcode : Nat} {x : Wb} (h : s.running id q seq opcode x) :
    s.work.running? id q seq opcode = some x := by
  obtain ⟨-, window, phase, op, going⟩ := h
  simp [Work.running?, window, phase, op, going]

section
variable {w : Work} {id q seq : Nat} {x : Wb}

/-- What each waybill of any unit does while it runs (04 R107, R113, R117). -/
theorem nop_of_running (h : w.running? id q seq 0xF0 = some x) : w.nop id q seq = w.setWb id (x.endWith 1) := by
  simp only [Work.nop, h]

theorem tokclr_of_running (h : w.running? id q seq 0xF1 = some x) :
    w.tokclr id q seq = ({ w with eng := { w.eng with
      flying := w.eng.flying ++ ((List.range (min 8 (x.oparg + 1))).map fun k =>
        TokMsg.clear x.part (x.arg % 2 ^ 24) (x.oparg + 1) ((x.arg % 2 ^ 24 + k) % 8) x.filler) } } : Work).setWb id (x.endWith 1) := by
  simp only [Work.tokclr, h, Wb.clearRange, List.map_map]
  rfl

section
variable (h : w.running? id q seq 0xF2 = some x) {upd : Nat → Nat} {given : Nat}
  (hgiven : given = (Map.find x.grantPort (w.unit id).granted).getD 0 + x.grantCount)
include h hgiven

/-- A grant within the port's capacity goes to its recipient; one beyond is rejected with TOK.CREDITCAP (04 R117). -/
theorem creditGrant_within (fits : given ≤ portCapacity id upd) {u : Work}
    (hu : u = w.setUnit id { w.unit id with granted := Map.put x.grantPort given (w.unit id).granted }) :
    w.creditGrant upd id q seq =
      (u.setUnit x.grantTo { u.unit x.grantTo with
        allot := Map.put (id + x.grantPort) ((Map.find (id + x.grantPort) (u.unit x.grantTo).allot).getD 0 + x.grantCount) (u.unit x.grantTo).allot
        balance := Map.put (id + x.grantPort) ((Map.find (id + x.grantPort) (u.unit x.grantTo).balance).getD 0 + x.grantCount)
          (u.unit x.grantTo).balance }).setWb id (x.endWith 1) := by
  subst hgiven hu
  simp only [Work.creditGrant, h]
  exact if_neg (Nat.not_lt.mpr fits)

theorem creditGrant_beyond (exceeds : portCapacity id upd < given) : w.creditGrant upd id q seq = w.reject id x 0x0309 := by
  subst hgiven
  simp only [Work.creditGrant, h]
  exact if_pos exceeds

end

end

/-- The oldest credits on their way back reach their spender (04 R116). -/
theorem creditReturn_of_none {w : Work} (idle : w.eng.returns = []) : w.creditReturn = w := by simp only [Work.creditReturn, idle]

theorem creditReturn_of_oldest {w : Work} {u port n : Nat} {rest : List (Nat × Nat × Nat)} (oldest : w.eng.returns = (u, port, n) :: rest) :
    w.creditReturn = ({ w with eng := { w.eng with returns := rest } } : Work).setUnit u ((w.unit u).giveBack port n) := by
  simp only [Work.creditReturn, oldest]

/-- Settles O16: what each running waybill does, and what becomes of credits on their way back. -/
theorem queueWaybillsActOnTokensAndCredits : Obligations.QueueWaybillsActOnTokensAndCredits := by
  have does {c : Instr} {s : State} {id q seq opcode : Nat} {x : Wb} {f : Work → Work} {w : Work} (h : s.running id q seq opcode x)
      (hc : exec c s = s.unitRun id f) (hw : s.work.running? id q seq opcode = some x → f s.work = w) : Does c s w :=
    does_of_unitRun hc h.1 (hw (running?_of_running h))
  refine ⟨fun s id q seq x => ⟨fun h => ?nop, fun h => ?tokclr⟩, fun s id q seq x h => ⟨fun fits => ?grant, fun exceeds => ?refuse⟩,
    fun s u port n rest ready oldest => ?back, fun s ready idle => ?idle⟩
  case nop => exact does h rfl nop_of_running
  case tokclr => exact does h rfl tokclr_of_running
  case grant => exact does h rfl fun running => creditGrant_within running rfl fits rfl
  case refuse => exact does h rfl fun running => creditGrant_beyond running rfl exceeds
  case back => exact does_of_ready rfl ready (creditReturn_of_oldest oldest)
  case idle => exact passes_of_ready rfl ready (creditReturn_of_none idle)

/-- A waybill has waited beyond its queue's limit, and has not been reported yet (04 R114). -/
def starves (b : Base) (x : Wb) : Bool :=
  x.phase == .accepted && !x.starved && b.qrf x.queue 0 32 .DOCK_QLIMIT != 0 && decide (x.acceptTime + b.qrf x.queue 0 32 .DOCK_QLIMIT < b.time)

/-- The deadline of a waybill has passed before its start (04 R115). -/
def expires (b : Base) (id : Nat) (x : Wb) : Bool := x.phase == .accepted && b.expired id x

section
variable {w : Work} {id : Nat}

/-- The first waybill that has waited too long is reported once; the first whose deadline has passed ends EXPIRED (04 R114, R115). -/
theorem waitLimit_of_none (patient : (w.unit id).window.find? (starves w.base) = none) : w.waitLimit id = w := by
  unfold starves at patient
  simp only [Work.waitLimit, patient]

theorem waitLimit_of_first {x : Wb} (first : (w.unit id).window.find? (starves w.base) = some x) {b : Base} {y : Wb}
    (raised : (w.base.qwf x.queue 4 1 1 .DOCK_QSTAT).each id x 0x0305 = (b, y)) :
    w.waitLimit id = ({ w with base := b } : Work).setWb id { y with starved := true } := by
  unfold starves at first
  simp only [Work.waitLimit, first, raised]

theorem deadlineExpiry_of_none (timely : (w.unit id).window.find? (expires w.base id) = none) : w.deadlineExpiry id = w := by
  unfold expires at timely
  simp only [Work.deadlineExpiry, timely]

theorem deadlineExpiry_of_first {x : Wb} (first : (w.unit id).window.find? (expires w.base id) = some x) {b : Base} {y : Wb}
    (raised : w.base.each id x 0x0306 = (b, y)) : w.deadlineExpiry id = ({ w with base := b } : Work).setWb id (y.endWith 0x12) := by
  unfold expires at first
  simp only [Work.deadlineExpiry, first, raised]

end

/-- Settles O17: each limit acts on the first waybill of the unit's window that has passed it. -/
theorem waitLimitsAndDeadlinesPass : Obligations.WaitLimitsAndDeadlinesPass := by
  intro s id runs
  refine ⟨fun x first => ?starved, fun patient => ?waiting, fun x first => ?expired, fun timely => ?timely⟩
  case starved => exact does_of_unitRun rfl runs (waitLimit_of_first first rfl)
  case waiting => exact passes_of_unitRun rfl runs (waitLimit_of_none patient)
  case expired => exact does_of_unitRun rfl runs (deadlineExpiry_of_first first rfl)
  case timely => exact passes_of_unitRun rfl runs (deadlineExpiry_of_none timely)

end Sys2Proof.Proofs
end

section
/-! The end of a waybill: its completion with its record, and its stop at its unit's boundary (04 R112, R118, R119, R122). -/

namespace Sys2Proof.Proofs

open Sys2Proof Sys2Proof.Machine Sys2Proof.Laws

@[simp] theorem length_leBytes (n v : Nat) : (leBytes n v).length = n := by simp [leBytes]

/-- A completion record is 32 bytes (04 R119). -/
theorem length_record (x : Wb) (id time : Nat) : (x.record id time).length = 32 := by simp [Wb.record]

/-- A waybill of a unit that is no tile has no counts of a tile to note. -/
theorem noteEnd_of_no_tile {id : Nat} (other : ∀ i, unitOf id ≠ some (.tile, i)) (b : Base) (rq : MemReq) (x : Wb) : b.noteEnd id rq x = b := by
  unfold Base.noteEnd
  split
  · next i tile => exact absurd tile (other i)
  · rfl

/-- The write of a record of a waybill without IRQ on no tile (04 R119). -/
theorem recordOut_of_no_tile {id : Nat} (other : ∀ i, unitOf id ≠ some (.tile, i)) {x : Wb} (quiet : x.irq = false) {b b1 b2 : Base}
    (stored : b1 = (b.uncover x.number).storeBytes (b.cx id x).ownReq (b.qSlot x.queue x.seq) (x.record id b.time))
    (counted : b2 = b1.qwf x.queue 32 32 (b1.qrf x.queue 32 32 .DOCK_QHEAD + 1) .DOCK_QHEAD) :
    b.recordOut id x = (if b2.qrf x.queue 5 1 .DOCK_QCFG = 1 ∧ !isDone x.status then b2.qStop x.queue 2 else b2).stepReport x := by
  subst stored counted
  simp only [Base.recordOut, noteEnd_of_no_tile other, quiet, Bool.false_eq_true, if_false]

/-- The claims on a tile are not its prefetch entries. -/
@[simp] theorem setClaims_pf (w : Work) (id : Nat) (l : List (Nat × Nat × Nat)) (k : Nat) : (w.setClaims id l).tiles.pf k = w.tiles.pf k := rfl

section
variable {w : Work} {id : Nat} {x : Wb}

/-- What a completion leaves alone: a unit without prefetch entries frees none, one that updates no weights ends no update, one that lends no sets
takes none back, and only a waybill that preconditions releases a pair. -/
theorem issue_of_no_entry (entries : w.tiles.pf id = []) {f : Work} (flushed : f = (w.sendCounts x.issued).flushReports x.queue x.seq) :
    w.issue id x = ({ f with base := f.base.recordOut id x.issued } : Work).afterRecord id x.issued := by
  subst flushed
  simp only [Work.issue, if_pos entries]

theorem updComplete_of_no_upd (upd : updOf id = none) : w.updComplete id x = w := by simp only [Work.updComplete, upd]

theorem lendEnd_of_not_lending (lends : w.lending id = none) : w.lendEnd id x = w := by simp only [Work.lendEnd, Work.lendOver, lends]

theorem precondRelease_of_other (b : Base) (op : x.opcode ≠ 9) : b.precondRelease x = b := if_neg fun pre => op pre.1

section
variable {q seq : Nat} (window : w.wb? id q seq = some x)
include window

/-- A waybill that has not ended, or whose completion waits, stays; else its claims end and its record is issued (04 R112). -/
theorem completeWaybill_of_waiting (waits : x.phase ≠ .ended ∨ w.completeWaits id x = true) : w.completeWaybill id q seq = w := by
  simp only [Work.completeWaybill, window]
  exact if_pos waits

theorem completeWaybill_of_ended (ended : x.phase = .ended) (free : w.completeWaits id x = false) (upd : updOf id = none)
    (lends : w.lending id = none) (kept : x.status ≠ 0x16) (pre : x.opcode ≠ 9) (step : x.opcode ≠ 0xF3) :
    w.completeWaybill id q seq = (w.setClaims id ((w.claimsOf id).filter fun c => !(c.2.1 == q && c.2.2 == seq))).issue id x := by
  simp only [Work.completeWaybill, window, ended, free, kept, step, updComplete_of_no_upd upd, precondRelease_of_other w.base pre,
    ne_eq, not_true_eq_false, Bool.false_eq_true, or_self, false_and, if_false, ite_self]
  rw [lendEnd_of_not_lending lends]

end

end

/-- Settles O19: an ended waybill's claims end and its record is issued; another stays as it is. -/
theorem waybillCompletesWithItsRecord : Obligations.WaybillCompletesWithItsRecord := by
  refine ⟨fun s id q seq x runs window => ⟨fun waits => ?stays, fun w f w1 ended free upd lends entries kept pre step hw hf hw1 => ?issues⟩,
    fun b b1 b2 id x quiet other stored counted => recordOut_of_no_tile other quiet stored counted, length_record⟩
  case stays => exact passes_of_unitRun rfl runs (completeWaybill_of_waiting window waits)
  case issues =>
    have unclaimed := completeWaybill_of_ended window ended free upd lends kept pre step
    rw [← hw, issue_of_no_entry (by rw [hw, setClaims_pf, entries]) hf, ← hw1] at unclaimed
    exact does_of_unitRun rfl runs unclaimed

/-- Only a STEP's stop ends its partition's step (13 R378). -/
theorem stepDrop_of_not_step {x : Wb} (op : x.opcode ≠ 0xF3) (w : Work) : w.stepDrop x = w := by
  unfold Work.stepDrop
  split
  · exact if_neg fun step => op step.1
  · rfl

section
variable {w : Work} {id q seq : Nat} {x : Wb} (window : w.wb? id q seq = some x)
include window

/-- A waybill that an abort has named stops at its unit's boundary; another runs on (04 R122, 10 R298). -/
theorem abortStop_of_going (going : x.aborting = false ∨ x.opcode = 0xF3 ∨ w.pairWaits id x = true) : w.abortStop id q seq = w := by
  simp only [Work.abortStop, window]
  refine if_neg fun ⟨_, named, op, settled⟩ => ?_
  rcases going with unnamed | step | waits
  · exact Bool.false_ne_true (unnamed.symm.trans named)
  · exact op step
  · simp [waits] at settled

theorem abortStop_of_named (phase : x.phase = .running) (named : x.aborting = true) (op : x.opcode ≠ 0xF3) (settled : w.pairWaits id x = false)
    {y : Wb} (left : (w.stopOp id x 0x11).wb? id x.queue x.seq = some y) :
    w.abortStop id q seq = (w.stopOp id x 0x11).setWb id ({ y with posA := y.done }.endWith 0x11) := by
  have stops : w.abortStop id q seq = w.stopWb id x 0x11 := by
    simp only [Work.abortStop, window]
    exact if_pos ⟨phase, named, op, by rw [settled]; rfl⟩
  rw [stops]
  simp only [Work.stopWb, phase, stepDrop_of_not_step op, left, if_true]

end

/-- Settles O20: the boundary stops what an abort has named, and nothing else. -/
theorem abortedWaybillStopsAtItsBoundary : Obligations.AbortedWaybillStopsAtItsBoundary := by
  intro s id q seq x runs window phase
  refine ⟨fun named op settled y left => ?stops, fun going => ?runsOn⟩
  case stops => exact does_of_unitRun rfl runs (abortStop_of_named window phase named op settled left)
  case runsOn => exact passes_of_unitRun rfl runs (abortStop_of_going window going)

end Sys2Proof.Proofs
end

section
/-! THREADS: its consists start and end, and the waybill with them (04 R124, R127, R131). -/

namespace Sys2Proof.Proofs

open Sys2Proof Sys2Proof.Machine Sys2Proof.Laws

/-- A running THREADS waybill without consists starts them (04 R127). -/
theorem threads_of_running {w : Work} {id q seq : Nat} {x : Wb} (window : w.wb? id q seq = some x) (phase : x.phase = .running) (op : x.opcode = 8)
    (going : x.aborting = false) (here : x.handed = false) (idle : w.consists id = []) :
    w.threads id q seq =
      w.setConsists id (List.replicate (x.oparg % 128 + 1) { threads := List.replicate 32 { pc := x.arg % 2 ^ 22 } }) := by
  simp [Work.threads, window, phase, op, going, here, idle]

section
variable {w0 w : Work} {id k : Nat} {s : Issue} (issues : w0.issueOf id k = some (w, s))
include issues

/-- The active threads end where their instruction is ecall, and no other (04 R127). -/
theorem ecall_of_ecall (ends : s.ins = some 0x73) :
    w0.ecall id k = w.putConsist id s.x k (s.c.onLanes s.lanes fun _ t => { t with ended := true }) := by
  simp only [Work.ecall, issues, if_pos ends]

theorem ecall_of_other (other : s.ins ≠ some 0x73) : w0.ecall id k = w0 := by
  simp only [Work.ecall, issues, if_neg other]

end

/-- A THREADS waybill with what its threads counted (04 R131). -/
def counted (x : Wb) (ts : List Thread) : Wb :=
  { x with ovf := ts.foldl (fun a t => satAdd 32 a t.ovf) x.ovf, van := ts.foldl (fun a t => satAdd 32 a t.van) x.van }

section
variable {w : Work} {id : Nat} {x : Wb}

/-- The waybill goes on while a consist does; else it ends as its threads did (04 R127, R131). -/
theorem threadsCheck_of_going (going : (w.consists id).all Consist.over = false) : w.threadsCheck id x = w.setWb id x := by
  simp only [Work.threadsCheck, going, Bool.false_eq_true, if_false]

section
variable (ended : (w.consists id).all Consist.over = true) {ts : List Thread} (threads : ts = (w.consists id).flatMap (·.threads))
include ended threads

theorem threadsCheck_of_sound (sound : ts.all (fun t => !t.faulted) = true) :
    w.threadsCheck id x = (w.setConsists id []).setWb id ((counted x ts).endWith 1) := by
  have clean : ts.zipIdx.find? (fun t => t.1.faulted) = none := by
    rw [List.find?_eq_none]
    intro t ht
    simpa using List.all_eq_true.mp sound t.1 (List.fst_mem_of_mem_zipIdx ht)
  subst threads
  simp only [Work.threadsCheck, ended, if_true, clean]
  rfl

theorem threadsCheck_of_fault {t : Thread} {k : Nat} (first : ts.zipIdx.find? (fun t => t.1.faulted) = some (t, k)) {b : Base} {y : Wb}
    (raised : (w.setConsists id []).base.each id (counted x ts) 0x030E = (b, y)) :
    w.threadsCheck id x = ({ w.setConsists id [] with base := b } : Work).setWb id { y.endWith 0x15 with posA := t.pc, posB := k } := by
  subst threads
  unfold counted at raised
  simp only [Work.threadsCheck, ended, if_true, first, raised]

end

end

/-- Settles O28: the waybill starts its consists, ecall ends their threads, and the last consist's end is the waybill's. -/
theorem consistsStartAndEnd : Obligations.ConsistsStartAndEnd := by
  refine ⟨fun s id q seq x h here idle => ?start, fun s id k w i runs issues => ⟨fun ends => ?ends, fun other => ?other⟩,
    fun w id x going => threadsCheck_of_going going, fun w id x ts ended threads sound => threadsCheck_of_sound ended threads sound,
    fun w id k x y t b ts ended threads first raised => threadsCheck_of_fault ended threads first raised⟩
  case start =>
    obtain ⟨runs, window, phase, op, going⟩ := h
    exact does_of_unitRun rfl runs (threads_of_running window phase op going here idle)
  case ends => exact does_of_unitRun rfl runs (ecall_of_ecall issues ends)
  case other => exact passes_of_unitRun rfl runs (ecall_of_other issues other)

end Sys2Proof.Proofs
end

section
/-! THREAD_INSTRUCTION: what the active lanes of a consist make of their instruction (04 R126 to R131). -/

namespace Sys2Proof.Proofs

open Sys2Proof Sys2Proof.Machine Sys2Proof.Laws

section
variable {w0 w : Work} {id k : Nat} {s : Issue} (issues : w0.issueOf id k = some (w, s))
include issues

/-- A fetch that faults faults every active lane (04 R131). -/
theorem threadInstruction_of_no_fetch (fetch : s.ins = none) :
    w0.threadInstruction id k = w.putConsist id s.x k (s.c.faultLanes s.lanes) := by
  simp only [Work.threadInstruction, issues, fetch]

section
variable {i : Nat} (fetch : s.ins = some i)
include fetch

/-- Device instructions and ecall are other commands (04 R129). -/
theorem threadInstruction_of_other (other : isEcall i = true ∨ (fnOp s.x.fullFile i).isSome = true) : w0.threadInstruction id k = w0 := by
  simp only [Work.threadInstruction, issues, fetch, Bool.or_eq_true]
  exact if_pos other

section
variable (call : isEcall i = false) (plain : fnOp s.x.fullFile i = none)
include call plain

/-- A register that the half file does not have faults every active lane (04 R131). -/
theorem threadInstruction_of_no_register (names : namesOk s.x.fullFile i = false) :
    w0.threadInstruction id k = w.putConsist id s.x k (s.c.faultLanes s.lanes) := by
  simp [Work.threadInstruction, issues, fetch, call, plain, names]

section
variable (names : namesOk s.x.fullFile i = true)
include names

/-- An instruction that touches no memory computes by lane, where no lane finds it illegal (04 R126, R131). -/
theorem threadInstruction_of_legal (compute : isMemory i = false) (legal : s.illegal k i = []) :
    w0.threadInstruction id k = w.putConsist id s.x k (s.c.onLanes s.lanes fun l t => (t.lane (laneEnv s.x k l) i).getD t) := by
  simp [Work.threadInstruction, issues, fetch, call, plain, names, compute, legal]

theorem threadInstruction_of_illegal (compute : isMemory i = false) (illegal : s.illegal k i ≠ []) :
    w0.threadInstruction id k = w.putConsist id s.x k (s.c.faultLanes (s.illegal k i)) := by
  simp [Work.threadInstruction, issues, fetch, call, plain, names, compute, illegal]

/-- A load or store acts for all lanes at once, where each makes an access that leads somewhere (04 R128, R131). -/
theorem threadInstruction_of_no_access (memory : isMemory i = true) (fewer : (w.accesses id s i).length < s.lanes.length) :
    w0.threadInstruction id k = w.putConsist id s.x k (s.c.faultLanes s.lanes) := by
  simp [Work.threadInstruction, issues, fetch, call, plain, names, memory, fewer]

section
variable (memory : isMemory i = true) (whole : (w.accesses id s i).length = s.lanes.length)
include memory whole

theorem threadInstruction_of_bad_access (bad : badLanes (w.accesses id s i) ≠ []) :
    w0.threadInstruction id k = w.putConsist id s.x k (s.c.faultLanes (badLanes (w.accesses id s i))) := by
  simp [Work.threadInstruction, issues, fetch, call, plain, names, memory, whole, bad]

theorem threadInstruction_of_good_access (good : badLanes (w.accesses id s i) = []) :
    w0.threadInstruction id k =
      if (w.accesses id s i).all fun a => a.2.1.store then w.stores id k s (w.accesses id s i) else w.loads id k s i (w.accesses id s i) := by
  simp [Work.threadInstruction, issues, fetch, call, plain, names, memory, whole, good]

end

end

end

end

end

/-- Settles O29: each outcome of the instruction that a consist is about to execute. -/
theorem threadInstructionActsOnItsLanes : Obligations.ThreadInstructionActsOnItsLanes := by
  intro s id k w x runs issues
  have does {u : Work} (hu : s.work.threadInstruction id k = u) : Does (.threadInstruction id k) s u :=
    does_of_unitRun rfl runs hu
  refine ⟨fun fetch => ?fault, fun i fetch => ⟨fun other => ?other, fun call plain => ⟨fun names => ?names,
    fun names compute => ⟨fun legal => ?legal, fun illegal => ?illegal⟩, fun names memory fewer => ?fewer,
    fun names memory whole => ⟨fun bad => ?bad, fun good stores => ?stores, fun good loads => ?loads⟩⟩⟩⟩
  case fault => exact does (threadInstruction_of_no_fetch issues fetch)
  case other => exact passes_of_unitRun rfl runs (threadInstruction_of_other issues fetch other)
  case names => exact does (threadInstruction_of_no_register issues fetch call plain names)
  case legal => exact does (threadInstruction_of_legal issues fetch call plain names compute legal)
  case illegal => exact does (threadInstruction_of_illegal issues fetch call plain names compute illegal)
  case fewer => exact does (threadInstruction_of_no_access issues fetch call plain names memory fewer)
  case bad => exact does (threadInstruction_of_bad_access issues fetch call plain names memory whole bad)
  case stores =>
    exact does ((threadInstruction_of_good_access issues fetch call plain names memory whole good).trans (if_pos stores))
  case loads =>
    exact does ((threadInstruction_of_good_access issues fetch call plain names memory whole good).trans (if_neg (ne_true_of_eq_false loads)))

end Sys2Proof.Proofs
end

section
/-! The instructions of a consist that name tokens and credits (04 R112, R130). -/

namespace Sys2Proof.Proofs

open Sys2Proof Sys2Proof.Machine Sys2Proof.Laws

section
variable {w0 w : Work} {id k i : Nat} {s : Issue}

section
variable (issues : w0.fnIssue id k = some (w, s, i, .twait))
include issues

/-- fn.twait passes where every token is present, and else waits for the absent ones (04 R130). -/
theorem fnTwait_of_present (present : w.absent s.x.part (distinct (s.tokens i)) = []) :
    w0.fnTwait id k = w.putConsist id s.x k (s.writes i fun _ _ => 0) := by
  simp only [Work.fnTwait, issues, present]

theorem fnTwait_of_absent (absent : w.absent s.x.part (distinct (s.tokens i)) ≠ []) :
    w0.fnTwait id k =
      w.setConsists id ((w.consists id).set k { s.c with waiting := some (w.absent s.x.part (distinct (s.tokens i)), w.base.time) }) := by
  obtain ⟨t, l, left⟩ := List.exists_cons_of_ne_nil absent
  simp only [Work.fnTwait, issues, left]

end

/-- fn.tsig, fn.tpoll and fn.cred act at once (04 R112, R130). -/
theorem fnTsig_of_issue (issues : w0.fnIssue id k = some (w, s, i, .tsig)) :
    w0.fnTsig id k =
      Work.putConsist { w with eng := { w.eng with flying := w.eng.flying ++ (s.tokens i).map fun t => .produce s.x.part t s.x.filler } } id s.x k
        (s.c.onLanes s.lanes fun _ t => t.next) := by
  simp only [Work.fnTsig, issues]

theorem fnTpoll_of_issue (issues : w0.fnIssue id k = some (w, s, i, .tpoll)) :
    w0.fnTpoll id k = w.putConsist id s.x k (s.writes i fun _ t => b2n (w.eng.present s.x.part (t.rx (iRs1 i) % 2 ^ 24))) := by
  simp only [Work.fnTpoll, issues]

theorem fnCred_of_issue (issues : w0.fnIssue id k = some (w, s, i, .cred)) :
    w0.fnCred id k = w.putConsist id s.x k (s.writes i fun _ t => (Map.find (t.rx (iRs1 i) % 65536) (w.unit id).balance).getD 0) := by
  simp only [Work.fnCred, issues]

end

section
variable {w : Work} {id k t0 pc : Nat} {x : Wb} {c : Consist} {l lanes : List Nat} (window : w.threadsWb id = some x)
  (consist : (w.consists id)[k]? = some c) (waiting : c.waiting = some (l, t0)) (active : c.active = some (pc, lanes))
include window consist waiting active

/-- A consist wakes when its tokens are present, or, reported, when its queue's limit has passed; else it goes on waiting (04 R130). -/
theorem fnTwaitWake_of_present (present : w.absent x.part l = []) {u : Work} {i : Option Nat} (fetch : w.fetch id x pc = (u, i)) :
    w.fnTwaitWake id k = u.putConsist id x k (c.wake lanes i 0) := by
  simp [Work.fnTwaitWake, window, consist, waiting, active, present, fetch]

section
variable (absent : w.absent x.part l ≠ [])
include absent

theorem fnTwaitWake_of_passed (passed : w.waitPassed x t0 = true) {u : Work} {i : Option Nat} (fetch : w.fetch id x pc = (u, i)) {b : Base} {y : Wb}
    (raised : (u.base.qwf x.queue 4 1 1 .DOCK_QSTAT).each id x 0x0305 = (b, y)) :
    w.fnTwaitWake id k = ({ u with base := b } : Work).putConsist id y k (c.wake lanes i 1) := by
  simp [Work.fnTwaitWake, window, consist, waiting, active, absent, passed, fetch, raised]

theorem fnTwaitWake_of_early (early : w.waitPassed x t0 = false) :
    w.fnTwaitWake id k = w.setConsists id ((w.consists id).set k { c with waiting := some (w.absent x.part l, t0) }) := by
  simp [Work.fnTwaitWake, window, consist, waiting, active, absent, early]

end

end

/-- Settles O30: each token instruction as its consist issues it, and the wake of a consist that waits. -/
theorem threadsUseTokens : Obligations.ThreadsUseTokens := by
  refine ⟨fun s id k i w x runs => ⟨fun issues => ⟨fun present => ?passes, fun absent => ?waits⟩, fun issues => ?tsig, fun issues => ?tpoll,
    fun issues => ?cred⟩, fun s id k t0 pc x c l lanes runs window consist waiting active => ⟨fun present w i fetch => ?woken,
    fun absent passed w i b y fetch raised => ?starved, fun absent early => ?stays⟩⟩
  case passes => exact does_of_unitRun rfl runs (fnTwait_of_present issues present)
  case waits => exact does_of_unitRun rfl runs (fnTwait_of_absent issues absent)
  case tsig => exact does_of_unitRun rfl runs (fnTsig_of_issue issues)
  case tpoll => exact does_of_unitRun rfl runs (fnTpoll_of_issue issues)
  case cred => exact does_of_unitRun rfl runs (fnCred_of_issue issues)
  case woken => exact does_of_unitRun rfl runs (fnTwaitWake_of_present window consist waiting active present fetch)
  case starved => exact does_of_unitRun rfl runs (fnTwaitWake_of_passed window consist waiting active absent passed fetch raised)
  case stays => exact does_of_unitRun rfl runs (fnTwaitWake_of_early window consist waiting active absent early)

end Sys2Proof.Proofs
end

section
/-! fn.bscale, fn.cvt and fn.draw (04 R130, R131, 02 R55, 07 R198). -/

namespace Sys2Proof.Proofs

open Sys2Proof Sys2Proof.Machine Sys2Proof.Laws

section
variable {w0 w : Work} {id k i : Nat} {s : Issue}

/-- fn.bscale and fn.draw answer every active lane (04 R130). -/
theorem fnBscale_of_issue {f : Nat} (issues : w0.fnIssue id k = some (w, s, i, .bscale f)) :
    w0.fnBscale id k = w.putConsist id s.x k (s.writes i fun _ t => chooseE8 (Fmt.ofCode f) [f32v (t.rfp (iRs1 i))]) := by
  simp only [Work.fnBscale, issues]

theorem fnDraw_of_issue {half : Nat} (issues : w0.fnIssue id k = some (w, s, i, .draw half)) :
    w0.fnDraw id k = w.putConsist id s.x k (s.writes i fun _ t =>
      generator s.x.seed (s.x.step % 2 ^ 32) t.stream (t.idxhi % 2 ^ 16 * 2 ^ 32 + t.rx (iRs1 i)) / 2 ^ (32 * half)) := by
  simp only [Work.fnDraw, issues]

section
variable {o r : Bool} {f : Nat} (issues : w0.fnIssue id k = some (w, s, i, .cvt o r f)) {bad : List Nat}
  (hbad : bad = s.lanes.filter fun l => decide ((s.c.lane l).stream ≥ 0xF000))
include issues hbad

/-- fn.cvt converts where no lane's stream is reserved, and else faults the lanes of reserved streams (04 R130, R131). -/
theorem fnCvt_of_reserved (reserved : bad ≠ []) : w0.fnCvt id k = w.putConsist id s.x k (s.c.faultLanes bad) := by
  subst hbad
  simp only [Work.fnCvt, issues, if_pos reserved]

theorem fnCvt_of_unreserved (unreserved : bad = []) {b : Base} {y : Wb} (report : s.cvtReport id i s.x.seed o r f w.base = (b, y)) :
    w0.fnCvt id k = ({ w with base := b } : Work).putConsist id y k
      (s.c.onLanes s.lanes fun _ t => t.cvtDone i (t.cvtElem i s.x.seed s.x.step o r f)) := by
  simp only [Work.fnCvt, issues, ← hbad, unreserved, ne_eq, not_true_eq_false, if_false, report]

end

end

/-- Settles O31: each of the three as its consist issues it. -/
theorem threadsConvertAndDraw : Obligations.ThreadsConvertAndDraw := by
  intro s id k i w x runs
  exact ⟨fun f issues => does_of_unitRun rfl runs (fnBscale_of_issue issues),
    fun o r f bad issues hbad => ⟨fun reserved => does_of_unitRun rfl runs (fnCvt_of_reserved issues hbad reserved),
      fun unreserved b y report => does_of_unitRun rfl runs (fnCvt_of_unreserved issues hbad unreserved report)⟩,
    fun h issues => does_of_unitRun rfl runs (fnDraw_of_issue issues)⟩

end Sys2Proof.Proofs
end

section
/-! fn.spush, fn.spop and fn.accrd (04 R131, 06 R180, 03 R95). -/

namespace Sys2Proof.Proofs

open Sys2Proof Sys2Proof.Machine Sys2Proof.Laws

/-- A first event that is noted leaves the partition. -/
theorem firstEventIf_part (c : Prop) [Decidable c] (x : Wb) (code : Nat) : (if c then x.firstEvent code else x).part = x.part := by
  split <;> rfl

section
variable {w0 w : Work} {id k i : Nat} {s : Issue}

section
variable (issues : w0.fnIssue id k = some (w, s, i, .spush))
include issues

/-- fn.spush and fn.spop move the range that the lowest active thread names; that thread faults where it names none (04 R131, 06 R180). -/
theorem fnSpush_of_no_range (range : w.sidOperands id s i = none) :
    w0.fnSpush id k = w.putConsist id s.x k (s.c.faultLanes (s.lanes.take 1)) := by
  simp only [Work.fnSpush, issues, range]

theorem fnSpush_of_range {n m off len : Nat} (tile : w.base.tileOf id = some (n, m)) (range : w.sidOperands id s i = some (off, len)) {y : Wb}
    (hy : y = if w.noFrame n s.x.part false then s.x.firstEvent 0x0507 else s.x) {u : Work} {r : Nat}
    (pushed : w.threadPush (w.base.cx id s.x) n s.x.part (w.tiles.localRead (w.base.cx id s.x).tile off len) = (u, r)) :
    w0.fnSpush id k = u.putConsist id y k (s.writes i fun _ _ => r) := by
  have part : y.part = s.x.part := hy ▸ firstEventIf_part _ _ _
  simp only [Work.fnSpush, issues, range, tile, ← hy, part, pushed]

end

section
variable (issues : w0.fnIssue id k = some (w, s, i, .spop))
include issues

theorem fnSpop_of_no_range (range : w.sidOperands id s i = none) :
    w0.fnSpop id k = w.putConsist id s.x k (s.c.faultLanes (s.lanes.take 1)) := by
  simp only [Work.fnSpop, issues, range]

theorem fnSpop_of_range {n m off len : Nat} (tile : w.base.tileOf id = some (n, m)) (range : w.sidOperands id s i = some (off, len)) {y : Wb}
    (hy : y = if w.noFrame n s.x.part true then s.x.firstEvent 0x0507 else s.x) {u : Work} {r : Nat}
    (popped : w.threadPop (w.base.cx id s.x) n s.x.part off len = (u, r)) :
    w0.fnSpop id k = u.putConsist id y k (s.writes i fun _ _ => r) := by
  have part : y.part = s.x.part := hy ▸ firstEventIf_part _ _ _
  simp only [Work.fnSpop, issues, range, tile, ← hy, part, popped]

end

section
variable (issues : w0.fnIssue id k = some (w, s, i, .accrd))
include issues

/-- fn.accrd reads the sets that all its threads may read, and else answers zeros (03 R95). -/
theorem fnAccrd_of_held (held : (s.lanes.any fun l => ((s.c.lane l).accElement w id s.x.part i).isNone) = false) :
    w0.fnAccrd id k =
      w.putConsist id s.x k (s.c.onLanes s.lanes fun _ t => (t.wfp (iRd i) ((t.accElement w id s.x.part i).getD 0)).next) := by
  simp only [Work.fnAccrd, issues, held, Bool.false_eq_true, if_false]

theorem fnAccrd_of_other (other : (s.lanes.any fun l => ((s.c.lane l).accElement w id s.x.part i).isNone) = true) {b : Base} {y : Wb}
    (raised : w.base.each id s.x 0x020A = (b, y)) :
    w0.fnAccrd id k = ({ w with base := b } : Work).putConsist id y k (s.c.onLanes s.lanes fun _ t => (t.wfp (iRd i) 0).next) := by
  simp only [Work.fnAccrd, issues, other, if_true, raised]

end

end

/-- Settles O32: each of the three as its consist issues it, by what its threads name. -/
theorem threadsPushPopAndReadSets : Obligations.ThreadsPushPopAndReadSets := by
  intro s id k i n m w x runs tile
  refine ⟨fun issues => ⟨fun off len y w1 r range hy pushed => ?push, fun range => ?pushFault⟩,
    fun issues => ⟨fun off len y w1 r range hy popped => ?pop, fun range => ?popFault⟩,
    fun issues => ⟨fun held => ?held, fun other b y raised => ?zeros⟩⟩
  case push => exact does_of_unitRun rfl runs (fnSpush_of_range issues tile range hy pushed)
  case pushFault => exact does_of_unitRun rfl runs (fnSpush_of_no_range issues range)
  case pop => exact does_of_unitRun rfl runs (fnSpop_of_range issues tile range hy popped)
  case popFault => exact does_of_unitRun rfl runs (fnSpop_of_no_range issues range)
  case held => exact does_of_unitRun rfl runs (fnAccrd_of_held issues held)
  case zeros => exact does_of_unitRun rfl runs (fnAccrd_of_other issues other raised)

end Sys2Proof.Proofs
end

section
/-! What memory reads after a run of bytes is put, and what a read of a run of bytes answers (05 R136). -/

namespace Sys2Proof.Proofs

open Sys2Proof Sys2Proof.Machine Sys2Proof.Laws

/-- Two tables in a row answer what the first lists, else what the second lists. -/
theorem map_find_append {α : Type} (a : Nat) (l m : List (Nat × α)) : Map.find a (l ++ m) = (Map.find a l).or (Map.find a m) := by
  induction l with
  | nil => rfl
  | cons c r ih => by_cases h : c.1 = a <;> simp [Map.find, h, ih]

/-- The cells that a put run lists: at each place of the run its byte, unless that is the unlisted one. -/
theorem memory_find_listed (bytes : List Byte) (k a : Nat) :
    Map.find a (((bytes.zipIdx k).filter fun c => c.1 ≠ 0).map fun c => (c.2, c.1)) =
      if k ≤ a then bytes[a - k]?.filter (· ≠ 0) else none := by
  induction bytes generalizing k with
  | nil => simp
  | cons v r ih =>
    -- The first byte stands at k, where the rest lists nothing; at any other place the rest answers.
    rw [List.zipIdx_cons]
    by_cases zero : v = 0
    · rw [List.filter_cons_of_neg (by simpa using zero), ih]
      grind
    · rw [List.filter_cons_of_pos (by simpa using zero), List.map_cons, Map.find, ih]
      grind

section
variable {m : List Host.Cell} (rises : m.Pairwise fun a b => a.1 < b.1)
include rises

/-- The part of a memory below key n, and the part from n on. -/
theorem memory_find_takeWhile (a n : Nat) : Map.find a (m.takeWhile fun c => decide (c.1 < n)) = if a < n then Map.find a m else none := by
  induction m with
  | nil => simp
  | cons c r ih =>
    obtain ⟨least, rest⟩ := List.pairwise_cons.mp rises
    by_cases below : c.1 < n
    · by_cases here : c.1 = a
      · simp [Map.find, ← here, below]
      · simp [below, Map.find, here, ih rest]
    · have absent (h : a < n) : Map.find a (c :: r) = none :=
        map_find_of_lt _ _ (List.forall_mem_cons.mpr ⟨by omega, fun d hd => by have := least d hd; omega⟩)
      rw [List.takeWhile_cons_of_neg (by simpa using below), map_find_nil]
      split
      · next h => rw [absent h]
      · rfl

theorem memory_find_dropWhile (a n : Nat) : Map.find a (m.dropWhile fun c => decide (c.1 < n)) = if a < n then none else Map.find a m := by
  by_cases below : a < n
  · rw [if_pos below]
    exact map_find_of_lt _ _ fun c hc => lt_of_lt_of_le below (memory_from n m rises c hc)
  · have parts := map_find_append a (m.takeWhile fun c => decide (c.1 < n)) (m.dropWhile fun c => decide (c.1 < n))
    rw [List.takeWhile_append_dropWhile, memory_find_takeWhile rises, if_neg below, Option.none_or] at parts
    rw [if_neg below, parts]

/-- After a run of bytes is put, each place of the run reads its byte, and every other place reads as before. -/
theorem memory_get_put (k a : Nat) (bytes : List Byte) :
    Memory.get (Memory.put m k bytes) a =
      if h : k ≤ a ∧ a < k + bytes.length then bytes[a - k]'(by omega) else Memory.get m a := by
  have parts : Map.find a (Memory.put m k bytes) =
      ((if a < k then Map.find a m else none).or (if k ≤ a then bytes[a - k]?.filter (· ≠ 0) else none)).or
        (if a < k + bytes.length then none else Map.find a m) := by
    rw [Memory.put, map_find_append, map_find_append, memory_find_takeWhile rises, memory_find_dropWhile rises, memory_find_listed]
  unfold Memory.get
  rw [parts]
  by_cases before : a < k
  · rw [dif_neg (by omega), if_pos before, if_neg (by omega), if_pos (by omega), Option.or_none, Option.or_none]
  by_cases past : k + bytes.length ≤ a
  · rw [dif_neg (by omega), if_neg before, if_pos (by omega), if_neg (by omega), List.getElem?_eq_none (by omega)]
    rfl
  · rw [dif_pos (by omega), if_neg before, if_pos (by omega), if_pos (by omega), List.getElem?_eq_getElem (by omega), Option.none_or, Option.or_none]
    by_cases zero : bytes[a - k]'(by omega) = 0
    · rw [zero]; rfl
    · rw [Option.filter_some_pos (by simpa using zero), Option.getD_some]

/-- The walk of a read over the cells from its first key on answers each place of its run in order. -/
theorem memory_run_go (k n : Nat) (bounded : ∀ c ∈ m, k ≤ c.1) :
    Memory.run.go m k n = (List.range n).map fun i => Memory.get m (k + i) := by
  induction n generalizing m k with
  | zero => rfl
  | succ n ih =>
    have places : (List.range (n + 1)).map (fun i => Memory.get m (k + i)) =
        Memory.get m k :: (List.range n).map fun i => Memory.get m (k + 1 + i) := by
      rw [List.range_succ_eq_map, List.map_cons, List.map_map]
      exact congrArg _ (List.map_congr_left fun i _ => congrArg (Memory.get m) (by simp only [Nat.succ_eq_add_one]; omega))
    rw [places]
    cases m with
    | nil => exact congrArg (Memory.unlisted :: ·) (ih .nil (k + 1) (by simp))
    | cons c r =>
      obtain ⟨least, rest⟩ := List.pairwise_cons.mp rises
      by_cases here : c.1 = k
      · have later := ih rest (k + 1) fun d hd => by have := least d hd; omega
        have first : Memory.get (c :: r) k = c.2 := by simp [Memory.get, Map.find, here]
        have behind (i : Nat) : Memory.get (c :: r) (k + 1 + i) = Memory.get r (k + 1 + i) := by
          simp [Memory.get, Map.find, show c.1 ≠ k + 1 + i by omega]
        simp only [Memory.run.go, here, if_true, later, first, behind]
      · have above : ∀ d ∈ c :: r, k < d.1 := by
          have := bounded c List.mem_cons_self
          exact List.forall_mem_cons.mpr ⟨by omega, fun d hd => by have := least d hd; omega⟩
        have later := ih rises (k + 1) above
        have first : Memory.get (c :: r) k = Memory.unlisted := by rw [Memory.get, map_find_of_lt _ _ above, Option.getD_none]
        simp only [Memory.run.go, here, if_false, later, first]

/-- A read of a run of bytes answers the bytes of its places in order. -/
theorem memory_run_eq (k n : Nat) : Memory.run m k n = (List.range n).map fun i => Memory.get m (k + i) := by
  have tail : (m.dropWhile fun c => decide (c.1 < k)).Pairwise fun a b => a.1 < b.1 := rises.sublist (List.dropWhile_sublist _)
  have walk := memory_run_go (tail.sublist (List.takeWhile_sublist fun c => decide (c.1 < k + n))) k n
    fun c hc => memory_from k m rises c ((List.takeWhile_sublist _).subset hc)
  refine walk.trans (List.map_congr_left fun i hi => ?_)
  have place : k + i < k + n := by have := List.mem_range.mp hi; omega
  simp [Memory.get, memory_find_takeWhile tail, memory_find_dropWhile rises, place]

end

/-- Settles O6: a memory in its form is the cells before the run, the run's, and the cells after it. -/
theorem memoryReadsWhatWasWritten : Obligations.MemoryReadsWhatWasWritten :=
  ⟨fun m k a bytes wf => memory_get_put ((memory_wf_iff m).mp wf).1 k a bytes,
    fun m k n wf => memory_run_eq ((memory_wf_iff m).mp wf).1 k n⟩

end Sys2Proof.Proofs
end

section
/-! The register file: what it reads after a write, and the places of its registers in the map (05 R135). -/

namespace Sys2Proof.Proofs

open Sys2Proof Sys2Proof.Machine Sys2Proof.Laws

section
variable {b : Base} (sorted : Map.sorted b.regs = true) (x : Word) (r : Reg) (d u i j : Nat)
include sorted

/-- A write keeps the form of the register file. -/
theorem base_wr_sorted : Map.sorted (b.wr x r d u i j).regs = true := by
  unfold Base.wr
  dsimp only
  split
  · exact map_sorted_del _ _ sorted
  · exact map_sorted_put _ _ _ sorted

/-- After a write the file lists the value at the register's address, unless it is the reset value, and elsewhere what it listed. -/
theorem find_base_wr (a : Nat) :
    Map.find a (b.wr x r d u i j).regs =
      if a = regAddr r d u i j then if x = r.reset d u then none else some x else Map.find a b.regs := by
  unfold Base.wr
  dsimp only
  split
  · exact map_find_del _ _ _ sorted
  · exact map_find_put _ _ _ _

theorem rd_wr_same : (b.wr x r d u i j).rd r d u i j = x := by
  rw [Base.rd, find_base_wr sorted, if_pos rfl]
  split
  · next reset => exact reset.symm
  · rfl

theorem rd_wr_apart {r' : Reg} {d' u' i' j' : Nat} (apart : regAddr r' d' u' i' j' ≠ regAddr r d u i j) :
    (b.wr x r d u i j).rd r' d' u' i' j' = b.rd r' d' u' i' j' := by
  rw [Base.rd, find_base_wr sorted, if_neg apart, Base.rd]

end

/-- A finite check of the register map (05 R135), over its tables' rows and the first die of each kind: decoding the address of the first or the last
register of a row finds the block, the row and the indexes that made it, so no other row answers there. -/
theorem placeOf_regAddr : ∀ r ∈ Reg.all, ∀ d ∈ [0, 8, 40], r.spec.on.has d = true →
    placeOf (regAddr r d) = .reg ⟨r, d, 0, 0, 0⟩ ∧
    (instanceOk r d (r.spec.n1 - 1) (r.spec.n2 - 1) = true →
      placeOf (regAddr r d 0 (r.spec.n1 - 1) (r.spec.n2 - 1)) = .reg ⟨r, d, 0, r.spec.n1 - 1, r.spec.n2 - 1⟩) := by
  decide +kernel

/-- Settles O8: a write changes one place of the file, and the map's places are found again. -/
theorem registerHasOneHome : Obligations.RegisterHasOneHome :=
  ⟨fun _ x r d u i j sorted => ⟨base_wr_sorted sorted x r d u i j, rd_wr_same sorted x r d u i j,
      fun _ _ _ _ _ => rd_wr_apart sorted x r d u i j⟩,
    placeOf_regAddr⟩

end Sys2Proof.Proofs
end

section
/-! Write generations (05 R141, R142). -/

namespace Sys2Proof.Proofs

open Sys2Proof Sys2Proof.Machine Sys2Proof.Laws

section
variable (b : Base) (st off n : Nat)

/-- The generations after a write of n requests: the block's goes on by n modulo 2^16, listed while it is not 0. -/
theorem base_addGen_gens {k g : Nat} (hk : k = st * 2 ^ 25 + off / 4096) (hg : g = ((Map.find k b.gens).getD 0 + n) % 2 ^ 16) :
    (b.addGen st off n).gens = if g = 0 then Map.del k b.gens else Map.put k g b.gens := by
  subst hk hg
  unfold Base.addGen
  dsimp only
  split <;> rfl

/-- DOCK_MS_WRAPTIME takes the timebase where the generation wraps; else no register changes (05 R142). -/
theorem base_addGen_regs_of_wrap (wraps : 2 ^ 16 ≤ (Map.find (st * 2 ^ 25 + off / 4096) b.gens).getD 0 + n) :
    (b.addGen st off n).regs = (b.wr (BitVec.ofNat 64 b.time) .DOCK_MS_WRAPTIME (ms st)).regs := by
  unfold Base.addGen
  dsimp only
  rw [if_pos (show _ ≥ 65536 from wraps)]
  rfl

theorem base_addGen_regs_of_no_wrap (below : (Map.find (st * 2 ^ 25 + off / 4096) b.gens).getD 0 + n < 2 ^ 16) :
    (b.addGen st off n).regs = b.regs := by
  unfold Base.addGen
  dsimp only
  rw [if_neg (by simpa using below)]

/-- The generation of a block, at its key. -/
theorem find_addGen (sorted : Map.sorted b.gens = true) {k : Nat} (hk : k = st * 2 ^ 25 + off / 4096) (l : Nat) :
    (Map.find l (b.addGen st off n).gens).getD 0 =
      if l = k then ((Map.find k b.gens).getD 0 + n) % 2 ^ 16 else (Map.find l b.gens).getD 0 := by
  rw [base_addGen_gens b st off n hk rfl]
  by_cases zero : ((Map.find k b.gens).getD 0 + n) % 2 ^ 16 = 0
  · rw [if_pos zero, map_find_del _ _ _ sorted, zero]
    split <;> rfl
  · rw [if_neg zero, map_find_put]
    split <;> rfl

/-- The generations go on by what they were and nothing else. -/
theorem addGen_gens_congr {b c : Base} (same : c.gens = b.gens) (st off n : Nat) : (c.addGen st off n).gens = (b.addGen st off n).gens := by
  rw [base_addGen_gens c st off n rfl rfl, base_addGen_gens b st off n rfl rfl, same]

end

@[simp] theorem base_countSat_gens (b : Base) (x lo w : Nat) (r : Reg) (d u i j : Nat) : (b.countSat x lo w r d u i j).gens = b.gens := rfl

/-- A write of a piece is one request (05 R141). -/
theorem base_pieceWrite_gens (b : Base) (st off : Nat) (bytes : List Byte) (bad : Bool) :
    (b.pieceWrite st off bytes bad).gens = (b.addGen st off 1).gens := by
  refine addGen_gens_congr ?_ st off 1
  dsimp only
  split
  · rw [base_countSat_gens]
  · rfl

/-- Settles O59: a write's generation is what the table lists at its block's key, and the wrap alone writes a register. -/
theorem blockGenerationWrapIsTimed : Obligations.BlockGenerationWrapIsTimed := by
  refine ⟨fun b st off n gen hgen sorted k hk => ?counted, base_pieceWrite_gens, fun v k => rfl⟩
  subst hgen
  refine ⟨?same, fun l other => ?apart, fun wraps => ?wrap, fun below => ?noWrap⟩
  case same => exact (find_addGen b st off n sorted hk k).trans (if_pos rfl)
  case apart => exact (find_addGen b st off n sorted hk l).trans (if_neg other)
  case wrap => exact base_addGen_regs_of_wrap b st off n (hk ▸ wraps)
  case noWrap => exact base_addGen_regs_of_no_wrap b st off n (hk ▸ below)

end Sys2Proof.Proofs
end

section
/-! Requests at the memory-side dies: how they reach their stack, and what serves them (05 R134, R136, R139, R141, R148, R154, 12 R351). -/

namespace Sys2Proof.Proofs

open Sys2Proof Sys2Proof.Machine Sys2Proof.Laws

/-- A command of the memory-side dies or far links leaves what its function makes of the memory system as the command finds it. -/
theorem serves_of_onMem {c : Instr} {s : State} {may : Bool} {f : MemSys → Base → Base × MemSys} (hc : exec c s = s.run may fun v => v.onMem f)
    (hmay : may = true) {r : Base × MemSys} (hr : f s.dev.mem s.work.base = r) : Serves c s r := by
  subst hr
  exact leaves_of_run hc hmay rfl

/-- What holds off a stack's requests does not depend on the last answer. -/
@[simp] theorem memHeld_cleared (v : Device) (a : Nat) : v.cleared.memHeld a = v.memHeld a := rfl

/-- A request that its stack does not hold off is the memory system's. -/
theorem serves_of_memArrives {c : Instr} {s : State} {a : Nat} {f : MemSys → Base → Base × MemSys}
    (hc : exec c s = s.run (s.dev.memRuns a) fun v => v.memArrives a f) (runs : s.dev.memRuns a = true) (free : s.dev.memHeld a = false)
    {r : Base × MemSys} (hr : f s.dev.mem s.work.base = r) : Serves c s r := by
  subst hr
  refine leaves_of_run hc runs ?_
  simp only [Device.memArrives, memHeld_cleared, free, Bool.false_eq_true, if_false]
  rfl

/-- A read within one piece is one request, and so is a write (05 R137). -/
theorem readJobs_of_piece {a n : Nat} (k : Nat) (some : 0 < n) (fits : n ≤ 256 - a % 256) : readJobs (k + 1) a n = [.read a n] := by
  have rest (x : Nat) : readJobs k x 0 = [] := by cases k <;> rfl
  simp [readJobs, show n ≠ 0 by omega, Nat.min_eq_left fits, rest]

theorem writeJobs_of_piece {a : Nat} {l : List Byte} (bad : Bool) (k : Nat) (some : l ≠ []) (fits : l.length ≤ 256 - a % 256) :
    writeJobs bad (k + 1) a l = [.write a l bad] := by
  have rest (x : Nat) : writeJobs bad k x [] = [] := by cases k <;> rfl
  simp [writeJobs, some, List.take_of_length_le fits, List.drop_of_length_le fits, rest]

/-- One request alone is answered as it is submitted. -/
theorem sendAll_one (m : MemSys) {b : Base} (fresh : b.resp = .none) (op : MemOp) (j : MemJob) : m.sendAll b op [j] = m.submit b op j := by
  have same : { b with resp := .none } = b := by rw [← fresh]
  simp only [MemSys.sendAll, List.foldl_cons, List.foldl_nil, same, fresh]

section
variable {m : MemSys} {b : Base} {op : MemOp} {job : MemJob} {n off : Nat} (stack : b.place job.addr = .stack n off)
include stack

/-- A request of a partition that the address does not serve is refused (05 R139). -/
theorem submit_of_not_served (other : b.served (reqOf b op) job.addr = false) : m.submit b op job = (b.refused op job, m) := by
  simp only [MemSys.submit, stack, other, Bool.not_false, if_true]

section
variable (served : b.served (reqOf b op) job.addr = true)
include served

/-- One over a failed link or to a fenced stack is lost (05 R154, 12 R349). -/
theorem submit_of_lost (lost : b.routeBroken (reqOf b op).src.die (ms n) = true ∨ b.stackFenced n = true) :
    m.submit b op job = (b.lostJob op job, m) := by
  simp only [MemSys.submit, stack, served, Bool.or_eq_true, lost, Bool.not_true, Bool.false_eq_true, if_false, if_true]

section
variable (route : b.routeBroken (reqOf b op).src.die (ms n) = false) (kept : b.stackFenced n = false)
include route kept

/-- One that no slot rule holds off is served; another takes a ticket (05 R148). -/
theorem submit_of_admitted (admitted : (job.banks off).findSome? ((m.die n).queueFor (job.banks off).length) = none) :
    m.submit b op job = m.takeIn { b with resp := .ok } n op job off := by
  simp only [MemSys.submit, stack, served, route, kept, admitted, Bool.or_self, Bool.not_true, Bool.false_eq_true, if_false]

theorem submit_of_held_off {o : Option Nat} (order : (job.banks off).findSome? ((m.die n).queueFor (job.banks off).length) = some o)
    {b1 : Base} {d : MemDie}
    (settled : settle (b.ticketed (reqOf b op) n) n
      { m.die n with waiting := (m.die n).waiting ++ [{ order := o, op := op, job := job }] } = (b1, d)) :
    m.submit b op job = ({ b1 with resp := .held }, m.setDie n d) := by
  simp only [MemSys.submit, stack, served, route, kept, order, settled, Bool.or_self, Bool.not_true, Bool.false_eq_true, if_false]

end
end
end

/-- A read served without a memory error answers the bytes of its piece, and a write stores its own (05 R136, R141, 12 R352). -/
theorem serve_read {b b1 b2 : Base} {n a off len : Nat} {d : MemDie} {op : MemOp} {bad : Bool} {l : List (Byte × Bool)} (clean : op.err = .none)
    (checked : b.sealCheck (reqOf b op) n off a = (b1, bad)) (read : b1.pieceRead (reqOf b op) a len bad = (b2, l)) :
    serve b n d op (.read a len) off = ({ b2 with resp := .bytes (l.map (·.1)) (l.any (·.2)) }, d) := by
  simp only [serve, readPiece, clean, checked, read]

theorem serve_write {b : Base} {n a off : Nat} {d : MemDie} {op : MemOp} {data : List Byte} {bad : Bool} (clean : op.err = .none) :
    serve b n d op (.write a data bad) off = ((b.noteReq (reqOf b op) (ms n) 0 0x51 data.length a).pieceWrite n off data bad, d) := by
  simp only [serve, writePiece, clean]

/-- Settles O45: a request within one piece is submitted alone, and its stack's rules are asked in their order. -/
theorem memoryServesItsRequests : Obligations.MemoryServesItsRequests := by
  refine ⟨fun s op a n runs free some fits => ?read, fun s op a l bad runs free some fits => ?write,
    fun s op a l bad runs free aligned whole sender => ?block,
    fun m b op job n off stack => ⟨fun other => submit_of_not_served stack other,
      fun served route kept => ⟨fun admitted => submit_of_admitted stack served route kept admitted,
        fun o b1 d order settled => submit_of_held_off stack served route kept order settled⟩,
      fun served lost => submit_of_lost stack served lost⟩,
    fun b b1 b2 n a off len d op bad l clean checked read => serve_read clean checked read,
    fun b n a off d op data bad clean => serve_write clean⟩
  case read =>
    exact serves_of_memArrives rfl runs free (by rw [MemSys.read, readJobs_of_piece _ some fits, sendAll_one _ rfl])
  case write =>
    exact serves_of_memArrives rfl runs free (by rw [MemSys.write, writeJobs_of_piece bad _ some fits, sendAll_one _ rfl])
  case block => exact serves_of_memArrives rfl runs free (if_pos ⟨aligned, whole, sender⟩)

end Sys2Proof.Proofs
end

section
/-! What happens at the memory-side dies and links besides requests: dwells, scrubbing, spares, copies, fences, prefetches and the far tier
(05 R143, R145, R148, R149, R151 to R156). -/

namespace Sys2Proof.Proofs

open Sys2Proof Sys2Proof.Machine Sys2Proof.Laws

section
variable {m : MemSys} {b : Base} {n k : Nat}

/-- A bank hot for the dwell, and a die full for it, are reported once (05 R149). -/
theorem hotDwell_of_due {t : Nat} (since : Map.find k (m.die n).hotSince = some t) (due : t + b.rf 0 32 .DOCK_MS_HOTDWELL (ms n) ≤ b.time)
    (first : (m.die n).hotSeen.contains k = false) (whole : (m.die n).spares k = false) :
    m.hotDwell b n k =
      (((b.countSat 1 16 48 .DOCK_MS_HOTBANK (ms n)).wf 0 13 (k / 64 % 64 + k % 64 * 64 + 4096) .DOCK_MS_HOTBANK (ms n)).msEvent n 0 0x0403,
        m.setDie n { m.die n with hotSeen := NSet.add k (m.die n).hotSeen }) := by
  simp only [MemSys.hotDwell, since, due, first, whole, Bool.not_false, and_self, if_true]

theorem fullDwell_of_due {t : Nat} (since : (m.die n).fullSince = some t) (due : t + b.rf 0 32 .DOCK_MS_HOTDWELL (ms n) ≤ b.time)
    (first : (m.die n).fullSeen = false) :
    m.fullDwell b n = (b.msEvent n 1 0x0404, m.setDie n { m.die n with fullSeen := true, fulls := (m.die n).fulls + 1 }) := by
  simp only [MemSys.fullDwell, since, due, first, Bool.not_false, and_self, if_true]

/-- Scrubbing reads no bank that spares a row (05 R152); elsewhere it verifies its piece's seal, after the count of an error that it corrected
(05 R151, 12 R353). -/
theorem scrub_of_sparing {off : Nat} (spares : (m.die n).spares (bankOf (off / 256 * 256)) = true) (e : MemErr) : m.scrub b n off e = (b, m) :=
  if_neg (by simp [spares])

section
variable {off : Nat} (stack : n < 32) (inside : off / 256 * 256 < 96 * 2 ^ 30) (kept : b.stackFenced n = false)
  (whole : (m.die n).spares (bankOf (off / 256 * 256)) = false)
include stack inside kept whole

theorem scrub_allowed : n < 32 ∧ off / 256 * 256 < 96 * 2 ^ 30 ∧ !b.stackFenced n ∧ !(m.die n).spares (bankOf (off / 256 * 256)) :=
  ⟨stack, inside, by rw [kept]; rfl, by rw [whole]; rfl⟩

theorem scrub_of_sound : m.scrub b n off .none = (b.scrubCheck n (off / 256 * 256), m) := if_pos (scrub_allowed stack inside kept whole)

theorem scrub_of_corrected {b1 : Base} {d : MemDie} (counted : corrected b n (m.die n) (off / 256 * 256) = (b1, d)) :
    m.scrub b n off .corrected = (b1.scrubCheck n (off / 256 * 256), m.setDie n d) := by
  -- The body's names are put in their places first: only then does the count of the error stand in it as `counted` says.
  unfold MemSys.scrub
  conv_lhs => zeta
  rw [if_pos (scrub_allowed stack inside kept whole), counted]

end

/-- A row replacement that runs ends, and the bank's tickets are notified (05 R152); a copy that runs ends (05 R153). -/
theorem rowSpareEnd_of_sparing {e : Nat × Nat} (runs : (m.die n).sparing.find? (fun e => e.1 == k) = some e) {d : MemDie}
    (hd : d = (m.die n).rowSpared e b.time) :
    m.rowSpareEnd b n k =
      (m.setDie n d).notifyBank (((b.countSat 1 0 16 .DOCK_MS_ROWSPARE (ms n)).wf 16 16 d.leastSpares .DOCK_MS_ROWSPARE (ms n)).msEvent n 3 0x0406)
        n k := by
  subst hd
  simp only [MemSys.rowSpareEnd, runs]

theorem pcCopyEnd_of_copying (runs : (m.die n).copying.contains k = true) {d : MemDie}
    (hd : d = { m.die n with copying := (m.die n).copying.erase k }) :
    m.pcCopyEnd b n k = ((b.wf 14 1 (b2n (!d.copying.isEmpty)) .DOCK_MS_PCRET (ms n)).msEvent n 4 0x0407, m.setDie n d) := by
  subst hd
  exact if_pos runs

/-- A stack is fenced once (05 R154). -/
theorem stackLost_of_kept (kept : b.stackFenced n = false) :
    b.stackLost n = ((b.wf 9 2 2 .DOCK_MS_ID (ms n)).msEvent n 5 0x0408).wantsFence (8 + n) 1 0 := by
  simp only [Base.stackLost, Base.stackFence, kept, Bool.false_eq_true, if_false]

theorem stackLost_of_fenced (fenced : b.stackFenced n = true) : b.stackLost n = b := if_pos fenced

end

section
variable {w : Work} {id : Nat}

section
variable {n k : Nat} (tile : w.base.tileOf id = some (n, k)) (may : w.pfMay id n k = true)
include tile may

/-- A controller that may fetch, and wants no block, fetches none; else it fetches the block that it wants (05 R143). -/
theorem prefetchFetch_of_none (wanted : w.pfWanted id = none) : w.prefetchFetch id = w := by
  simp only [Work.prefetchFetch, tile, may, wanted, if_true]

theorem prefetchFetch_of_wanted {x : Wb} {a : Nat} {sc : Bool} (wanted : w.pfWanted id = some (x, a, sc)) {b : Base} {l : List (Byte × Bool)}
    (read : w.base.read { (w.base.cx id x).req sc with consumes := false } a 4096 = (b, l)) {e : PfEntry}
    (he : e = { addr := a, queue := x.queue, seq := x.seq, time := b.time, gen := (b.genOf a).1, far := (b.genOf a).2, data := l }) :
    w.prefetchFetch id =
      { w with base := b.pfSeen (w.base.cx id x) .TILE_PF_FETCH a, tiles := w.tiles.setPf id (w.tiles.pf id ++ [e]) } := by
  subst he
  simp only [Work.prefetchFetch, tile, may, wanted, read, if_true]

end

section
variable {q seq a : Nat} {e : PfEntry} (sent : (w.tiles.pf id).find? (PfEntry.checks q seq a) = some e)
include sent

/-- A check that returns passes its entry while the block's generation holds, and else discards it as stale (05 R145). -/
theorem genCheck_of_holds (holds : w.base.genHolds a e = true) :
    w.genCheck id q seq a =
      { w with tiles := w.tiles.setPf id ((w.tiles.pf id).map fun y => if y.checks q seq a then { y with check := 2 } else y) } := by
  simp only [Work.genCheck, sent, holds, if_true]

theorem genCheck_of_stale (stale : w.base.genHolds a e = false) :
    w.genCheck id q seq a =
      { w with base := (w.unusedCx id q seq).elim w.base (fun c => w.base.pfSeen c .TILE_PF_STALE a),
               tiles := w.tiles.setPf id ((w.tiles.pf id).filter fun y => !y.checks q seq a) } := by
  simp only [Work.genCheck, sent, stale, Bool.false_eq_true, if_false]

end
end

section
variable {m : MemSys} {b : Base} {L : Nat} {r : FarReq}

section
variable {rest : List FarReq} (oldest : (m.link L).waiting = r :: rest) (up : b.linkUp L = true) (reads : r.data = none)
include oldest up reads

/-- The oldest read that waits is sent while its link has a place for it (05 R156). -/
theorem farIssue_of_room (room : (m.link L).out.length < b.farLimit L) :
    m.farIssue b L = (b, m.setLink L { waiting := rest, out := (m.link L).out ++ [r] }) := by
  simp only [MemSys.farIssue, oldest, up, reads, room, Bool.not_true, Bool.false_eq_true, if_false, if_true]

theorem farIssue_of_full (full : b.farLimit L ≤ (m.link L).out.length) : m.farIssue b L = (b, m) := by
  simp only [MemSys.farIssue, oldest, up, reads, Nat.not_lt.mpr full, Bool.not_true, Bool.false_eq_true, if_false]

end

section
variable {i : Nat} (carried : (m.link L).out[i]? = some r) {m1 : MemSys}
  (left : m1 = m.setLink L { m.link L with out := (m.link L).out.eraseIdx i })
include carried left

/-- A completion frees the place of its read, and gives its data or fails (05 R155). -/
theorem farComplete_of_failure : m.farComplete b L i none = (b.farFail L r, m1) := by
  subst left
  simp only [MemSys.farComplete, carried]

theorem farComplete_of_data {l : List Byte} (whole : l.length = r.len) {b1 : Base}
    (counted : b1 = (b.farUnsealed (reqOf b r.op) r.part L).noteReq (reqOf b r.op) (io (L / 2)) 5 0x72 1 r.address) :
    m.farComplete b L i (some l) =
      ({ b1.farWrite (b1.hostAddr r.part r.offset) (l.map fun v => (v, false)) with resp := .bytes l false }, m1) := by
  subst left counted
  simp only [MemSys.farComplete, carried, whole, if_true]

end
end

/-- Settles O46: each command of a die, a tile's prefetch or a link, by what it finds there. -/
theorem memoryDiesKeepTheirOrder : Obligations.MemoryDiesKeepTheirOrder := by
  refine ⟨fun s n k m b runs hm hb => ?dies, fun s n ready => ⟨fun kept => ?lost, fun fenced => ?fenced⟩,
    fun s id n k a x sc b l runs tile may => ⟨fun wanted => ?idle, fun wanted read e he => ?fetch⟩,
    fun s id q seq a e runs sent => ⟨fun holds => ?pass, fun stale => ?discard⟩,
    fun s L i m b runs hm hb => ?links⟩
  case dies =>
    subst hm hb
    refine ⟨serves_of_onMem rfl runs rfl, fun t since due first whole => ?hot, fun t since due first => ?full, fun off e spares => ?spares,
      fun off stack inside kept whole => ⟨?sound, fun b1 d counted => ?corrected⟩, fun e sparing d hd => ?rowEnd, fun copying d hd => ?copyEnd⟩
    case hot => exact serves_of_onMem rfl runs (hotDwell_of_due since due first whole)
    case full => exact serves_of_onMem rfl runs (fullDwell_of_due since due first)
    case spares => exact serves_of_onMem rfl runs (scrub_of_sparing spares e)
    case sound => exact serves_of_onMem rfl runs (scrub_of_sound stack inside kept whole)
    case corrected => exact serves_of_onMem rfl runs (scrub_of_corrected stack inside kept whole counted)
    case rowEnd => exact serves_of_onMem rfl runs (rowSpareEnd_of_sparing sparing hd)
    case copyEnd => exact serves_of_onMem rfl runs (pcCopyEnd_of_copying copying hd)
  case lost => exact does_of_ready rfl ready (by rw [stackLost_of_kept kept])
  case fenced => exact passes_of_ready rfl ready (by rw [stackLost_of_fenced fenced])
  case idle => exact passes_of_doWork rfl runs (prefetchFetch_of_none tile may wanted)
  case fetch => exact does_of_doWork rfl runs (prefetchFetch_of_wanted tile may wanted read he)
  case pass => exact does_of_unitRun rfl runs (genCheck_of_holds sent holds)
  case discard => exact does_of_unitRun rfl runs (genCheck_of_stale sent stale)
  case links =>
    subst hm hb
    exact ⟨fun r rest oldest up reads => ⟨fun room => serves_of_onMem rfl runs (farIssue_of_room oldest up reads room),
        fun full => serves_of_onMem rfl runs (farIssue_of_full oldest up reads full)⟩,
      fun r m1 carried left => ⟨serves_of_onMem rfl runs (farComplete_of_failure carried left),
        serves_of_onMem rfl runs (farComplete_of_failure carried left),
        fun l whole b1 counted => serves_of_onMem rfl runs (farComplete_of_data carried left whole counted)⟩⟩

end Sys2Proof.Proofs
end

section
/-! LOAD, STORE and CONVERT: a window is copied or converted (06 R163 to R166, 07 R192, R193). -/

namespace Sys2Proof.Proofs

open Sys2Proof Sys2Proof.Machine Sys2Proof.Laws

/-- A command of a unit whose work waits for its operands does what its function makes of what the fetch left. -/
theorem does_of_fetched {c : Instr} {s : State} {id q seq : Nat} {f : Work → Work} {w0 w : Work}
    (hc : exec c s = s.unitRun id fun u => u.whenFetched id q seq f) (runs : s.dev.unitRuns id = true) (fetched : s.fetched id q seq w0)
    (hw : f w0 = w) : Does c s w :=
  does_of_unitRun hc runs ((whenFetched_of_fetched fetched f).trans hw)

/-- A Qm.n format, whose codes have no NaN that poison could become (02 R65, 05 R150). -/
def isFixed : Fmt → Bool
  | .q _ => true
  | _ => false

/-- A copy reports the poison that it read as Qm.n elements, once for the waybill. -/
theorem copyFixnan_eq (w : Work) (id : Nat) (x : Wb) (d : Desc) (bad : Bool) {b : Base} {y : Wb}
    (raised : (b, y) = if bad && isFixed d.format then w.base.once id x 0x0108 else (w.base, x)) :
    w.copyFixnan id x d bad = ({ w with base := b }, y) := by
  unfold Work.copyFixnan
  cases format : d.format with
  | q m =>
    rw [format] at raised
    cases bad with
    | true => simp only [← show (b, y) = w.base.once id x 0x0108 from raised]
    | false =>
      cases raised
      rfl
  | i8 | f8f | g8 | f16w | b16 | b32 | int32 | l8 | reserved =>
    simp only [format, isFixed, Bool.and_false, Bool.false_eq_true, if_false] at raised
    cases raised
    rfl

/-- The report of a copy's poison leaves the waybill's operands, and so its window (06 R163). -/
theorem copyFixnan_window (w : Work) (id : Nat) (x : Wb) (d : Desc) (bad : Bool) :
    (w.copyFixnan id x d bad).2.winRow = x.winRow ∧ (w.copyFixnan id x d bad).2.winCol = x.winCol := by
  unfold Work.copyFixnan
  split
  · dsimp only [Base.once]
    split <;> exact ⟨rfl, rfl⟩
  · exact ⟨rfl, rfl⟩

section
variable {w : Work} {id q seq : Nat} {x : Wb} (window : w.wb? id q seq = some x) (phase : x.phase = .running) (going : x.aborting = false)
  {a d : Desc} (source : x.desc 0 = some a)
include window phase going source

section
variable (output : x.desc 1 = some d)
include output

/-- LOAD copies its window where format, block, scale and TRANSPOSE allow it, and else converts it tile by tile (06 R163, R164). -/
theorem load_of_copy (op : x.opcode = 2) (copies : copyLoad a d x.transpose = true) {w1 : Work} {bad : Bool} {b : Base} {y : Wb}
    (rows : w.copyRows (w.base.cx id x true) a d true x.winRow x.winCol = (w1, bad))
    (raised : (b, y) = if bad && isFixed d.format then w1.base.once id x 0x0108 else (w1.base, x)) :
    w.load id q seq =
      (({ w1 with base := b } : Work).moveScales (w.base.cx id x true) a d true x.winRow x.winCol).setWb id (y.endWith 1) := by
  have reported := copyFixnan_eq w1 id x d bad raised
  have same : y.winRow = x.winRow ∧ y.winCol = x.winCol := by simpa only [reported] using copyFixnan_window w1 id x d bad
  simp only [Work.load, window, source, output, phase, op, going, copies, rows, reported, same, Work.finish,
    Bool.not_false, and_self, if_true]

theorem load_of_convert (op : x.opcode = 2) (converts : copyLoad a d x.transpose = false) {u : Work} {y : Wb}
    (tiles : Work.convertTiles id (w.base.cx id x) d 0 (loadIndex a x) (loadSource id (w.base.cx id x true) a x) d.geo.tiles 0 w x = (u, y)) :
    w.load id q seq = u.setWb id y := by
  simp only [Work.load, window, source, output, phase, op, going, converts, tiles, Bool.not_false, and_self, if_true, Bool.false_eq_true, if_false]

/-- STORE copies its tensor and the tensor's scales (06 R165). -/
theorem storeWb_of_running (op : x.opcode = 3) {w1 : Work} {bad : Bool}
    (rows : w.copyRows (w.base.cx id x) a d false x.winRow x.winCol = (w1, bad)) :
    w.storeWb id q seq = (w1.moveScales (w.base.cx id x) a d false x.winRow x.winCol).setWb id (x.endWith 1) := by
  simp only [Work.storeWb, window, source, output, phase, op, going, rows, Work.finish, Bool.not_false, and_self, if_true]

end

section
variable (op : x.opcode = 4)
include op

/-- CONVERT with AMAX_ONLY sends the maxima of its elements, and else writes them converted (06 R166, 07 R192, R193). -/
theorem convertWb_of_amaxOnly (only : x.amaxOnly = true) {u : Work} {y : Wb} {l : List Machine.Num}
    (elems : Work.convertElems id (w.base.cx id x true) a a.count 0 w x = (u, y, l)) :
    w.convertWb id q seq = (u.sendMaxima y.part y.hist q seq (channelMaxima a l)).setWb id (y.endWith 1) := by
  simp only [Work.convertWb, window, source, phase, op, going, only, elems, Work.finish, Bool.not_false, and_self, if_true]

theorem convertWb_of_output (writes : x.amaxOnly = false) (output : x.desc 2 = some d) {u : Work} {y : Wb}
    (tiles : Work.convertTiles id (w.base.cx id x) d x.hist d.index (convertSource id (w.base.cx id x true) a d) d.geo.tiles 0 w x = (u, y)) :
    w.convertWb id q seq = u.setWb id y := by
  simp only [Work.convertWb, window, source, phase, op, going, writes, output, tiles, Bool.not_false, and_self, if_true, Bool.false_eq_true,
    if_false]

end

end

/-- Settles O25: a running mover whose operands are fetched copies or converts as its descriptors and operand bits ask. -/
theorem moversCopyAndConvert : Obligations.MoversCopyAndConvert := by
  refine ⟨fun s id q seq x a d w0 c running fetched source output hc => ?load,
    fun s id q seq x a d w0 w1 c bad running fetched source output hc rows => ?store,
    fun s id q seq x a w0 c running fetched source hc => ?convert⟩
  all_goals
    obtain ⟨runs, listed, phase, op, going⟩ := running
    have window := (wb?_of_fetched fetched q seq).trans listed
    subst hc
  case load =>
    exact ⟨fun copies w1 bad b y rows raised =>
        does_of_fetched rfl runs fetched (load_of_copy window phase going source output op copies rows raised),
      fun converts w y tiles => does_of_fetched rfl runs fetched (load_of_convert window phase going source output op converts tiles)⟩
  case store => exact does_of_fetched rfl runs fetched (storeWb_of_running window phase going source output op rows)
  case convert =>
    exact ⟨fun only w y l elems => does_of_fetched rfl runs fetched (convertWb_of_amaxOnly window phase going source op only elems),
      fun writes d w y output tiles =>
        does_of_fetched rfl runs fetched (convertWb_of_output window phase going source op writes output tiles)⟩

end Sys2Proof.Proofs
end

section
/-! SID_OPEN: the frame that the plan entry and the segment's room choose (06 R171, R172, R174). -/

namespace Sys2Proof.Proofs

open Sys2Proof Sys2Proof.Machine Sys2Proof.Laws

section
variable {w : Work} {id q seq n : Nat} {x : Wb} (ready : w.sidReady id q seq 0x0B 1 = some (x, n))
include ready

/-- On a segment that may not open the frame the waybill is out of order (06 R174). -/
theorem sidOpen_of_order (order : mayOpen (w.frames n x.part) x.sidFrame = false) : w.sidOpen id q seq = w.reject id x 0x0503 := by
  simp only [Work.sidOpen, ready, order, Bool.not_false, if_true]

section
variable (opens : mayOpen (w.frames n x.part) x.sidFrame = true) {b : Base} {e : List Byte} {bad : Bool}
  (entry : w.base.readBytes ((w.base.cx id x).sidReq n) (w.base.planAddr n x.part x.sidFrame) 16 = (b, e, bad))
include opens entry

/-- A poisoned plan entry rejects it (log entry 114). -/
theorem sidOpen_of_poison (poison : bad = true) : w.sidOpen id q seq = Work.reject { w with base := b } id x 0x0302 := by
  simp only [Work.sidOpen, ready, opens, entry, poison, Bool.not_true, Bool.false_eq_true, if_false, if_true]

section
variable (clean : bad = false)
include clean

/-- A plan entry that 06 R171 forbids rejects it. -/
theorem sidOpen_of_bad_plan (forbidden : planBad (fieldAt e 0 4) (fieldAt e 4 4) (fieldAt e 8 4) (fieldAt e 12 4) = true) :
    w.sidOpen id q seq = Work.reject { w with base := b } id x 0x0504 := by
  simp only [Work.sidOpen, ready, opens, entry, clean, forbidden, Bool.not_true, Bool.false_eq_true, if_false, if_true]

section
variable (allowed : planBad (fieldAt e 0 4) (fieldAt e 4 4) (fieldAt e 8 4) (fieldAt e 12 4) = false) {choice : Option Bool}
  (chosen : openChoice (usedOf (w.frames n x.part)) (b.rf 0 24 .DOCK_SID_SIZE (cd n) 0 x.part) (fieldAt e 0 4) (fieldAt e 4 4)
    (fieldAt e 12 4 % 2 ^ 24) ((fieldAt e 12 4).testBit 24) (b.rf 24 1 .DOCK_SID_SIZE (cd n) 0 x.part == 0) = choice)
include allowed chosen

/-- The entry's choice is made with the room of the segment: no frame, or one that is opened on top (06 R174). -/
theorem sidOpen_of_full (full : choice = none) : w.sidOpen id q seq = Work.reject { w with base := b } id x 0x0501 := by
  subst full
  have rest : Work.frames { w with base := b } n x.part = w.frames n x.part := rfl
  simp only [Work.sidOpen, ready, opens, entry, clean, allowed, rest, chosen, Bool.not_true, Bool.false_eq_true, if_false]

theorem sidOpen_of_choice {drop : Bool} (fits : choice = some drop) :
    w.sidOpen id q seq = Work.openFrame { w with base := b } id n x {
      index := x.sidFrame, full := fieldAt e 0 4, keep := fieldAt e 4 4, tarea := fieldAt e 8 4, below := usedOf (w.frames n x.part),
      dropped := drop, recomp := (fieldAt e 12 4).testBit 24, closed := false, cursor := 0, step := x.step % 2 ^ 32, cars := 0,
      opened := b.time, closedAt := 0 } := by
  subst fits
  have rest : Work.frames { w with base := b } n x.part = w.frames n x.part := rfl
  simp only [Work.sidOpen, ready, opens, entry, clean, allowed, rest, chosen, Bool.not_true, Bool.false_eq_true, if_false]

end

end

end

end

/-- The frame chosen fits, and it is a dropped one only by RECOMP, without the stall policy, where a kept one leaves no room ahead (06 R174). -/
theorem openChoice_fits {u c full keep ahead : Nat} {recomp stall drop : Bool} (h : openChoice u c full keep ahead recomp stall = some drop) :
    u + (if drop then keep else full) ≤ c ∧ (drop = true → recomp = true ∧ stall = false ∧ c < u + full + ahead) := by
  unfold openChoice at h
  cases stall with
  | true =>
    rw [if_pos rfl] at h
    split at h
    · next fits =>
      cases h
      exact ⟨fits, nofun⟩
    · cases h
  | false =>
    rw [if_neg Bool.false_ne_true] at h
    split at h
    · cases h
      exact ⟨by simp only [Bool.false_eq_true, if_false]; omega, nofun⟩
    next keptAhead =>
    split at h
    · next dropAhead =>
      cases h
      exact ⟨by simp only [if_true]; omega, fun _ => ⟨dropAhead.1, rfl, by omega⟩⟩
    split at h
    · next kept =>
      cases h
      exact ⟨kept, nofun⟩
    split at h
    · next dropped =>
      cases h
      exact ⟨dropped.2, fun _ => ⟨dropped.1, rfl, by omega⟩⟩
    · cases h

/-- A frame header is 64 bytes (06 R172). -/
theorem length_header (f : Frame) : f.header.length = 64 := by simp [Frame.header]

/-- Settles O33: the segment, the plan entry and the room decide in turn; the frame chosen fits, and its header is 64 bytes. -/
theorem sidingFrameIsOpened : Obligations.SidingFrameIsOpened := by
  refine ⟨fun s id q seq n x runs ready => ⟨fun order => ?order, fun opens b e bad w entry hw => ?opens⟩,
    fun u c full keep ahead recomp stall drop _ chosen => openChoice_fits chosen, length_header⟩
  case order => exact does_of_unitRun rfl runs (sidOpen_of_order ready order)
  case opens =>
    subst hw
    refine ⟨fun poison => does_of_unitRun rfl runs (sidOpen_of_poison ready opens entry poison),
      fun clean full keep tarea a u c hfull hkeep htarea ha hu hc => ?_⟩
    subst hfull hkeep htarea ha hu hc
    exact ⟨fun forbidden => does_of_unitRun rfl runs (sidOpen_of_bad_plan ready opens entry clean forbidden),
      fun allowed choice chosen =>
        ⟨fun full => does_of_unitRun rfl runs (sidOpen_of_full ready opens entry clean allowed chosen full),
          fun drop fits => does_of_unitRun rfl runs (sidOpen_of_choice ready opens entry clean allowed chosen fits)⟩⟩

end Sys2Proof.Proofs
end

section
/-! Cars and the ends of frames: SID_CAR_PUSH, SID_CLOSE, SID_CAR_POP, SID_RELEASE and SID_CLEAR (06 R175 to R177, 05 R150). -/

namespace Sys2Proof.Proofs

open Sys2Proof Sys2Proof.Machine Sys2Proof.Laws

section
variable {w : Work} {id q seq n lo hi : Nat} {x : Wb} {d : Desc} {f : Frame}

section
variable (ready : w.sidReady id q seq 0x0B 0 = some (x, n)) (car : x.desc 0 = some d)
include ready car

/-- A push without its OPEN top frame is out of order (06 R175). -/
theorem sidPush_of_order (order : w.topFrame n x.part x.sidFrame false = none) : w.sidPush id q seq = w.reject id x 0x0503 := by
  simp only [Work.sidPush, ready, car, order]

section
variable (blocks : x.carBlocks d = (lo, hi)) (top : w.topFrame n x.part x.sidFrame false = some f)
include blocks top

/-- A car outside the frame's cars, over its header or across its keep boundary is rejected (06 R175). -/
theorem sidPush_of_outside (outside : hi > f.full - f.tarea ∨ lo = 0 ∨ (f.recomp = true ∧ lo < f.keep ∧ hi > f.keep)) :
    w.sidPush id q seq = w.reject id x 0x0505 := by
  simp only [Work.sidPush, ready, car, top, blocks]
  exact if_pos outside

section
variable (inside : ¬(hi > f.full - f.tarea ∨ lo = 0 ∨ (f.recomp = true ∧ lo < f.keep ∧ hi > f.keep)))
include inside

/-- A car of the drop area is counted and discarded; any other is written into the frame (06 R175). -/
theorem sidPush_of_dropped (dropped : f.dropped = true) (area : f.keep ≤ lo) :
    w.sidPush id q seq = Work.finish { w with base := w.base.countSat 1 32 32 .DOCK_SID_CNT (cd n) 0 x.part } id x := by
  simp only [Work.sidPush, ready, car, top, blocks]
  rw [if_neg inside, if_pos ⟨dropped, area⟩]

theorem sidPush_of_held (held : f.dropped = false ∨ lo < f.keep) {u : Work} {l : List (Byte × Bool)}
    (packed : w.packed (w.base.cx id x true) d = (u, l)) {rq : MemReq} (hrq : rq = (w.base.cx id x true).sidReq n) {a : Nat}
    (ha : a = u.base.sidBase n x.part + 4096 * (f.below + lo)) :
    w.sidPush id q seq =
      (Work.setTop { u with base := (u.base.noteReq rq (cd n) 81 0x28 l.length a).store rq a l } n x.part
        { f with cars := f.cars + 1 }).finish id x := by
  subst hrq ha
  have kept : ¬(f.dropped = true ∧ f.keep ≤ lo) := not_and_or.mpr (held.imp ne_true_of_eq_false Nat.not_le.mpr)
  simp only [Work.sidPush, ready, car, top, blocks, packed]
  rw [if_neg inside, if_neg kept]

end

end

end

section
variable (ready : w.sidReady id q seq 0x0B 2 = some (x, n))
include ready

/-- CLOSE closes the OPEN top frame and writes its header; without one it is out of order (06 R176). -/
theorem sidClose_of_order (order : w.topFrame n x.part x.sidFrame false = none) : w.sidClose id q seq = w.reject id x 0x0503 := by
  simp only [Work.sidClose, ready, order]

theorem sidClose_of_top (top : w.topFrame n x.part x.sidFrame false = some f) {g : Frame}
    (closed : g = { f with closed := true, closedAt := w.base.time }) :
    w.sidClose id q seq =
      (Work.setTop { w with
        base := w.base.storeBytes ((w.base.cx id x).sidReq n) (w.base.sidBase n x.part + 4096 * f.below) g.header } n x.part g).finish id x := by
  subst closed
  simp only [Work.sidClose, ready, top]

end

section
variable (ready : w.sidReady id q seq 0x0C 0 = some (x, n)) (car : x.desc 0 = some d)
include ready car

/-- A pop without its CLOSED top frame is out of order (06 R177). -/
theorem sidPop_of_order (order : w.topFrame n x.part x.sidFrame true = none) : w.sidPop id q seq = w.reject id x 0x0503 := by
  simp only [Work.sidPop, ready, car, order]

section
variable (blocks : x.carBlocks d = (lo, hi)) (top : w.topFrame n x.part x.sidFrame true = some f)
include blocks top

/-- A car outside the frame's cars is rejected (06 R177). -/
theorem sidPop_of_outside (outside : hi > f.full - f.tarea) : w.sidPop id q seq = w.reject id x 0x0505 := by
  simp only [Work.sidPop, ready, car, top, blocks]
  exact if_pos outside

section
variable (inside : hi ≤ f.full - f.tarea)
include inside

/-- A car that reaches the drop area of a DROPPED frame is rejected; any other is read into its tensor, and its poison reported (05 R150, 06 R177). -/
theorem sidPop_of_dropped (dropped : f.dropped = true) (area : f.keep < hi) : w.sidPop id q seq = w.reject id x 0x0506 := by
  simp only [Work.sidPop, ready, car, top, blocks]
  rw [if_neg (Nat.not_lt.mpr inside), if_pos ⟨dropped, area⟩]

theorem sidPop_of_held (held : f.dropped = false ∨ hi ≤ f.keep) {rq : MemReq} {a : Nat} {b : Base} {l : List (Byte × Bool)}
    (hrq : rq = (w.base.cx id x).sidReq n) (ha : a = w.base.sidBase n x.part + 4096 * (f.below + lo))
    (read : (w.base.noteReq rq (cd n) 81 0x28 (d.count * d.ebytes) a).read { rq with sealchk := d.sealchk } a (d.count * d.ebytes) = (b, l))
    {u : Work} {c : Base} {y : Wb} (written : u = Work.unpack { w with base := b } (w.base.cx id x) d l)
    (raised : (c, y) = if (d.isLocal && l.any (·.2)) && isFixed d.format then u.base.once id x 0x0108 else (u.base, x)) :
    w.sidPop id q seq = Work.finish { u with base := c } id y := by
  subst hrq ha written
  have kept : ¬(f.dropped = true ∧ f.keep < hi) := not_and_or.mpr (held.imp ne_true_of_eq_false Nat.not_lt.mpr)
  simp only [Work.sidPop, ready, car, top, blocks, read, copyFixnan_eq _ _ _ _ _ raised]
  rw [if_neg (Nat.not_lt.mpr inside), if_neg kept]

end

end

end

/-- RELEASE takes the CLOSED top frame off; without one it is out of order. CLEAR takes all frames (06 R176, R177). -/
theorem sidRelease_of_top (ready : w.sidReady id q seq 0x0C 1 = some (x, n)) (top : w.topFrame n x.part x.sidFrame true = some f) :
    w.sidRelease id q seq = (w.setFrames n x.part (w.frames n x.part).dropLast).finish id x := by
  simp only [Work.sidRelease, ready, top]

theorem sidRelease_of_order (ready : w.sidReady id q seq 0x0C 1 = some (x, n)) (order : w.topFrame n x.part x.sidFrame true = none) :
    w.sidRelease id q seq = w.reject id x 0x0503 := by
  simp only [Work.sidRelease, ready, order]

theorem sidClear_of_ready (ready : w.sidReady id q seq 0x0C 3 = some (x, n)) :
    w.sidClear id q seq = (w.setFrames n x.part []).finish id x := by
  simp only [Work.sidClear, ready]

end

end Sys2Proof.Proofs
end

section
/-! SID_BRANCH: two skip lists, of which one is aborted (06 R178). -/

namespace Sys2Proof.Proofs

open Sys2Proof Sys2Proof.Machine Sys2Proof.Laws

/-- The elements of a run of bytes are as many as asked for. -/
@[simp] theorem length_elements (k n : Nat) (l : List (Byte × Bool)) : (elements k n l).length = n := by
  induction n generalizing l with
  | zero => rfl
  | succ n ih => simp [elements, ih]

/-- A skip list that is no INT32 tensor of up to 4096 pairs is malformed; one that reads well has at most 4096 entries (06 R178). -/
theorem skipList_of_malformed (w : Work) (c : Cx) (d : Desc) (malformed : d.fmt ≠ 6 ∨ d.isStage = true ∨ d.count % 2 ≠ 0 ∨ d.count > 8192) :
    w.skipList c d = (w, none, false) :=
  if_pos malformed

theorem length_skipList {w u : Work} {c : Cx} {d : Desc} {l : List Nat} {bad : Bool} (h : w.skipList c d = (u, some l, bad)) :
    l.length ≤ 4096 := by
  unfold Work.skipList at h
  split at h
  · cases h
  · next wellFormed =>
    cases h
    simp only [List.length_map, length_elements]
    omega

section
variable {w : Work} {id q seq n : Nat} {x : Wb} {d0 d1 : Desc} (ready : w.sidReady id q seq 0x0C 2 = some (x, n)) (kept : x.desc 0 = some d0)
  (dropped : x.desc 1 = some d1)
include ready kept dropped

/-- A branch without its CLOSED top frame is out of order (06 R176). -/
theorem sidBranch_of_order (order : w.topFrame n x.part x.sidFrame true = none) : w.sidBranch id q seq = w.reject id x 0x0503 := by
  simp only [Work.sidBranch, ready, kept, dropped, order]

section
variable {f : Frame} {w1 u : Work} {l0 l1 : Option (List Nat)} {bad0 bad1 : Bool} (top : w.topFrame n x.part x.sidFrame true = some f)
  (first : w.skipList (w.base.cx id x) d0 = (w1, l0, bad0)) (second : w1.skipList (w1.base.cx id x) d1 = (u, l1, bad1))
include top first second

/-- A poisoned list rejects it (log entries 49 and 114). -/
theorem sidBranch_of_poison (poison : (bad0 || bad1) = true) : w.sidBranch id q seq = u.reject id x 0x0303 := by
  simp only [Work.sidBranch, ready, kept, dropped, top, first, second, poison, if_true]

section
variable (clean : (bad0 || bad1) = false)
include clean

/-- A malformed list rejects it (06 R178). -/
theorem sidBranch_of_malformed (malformed : l0 = none ∨ l1 = none) : w.sidBranch id q seq = u.reject id x 0x0508 := by
  simp only [Work.sidBranch, ready, kept, dropped, top, first, second, clean, Bool.false_eq_true, if_false]
  rcases malformed with rfl | rfl
  · rfl
  · cases l0 <;> rfl

section
variable {k0 k1 : List Nat} (read0 : l0 = some k0) (read1 : l1 = some k1)
include read0 read1

/-- A list that names another partition's queue rejects it; else the list that the frame's state does not need is aborted (06 R178). -/
theorem sidBranch_of_foreign (foreign : (u.base.foreign x.part k0 || u.base.foreign x.part k1) = true) :
    w.sidBranch id q seq = u.reject id x 0x0508 := by
  subst read0 read1
  simp only [Work.sidBranch, ready, kept, dropped, top, first, second, clean, foreign, Bool.false_eq_true, if_false, if_true]

theorem sidBranch_of_own (own : (u.base.foreign x.part k0 || u.base.foreign x.part k1) = false) {v : Work} {y : Wb}
    (aborted : (if f.dropped then k1 else k0).foldl (Work.branchOne id) (u, x) = (v, y)) :
    w.sidBranch id q seq = v.setWb id ({ y with prodMask := if f.dropped then 2 else 1 }.endWith 1) := by
  subst read0 read1
  simp only [Work.sidBranch, ready, kept, dropped, top, first, second, clean, own, Work.branchTo, aborted, Bool.false_eq_true, if_false]

end

end

end

end

/-- Settles O34: each Siding waybill by the top frame, its car's place or its lists. -/
theorem sidingCarsComeAndGo : Obligations.SidingCarsComeAndGo := by
  refine ⟨⟨fun s id q seq n lo hi x d w0 runs fetched ready car blocks => ⟨fun order => ?pushOrder, fun f top => ⟨fun outside => ?pushOutside,
      fun fits first side => ?pushInside⟩⟩,
    fun s id q seq n x runs ready => ⟨fun order => ?closeOrder, fun f g top closed => ?close⟩,
    fun s id q seq n lo hi x d runs ready car blocks => ⟨fun order => ?popOrder, fun f top => ⟨fun outside => ?popOutside,
      fun inside dropped area => ?popDropped, fun inside held rq a b l hrq ha read w c y written raised => ?pop⟩⟩,
    fun s id q seq n x runs => ⟨fun ready => ⟨fun f top => ?release, fun order => ?releaseOrder⟩, fun ready => ?clear⟩⟩,
    fun s id q seq n x d0 d1 runs ready kept dropped => ⟨fun order => ?branchOrder, fun f w1 w l0 l1 bad0 bad1 top first second =>
      ⟨fun poison => ?branchPoison, fun clean malformed => ?branchMalformed, fun clean k0 k1 read0 read1 =>
        ⟨fun foreign => ?branchForeign, fun own v y aborted => ?branch⟩⟩⟩,
    fun w c d malformed => skipList_of_malformed w c d malformed, fun w w' c d l bad read => length_skipList read⟩
  case pushOrder => exact does_of_fetched rfl runs fetched (sidPush_of_order ready car order)
  case pushOutside => exact does_of_fetched rfl runs fetched (sidPush_of_outside ready car blocks top outside)
  case pushInside =>
    have inside : ¬(hi > f.full - f.tarea ∨ lo = 0 ∨ (f.recomp = true ∧ lo < f.keep ∧ hi > f.keep)) := by
      simpa only [not_or] using ⟨Nat.not_lt.mpr fits, first, side⟩
    exact ⟨fun dropped area => does_of_fetched rfl runs fetched (sidPush_of_dropped ready car blocks top inside dropped area),
      fun held w l rq a packed hrq ha => does_of_fetched rfl runs fetched (sidPush_of_held ready car blocks top inside held packed hrq ha)⟩
  case closeOrder => exact does_of_unitRun rfl runs (sidClose_of_order ready order)
  case close => exact does_of_unitRun rfl runs (sidClose_of_top ready top closed)
  case popOrder => exact does_of_unitRun rfl runs (sidPop_of_order ready car order)
  case popOutside => exact does_of_unitRun rfl runs (sidPop_of_outside ready car blocks top outside)
  case popDropped => exact does_of_unitRun rfl runs (sidPop_of_dropped ready car blocks top inside dropped area)
  case pop => exact does_of_unitRun rfl runs (sidPop_of_held ready car blocks top inside held hrq ha read written raised)
  case release => exact does_of_unitRun rfl runs (sidRelease_of_top ready top)
  case releaseOrder => exact does_of_unitRun rfl runs (sidRelease_of_order ready order)
  case clear => exact does_of_unitRun rfl runs (sidClear_of_ready ready)
  case branchOrder => exact does_of_unitRun rfl runs (sidBranch_of_order ready kept dropped order)
  case branchPoison => exact does_of_unitRun rfl runs (sidBranch_of_poison ready kept dropped top first second poison)
  case branchMalformed => exact does_of_unitRun rfl runs (sidBranch_of_malformed ready kept dropped top first second clean malformed)
  case branchForeign => exact does_of_unitRun rfl runs (sidBranch_of_foreign ready kept dropped top first second clean read0 read1 foreign)
  case branch => exact does_of_unitRun rfl runs (sidBranch_of_own ready kept dropped top first second clean read0 read1 own aborted)

end Sys2Proof.Proofs
end

section
/-! Maxima and count reports on their way to the history and the watch, and the history step as a register (07 R193, R196, R200, R207). -/

namespace Sys2Proof.Proofs

open Sys2Proof Sys2Proof.Machine Sys2Proof.Laws

section
variable {w : Work} {during : Bool} {m : AmaxMsg} {rest : List AmaxMsg} (oldest : w.scale.amax = m :: rest)
include oldest

/-- The oldest maximum is held during its entry's refresh, for the row after it, and else applied to the row of the history step (07 R193, R196). -/
theorem amaxRecord_of_refreshing (refreshing : (during && (w.stepRun? m.part).isSome) = true) :
    w.amaxRecord during =
      { w with scale := { w.scale with
        amax := rest, heldAmax := w.scale.heldAmax ++ [{ m with row := w.base.hstep m.part + 1 }] } } := by
  simp only [Work.amaxRecord, oldest]
  exact if_pos refreshing

theorem amaxRecord_of_settled (settled : (during && (w.stepRun? m.part).isSome) = false) :
    w.amaxRecord during =
      { w with
        base := w.base.amaxApply m.part m.entry m.channel m.value (w.base.hstep m.part), scale := { w.scale with amax := rest } } := by
  simp only [Work.amaxRecord, oldest]
  exact if_neg (ne_true_of_eq_false settled)

end

section
variable {w : Work} {m : AmaxMsg} {b : Base} (first : w.scale.heldAmax.find? (fun m => (w.stepRun? m.part).isNone) = some m)
  (applied : b = (w.base.amaxApply m.part m.entry m.channel m.value m.row).countSat 1 32 32 .DOCK_SCL_REFRESH 40 0 m.part)
include first applied

/-- The oldest held maximum whose refresh has ended is applied and counted; the first of its entry and step raises SCL.LATE (07 R196). -/
theorem amaxHeldApply_of_raised (raised : w.scale.lateRaised.contains (m.part, m.entry) = true) :
    w.amaxHeldApply = { w with base := b, scale := { w.scale with heldAmax := w.scale.heldAmax.erase m } } := by
  subst applied
  simp only [Work.amaxHeldApply, first, raised, Bool.not_true, Bool.false_eq_true, if_false]

theorem amaxHeldApply_of_unraised (unraised : w.scale.lateRaised.contains (m.part, m.entry) = false) :
    w.amaxHeldApply =
      { w with
        base := (b.sclEvent m.part 7 0x0608 (b.dieReq m.part (b.histAddr m.part m.entry)).src).timedHit m.part
        scale := { w.scale with
          heldAmax := w.scale.heldAmax.erase m, lateRaised := (m.part, m.entry) :: w.scale.lateRaised } } := by
  subst applied
  simp only [Work.amaxHeldApply, first, unraised, Bool.not_false, if_true]

end

section
variable {w : Work} {during : Bool} {m : WatchMsg} {rest : List WatchMsg} (oldest : w.scale.watch = m :: rest)
include oldest

/-- The oldest count report is held while STEP processing evaluates its record, and else added to it (07 R200). -/
theorem watchReport_of_evaluating (evaluating : (during && (w.stepRun? m.part).isSome) = true) :
    w.watchReport during = { w with scale := { w.scale with watch := rest, heldWatch := w.scale.heldWatch ++ [m] } } := by
  simp only [Work.watchReport, oldest]
  exact if_pos evaluating

theorem watchReport_of_settled (settled : (during && (w.stepRun? m.part).isSome) = false) :
    w.watchReport during = { w with base := w.base.watchApply m.part m.counts, scale := { w.scale with watch := rest } } := by
  simp only [Work.watchReport, oldest]
  exact if_neg (ne_true_of_eq_false settled)

end

/-- The end of STEP processing adds the reports that it held, and holds them no longer (07 R200). -/
theorem closeStep_base (w : Work) (p : Nat) :
    (w.closeStep p).base = (w.scale.heldWatch.filter fun m => m.part == p).foldl (fun (b : Base) m => b.watchApply p m.counts) w.base := rfl

theorem closeStep_heldWatch (w : Work) (p : Nat) : (w.closeStep p).scale.heldWatch = w.scale.heldWatch.filter fun m => m.part != p := rfl

/-- The history step is the whole of its register's one field (07 R207). -/
theorem newValue_hstep (v : Device) (d u i j : Nat) {x : Nat} (hx : x < 2 ^ 64) :
    fget (v.newValue .DOCK_SCL_HSTEP d u i j x) 0 32 = x % 2 ^ 32 := by
  have field : (⟨0, 32, .rw, 0⟩ : Fld) ∈ Reg.DOCK_SCL_HSTEP.spec.fields := List.mem_singleton.mpr rfl
  have written : fget (v.newValue .DOCK_SCL_HSTEP d u i j x) 0 32 = x / 2 ^ 0 % 2 ^ 32 :=
    fget_writeFields _ _ (v.base.rd .DOCK_SCL_HSTEP d u i j) x v.base.locked field hx (by decide) (List.pairwise_singleton _ _)
  rwa [pow_zero, Nat.div_one] at written

/-- A write of DOCK_SCL_HSTEP by a step number is the write of that number (07 R207). -/
theorem regApply_hstep_number (v : Device) (m p : Nat) {n : Nat} (hn : n < 2 ^ 32) :
    v.regApply m ⟨.DOCK_SCL_HSTEP, 40, 0, p, 0⟩ (n % 2 ^ 64) (2 ^ 64 - 1) = v.onWork fun w => w.hstepWrite p n := by
  have number : n % 2 ^ 64 % 2 ^ 32 = n := by omega
  rw [regApply_hstep, newValue_hstep v 40 0 p 0 (Nat.mod_lt _ (Nat.two_pow_pos 64)), number]

section
variable {w : Work} {p n : Nat} (part : p < 8)
include part

/-- A step number written is held during STEP processing, and else stored (07 R207). -/
theorem hstepWrite_of_stepping (hn : n < 2 ^ 32) (stepping : (w.stepRun? p).isSome = true) :
    w.hstepWrite p n = { w with scale := { w.scale with heldHstep := Map.put p n w.scale.heldHstep } } := by
  simp only [Work.hstepWrite, part, stepping, if_true, Nat.mod_eq_of_lt hn]

theorem hstepWrite_of_settled (settled : (w.stepRun? p).isSome = false) :
    w.hstepWrite p n = { w with base := w.base.wf 0 32 n .DOCK_SCL_HSTEP 40 0 p } := by
  simp only [Work.hstepWrite, part, settled, if_true, Bool.false_eq_true, if_false]

end

/-- Settles O27: each message by whether its partition's STEP processing holds it, and the history step by the register's write. -/
theorem maximaAndCountsReachTheirRecords : Obligations.MaximaAndCountsReachTheirRecords := by
  refine ⟨fun s during m rest ready oldest => ⟨fun refreshing => ?maximumHeld, fun settled => ?maximum⟩,
    fun s m b ready first applied => ⟨fun raised => ?late, fun unraised => ?firstLate⟩,
    fun s during m rest ready oldest => ⟨fun evaluating => ?reportHeld, fun settled => ?report⟩,
    fun w p => ⟨closeStep_base w p, closeStep_heldWatch w p⟩, fun s rt p n m v part hn h => ?historyStep⟩
  case maximumHeld => exact does_of_ready rfl ready (amaxRecord_of_refreshing oldest refreshing)
  case maximum => exact does_of_ready rfl ready (amaxRecord_of_settled oldest settled)
  case late => exact does_of_ready rfl ready (amaxHeldApply_of_raised first applied raised)
  case firstLate => exact does_of_ready rfl ready (amaxHeldApply_of_unraised first applied unraised)
  case reportHeld => exact does_of_ready rfl ready (watchReport_of_evaluating oldest evaluating)
  case report => exact does_of_ready rfl ready (watchReport_of_settled oldest settled)
  case historyStep =>
    have leaves {w : Work} (hw : v.work.hstepWrite p n = w) : Leaves (.hstepWrite rt p n) s ((v.onWork fun _ => w).answer .ok) :=
      leaves_of_writeReg h rfl (regApply_hstep_number v m p hn) hw
    exact ⟨fun stepping => leaves (hstepWrite_of_stepping part hn stepping), fun settled => leaves (hstepWrite_of_settled part settled)⟩

end Sys2Proof.Proofs
end

section
/-! Gradient pieces, slices, tie sums and exports of the update units (08 R215, R219, R220, R225, R238, R240, R241). -/

namespace Sys2Proof.Proofs

open Sys2Proof Sys2Proof.Machine Sys2Proof.Laws

section
variable {w u : Work} {m st o : Nat} {p : GradPiece} (oldest : w.upd.flying.find? (w.base.inQuartet m) = some p)
  (place : w.base.place p.addr = .stack st o) (landed : u = { w with upd := { w.upd with flying := w.upd.flying.erase p } })
include oldest place landed

/-- The oldest piece for a quartet is judged by its stack's partition, its step and the pieces that the quartet holds (08 R219). -/
theorem intakePiece_of_foreign (foreign : u.base.partOfStack st ≠ some p.part) : w.intakePiece m = u.freePieces m p.spender 1 := by
  subst landed
  simp only [Work.intakePiece, oldest, place]
  exact if_pos foreign

section
variable (own : u.base.partOfStack st = some p.part)
include own

theorem intakePiece_of_faulty
    (faulty : older 16 p.tag (u.base.stepOf p.part) = true ∨ p.tag = u.base.stepOf p.part % 65536 ∧ (u.pool m).any p.same = true) :
    w.intakePiece m = u.badPiece m st p := by
  subst landed
  simp only [Work.intakePiece, oldest, place, own, ne_eq, not_true, if_false]
  rcases faulty with past | twice
  · exact if_pos past
  · exact (if_congr Iff.rfl rfl (if_pos twice)).trans (ite_self _)

theorem intakePiece_of_sound (present : older 16 p.tag (u.base.stepOf p.part) = false)
    (single : ¬(p.tag = u.base.stepOf p.part % 65536 ∧ (u.pool m).any p.same = true)) :
    w.intakePiece m = u.setPool m (u.pool m ++ [{ p with time := u.base.time }]) := by
  subst landed
  simp only [Work.intakePiece, oldest, place, own, ne_eq, not_true, if_false]
  exact (if_neg (ne_true_of_eq_false present)).trans (if_neg single)

end

end

section
variable {w : Work} {id q seq n : Nat} {x : Wb} {d : Desc} (applies : w.applyOf id q seq = some (x, n, d))
include applies

/-- A slice that may not enter, or whose state is far and finds every far-wait slot taken, stays where it is (08 R219, R238). -/
theorem sliceUpdate_of_barred {j : Nat} (barred : w.sliceMay n x d q seq j = false) : w.sliceUpdate id q seq j = w := by
  simp only [Work.sliceUpdate, applies, barred, Bool.false_eq_true, if_false]

section
variable {j : Nat} (may : w.sliceMay n x d q seq j = true)
include may

theorem sliceUpdate_of_full (far : w.base.sliceFar x = true) (full : 512 ≤ (w.farSlots n).length) : w.sliceUpdate id q seq j = w := by
  simp only [Work.sliceUpdate, applies, may, far, Nat.not_lt.mpr full, if_true, if_false]

section
variable {u : Work} {g : List Nat} (gradient : w.takeGradient n (w.base.cx id x) x j (d.base + 4096 * j) = (u, g))
include gradient

/-- A slice that may enter takes its gradient to the lanes, or to a free far-wait slot where its state is far (08 R225, R238). -/
theorem sliceUpdate_of_near (near : w.base.sliceFar x = false) : w.sliceUpdate id q seq j = u.sliceLanes id n x j (d.base + 4096 * j) g := by
  simp only [Work.sliceUpdate, applies, may, near, gradient, Bool.false_eq_true, if_true, if_false]

theorem sliceUpdate_of_far (far : w.base.sliceFar x = true) (room : (w.farSlots n).length < 512) :
    w.sliceUpdate id q seq j = u.setFarSlots n (u.farSlots n ++ [{ queue := q, seq := seq, slice := j, grad := g }]) := by
  simp only [Work.sliceUpdate, applies, may, far, room, gradient, if_true]

end

end

/-- A return takes its slice out of the far-wait slot and to the lanes (08 R238). -/
theorem farWaitReturn_of_waiting {j : Nat} {f : FarSlice} (waits : (w.farSlots n).find? (·.isOf q seq j) = some f) :
    w.farWaitReturn id q seq j =
      (w.setFarSlots n ((w.farSlots n).filter fun g => !g.isOf q seq j)).sliceLanes id n x j (d.base + 4096 * j) f.grad := by
  simp only [Work.farWaitReturn, applies, waits]

section
variable {u : Work} {y : Wb} (entered : (w.base.slicesOn n d).foldl (fun (w : Work) c => w.sliceUpdate id q seq c.1) w = u)
  (window : u.wb? id q seq = some y)
include entered window

/-- After every ready slice, the waybill ends if no slice of its stack is left (08 R215). -/
theorem updApply_of_all_done (all : (w.base.slicesOn n d).all (fun c => (Map.find c.1 (u.slicesDone x)).isSome) = true) :
    w.updApply id q seq = u.setWb id (y.endWith 1) := by
  simp only [Work.updApply, applies, entered, window]
  exact if_pos all

theorem updApply_of_some_left (left : (w.base.slicesOn n d).all (fun c => (Map.find c.1 (u.slicesDone x)).isSome) = false) :
    w.updApply id q seq = u := by
  simp only [Work.updApply, applies, entered, window]
  exact if_neg (ne_true_of_eq_false left)

end

end

section
variable {w : Work} {id q seq : Nat} {x : Wb} (window : w.wb? id q seq = some x) (phase : x.phase = .running) (going : x.aborting = false)
include window phase going

/-- UPD_TIESUM stores the sum of its next 1,024 elements and ends with the last of them (08 R240). -/
theorem tieSum_of_running (op : x.opcode = 0x41) {a o : Desc} (area : x.desc 0 = some a) (output : x.desc 2 = some o)
    (left : 1024 * x.next < a.d0) {u : Work} {rows : List (List Nat)}
    (read : w.tieRows (w.base.cx id x) a (1024 * x.next) (min 1024 (a.d0 - 1024 * x.next)) = (u, rows)) {b : Base} {y z : Wb}
    (stored : (u.base.storeBytes (w.base.cx id x).req (o.base + 4 * (1024 * x.next)) ((tieAdd rows).flatMap (leBytes 4))).tieFinite id x x.next
      (tieAdd rows) = (b, y)) (counted : z = { y with next := y.next + 1, done := y.done + 1 }) :
    w.tieSum id q seq = Work.setWb { u with base := b } id (if a.d0 ≤ 1024 * z.next then z.endWith 1 else z) := by
  subst counted
  simp only [Work.tieSum, window, area, output, phase, op, going, left, read, stored, Bool.not_false, and_self, if_true, ge_iff_le]

section
variable (op : x.opcode = 0x42) {n : Nat} (unit : updOf id = some n) {d o : Desc} (source : x.desc 0 = some d) (output : x.desc 1 = some o)
include op unit source output

/-- UPD_EXPORT writes the record of its stack's next slice, and ends with the last, or at once where none is left (08 R241). -/
theorem updExport_of_none_left (none : (w.base.slicesOn n d)[x.next]? = none) : w.updExport id q seq = w.setWb id (x.endWith 1) := by
  simp only [Work.updExport, window, unit, source, output, phase, op, going, none, Bool.not_false, and_self, if_true]

theorem updExport_of_next {j a : Nat} (next : (w.base.slicesOn n d)[x.next]? = some (j, a)) {u : Work} {l : List (Byte × Bool)}
    (record : w.exportRecord (w.base.cx id x) x j a = (u, l)) {z : Wb} (counted : z = { x with next := x.next + 1, done := x.done + 1 }) :
    w.updExport id q seq =
      Work.setWb { u with base := u.base.store (w.base.cx id x).req (o.base + j * l.length) l } id
        (if z.next = (w.base.slicesOn n d).length then z.endWith 1 else z) := by
  subst counted
  simp only [Work.updExport, window, unit, source, output, phase, op, going, next, record, Bool.not_false, and_self, if_true]

end

end

/-- Settles O41: each piece by its partition, step and pool, each slice by where its state lies, and each waybill by whether it is at its last. -/
theorem updateUnitsUpdateSlices : Obligations.UpdateUnitsUpdateSlices := by
  refine ⟨fun s m st o p w serves oldest place landed => ⟨fun foreign => ?foreign, fun own => ⟨fun faulty => ?faulty, fun present single => ?held⟩⟩,
    fun s m ready => ?late,
    fun s id q seq n x d runs applies => ⟨fun j => ⟨fun barred => ?barred, fun may w g gradient => ⟨fun near => ?near, fun far full => ?full,
      fun far room => ?far⟩, fun f waits => ?back⟩, fun w y entered window => ⟨fun all => ?allDone, fun left => ?someLeft⟩⟩,
    fun s id q seq k x y z a o w rows b running area output left hk read stored counted => ?tieSum,
    fun s id q seq n x d o running unit source output => ?exports⟩
  case foreign => exact does_of_doWork rfl serves (intakePiece_of_foreign oldest place landed foreign)
  case faulty => exact does_of_doWork rfl serves (intakePiece_of_faulty oldest place landed own faulty)
  case held => exact does_of_doWork rfl serves (intakePiece_of_sound oldest place landed own present single)
  case late => exact does_of_ready rfl ready rfl
  case barred => exact passes_of_unitRun rfl runs (sliceUpdate_of_barred applies barred)
  case near => exact does_of_unitRun rfl runs (sliceUpdate_of_near applies may gradient near)
  case full => exact passes_of_unitRun rfl runs (sliceUpdate_of_full applies may far full)
  case far => exact does_of_unitRun rfl runs (sliceUpdate_of_far applies may gradient far room)
  case back => exact does_of_unitRun rfl runs (farWaitReturn_of_waiting applies waits)
  case allDone => exact does_of_unitRun rfl runs (updApply_of_all_done applies entered window all)
  case someLeft => exact does_of_unitRun rfl runs (updApply_of_some_left applies entered window left)
  case tieSum =>
    obtain ⟨runs, window, phase, op, going⟩ := running
    subst hk
    have sum := tieSum_of_running window phase going op area output left read stored counted
    exact ⟨fun last => does_of_unitRun rfl runs (by rw [sum, if_pos last]),
      fun more => does_of_unitRun rfl runs (by rw [sum, if_neg (Nat.not_le.mpr more)])⟩
  case exports =>
    obtain ⟨runs, window, phase, op, going⟩ := running
    refine ⟨fun none => does_of_unitRun rfl runs (updExport_of_none_left window phase going op unit source output none),
      fun j a w l z next record counted => ?_⟩
    have copied := updExport_of_next window phase going op unit source output next record counted
    exact ⟨fun last => does_of_unitRun rfl runs (by rw [copied, if_pos last]), fun more => does_of_unitRun rfl runs (by rw [copied, if_neg more])⟩

end Sys2Proof.Proofs
end

section
/-! STATFEED and PRECOND: their next tiles, and their replay (09 R252 to R254, R257, R259, 03 R93, 02 R61). -/

namespace Sys2Proof.Proofs

open Sys2Proof Sys2Proof.Machine Sys2Proof.Laws

section
variable {w : Work} {id q seq : Nat} {ups : List (Nat × Nat)} {x : Wb}
variable (window : w.wb? id q seq = some x) (phase : x.phase = .running) (going : x.aborting = false)
include window phase going

section
variable (op : x.opcode = 0x0A)
include op

/-- A STATFEED that started without a product is one whose mode is OFF, and ends DONE (09 R252, R260). -/
theorem statfeed_of_no_job (off : w.jobOf id q seq = none) : w.statfeed id q seq ups = w.setWb id (x.endWith 1) := by
  simp only [Work.statfeed, window, phase, op, going, off, Bool.not_false, and_self, if_true]

section
variable {d : Desc} (stage : x.desc 0 = some d) {j : Job} (product : w.jobOf id q seq = some j) (here : j.moved = false)
include stage product here

/-- Without a free set it waits, and on a set it forms its next piece (09 R252 to R254). -/
theorem statfeed_of_no_set (unset : w.productSet id x j = none) : w.statfeed id q seq ups = w := by
  simp [Work.statfeed, window, phase, op, going, product, stage, here, unset]

theorem statfeed_of_set (more : x.next < x.sfCount) {k : Nat} (set : w.productSet id x j = some k) {u : Work} {y : Wb} {lane : Lane} {trap : TrapAt}
    (piece : w.feedPiece id (w.base.cx id x true) x d x.next ups = (u, y, lane, trap)) :
    w.statfeed id q seq ups = u.productDone id y j k x.next (x.next + 1) lane trap (decide (x.next + 1 = y.sfCount)) := by
  simp [Work.statfeed, window, phase, op, going, product, stage, here, more, set, piece]

end

end

section
variable (op : x.opcode = 9) {d r o : Desc} (stage : x.desc 0 = some d) (roots : x.desc 1 = some r) (output : x.desc 3 = some o)
include op stage roots output

/-- A PRECOND that passes its block through copies its next tile (09 R259). -/
theorem precond_of_pass (passes : x.preFull = false) (more : x.next < preTiles d) : w.precond id q seq ups = w.prePass id x d o x.next := by
  simp [Work.precond, window, phase, op, going, stage, roots, output, passes, more]

section
variable (full : x.preFull = true) {j : Job} (product : w.jobOf id q seq = some j) (here : j.moved = false)
include full product here

/-- One that multiplies waits without a free set, and on a set forms its next output tile (09 R257). -/
theorem precond_of_no_set (unset : w.productSet id x j = none) : w.precond id q seq ups = w := by
  simp [Work.precond, window, phase, op, going, stage, roots, output, full, product, here, unset]

theorem precond_of_set (more : x.next < 2 * preTiles d) {k : Nat} (set : w.productSet id x j = some k) {u : Work} {y : Wb}
    {lane : Lane} {trap : TrapAt} (formed : w.preTile id (w.base.cx id x true) x d r o x.next ups = (u, y, lane, trap)) :
    w.precond id q seq ups = u.productDone id y j k x.next (x.next + 1) lane trap (decide (x.next + 1 = 2 * preTiles d)) := by
  simp [Work.precond, window, phase, op, going, stage, roots, output, full, more, product, here, set, formed]

end

end

end

/-- How many tiles a STATFEED or PRECOND forms: its pieces, or the output tiles of both phases (09 R252, R257). -/
def statUnits (x : Wb) : Nat :=
  if x.opcode = 0x0A then x.sfCount else match x.desc 0 with | some d => 2 * preTiles d | none => 0

section
variable {w : Work} {id q seq n m k : Nat} {ups : List (Nat × Nat)} {x y : Wb} {j : Job} {u : Work} {bad : Bool} {trap : TrapAt}
variable (hx : w.wb? id q seq = some x)
include hx

/-- On a free tile the whole STATFEED or PRECOND runs again, and ends (03 R93). -/
theorem replayStats_of_tile (hj : w.jobOf id q seq = some j) (tile : w.base.tileOf id = some (n, m)) (phase : x.phase = .running)
    (going : x.aborting = false) (failed : j.failed = true) (formed : j.moved = true ∨ x.done = statUnits x)
    (free : w.replayTileFor id x false = some k)
    (replayed : Work.replayProducts id n k ups (statUnits x) 0 w x.replayed = (u, y, bad, trap)) :
    w.replayStats id q seq ups = u.replayEnd id n m k j y bad trap 0x01 := by
  have due : (j.failed && x.phase == .running && !x.aborting && (j.moved || x.done == statUnits x)) = true := by
    rcases formed with moved | whole
    · simp [phase, going, failed, moved]
    · simp [phase, going, failed, whole]
  have again : w.replayStats id q seq ups =
      (let r := Work.replayProducts id n k ups (statUnits x) 0 w x.replayed
       r.1.replayEnd id n m k j r.2.1 r.2.2.1 r.2.2.2 0x01) := by
    simp only [Work.replayStats, hx, hj, tile, free]
    exact if_pos due
  rw [again, replayed]

section
variable (op : x.opcode = 9 ∨ x.opcode = 0x0A)
include op

/-- A replay of either that fences no tile leaves its product ended. -/
theorem replay_of_stats_ended (own : j.members = [(q, seq)]) {t : Work} {status : Nat}
    (h : w.replayStats id q seq ups = (t.endJob id j status, none)) : w.replay id q seq ups = t.endJob id j status := by
  have last : j.members.getLast? = some (q, seq) := by simp [own]
  have rests := runAgain_of_not_handed fun y hy => .inr (endJob_ends_last (w := t) (id := id) (status := status) last (y := y) hy)
  rcases op with op | op <;> simp [Work.replay, hx, op, h, rests]

/-- One that failed too fences the tile (13 R366). -/
theorem replay_of_stats_fenced {t : Work} (h : w.replayStats id q seq ups = (t, some (n, m))) : w.replay id q seq ups = t.fenceItself n m := by
  rcases op with op | op <;> simp [Work.replay, hx, op, h]

end

end

/-- Settles O38: a statistic or preconditioned product forms its next tile, waits for a set, or ends; its replay ends as the replay's tiles do. -/
theorem statisticsAndPreconditioningRun : Obligations.StatisticsAndPreconditioningRun := by
  refine ⟨fun s id q seq ups x d w0 running fetched stage => ?statfeed,
    fun s id q seq ups x d r o w0 running fetched stage roots output => ?precond, ?replay⟩
  case statfeed =>
    obtain ⟨runs, listed, phase, op, going⟩ := running
    have window := (wb?_of_fetched fetched q seq).trans listed
    refine ⟨fun off => does_of_fetched rfl runs fetched (statfeed_of_no_job window phase going op off), fun j product here more => ?_⟩
    exact ⟨fun unset => does_of_fetched rfl runs fetched (statfeed_of_no_set window phase going op stage product here unset),
      fun k w y lane trap set piece => does_of_fetched rfl runs fetched (statfeed_of_set window phase going op stage product here more set piece)⟩
  case precond =>
    obtain ⟨runs, listed, phase, op, going⟩ := running
    have window := (wb?_of_fetched fetched q seq).trans listed
    refine ⟨fun passes more => does_of_fetched rfl runs fetched (precond_of_pass window phase going op stage roots output passes more),
      fun full more j product here => ?_⟩
    exact ⟨fun unset => does_of_fetched rfl runs fetched (precond_of_no_set window phase going op stage roots output full product here unset),
      fun k w y lane trap set formed =>
        does_of_fetched rfl runs fetched (precond_of_set window phase going op stage roots output full product here more set formed)⟩
  case replay =>
    intro s id q seq n m units k ups x y z j w b c bad trap running op _ hj tile failed own hunits formed free replayed hb hc hz d hd
    obtain ⟨runs, hx, phase, -, going⟩ := running
    obtain rfl : units = statUnits x := hunits
    have does {u : Work} (hu : s.work.replay id q seq ups = u) : Does (.abftReplay id q seq ups) s u := does_of_unitRun rfl runs hu
    have stats := replayStats_of_tile hx hj tile phase going failed formed free replayed
    have reported : replayReported w.base n m k j y bad = if bad then c else d := by
      rw [hd, hc, hb]
      cases bad <;> cases hm : j.moved <;> simp [replayReported, hm, own]
    cases bad with
    | true =>
      refine does (replay_of_stats_fenced hx op (stats.trans ?_))
      rw [replayEnd_of_failed, reported, hz]
      rfl
    | false =>
      cases trap with
      | none =>
        refine does (replay_of_stats_ended hx op own (stats.trans ?_))
        rw [replayEnd_of_matched, reported, hz]
        rfl
      | some tr =>
        refine does (replay_of_stats_ended hx op own (stats.trans ?_))
        rw [replayEnd_of_trapped w id n m k j y 0x01 rfl, reported, hz]
        rfl

end Sys2Proof.Proofs
end

section
/-! The curvature engines: installation, delta pieces, folds and the feed limit (09 R263 to R267). -/

namespace Sys2Proof.Proofs

open Sys2Proof Sys2Proof.Machine Sys2Proof.Laws

/-- INSTALL written with 1 is an installation of the engine whose register it is (09 R263). -/
theorem regApply_install (v : Device) (m e : Nat) :
    v.regApply m ⟨.CRV_TTCTL, cd (e / 4), e % 4, 0, 0⟩ (1 % 2 ^ 64) (2 ^ 64 - 1) = v.onWork fun w => w.timetableInstall e := by
  simp [regApply_ttctl, cd, Nat.div_add_mod]

section
variable {w : Work} {e : Nat}

/-- An engine without a partition, with waybills in its window or running, or with held pieces refuses an installation (09 R263). -/
theorem timetableInstall_of_refused
    (refused : w.base.partOfCrv e = none ∨ (∃ x ∈ (w.unit (crvUnit e)).window, x.phase ≠ .issued) ∨ (w.crv e).held ≠ []) :
    w.timetableInstall e = { w with base := w.base.installRefused e } := by
  unfold Work.timetableInstall
  cases part : w.base.partOfCrv e with
  | none => rfl
  | some p =>
    have busy : (∃ x ∈ (w.unit (crvUnit e)).window, x.phase ≠ .issued) ∨ (w.crv e).held ≠ [] := refused.resolve_left (by simp [part])
    exact if_pos (by simpa using busy)

/-- Any other reads its records and keeps what it found (09 R263). -/
theorem timetableInstall_of_free {p : Nat} (part : w.base.partOfCrv e = some p) (idle : ∀ x ∈ (w.unit (crvUnit e)).window, x.phase = .issued)
    (empty : (w.crv e).held = []) {b : Base} {r : Option (Nat × Nat) × List (List Byte) × List (List Byte)}
    (read : w.base.installRecords e p = (b, r)) :
    w.timetableInstall e = Work.setCrv { w with base := b } e { w.crv e with installing := some r } := by
  have free : ¬((w.unit (crvUnit e)).window.any (fun x => x.phase != .issued) = true ∨ (!(w.crv e).held.isEmpty) = true) := by
    simpa [empty] using idle
  simp only [Work.timetableInstall, part, read]
  exact if_neg free

/-- The oldest piece on its way is taken from there, and judged in the step of its partition: discarded or held (09 R265). -/
theorem deltaPiece_of_flying {d : DeltaPiece} (oldest : w.curv.flying.find? (fun d => d.engine == e) = some d) {u : Work}
    (landed : u = { w with curv := { w.curv with flying := w.curv.flying.erase d } }) :
    w.deltaPiece e = (u.crvTake e (u.base.stepOf d.part) d).crvFeed e := by
  subst landed
  simp only [Work.deltaPiece, oldest]

theorem crvTake_of_discarded {s cause code : Nat} {d : DeltaPiece} (judged : w.crvJudge e s d = some (cause, code)) :
    w.crvTake e s d = w.crvDiscard e d cause code := by
  simp only [Work.crvTake, judged]

theorem crvTake_of_held {s : Nat} {d : DeltaPiece} (judged : w.crvJudge e s d = none) :
    w.crvTake e s d = w.setCrv e { w.crv e with held := (w.crv e).held ++ [d] } := by
  simp only [Work.crvTake, judged]

section
variable {d : DeltaPiece} {k : Nat} {x : Wb} (foldable : w.foldable e = some (d, k, x)) {sd : List Byte} (block : sd = (w.crv e).sd.getD k [])
  {b : Base} {f : List (List Nat)} {u : Work} (taken : u = Work.foldTakes { w with base := b } e k d)
include foldable block taken

/-- The oldest held piece that may be folded writes both mirrored tiles where every value is finite, and else leaves them (09 R266). -/
theorem pieceFold_of_finite (rows : w.base.foldRows e d sd = (b, f, true)) :
    w.pieceFold e = ((Work.foldCloses { u with base := u.base.foldWritten e d sd f } e d.part x.step k sd).foldCheck e).crvFeed e := by
  subst block taken
  simp only [Work.pieceFold, foldable, rows, if_true]

theorem pieceFold_of_not_finite (rows : w.base.foldRows e d sd = (b, f, false)) :
    w.pieceFold e =
      (((Work.crvOnce { u with base := u.base.foldSkipped e d sd } e d.part 0x010A 0x010A).foldCloses e d.part x.step k sd).foldCheck e).crvFeed
        e := by
  subst block taken
  simp only [Work.pieceFold, foldable, rows, Bool.false_eq_true, if_false]

end

/-- A running CRV_FOLD opens the due folds of its range (09 R264). -/
theorem crvFold_of_running {id q seq : Nat} {x : Wb} (window : w.wb? id q seq = some x) (phase : x.phase = .running) (op : x.opcode = 0x20)
    (going : x.aborting = false) (engine : crvOf id = some e) (unopened : x.aux = []) :
    w.crvFold id q seq =
      ((w.setCrv e ((w.foldDueEntries e x).foldl (CrvSt.openFold q seq) { w.crv e with raised := [] })).setWb id { x with aux := [1] }).foldCheck
        e := by
  simp only [Work.crvFold, window, engine, phase, op, unopened, going, List.isEmpty_nil, Bool.not_false, and_self, if_true]

section
variable {x : Wb} (folds : w.foldWb e = some x)
include folds

/-- Once the feed limit has passed since it started, its open folds close (09 R267). -/
theorem feedLimit_of_passed (passed : x.startTime + w.base.rf 0 32 .CRV_FEEDLIMIT (cd (e / 4)) (e % 4) ≤ w.base.time) :
    w.feedLimit e = (w.closeOpened e x).foldCheck e := by
  simp only [Work.feedLimit, folds, passed, if_true]

theorem feedLimit_of_not_passed (ahead : w.base.time < x.startTime + w.base.rf 0 32 .CRV_FEEDLIMIT (cd (e / 4)) (e % 4)) : w.feedLimit e = w := by
  simp only [Work.feedLimit, folds, Nat.not_le.mpr ahead, if_false]

end

end

/-- Settles O39: each command of an engine by what its register write, its held pieces and its running CRV_FOLD ask. -/
theorem curvatureInstallsAndFolds : Obligations.CurvatureInstallsAndFolds := by
  refine ⟨fun s rt e m v h _ => ?install, fun s e sds tts runs => ⟨fun k i fault => ?installFault, fun sound => ?installed⟩,
    fun s e d w runs oldest landed => ?piece, fun s e k d x b f ok sd w runs foldable block rows taken => ?fold,
    fun s id q seq e x running engine unopened => ?opens,
    fun s e x runs folds => ⟨fun passed => ?limitPassed, fun ahead => ?limitAhead⟩⟩
  case install =>
    have leaves {w : Work} (hw : v.work.timetableInstall e = w) : Leaves (.timetableInstall rt e) s ((v.onWork fun _ => w).answer .ok) :=
      leaves_of_writeReg h rfl (regApply_install v m e) hw
    exact ⟨fun refused => leaves (timetableInstall_of_refused refused),
      fun p b r part idle empty read => leaves (timetableInstall_of_free part idle empty read)⟩
  case installFault => exact does_of_doWork rfl runs (by simp only [Work.timetableEnd, fault])
  case installed => exact does_of_doWork rfl runs (by simp only [Work.timetableEnd, sound])
  case piece =>
    have arrives := deltaPiece_of_flying oldest landed
    exact ⟨fun cause code judged => does_of_doWork rfl runs (by rw [arrives, crvTake_of_discarded judged]),
      fun judged => does_of_doWork rfl runs (by rw [arrives, crvTake_of_held judged])⟩
  case fold =>
    refine ⟨fun finite => ?_, fun infinite => ?_⟩
    · exact does_of_doWork rfl runs (pieceFold_of_finite foldable block taken (by rw [rows, finite]))
    · exact does_of_doWork rfl runs (pieceFold_of_not_finite foldable block taken (by rw [rows, infinite]))
  case opens =>
    obtain ⟨unitRuns, window, phase, op, going⟩ := running
    exact does_of_unitRun rfl unitRuns (crvFold_of_running window phase op going engine unopened)
  case limitPassed => exact does_of_doWork rfl runs (feedLimit_of_passed folds passed)
  case limitAhead => exact passes_of_doWork rfl runs (feedLimit_of_not_passed folds ahead)

end Sys2Proof.Proofs
end

section
/-! The curvature engines: roots and inverses, from their first due block to its conclusion (10 R286, R289 to R294, R297). -/

namespace Sys2Proof.Proofs

open Sys2Proof Sys2Proof.Machine Sys2Proof.Laws

/-- A waybill that does not replay has no record to compare, and reads none (10 R297). -/
theorem refRecord_of_no_replay {x : Wb} (fresh : x.refReplay = false) (w : Work) (id : Nat) : w.refRecord id x = (w, none) := by
  unfold Work.refRecord
  cases x.desc 0 with
  | none => rfl
  | some d => exact if_neg (by simp [fresh])

/-- A refresh waybill that has begun, and that no abort has named, refreshes its next due block while its engine has no pair to publish. -/
theorem refreshes_next {w : Work} {e : Nat} {x : Wb} (phase : x.phase = .running) (op : x.opcode = 0x21 ∨ x.opcode = 0x22)
    (begun : x.aux ≠ []) (going : x.aborting = false) (idle : (w.crv e).refresh = none) :
    x.phase = .running ∧ (x.opcode = 0x21 ∨ x.opcode = 0x22) ∧ (!x.aux.isEmpty) = true ∧ (!x.aborting) = true ∧ (w.crv e).refresh = none :=
  ⟨phase, op, by simp [begun], by simp [going], idle⟩

section
variable {w : Work} {id q seq e : Nat} {x : Wb} (window : w.wb? id q seq = some x) (phase : x.phase = .running) (engine : crvOf id = some e)
include window phase engine

/-- A refresh waybill that has not begun passes to its first due block (10 R289, R290). -/
theorem crvRefresh_of_unbegun {opcode : Nat} (op : x.opcode = opcode) (going : x.aborting = false) (unbegun : x.aux = []) :
    w.crvRefresh id q seq opcode = Work.refSkip id e q seq (x.refCount + 1) (w.setWb id { x with aux := [1, 1] }) := by
  simp only [Work.crvRefresh, window, engine, phase, op, unbegun, going, List.isEmpty_nil, Bool.not_false, and_self, if_true]

variable (op : x.opcode = 0x21 ∨ x.opcode = 0x22) (begun : x.aux ≠ [])
include op begun

section
variable (going : x.aborting = false) (idle : (w.crv e).refresh = none) {t sd : List Byte} (entry : w.refEntry e x = some (t, sd)) {w0 : Work}
  {r : Option Nat} (record : w.refRecord id x = (w0, r)) (stop : Option Nat)
include going idle entry record

/-- The refresh of a block whose deadline has passed does not start (10 R292). -/
theorem blockRefresh_of_passed (passed : w0.base.refPassed x = true) :
    w.blockRefresh id q seq stop = w0.refStale id e x sd 1 (if x.opcode = 0x22 then 0 else 0xFF) 0 false r := by
  rw [Work.blockRefresh, window, engine]
  refine (if_pos (refreshes_next phase op begun going idle)).trans ?_
  rw [entry, record]
  refine (if_pos passed).trans ?_
  simp only [beq_iff_eq]

variable (timely : w0.base.refPassed x = false)
include timely

/-- That of a block whose fold is open waits (10 R290). -/
theorem blockRefresh_of_open_fold (waits : w0.refWaits e x t = true) : w.blockRefresh id q seq stop = w0 := by
  rw [Work.blockRefresh, window, engine]
  refine (if_pos (refreshes_next phase op begun going idle)).trans ?_
  rw [entry, record]
  exact (if_neg (ne_true_of_eq_false timely)).trans (if_pos waits)

variable (closed : w0.refWaits e x t = false) {cause at_ : Nat} (hcause : cause = r.elim 0 fun v => v / 2 ^ 28 % 16)
  (hat : at_ = r.elim 0 fun v => v / 2 ^ 32 % 256)
include closed hcause hat

/-- A replayed record that says the deadline had passed before the start says so again (10 R297). -/
theorem blockRefresh_of_recorded_deadline (recorded : cause = 1 ∧ (x.opcode = 0x22 ∨ at_ = 0xFF)) :
    w.blockRefresh id q seq stop = w0.refStale id e x sd 1 (if x.opcode = 0x22 then 0 else 0xFF) 0 false r := by
  cases r with
  | none => exact absurd (hcause.symm.trans recorded.1) Nat.zero_ne_one
  | some v =>
    rw [Option.elim_some] at hcause hat
    subst hcause hat
    rw [← beq_iff_eq (a := x.opcode)] at recorded
    rw [Work.blockRefresh, window, engine]
    refine (if_pos (refreshes_next phase op begun going idle)).trans ?_
    rw [entry, record]
    refine (if_neg (ne_true_of_eq_false timely)).trans <| (if_neg (ne_true_of_eq_false closed)).trans <| (if_pos recorded).trans ?_
    simp only [beq_iff_eq]

/-- Any other computes: without a result it concludes STALE, with one that its record says was HELD STALE too, and else its pair waits to be
published (10 R286, R290, R297). The first read takes its value before the
branches behind it are simplified: with all of them open at once the kernel does not finish comparing them. -/
theorem blockRefresh_of_computed (starts : ¬(cause = 1 ∧ (x.opcode = 0x22 ∨ at_ = 0xFF))) {b1 b2 : Base} {word info : Nat} {limit : Option Nat}
    {u v : Work} {o : RefreshOut} {y : Wb} (readWord : w0.base.dieRead x.part (sdRoots sd) 8 = (b1, some word))
    (readInfo : b1.dieRead x.part (sdRoots sd + 8) 8 = (b2, some info)) (hlimit : limit = if x.hasDeadline && !x.refReplay then stop else none)
    (computed : Work.refCompute { w0 with base := b2 } e x t sd word info limit
      (if cause = 1 then .stopped at_ else if cause = 2 then .held at_ else .free) = (u, o))
    (ran : u.refRan id e x sd (x.opcode == 0x22) o = (v, y)) :
    w.blockRefresh id q seq stop =
      if o.result = 3 then v.refStale id e y sd o.cause o.iters o.colds o.cold r
      else if cause = 2 then v.refStale id e y sd 2 o.iters o.colds o.cold r
      else v.setCrv e { v.crv e with refresh := some (o.pair y limit (v.base.scratchGens e sd)) } := by
  subst hlimit
  rw [← beq_iff_eq (a := x.opcode)] at starts
  rw [Work.blockRefresh, window, engine]
  refine (if_pos (refreshes_next phase op begun going idle)).trans ?_
  rw [entry, record]
  refine (if_neg (ne_true_of_eq_false timely)).trans <| (if_neg (ne_true_of_eq_false closed)).trans ?_
  cases r <;>
    (rw [Option.elim] at hcause hat
     subst hcause hat
     refine (if_neg starts).trans ?_
     rw [readWord]
     simp only [readInfo, computed, ran])

end

section
variable (passed : w.base.refPassed x = true)
include passed

/-- The deadline ends the wait of a pair that was tested: the block concludes STALE with cause HELD (10 R294). -/
theorem refDeadline_of_waited {r : PendingPair} (pair : (w.crv e).refresh = some r) (own : r.queue = q ∧ r.seq = seq) (waited : r.waited = true)
    {y : Wb} {t sd : List Byte} (pending : w.refPending e = some (r, y, t, sd)) :
    w.refDeadline id q seq = w.refStale id e y sd 2 r.iters r.colds r.cold none := by
  simp [Work.refDeadline, window, engine, phase, op, begun, passed, pair, own, waited, pending]

/-- One that was not has its test (10 R294). -/
theorem refDeadline_of_untested {r : PendingPair} (pair : (w.crv e).refresh = some r) (own : r.queue = q ∧ r.seq = seq)
    (untested : r.waited = false) : w.refDeadline id q seq = w.rootPublish e := by
  simp [Work.refDeadline, window, engine, phase, op, begun, passed, pair, own, untested]

/-- The deadline ends the wait for a fold: the block concludes STALE with cause DEADLINE (10 R292). -/
theorem refDeadline_of_open_fold (going : x.aborting = false) (idle : (w.crv e).refresh = none) {t sd : List Byte}
    (entry : w.refEntry e x = some (t, sd)) (waits : w.refWaits e x t = true) :
    w.refDeadline id q seq = w.refStale id e x sd 1 (if x.opcode = 0x22 then 0 else 0xFF) 0 false none := by
  simp [Work.refDeadline, window, engine, phase, op, begun, passed, going, idle, entry, waits]

end

end

section
variable {w w0 : Work} {e word : Nat} {r : PendingPair} {x : Wb} {t sd : List Byte} {rec : Option Nat} {b : Base}
variable (pending : w.refPending e = some (r, x, t, sd)) (record : w.refRecord (crvUnit e) x = (w0, rec))
  (readWord : w0.base.dieRead x.part (sdRoots sd) 8 = (b, some word))
include pending record readWord

/-- What becomes of a pair by the HOLD of the other pair, the deadline and the wait (10 R286, R294). -/
theorem rootPublish_of_pending {b1 : Base} {k : PendingPair} (now : b.pairNow e sd r = (b1, k)) :
    w.rootPublish e =
      if nget word (16 + 16 * (1 - word % 2)) 16 ≠ 0 then
        if r.late || b.refPassed x then Work.refStale { w0 with base := b } (crvUnit e) e x sd 2 r.iters r.colds r.cold rec
        else Work.setCrv { w0 with base := b } e { w0.crv e with refresh := some { r with waited := true } }
      else if r.waited && b.refPassed x then Work.refStale { w0 with base := b } (crvUnit e) e x sd 2 r.iters r.colds r.cold rec
      else Work.refConclude { w0 with base := b1.pairWritten e x sd word k } (crvUnit e) e x sd k.result k.cause k.iters k.cold rec := by
  rw [Work.rootPublish, pending]
  split
  · next none => cases none
  · next found =>
    cases found
    extract_lets id p a
    rw [show w.refRecord id x = _ from record]
    simp only [p, a, readWord, now]
    rfl

section
variable (held : nget word (16 + 16 * (1 - word % 2)) 16 ≠ 0)
include held

/-- While the other pair is held a pair waits (10 R286). -/
theorem rootPublish_of_held (early : r.late = false) (timely : b.refPassed x = false) :
    w.rootPublish e = Work.setCrv { w0 with base := b } e { w0.crv e with refresh := some { r with waited := true } } :=
  (rootPublish_of_pending pending record readWord rfl).trans <| (if_pos held).trans (if_neg (by simp [early, timely]))

/-- Where the deadline stopped its refresh, or has passed since, it does not wait (10 R294). -/
theorem rootPublish_of_held_past_deadline (past : r.late = true ∨ b.refPassed x = true) :
    w.rootPublish e = Work.refStale { w0 with base := b } (crvUnit e) e x sd 2 r.iters r.colds r.cold rec :=
  (rootPublish_of_pending pending record readWord rfl).trans <| (if_pos held).trans (if_pos (by simpa using past))

end

section
variable (free : ¬nget word (16 + 16 * (1 - word % 2)) 16 ≠ 0)
include free

/-- A wait that the deadline has outrun ends STALE, though the other pair is free by now (10 R294). -/
theorem rootPublish_of_outwaited (waited : r.waited = true) (passed : b.refPassed x = true) :
    w.rootPublish e = Work.refStale { w0 with base := b } (crvUnit e) e x sd 2 r.iters r.colds r.cold rec :=
  (rootPublish_of_pending pending record readWord rfl).trans <| (if_neg free).trans (if_pos (by simp [waited, passed]))

/-- Otherwise the free pair is written, SEL flipped and the block concluded (10 R286, R287). -/
theorem rootPublish_of_free (due : r.waited = false ∨ b.refPassed x = false) {b1 : Base} {k : PendingPair} (now : b.pairNow e sd r = (b1, k)) :
    w.rootPublish e =
      Work.refConclude { w0 with base := b1.pairWritten e x sd word k } (crvUnit e) e x sd k.result k.cause k.iters k.cold rec :=
  (rootPublish_of_pending pending record readWord now).trans <| (if_neg free).trans (if_neg (by rcases due with h | h <;> simp [h]))

end

end

/-- Settles O40: each command of a refresh by how far it has come: not begun, at a due block, with a pair to publish, or past its deadline. -/
theorem refreshesConcludeTheirBlocks : Obligations.RefreshesConcludeTheirBlocks := by
  refine ⟨fun s id q seq e x engine unbegun => ⟨fun running => ?root, fun running => ?inv⟩,
    fun s id q seq e op x t sd stop refreshes running engine begun idle entry w0 r cause at_ record hcause hat => ?block,
    fun s e r x t sd w0 rec b word runs pending record readWord => ?publish,
    fun s id q seq e op x refreshes running engine begun passed => ?deadline⟩
  case root =>
    obtain ⟨runs, window, phase, op, going⟩ := running
    exact does_of_unitRun rfl runs (crvRefresh_of_unbegun window phase engine op going unbegun)
  case inv =>
    obtain ⟨runs, window, phase, op, going⟩ := running
    exact does_of_unitRun rfl runs (crvRefresh_of_unbegun window phase engine op going unbegun)
  case block =>
    obtain ⟨runs, window, phase, rfl, going⟩ := running
    refine ⟨fun fresh => ?_, fun passed => ?_, fun timely waits => ?_, fun timely closed stopped atStart => ?_, fun timely closed starts => ?_⟩
    · simpa [eq_comm] using (refRecord_of_no_replay fresh s.work id).symm.trans record
    · exact does_of_unitRun rfl runs (blockRefresh_of_passed window phase engine refreshes begun going idle entry record stop passed)
    · exact does_of_unitRun rfl runs (blockRefresh_of_open_fold window phase engine refreshes begun going idle entry record stop timely waits)
    · exact does_of_unitRun rfl runs (blockRefresh_of_recorded_deadline window phase engine refreshes begun going idle entry record stop timely closed
        hcause hat ⟨stopped, atStart⟩)
    · intro b1 b2 word info limit w w1 o y readWord readInfo hlimit computed ran
      have computes := blockRefresh_of_computed window phase engine refreshes begun going idle entry record stop timely closed hcause hat starts
        readWord readInfo hlimit computed ran
      refine ⟨fun stale => ?_, fun result held => ?_, fun result free => ?_⟩
      · exact does_of_unitRun rfl runs (computes.trans (if_pos stale))
      · exact does_of_unitRun rfl runs (computes.trans ((if_neg result).trans (if_pos held)))
      · exact does_of_unitRun rfl runs (computes.trans ((if_neg result).trans (if_neg free)))
  case publish =>
    exact ⟨fun held early timely => does_of_unitRun rfl runs (rootPublish_of_held pending record readWord held early timely),
      fun held past => does_of_unitRun rfl runs (rootPublish_of_held_past_deadline pending record readWord held past),
      fun free waited passed => does_of_unitRun rfl runs (rootPublish_of_outwaited pending record readWord free waited passed),
      fun free due b1 k now => does_of_unitRun rfl runs (rootPublish_of_free pending record readWord free due now)⟩
  case deadline =>
    obtain ⟨runs, window, phase, rfl, going⟩ := running
    exact ⟨fun r y t sd pair queue number waited pending =>
        does_of_unitRun rfl runs (refDeadline_of_waited window phase engine refreshes begun passed pair ⟨queue, number⟩ waited pending),
      fun r pair queue number untested =>
        does_of_unitRun rfl runs (refDeadline_of_untested window phase engine refreshes begun passed pair ⟨queue, number⟩ untested),
      fun t sd idle entry waits =>
        does_of_unitRun rfl runs (refDeadline_of_open_fold window phase engine refreshes begun passed going idle entry waits)⟩

end Sys2Proof.Proofs
end

section
/-! Frames on their fibres: the check that the engine opposite computes for a frame as sent (11 R307, R308, 12 R342, R347, R348). -/

namespace Sys2Proof.Proofs

open Sys2Proof Sys2Proof.Machine Sys2Proof.Laws

theorem leBytes_succ (n v : Nat) : leBytes (n + 1) v = BitVec.ofNat 8 v :: leBytes n (v / 256) := by
  simp [leBytes, List.range_succ_eq_map, Nat.div_div_eq_div_mul, Nat.pow_succ']

/-- n bytes stand for the number that they were made of, modulo 256 to n (00 R4). -/
theorem ofLe_leBytes (n v : Nat) : ofLe (leBytes n v) = v % 256 ^ n := by
  induction n generalizing v with
  | zero => simp [leBytes, ofLe, Nat.mod_one]
  | succ n ih => rw [leBytes_succ, ofLe, ih, BitVec.toNat_ofNat, Nat.pow_succ' (m := 256), Nat.mod_mul]

/-- A number's bytes read at their offset. -/
theorem fieldAt_leBytes (before after : List Byte) (n v : Nat) :
    fieldAt (before ++ (leBytes n v ++ after)) before.length n = v % 256 ^ n := by
  rw [fieldAt, slice, List.drop_left, List.take_left' (length_leBytes n v), length_leBytes, Nat.sub_self, List.replicate_zero, List.append_nil,
    ofLe_leBytes]

theorem reverseBits_lt (w v : Nat) : reverseBits w v < 2 ^ w := by
  induction w with
  | zero => exact Nat.one_pos
  | succ w ih =>
    rw [reverseBits, List.range_succ, List.foldl_append, Nat.pow_succ]
    change 2 * reverseBits w v + v / 2 ^ w % 2 < _
    omega

/-- A frame check is a number of four bytes: its configuration reverses the register's 32 bits and inverts them (12 R342, R343). -/
theorem frameCheck_lt (l : List Byte) : frameCfg.check l < 256 ^ 4 := Nat.xor_lt_two_pow (reverseBits_lt 32 _) (by decide)

/-- Bytes that end in the check of other bytes and themselves match behind those bytes (12 R347, R348). -/
theorem frameChecked_of_check {l pre onward : List Byte}
    (agrees : (if frameFolded (l ++ leBytes 4 (frameCfg.check (pre ++ l))) then onward else []) = pre) :
    frameChecked (l ++ leBytes 4 (frameCfg.check (pre ++ l))) onward = true := by
  have covered : (l ++ leBytes 4 (frameCfg.check (pre ++ l))).length - 4 = l.length := by simp
  have check := fieldAt_leBytes l [] 4 (frameCfg.check (pre ++ l))
  rw [List.append_nil, Nat.mod_eq_of_lt (frameCheck_lt _)] at check
  rw [frameChecked, agrees, covered, List.take_left, check, beq_self_eq_true]

/-- Bit 4 of byte 0 of a frame of a valid type and virtual channel says whether it was sent in folded mode (11 R307). -/
theorem frameFolded_frameWire (b : Base) (e n : Nat) (x : RingEng) (f : OutFrame) (fold : Bool) (type : f.type < 8) (vc : f.vc < 8) :
    frameFolded (b.frameWire e x n fold f) = fold := by
  obtain ⟨rest, first⟩ : ∃ rest, b.frameWire e x n fold f = leBytes 1 (f.type + 16 * b2n fold + 32 * f.vc) ++ rest :=
    ⟨_, by simp only [Base.frameWire, OutFrame.head, List.append_assoc]; rfl⟩
  have byte : fieldAt (b.frameWire e x n fold f) 0 1 = f.type + 16 * b2n fold + 32 * f.vc := by
    have field := fieldAt_leBytes [] rest 1 (f.type + 16 * b2n fold + 32 * f.vc)
    rw [List.nil_append, List.length_nil] at field
    rw [first, field]
    exact Nat.mod_eq_of_lt (by cases fold <;> simp only [b2n] <;> grind)
  rw [frameFolded, byte, Nat.testBit_eq_decide_div_mod_eq]
  cases fold <;> simp [b2n] <;> omega

/-- The engine opposite computes the check that a frame carries: what it puts before the frame is made of its own ring and position (12 R348). -/
theorem frameChecked_frameWire {b c : Base} {e n : Nat} {x : RingEng} {f : OutFrame} {fold : Bool} (type : f.type < 8) (other : f.type ≠ 3)
    (vc : f.vc < 8) (ring : c.ringId = b.ringId) (opposite : c.ringPos = b.eng e 4 6 .RING_LINKST) :
    frameChecked (b.frameWire e x n fold f) (c.foldPrefix (Nat.xor e 8) n) = true := by
  refine frameChecked_of_check ?_
  have folded := frameFolded_frameWire b e n x f fold type vc
  rw [Base.frameWire] at folded
  rw [folded, Base.foldPrefix, ring, opposite, if_neg other]
  cases fold <;> rfl

end Sys2Proof.Proofs
end

section
/-! Frames that arrive on a link in service: by their type, and by their destination (11 R307 to R310, R315, R321). -/

namespace Sys2Proof.Proofs

open Sys2Proof Sys2Proof.Machine Sys2Proof.Laws

section
variable {w : Work} {e : Nat} {l : List Byte} {body : FrameBody}

/-- A frame of no valid type is not good (11 R308). -/
theorem frameBad_of_no_type (typeless : 8 ≤ fieldAt l 0 1 % 16) : w.frameBad e l = true := by
  simp [Work.frameBad, frameMalformed, typeless]

/-- A frame that is neither TRAIN nor TEST is judged by its link in service, one of no valid type too. -/
theorem frame_of_service_type {type : Nat} (engine : e < 16) (typed : fieldAt l 0 1 % 16 = type) (valid : type < 8) (service : type ≠ 3 ∧ type ≠ 4) :
    w.frame type e l body = w.serviceFrame e l body := by
  rw [Work.frame, if_neg (by omega), if_neg (by omega), if_pos typed, if_neg service.1, if_neg service.2]

theorem frame_of_no_type {type : Nat} (engine : e < 16) (typeless : 8 ≤ fieldAt l 0 1 % 16) (serves : w.base.inService e = true) :
    w.frame type e l body = w.serviceFrame e l .none := by
  have state : w.base.linkState e = 4 := eq_of_beq serves
  rw [Work.frame, if_neg (by omega), if_pos typeless, Work.typelessFrame, state]
  rfl

section
variable (serves : w.base.inService e = true) (awaited : ((w.opt e).retrying && !frameFolded l) = false)
include serves awaited

theorem serviceFrame_of_bad (bad : w.frameBad e l = true) : w.serviceFrame e l body = w.frameFails e := by
  simp [Work.serviceFrame, serves, awaited, bad]

variable (good : w.frameBad e l = false)
include good

theorem serviceFrame_of_credits {c : List (Nat × Nat)} (typed : fieldAt l 0 1 % 16 = 1) {u : Work}
    (taken : u = w.frameTaken e (frameFields l (.credits c)) l) :
    w.serviceFrame e l (.credits c) = (u.setOpt e ((u.opt e).credited c)).ringPump e := by
  subst taken
  rw [Work.serviceFrame, serves, awaited, good, if_neg (by decide), if_neg (by decide)]
  dsimp only
  split
  · rfl
  · next retry => exact absurd (typed.symm.trans retry) (by decide)
  · next credits _ => exact absurd typed credits

theorem serviceFrame_of_retry {n : Nat} (typed : fieldAt l 0 1 % 16 = 2) :
    w.serviceFrame e l (.retry n) = (w.frameTaken e (frameFields l (.retry n)) l).resendFrom e (frameFields l (.retry n)) n := by
  rw [Work.serviceFrame, serves, awaited, good, if_neg (by decide), if_neg (by decide)]
  dsimp only
  split
  · next credits => exact absurd (typed.symm.trans credits) (by decide)
  · rfl
  · next _ retry => exact absurd typed retry

theorem serviceFrame_of_routed (routed : fieldAt l 0 1 % 16 ≠ 1 ∧ fieldAt l 0 1 % 16 ≠ 2) :
    w.serviceFrame e l body = (w.frameTaken e (frameFields l body) l).routeFrame e (frameFields l body) := by
  rw [Work.serviceFrame, serves, awaited, good, if_neg (by decide), if_neg (by decide)]
  dsimp only
  split
  · next type => exact absurd type routed.1
  · next type => exact absurd type routed.2
  · rfl

end

end

section
variable {w : Work} {e : Nat} {f : OutFrame}

/-- A frame for this device acts or is held (11 R315, R321). -/
theorem routeFrame_of_own (own : f.dst = w.base.ringPos) : w.routeFrame e f = w.takeFrame e f := by simp only [Work.routeFrame, if_pos own]

/-- Another is for a device that its link passes over, or goes on (11 R315). -/
theorem routeFrame_of_other {n p d : Nat} (size : n = w.base.ringSize) (neighbour : p = w.base.eng e 4 6 .RING_LINKST) (other : f.dst ≠ w.base.ringPos)
    (distance : d = (if facesEast e then (p + n - f.dst % n) % n else (f.dst % n + n - p % n) % n)) :
    w.routeFrame e f =
      if 0 < d ∧ d < w.base.eng e 10 3 .RING_LINKST then (w.ringDrop e 3 f none).owe e f.vc f.units
      else Work.ringQueue { w with base := (w.base.noteRing e f 0x62 f.length).engCount e 1 .RING_CNT_FWD }
        (if facesEast e then e - 8 else e + 8) { f with via := some e } := by
  subst size neighbour distance
  simp only [Work.routeFrame, if_neg other]

theorem takeFrame_of_ownFrame {u : Work} {held : Bool} (own : w.ownFrame e f = (u, held)) :
    w.takeFrame e f =
      if held then { u with ring := { u.ring with
        held := u.ring.held ++ [{ engine := e, src := f.src.getD 0, frame := f, time := u.base.time }] } }
      else u.owe e f.vc f.units := by
  simp only [Work.takeFrame, own]

end

/-- Settles O44: a frame is judged by its link, then acts by its type and destination; and its check is the one computed opposite. -/
theorem framesActByTheirType : Obligations.FramesActByTheirType := by
  refine ⟨fun s e l body w iordy engine serves awaited taken => ⟨fun bad => ?bad, fun good => ?good⟩, fun w e l typeless => frameBad_of_no_type typeless,
    fun w e l b x hx hb => ?emit, fun b c e n x f fold engine type other vc ring opposite => frameChecked_frameWire type other vc ring opposite,
    fun w e f own => routeFrame_of_own own, fun w e n p d f size neighbour other distance => ?other, fun w u e f held own => ?take,
    fun s iordy => ⟨does_of_doWork rfl iordy rfl, does_of_doWork rfl iordy rfl⟩⟩
  case bad =>
    have fails (type : Nat) (valid : type < 8) (service : type ≠ 3 ∧ type ≠ 4) (typed : fieldAt l 0 1 % 16 = type) :
        s.work.frame type e l body = s.work.frameFails e :=
      (frame_of_service_type engine typed valid service).trans (serviceFrame_of_bad serves awaited bad)
    refine ⟨fun typed => does_of_doWork rfl iordy (fails 1 (by decide) (by decide) typed),
      fun typed => does_of_doWork rfl iordy (fails 2 (by decide) (by decide) typed), ?_⟩
    rintro (typed | typeless)
    · exact does_of_doWork rfl iordy (fails 7 (by decide) (by decide) typed)
    · exact does_of_doWork rfl iordy ((frame_of_no_type engine typeless serves).trans (serviceFrame_of_bad serves awaited bad))
  case good =>
    subst taken
    have routes (type : Nat) (valid : type < 8) (routed : type ≠ 1 ∧ type ≠ 2 ∧ type ≠ 3 ∧ type ≠ 4) (typed : fieldAt l 0 1 % 16 = type) :
        s.work.frame type e l body = (s.work.frameTaken e (frameFields l body) l).routeFrame e (frameFields l body) :=
      (frame_of_service_type engine typed valid routed.2.2).trans (serviceFrame_of_routed serves awaited good (by omega))
    refine ⟨fun typed ready free => ?data, fun c typed hbody => ?credits, fun n k typed hbody hk => ?retry,
      fun typed => does_of_doWork rfl iordy (routes 5 (by decide) (by decide) typed),
      fun typed => does_of_doWork rfl iordy (routes 6 (by decide) (by decide) typed),
      fun typed => does_of_doWork rfl iordy (routes 7 (by decide) (by decide) typed)⟩
    case data =>
      have may : (s.dev.pwr.iordy && s.dev.pwr.ready && !s.dev.holds 6 (io (e / 4)) (e % 4)) = true := by rw [iordy, ready, free]; rfl
      exact does_of_doWork rfl may (routes 0 (by decide) (by decide) typed)
    case credits =>
      subst hbody
      exact does_of_doWork rfl iordy
        ((frame_of_service_type engine typed (by decide) (by decide)).trans (serviceFrame_of_credits serves awaited good typed rfl))
    case retry =>
      subst hbody hk
      exact does_of_doWork rfl iordy
        ((frame_of_service_type engine typed (by decide) (by decide)).trans (serviceFrame_of_retry serves awaited good typed))
  case emit =>
    subst hx hb
    rfl
  case other =>
    rw [routeFrame_of_other size neighbour other distance]
    exact ⟨fun ahead passed => if_pos ⟨ahead, passed⟩, fun onward => if_neg (by omega)⟩
  case take =>
    rw [takeFrame_of_ownFrame own]
    exact ⟨fun acts => if_neg (by simp [acts]), fun waits => if_pos waits⟩

end Sys2Proof.Proofs
end

section
/-! The waybills of ring engines as they begin: SEND, RELAY, REDUCE, DIGEST and RESHARD (11 R322 to R324, R328, R331). -/

namespace Sys2Proof.Proofs

open Sys2Proof Sys2Proof.Machine Sys2Proof.Laws

/-- A command of a ring unit's waybill delivers the held frames again after what its function makes of the work. -/
theorem does_of_begun {c : Instr} {s : State} {id : Nat} {f : Work → Work} (hc : exec c s = s.unitRun id fun w => (f w).ringFeed)
    (runs : s.dev.unitRuns id = true) {u : Work} (hu : f s.work = u) : Does c s u.ringFeed :=
  does_of_unitRun hc runs (congrArg Work.ringFeed hu)

section
variable {w : Work} {id q seq : Nat} {x : Wb} {o : RingOp} (op : o = w.base.newOp id x)
include op

section
variable (begins : w.ringBegin? id q seq 0x60 = some x) {a t : Desc} (source : x.desc 0 = some a) (target : x.desc 1 = some t) {u : Work} {l : List Byte}
  (read : (w.addOp o).tensorBytes ((w.addOp o).base.cx id x) a = (u, l))
include begins source target read

/-- A put into an unfit target of its own member is refused (11 R322). -/
theorem ringSend_of_unfit (own : (o.rank + x.oparg / 32 % 64) % o.S = o.rank) (unfit : u.base.putTarget x.part t l.length = false) {b : Base}
    {y : Wb} (refused : u.base.each id x 0x0A10 = (b, y)) :
    w.ringSend id q seq = (Work.setWb { u with base := b } id y).opEnd o 0x10 := by
  simp only [Work.ringSend, begins, source, target, ← op, read, if_pos own, unfit, refused]
  rfl

variable {token : Option Nat} (produces : token = if x.oparg.testBit 11 then some (x.arg % 2 ^ 24) else none)
include produces

/-- One into a fit target copies, produces its token and ends (11 R322). -/
theorem ringSend_of_fit (own : (o.rank + x.oparg / 32 % 64) % o.S = o.rank) (fit : u.base.putTarget x.part t l.length = true) :
    (token = none → w.ringSend id q seq = (u.tensorWrite (u.base.cx id x) t 0 l).opEnd o 1) ∧
    (∀ k, token = some k → w.ringSend id q seq = ((u.tensorWrite (u.base.cx id x) t 0 l).sendToken x.part k x.number).opEnd o 1) := by
  simp only [Work.ringSend, begins, source, target, ← op, ← produces, read, if_pos own, if_pos fit]
  exact ⟨fun silent => by rw [silent], fun k told => by rw [told]⟩

/-- A put into another member's target sends its frames (11 R322). -/
theorem ringSend_of_other {j : Nat} (member : j = (o.rank + x.oparg / 32 % 64) % o.S) (other : j ≠ o.rank) :
    w.ringSend id q seq = (u.opTransfer o (o.eastTo o.rank j) (o.pos j) 0 0 0 l (.put (x.descs.getD 1 []) token l.length o.number)).1 := by
  simp only [Work.ringSend, begins, source, target, ← op, ← produces, read, ← member, if_neg other]

end

section
variable (begins : w.ringBegin? id q seq 0x61 = some x) {u : Work} (told : u = (w.addOp o).sendToken x.part (x.arg % 2 ^ 24) x.number)
include begins told

/-- A relay's first token is for its own block; alone on its line it has ended, else the block goes east (11 R323). -/
theorem ringRelay_of_alone (alone : o.S ≤ 1) : w.ringRelay id q seq = u.opEnd o 1 := by
  simp only [Work.ringRelay, begins, ← op, ← told, if_pos alone]

theorem ringRelay_of_others (others : 1 < o.S) {w1 w2 : Work} {a b : List Byte} (first : u.slotRead (u.base.cx id x) (x.desc 0) o.S o.rank = (w1, a))
    (second : w1.slotRead (u.base.cx id x) (x.desc 1) o.S o.rank = (w2, b)) :
    w.ringRelay id q seq =
      (w2.opTransfer o (o.eastTo o.rank ((o.rank + 1) % o.S)) (o.pos ((o.rank + 1) % o.S)) 1 (o.pos o.rank) 0 (a ++ b)).1 := by
  simp only [Work.ringRelay, begins, ← op, ← told, if_neg (Nat.not_le.mpr others), first, second]

end

section
variable (begins : w.ringBegin? id q seq 0x62 = some x)
include begins

/-- A reduction's later ranks wait for their west (11 R324). -/
theorem ringReduce_of_later (later : o.rank ≠ 0) : w.ringReduce id q seq = w.addOp o := by
  simp only [Work.ringReduce, begins, ← op, if_neg later]

variable (first : o.rank = 0) {u : Work} {g : List Nat} (own : (w.addOp o).contribution id x 0 x.reduceCount = (u, g)) {w1 : Work} {y : Wb}
  (finite : u.reduceFinite id x 0 g = (w1, y))
include first own finite

/-- Rank 0 sends its contribution east; alone on its line it has the result (11 R324, R325). -/
theorem ringReduce_of_first (others : o.S ≠ 1) {w2 : Work} {o2 : RingOp}
    (sent : (w1.setWb id y).opTransfer o true (o.pos 1) 2 0 0 (g.flatMap (leBytes 4)) = (w2, o2)) :
    w.ringReduce id q seq = w2.reduceFigures o2 y := by
  simp only [Work.ringReduce, begins, ← op, if_pos first, own, finite, if_neg others, sent]

theorem ringReduce_of_alone (alone : o.S = 1) {w2 : Work} {z : Wb} (result : (w1.setWb id y).reduceOut id y 0 g = (w2, z)) {o2 : RingOp}
    (summed : o2 = { o with data := g.zipIdx.map fun c => (c.2, c.1) }) :
    w.ringReduce id q seq = ((w2.setWb id z).setOp o2).reduceFigures o2 z := by
  simp only [Work.ringReduce, begins, ← op, if_pos first, own, finite, if_pos alone, result, summed]

end

section
variable (begins : w.ringBegin? id q seq 0x63 = some x) {d : Desc} (list : x.desc 0 = some d)
include begins list

/-- A digest comparison alone on its line has ended; rank 0 of others sends its list east, and the other ranks wait for theirs (11 R328). -/
theorem ringDigest_of_alone (alone : o.S ≤ 1) {o2 : RingOp} (found : o2 = { o with lineFound := some none }) :
    w.ringDigest id q seq = ((w.addOp o).setOp o2).digestEnd o2 := by
  simp only [Work.ringDigest, begins, list, ← op, ← found, if_pos alone]

theorem ringDigest_of_first (others : 1 < o.S) (first : o.rank = 0) {u : Work} {l : List Byte}
    (read : (w.addOp o).tensorBytes ((w.addOp o).base.cx id x) d = (u, l)) :
    w.ringDigest id q seq = (u.opTransfer o true (o.pos 1) 4 0 0 l).1 := by
  simp only [Work.ringDigest, begins, list, ← op, if_neg (Nat.not_le.mpr others), if_pos first, read]

theorem ringDigest_of_later (others : 1 < o.S) (later : o.rank ≠ 0) : w.ringDigest id q seq = w.addOp o := by
  simp only [Work.ringDigest, begins, list, ← op, if_neg (Nat.not_le.mpr others), if_neg later]

end

end

/-- A reshard says that the old epoch ends, installs the record, tells its neighbours, and is looked at again (11 R331). -/
theorem ringReshard_of_begun {w : Work} {id q seq : Nat} {x : Wb} (begins : w.ringBegin? id q seq 0x64 = some x) {d : Desc}
    (record : x.desc 0 = some d) {u : Work} {l : List Byte} (read : w.tensorBytes (w.base.cx id x) d = (u, l)) {r r1 : RingOp}
    (op : r = u.base.reshardOp id x l) {w1 : Work}
    (told : w1 = (((((u.addOp r).reshardEnds r).reshardInstall x.ringLine l).reshardTell r l ((r.rank + 1) % r.S)
      (r.eastTo r.rank ((r.rank + 1) % r.S))).reshardTell r l ((r.rank + r.S - 1) % r.S)
      (!(r.eastTo ((r.rank + r.S - 1) % r.S) r.rank))).reshardBegins id x.ringLine)
    (found : w1.ringOp? (fun y => y.queue == q && y.seq == seq) = some r1) :
    w.ringReshard id q seq = w1.reshardCheck r1 := by
  simp only [Work.ringReshard, begins, record, read, ← op, ← told, found]

/-- Settles O42: each opcode by its rank, its line's size and what it reads; the frames held for it are delivered again after each. -/
theorem ringWaybillsBegin : Obligations.RingWaybillsBegin := by
  intro s id q seq x o runs op
  refine ⟨fun begins a t j w l token source target member produces read => ?send, fun begins w told => ?relay, fun begins => ?reduce,
    fun begins d list => ?digest, fun begins d w l r w1 r1 record read hr told found => ?reshard⟩
  case send =>
    have does {u : Work} (hu : s.work.ringSend id q seq = u) : Does (.ringSend id q seq) s u.ringFeed :=
      does_of_begun (f := fun w => w.ringSend id q seq) rfl runs hu
    subst member
    refine ⟨fun own fit => ?_, fun own unfit b y refused => does (ringSend_of_unfit op begins source target read own unfit refused),
      fun other => does (ringSend_of_other op begins source target read produces rfl other)⟩
    obtain ⟨silent, tells⟩ := ringSend_of_fit op begins source target read produces own fit
    exact ⟨fun h => does (silent h), fun k h => does (tells k h)⟩
  case relay =>
    have does {u : Work} (hu : s.work.ringRelay id q seq = u) : Does (.ringRelay id q seq) s u.ringFeed :=
      does_of_begun (f := fun w => w.ringRelay id q seq) rfl runs hu
    exact ⟨fun alone => does (ringRelay_of_alone op begins told alone),
      fun others w1 w2 a b first second => does (ringRelay_of_others op begins told others first second)⟩
  case reduce =>
    have does {u : Work} (hu : s.work.ringReduce id q seq = u) : Does (.ringReduce id q seq) s u.ringFeed :=
      does_of_begun (f := fun w => w.ringReduce id q seq) rfl runs hu
    exact ⟨fun later => does (ringReduce_of_later op begins later), fun first w g w1 y own finite =>
      ⟨fun others w2 o2 sent => does (ringReduce_of_first op begins first own finite others sent),
        fun alone w2 z o2 result summed => does (ringReduce_of_alone op begins first own finite alone result summed)⟩⟩
  case digest =>
    have does {u : Work} (hu : s.work.ringDigest id q seq = u) : Does (.ringDigest id q seq) s u.ringFeed :=
      does_of_begun (f := fun w => w.ringDigest id q seq) rfl runs hu
    exact ⟨fun alone o2 found => does (ringDigest_of_alone op begins list alone found),
      fun others first w l read => does (ringDigest_of_first op begins list others first read),
      fun others later => does (ringDigest_of_later op begins list others later)⟩
  case reshard =>
    exact does_of_begun (f := fun w => w.ringReshard id q seq) rfl runs (ringReshard_of_begun begins record read hr told found)

end Sys2Proof.Proofs
end

section
/-! The last fibre of a link (11 R304, R305, R314): in a register file that keeps its form (Map.sorted) the engine leaves
service with it; in one that lists a register twice it may not. -/

namespace Sys2Proof.Proofs

open Sys2Proof Sys2Proof.Machine Sys2Proof.Laws

/-- An event of no partition changes no register. -/
theorem raise_regs_of_no_partition (b : Base) (code : Nat) (src : Src) (waybill : Nat) : (b.raise code src none waybill).regs = b.regs := by
  rw [Base.raise]
  dsimp only
  split <;> rfl

/-- A link's event changes RING_STATUS alone of its registers. -/
theorem ringEvent_eng {b : Base} (sorted : Map.sorted b.regs = true) (e lo w bit code waybill : Nat) {r : Reg} (block : r.spec.block = .ring)
    (apart : r.spec.off ≠ Reg.RING_STATUS.spec.off) :
    (b.ringEvent e bit code none waybill).eng e lo w r = b.eng e lo w r := by
  have address : regAddr r (io (e / 4)) (e % 4) ≠ regAddr .RING_STATUS (io (e / 4)) (e % 4) := by
    have status : Reg.RING_STATUS.spec.block = .ring := rfl
    simp only [regAddr, block, status]
    omega
  have kept : (b.wf bit 1 1 .RING_STATUS (io (e / 4)) (e % 4)).rd r (io (e / 4)) (e % 4) = b.rd r (io (e / 4)) (e % 4) :=
    rd_wr_apart sorted _ _ _ _ _ _ address
  rw [Base.eng, Base.eng, Base.rf, Base.rf, Base.ringEvent, Base.flag]
  split
  · rw [Base.rd, raise_regs_of_no_partition, ← Base.rd, kept]
  · rw [kept]

/-- In a register file that keeps its form, a failing lane whose fibre is the link's last, its spare in use, takes the link out of service. -/
theorem waveSpare_of_last_fibre {w : Work} (sorted : Map.sorted w.base.regs = true) {e fibre lane : Nat} (engine : e < 16) (fourth : fibre < 4)
    (last : w.base.eng e 16 4 .RING_LINKST = 2 ^ fibre) (spared : w.base.spared e fibre = true) (ninth : lane < 9)
    (serving : lane ≠ w.base.eng e (5 * fibre) 4 .RING_WAVE) {b : Base}
    (off : b = (w.base.engSet e 16 4 (2 ^ fibre - 2 ^ fibre) .RING_LINKST).ringEvent e 5 0x0A06 none) :
    w.waveSpare e fibre lane = Work.linkLeaves { w with base := b } e := by
  have fails : Base.laneFails e w.base (fibre, lane) = b := by
    rw [Base.laneFails, if_pos ⟨fourth, ninth, by rw [last]; exact Nat.testBit_two_pow_self⟩, if_pos spared, if_neg serving, Base.fibreOff, last, off]
  have form : Map.sorted (w.base.engSet e 16 4 (2 ^ fibre - 2 ^ fibre) .RING_LINKST).regs = true := base_wr_sorted sorted _ _ _ _ _ _
  have dark : b.eng e 16 4 .RING_LINKST = 0 := by
    rw [off, ringEvent_eng form e 16 4 5 0x0A06 0 (r := .RING_LINKST) rfl (by decide), Base.eng, Base.rf, Base.engSet, Base.wf,
      rd_wr_same sorted, fget_fput_same _ _ _ _ (by decide), Nat.sub_self]
    rfl
  simp only [Work.waveSpare, if_pos engine, fails, spared, Bool.not_true, Bool.and_false, Bool.false_eq_true, if_false, if_pos dark]

/-- A register file that lists RING_LINKST of engine 0 twice: DOWN with one fibre, and behind it SERVICE with one fibre. The spare wavelength of
fibre 0 is in use. -/
def doubledRegs : List (Nat × Word) :=
  [(regAddr .RING_LINKST 40, 0x10000), (regAddr .RING_LINKST 40, 0x10004), (regAddr .RING_WAVE 40, 0x10)]

/-- The device after reset with the I/O dies on and that register file. -/
def doubled : State :=
  let v := State.reset.dev
  { State.reset with dev := { v with pwr := { v.pwr with iordy := true }, work := { v.work with base := { v.base with regs := doubledRegs } } } }

/-- Refutes O43, in its clause on a link's last fibre. WAVELENGTH_SPARE takes away the one fibre that the first entry of RING_LINKST lists; that entry,
at its reset value now, is dropped, and the second is read from then on: in service, with a fibre. So the command does no more, and engine 0 holds
nothing; the statement has it leave service, and so hold the time of its leaving. The clause holds of every register file that keeps its form
(waveSpare_of_last_fibre), which the statement does not ask for. -/
theorem not_linksTrainAndFail : ¬ Obligations.LinksTrainAndFail := by
  rintro ⟨-, -, -, -, -, wavelengths, -⟩
  obtain ⟨-, -, -, fibreOff⟩ := wavelengths doubled 0 0 1 1 _ (by decide +kernel) (by decide) (by decide) (by decide +kernel) (by decide)
  obtain ⟨leaves, -⟩ := fibreOff (by decide +kernel) (by decide) (by decide +kernel) rfl
  have claimed : exec (.wavelengthSpare 0 0 1) doubled = .next _ := leaves rfl
  have engines := congrArg (fun t : State => t.dev.work.ring.engines) (Host.Outcome.next.inj claimed)
  exact absurd engines (by decide +kernel)

end Sys2Proof.Proofs
end

section
/-! Free check units and failed die-to-die links (12 R344 to R346, R349). -/

namespace Sys2Proof.Proofs

open Sys2Proof Sys2Proof.Machine Sys2Proof.Laws

/-- A write of a whole register that has a row of its own, and whose effect is on the registers, memory and records alone, leaves what that effect
makes of them. -/
theorem leaves_of_writeReg_base {c : Instr} {s : State} {rt : Route} {r : RegAt} {data m : Nat} {v : Device} {b : Base}
    (h : s.writesReg rt r data m v) (hc : exec c s = s.writeReg rt (regAddr r.reg r.die r.unit r.i r.j) data)
    (effect : v.regApply m r (data % 2 ^ 64) (2 ^ 64 - 1) = v.setBase b) : Leaves c s ((v.setBase b).answer .ok) :=
  leaves_of_writeReg (f := fun w => { w with base := b }) h hc effect rfl

/-- A command of a die that runs, and whose effect is on the registers, memory and records alone, does what its function makes of them. -/
theorem doesBase_of_dieRuns {c : Instr} {s : State} {d : Nat} {b : Base} (f : Base → Base)
    (hc : exec c s = s.run (s.dev.dieRuns d) fun v => v.doWork fun w => { w with base := f w.base }) (runs : s.dev.dieRuns d = true)
    (hb : f s.work.base = b) : DoesBase c s b :=
  does_of_doWork hc runs (congrArg (fun b => ({ s.work with base := b } : Work)) hb)

/-- CHK_FU_CTL written with 1 is START alone, and with 2 STOP alone (12 R344, R345). -/
theorem regApply_fuStart (v : Device) (m d u : Nat) :
    v.regApply m ⟨.CHK_FU_CTL, d, 0, u, 0⟩ (1 % 2 ^ 64) (2 ^ 64 - 1) = v.setBase (v.base.fuStart d u m) := rfl

theorem regApply_fuStop (v : Device) (m d u : Nat) :
    v.regApply m ⟨.CHK_FU_CTL, d, 0, u, 0⟩ (2 % 2 ^ 64) (2 ^ 64 - 1) = v.setBase (v.base.fuStop d u) := rfl

section
variable {b : Base} {d u : Nat} (unit : freeUnit d u = true)
include unit

/-- A unit that is busy, or whose settings are not allowed, refuses a start; any other begins its job (12 R344). -/
theorem fuStart_of_refused {m : Nat} (refused : b.fuBusy d u = true ∨ b.fuRefused d u m = true) : b.fuStart d u m = b.fuEvent d 1 0x0B06 := by
  simp [Base.fuStart, unit, refused]

theorem fuStart_of_allowed {m : Nat} (idle : b.fuBusy d u = false) (allowed : b.fuRefused d u m = false) :
    b.fuStart d u m = (b.wr 1 .CHK_FU_STATUS d 0 u).wr 0 .CHK_FU_DONE d 0 u := by
  simp [Base.fuStart, unit, idle, allowed]

variable (busy : b.fuBusy d u = true)
include busy

/-- A stopped job leaves its unit idle, with its interrupt (12 R345). -/
theorem fuStop_of_busy : b.fuStop d u = (b.wf 0 2 0 .CHK_FU_STATUS d 0 u).fuIrq d u := by
  simp [Base.fuStop, unit, busy]

section
variable {read done : Base} {reg r : Nat} (good : b.fuJob d u none = (read, .inl reg)) (hr : r = (b.fuCfg d u).finish reg)
  (hdone : done = (read.wr (BitVec.ofNat 64 r) .CHK_FU_RESULT d 0 u).wr (BitVec.ofNat 64 (b.fuLen d u)) .CHK_FU_DONE d 0 u)
include good hr hdone

/-- A job all of whose reads are good says DONE; where CMP asks, also whether its check register is the one expected (12 R345). -/
theorem fuJobEnd_of_not_compared (free : b.rf 10 1 .CHK_FU_CFG d 0 u ≠ 1) : b.fuJobEnd d u = (done.wr 2 .CHK_FU_STATUS d 0 u).fuIrq d u := by
  subst hdone hr
  simp [Base.fuJobEnd, unit, busy, good, free, b2n]

theorem fuJobEnd_of_match (compares : b.rf 10 1 .CHK_FU_CFG d 0 u = 1) (same : r = (b.rd .CHK_FU_EXPECT d 0 u).toNat) :
    b.fuJobEnd d u = (done.wr 6 .CHK_FU_STATUS d 0 u).fuIrq d u := by
  subst hdone hr
  simp [Base.fuJobEnd, unit, busy, good, compares, same, b2n]

theorem fuJobEnd_of_mismatch (compares : b.rf 10 1 .CHK_FU_CFG d 0 u = 1) (other : r ≠ (b.rd .CHK_FU_EXPECT d 0 u).toNat) :
    b.fuJobEnd d u = ((done.wr 10 .CHK_FU_STATUS d 0 u).fuEvent d 0 0x0B05).fuIrq d u := by
  subst hdone hr
  simp [Base.fuJobEnd, unit, busy, good, compares, other, b2n]

end

/-- A job with a failing read ends in ERROR, with the bytes before that read and its cause (12 R346). -/
theorem fuJobError_of_failing {read : Base} {far : Option Nat} {off cause : Nat} (fails : b.fuJob d u far = (read, .inr (off, cause))) :
    b.fuJobError d u far =
      ((((read.wr 0 .CHK_FU_RESULT d 0 u).wr (BitVec.ofNat 64 off) .CHK_FU_DONE d 0 u).wr (BitVec.ofNat 64 (3 + cause * 16)) .CHK_FU_STATUS d 0
        u).fuEvent d 2 0x0B07).fuIrq d u := by
  simp only [Base.fuJobError, unit, busy, fails, Bool.and_self, if_true]

end

section
variable {b : Base} {d l : Nat} (link : d2dLink d l = true) (serves : bget (b.rd .CHK_D2D_STATE d) l = false)
include link serves

/-- A link that fails is marked at both its ends where both have a bit for it, and raises CHK.D2D once (12 R349, log entry 55). -/
theorem d2dFail_of_two_ends {e k : Nat} (other : d2dOther d l = some (e, k)) :
    b.d2dFail d l = ((b.d2dMark d l).d2dMark e k).chkEvent d 3 0x0B04 (logic d) none := by
  simp [Base.d2dFail, link, serves, other]

theorem d2dFail_of_one_end (alone : d2dOther d l = none) : b.d2dFail d l = (b.d2dMark d l).chkEvent d 3 0x0B04 (logic d) none := by
  simp [Base.d2dFail, link, serves, alone]

end

/-- Settles O37: START and STOP are what the unit makes of its register's write, by whether it is busy; the ends of a job go by its reads, and a link's
failure by whether its other end has a number. -/
theorem freeUnitsRunJobs : Obligations.FreeUnitsRunJobs := by
  refine ⟨fun s rt d u m v unit => ⟨fun h => ?start, fun h busy => ?stop⟩,
    fun s d u b runs unit busy => ⟨fun reg r b1 ask good hr hb1 hask => ?jobEnd, fun far off cause fails => ?jobError⟩,
    fun s d l runs link serves => ⟨fun e k other => ?twoEnds, fun alone => ?oneEnd⟩⟩
  case start =>
    have leaves {b : Base} (hb : v.base.fuStart d u m = b) : Leaves (.fuStart rt d u) s ((v.setBase b).answer .ok) :=
      leaves_of_writeReg_base h rfl ((regApply_fuStart v m d u).trans (congrArg v.setBase hb))
    exact ⟨fun refused => leaves (fuStart_of_refused unit refused), fun idle allowed => leaves (fuStart_of_allowed unit idle allowed)⟩
  case stop =>
    exact leaves_of_writeReg_base h rfl ((regApply_fuStop v m d u).trans (congrArg v.setBase (fuStop_of_busy unit busy)))
  case jobEnd =>
    subst hask
    have does {b : Base} (hb : s.work.base.fuJobEnd d u = b) : DoesBase (.fuJobEnd d u) s b :=
      doesBase_of_dieRuns (fun b => b.fuJobEnd d u) rfl runs hb
    exact ⟨fun free => does (fuJobEnd_of_not_compared unit busy good hr hb1 (of_decide_eq_false free)),
      fun compares same => does (fuJobEnd_of_match unit busy good hr hb1 (of_decide_eq_true compares) same),
      fun compares other => does (fuJobEnd_of_mismatch unit busy good hr hb1 (of_decide_eq_true compares) other)⟩
  case jobError => exact doesBase_of_dieRuns (fun b => b.fuJobError d u far) rfl runs (fuJobError_of_failing unit busy fails)
  case twoEnds => exact doesBase_of_dieRuns (fun b => b.d2dFail d l) rfl runs (d2dFail_of_two_ends link serves other)
  case oneEnd => exact doesBase_of_dieRuns (fun b => b.d2dFail d l) rfl runs (d2dFail_of_one_end link serves alone)

end Sys2Proof.Proofs
end

section
/-! The persistent store follows the persistent entries: what is written into it, what follows a command at once, and what a boot takes from it
(15 R434, R448). -/

namespace Sys2Proof.Proofs

open Sys2Proof Sys2Proof.Machine Sys2Proof.Laws

/-- A copy as it is written is valid. -/
@[simp] theorem written_valid (seq : Nat) (l : List (Nat × List Byte)) : (StoreCopy.written seq l).valid = true := beq_self_eq_true _

/-- While the first copy is used, and valid as it was written, it is the store's. -/
theorem store_of_first_written {m : Mgt} {n : Nat} {l : List (Nat × List Byte)} (used : m.storeUsed = 0)
    (first : m.store0 = some (StoreCopy.written n l)) : m.store = some (StoreCopy.written n l) := by
  rw [Mgt.store, if_pos used, first]
  exact Option.filter_some_pos (written_valid _ _)

/-- After the whole store is written, the copy in use holds the persistent entries in force. -/
theorem persist_store (v : Device) : ∃ seq, v.persist.mgt.store = some (StoreCopy.written seq v.base.toStore) := by
  unfold Device.persist
  by_cases used : v.mgt.storeUsed = 0
  · exact ⟨_, by simp only [Mgt.store, if_pos used, Nat.one_ne_zero, if_false]; exact Option.filter_some_pos (written_valid _ _)⟩
  · exact ⟨_, by simp only [Mgt.store, if_neg used, if_true]; exact Option.filter_some_pos (written_valid _ _)⟩

theorem persist_stored (v : Device) : v.persist.stored := by
  intro _
  obtain ⟨seq, hstore⟩ := persist_store v
  rw [hstore]
  rfl

/-- Whatever the data path has changed, the store holds the persistent entries once it has followed them. -/
theorem syncStore_stored (v : Device) : v.syncStore.stored := by
  unfold Device.syncStore
  split
  · split
    · next c hc =>
      split
      · next same => exact fun _ => by rw [hc]; exact same
      · exact persist_stored v
    · next hnone =>
      split
      · next none => exact fun _ => by rw [hnone]; exact none
      · exact persist_stored v
  · next down => exact fun up => absurd up down

theorem settle_stored (v : Device) : v.settle.stored := syncStore_stored _

/-- A step answers what its command does, with what follows, or leaves the device as the command found it. -/
theorem step_cases {s t : State} (h : step s = .next t) : t.dev = s.dev.cleared ∨ ∃ v : Device, t.dev = v.settle := by
  unfold step at h
  cases hp : s.pending with
  | nil =>
    rw [hp] at h
    cases h
    exact .inr ⟨_, rfl⟩
  | cons c rest =>
    rw [hp] at h
    obtain ⟨may, f, hc⟩ := exec_form c { s with pending := rest }
    cases hc.symm.trans h
    cases may with
    | false => exact .inl rfl
    | true => exact .inr ⟨_, rfl⟩

/-- Settles O4: a command that acts, and a tick, end with the store following the entries; any other command leaves both. -/
theorem persistentStoreFollowsEveryStep : Obligations.PersistentStoreFollowsEveryStep := by
  intro s t stored hstep
  rcases step_cases hstep with same | ⟨v, settled⟩
  · rw [same]
    exact stored
  · rw [settled]
    exact settle_stored v

/-- Before the management core runs nothing is asked of the store. -/
theorem stored_of_down {v : Device} (down : v.mgt.up = false) : v.stored := fun up => by
  rw [down] at up
  cases up

/-- Where no entry differs from its default, no persistent one does. -/
theorem persistent_of_defaults {b : Base} (defaults : b.catVals = []) : b.persistent = [] := by
  rw [Base.persistent, defaults, List.filter_nil]

/-- A copy that lists nothing is then what the store is to hold. -/
theorem written_nil_entries {b : Base} (defaults : b.persistent = []) (n : Nat) : (StoreCopy.written n []).entries = b.toStore := by
  rw [Base.toStore, defaults]
  rfl

/-- Before the management core runs, a store whose first copy lists nothing, and is used, holds the entries of a device that has none set. -/
theorem store_holds_defaults {v : Device} (down : v.mgt.up = false) (used : v.mgt.storeUsed = 0)
    (first : v.mgt.store0 = some (StoreCopy.written 0 [])) (nothing : v.base.catVals = []) :
    v.stored ∧ ∃ c, v.mgt.store = some c ∧ c.valid = true ∧ c.entries = v.base.toStore ∧ v.base.persistent = [] :=
  have defaults := persistent_of_defaults nothing
  ⟨stored_of_down down, _, store_of_first_written used first, written_valid _ _, written_nil_entries defaults 0, defaults⟩

/-- Settles O5: at reset the copy in use lists nothing, as no entry differs from its default; a boot uses the one copy that is valid. -/
theorem persistentStoreHoldsAtReset : Obligations.PersistentStoreHoldsAtReset := by
  refine and_assoc.mp ⟨store_holds_defaults (v := State.reset.dev) rfl rfl rfl rfl, fun v c valid invalid first => ?_⟩
  have one : v.mgt.store0.filter StoreCopy.valid = some c := by rw [first]; exact Option.filter_some_pos valid
  unfold Device.loadStore
  rw [one, invalid]
  exact ⟨one, rfl⟩

end Sys2Proof.Proofs
end

section
/-! A step and a tick, and what follows every command at once (16 R473, R474, 17 R493). -/

namespace Sys2Proof.Proofs

open Sys2Proof Sys2Proof.Machine Sys2Proof.Laws

/-- Without VDD_AON a tick passes nothing. -/
theorem tick_of_dead {v : Device} (dead : v.pwr.dead = true) : v.tick = v := if_pos dead

/-- A tick moves the timebase, and what counts ticks. -/
theorem tick_of_alive {v : Device} (alive : v.pwr.dead = false) :
    v.tick = (Device.gatedTick (Device.tickCounts (v.onBase fun b => { b with time := (b.time + 1) % 2 ^ 64 }))).freeTick
      fun d => v.pwr.ready && v.dieState d != 2 := by
  unfold Device.tick
  rw [if_neg (by simp [alive])]
  rfl

/-- Settles O1: a step takes the command in front, or, where none waits, ticks. -/
theorem stepTakesTheFrontCommandOrTicks : Obligations.StepTakesTheFrontCommandOrTicks := by
  refine ⟨fun c s => rfl, fun s empty => ?_⟩
  have ticks : step s = .next { s with dev := s.dev.cleared.tick.settle } := by
    unfold step
    rw [empty]
  refine ⟨fun dead => ?_, fun alive => ?_⟩
  · rw [ticks, tick_of_dead (v := s.dev.cleared) dead]
  · rw [ticks, tick_of_alive (v := s.dev.cleared) alive]
    rfl

/-- The second state holds the same noted occurrences as the first (17 R493). -/
def SameNoted (b c : Base) : Prop := c.occurs = b.occurs

theorem SameNoted.refl (b : Base) : SameNoted b b := rfl

theorem SameNoted.trans {b c d : Base} (h : SameNoted b c) (k : SameNoted c d) : SameNoted b d := Eq.trans k h

section
variable (b : Base)

theorem sameNoted_wf (lo w x : Nat) (r : Reg) (d u i j : Nat) : SameNoted b (b.wf lo w x r d u i j) := base_wf_occurs ..

theorem sameNoted_countSat (x lo w : Nat) (r : Reg) (d u i j : Nat) : SameNoted b (b.countSat x lo w r d u i j) := base_wf_occurs ..

theorem sameNoted_addGen (st off n : Nat) : SameNoted b (b.addGen st off n) := by
  unfold Base.addGen
  dsimp only
  split
  · exact base_wr_occurs ..
  · rfl

theorem sameNoted_pieceWrite (st off : Nat) (bytes : List Byte) (bad : Bool) : SameNoted b (b.pieceWrite st off bytes bad) := by
  unfold Base.pieceWrite
  extract_lets _ _ _ _ sealed counted written marked
  have kept : SameNoted b counted := by
    unfold counted
    split
    · exact sameNoted_countSat ..
    · exact .refl b
  exact SameNoted.trans (c := marked) kept (sameNoted_addGen ..)

/-- A record that is written notes no occurrence. -/
theorem sameNoted_recordWrite (die p a : Nat) (bytes : List Byte) : SameNoted b (b.recordWrite die p a bytes) := by
  unfold Base.recordWrite
  split
  · split
    · exact base_setVerdict_occurs ..
    · exact sameNoted_pieceWrite ..
  · exact .refl b

theorem sameNoted_msix (L vector : Nat) : SameNoted b (b.msix L vector) := by
  unfold Base.msix
  split
  · dsimp only
    split
    · rfl
    · split <;> rfl
  · rfl

theorem sameNoted_ringRecord (die p : Nat) (r : EventRec) : SameNoted b (b.ringRecord die p r) := by
  unfold Base.ringRecord
  extract_lets a size g written next early
  have kept : SameNoted b written := sameNoted_recordWrite ..
  split
  · split
    · split
      · exact kept
      · exact kept.trans (sameNoted_msix { written with rings := _ } ..)
    · exact kept
  · exact .refl b

/-- An event notes no occurrence: neither its record, nor its status bit, nor its notice is an event of a counter. -/
theorem sameNoted_raise (code : Nat) (src : Src) (part : Option Nat) (waybill : Nat) : SameNoted b (b.raise code src part waybill) := by
  unfold Base.raise
  extract_lets r logged due sent
  have kept : SameNoted b sent := by
    unfold sent
    split <;> rfl
  cases part with
  | none => exact kept
  | some p => exact kept.trans (sameNoted_ringRecord ..)

theorem sameNoted_flag (st en : Reg) (bit : Nat) (always : Bool) (code die unit i : Nat) (src : Src) (part : Option Nat) (waybill : Nat) :
    SameNoted b (b.flag st en bit always code die unit i src part waybill) := by
  unfold Base.flag
  dsimp only
  split
  · exact (sameNoted_wf ..).trans (sameNoted_raise ..)
  · exact sameNoted_wf ..

theorem sameNoted_pmcEvent (die bit code : Nat) (src : Src) (part : Option Nat) : SameNoted b (b.pmcEvent die bit code src part) :=
  sameNoted_flag b ..

/-- Nor does a counter that counts. -/
theorem sameNoted_counterWraps (d i x : Nat) : SameNoted b (b.counterWraps d i x) := by
  have wrapped : SameNoted b (((b.wf 0 48 x .DOCK_PMC_VAL d 0 i).wf i 1 1 .DOCK_PMC_OVF d).pmcEvent d 0 0x1001 (logic d) none) :=
    ((sameNoted_wf ..).trans (sameNoted_wf ..)).trans (sameNoted_pmcEvent ..)
  unfold Base.counterWraps
  dsimp only
  split
  · exact wrapped.trans (sameNoted_wf ..)
  · exact wrapped

theorem sameNoted_coreSample (d i k : Nat) : SameNoted b (b.coreSample d i k) := by
  unfold Base.coreSample
  dsimp only [Base.fresh]
  split
  · exact SameNoted.trans (c := { b with sent := .coreOverflow d k :: b.sent }) rfl (sameNoted_countSat ..)
  · exact SameNoted.trans (c := { b with sent := .coreOverflow d k :: b.sent, free := b.free + 1 }) rfl
      ((((sameNoted_wf ..).trans (sameNoted_wf ..)).trans (sameNoted_wf ..)).trans (sameNoted_wf ..))

theorem sameNoted_dieAdd (d i n : Nat) : SameNoted b (b.dieAdd d i n) := by
  unfold Base.dieAdd
  dsimp only
  split
  · exact sameNoted_wf ..
  · split
    · exact (sameNoted_wf ..).trans (sameNoted_coreSample ..)
    · split
      · split
        · exact (sameNoted_wf ..).trans (sameNoted_wf ..)
        · exact ((sameNoted_wf ..).trans (sameNoted_wf ..)).trans (sameNoted_pmcEvent ..)
      · split
        · split
          · exact (sameNoted_wf ..).trans (sameNoted_wf ..)
          · exact (sameNoted_wf ..).trans (sameNoted_counterWraps ..)
        · exact sameNoted_counterWraps ..

theorem sameNoted_countAll (d : Nat) (l : List (Nat × Nat)) : SameNoted b (b.countAll d l) := by
  unfold Base.countAll
  refine List.foldlRecOn (motive := SameNoted b) _ _ (.refl b) fun c kept x _ => ?_
  split
  · exact kept
  · exact kept.trans (sameNoted_dieAdd ..)

end

section
variable (v : Device)

theorem sameNoted_onBase {f : Base → Base} (h : ∀ b, SameNoted b (f b)) : SameNoted v.base (v.onBase f).base := h v.base

theorem sameNoted_withPmc {b : Base} (q : Pmc) (h : SameNoted b v.base) : SameNoted b ({ v with pmc := q } : Device).base := h

theorem sameNoted_setBase {b c : Base} (h : SameNoted b c) : SameNoted b (v.setBase c).base := h

theorem sameNoted_sample (n m waybill : Nat) : SameNoted v.base (v.sample n m waybill).base := by
  unfold Device.sample
  extract_lets now code early part counted lost fresh
  split
  · have kept : SameNoted v.base counted.base := sameNoted_onBase v fun b => sameNoted_countSat b ..
    split
    · exact kept
    · exact sameNoted_withPmc _ _ (kept.trans (sameNoted_onBase counted fun b => sameNoted_pmcEvent b ..))
  · exact sameNoted_withPmc _ _ (sameNoted_setBase _ (SameNoted.trans (c := v.base.fresh.2) rfl (sameNoted_flag ..)))

theorem sameNoted_tileAdd (n m i adds waybill : Nat) : SameNoted v.base (v.tileAdd n m i adds waybill).base := by
  unfold Device.tileAdd
  dsimp only
  split
  · exact sameNoted_onBase v fun b => sameNoted_wf ..
  · split
    · exact (sameNoted_onBase v fun b => sameNoted_wf b ..).trans (sameNoted_sample ..)
    · refine sameNoted_onBase v fun b => ?_
      split
      · exact (sameNoted_wf ..).trans (sameNoted_wf ..)
      · exact ((sameNoted_wf ..).trans (sameNoted_wf ..)).trans (sameNoted_pmcEvent ..)

theorem sameNoted_tileCount (o : Occur) (i : Nat) : SameNoted v.base (v.tileCount o i).base := by
  unfold Device.tileCount
  extract_lets
  split
  · exact sameNoted_tileAdd ..
  · exact .refl _

theorem sameNoted_occur (o : Occur) : SameNoted v.base (v.occur o).base := by
  have tiles : SameNoted v.base ((List.range 8).foldl (fun (v : Device) i => v.tileCount o i) v).base :=
    List.foldlRecOn (motive := fun u : Device => SameNoted v.base u.base) _ _ (.refl _) fun _ kept _ _ => kept.trans (sameNoted_tileCount ..)
  unfold Device.occur
  split
  · dsimp only
    split
    · exact tiles.trans (sameNoted_countAll ..)
    · exact sameNoted_countAll ..
  · exact .refl _

/-- Once the noted occurrences are counted, none waits (17 R493). -/
theorem countNoted_occurs : v.countNoted.base.occurs = [] := by
  unfold Device.countNoted
  dsimp only
  split
  · next none => simpa using none
  · exact List.foldlRecOn (motive := fun u : Device => u.base.occurs = []) _ _ rfl fun u none o _ => Eq.trans (sameNoted_occur u o) none

theorem settle_occurs : v.settle.base.occurs = [] := by
  obtain ⟨a, b, k, same⟩ := syncStore_changes_store
    ((((((((v.lateWrites).mails).onWork fun w => w.locksEnd.idleSweeps).unitsSettle).dozeWake).lockSettle).watchPairs).countNoted)
  rw [Device.settle, same]
  exact countNoted_occurs _

/-- No client's message waits: the management controller takes none. -/
theorem mails_of_none_pending (h : ∀ k ∈ v.mbxPendings, v.mailPending (k / 2) = none) : v.mails = v :=
  List.foldlRecOn (motive := fun u : Device => u = v) _ _ rfl fun u hu k hk => by
    subst hu
    simp [Device.mailIn, h k hk]

/-- No written value waits for its tile: none takes force. -/
theorem idleSweeps_of_none_waiting (w : Work) (h : w.base.waitIdle = []) : w.idleSweeps = w := by
  simp [Work.idleSweeps, h]

/-- In a calm device what follows a command is the watch over pairs, the count, and the store. -/
theorem settle_of_calm (calm : v.calm) : v.settle = v.watchPairs.countNoted.syncStore := by
  obtain ⟨late, mail, locks, idle, requests, doze, lock⟩ := calm
  have links : v.onWork (fun w => w.locksEnd.idleSweeps) = v := by
    have same : v.work.locksEnd.idleSweeps = v.work := by rw [locksEnd_of_no_lock _ locks, idleSweeps_of_none_waiting _ idle]
    rw [Device.onWork, same]
  rw [Device.settle, lateWrites_of_none_late v late, mails_of_none_pending v mail, links, unitsSettle_of_no_request v requests,
    dozeWake_of_no_doze v doze, lockSettle_of_no_lock v lock]

end

/-- Settles O2: every meaning is an effect under a condition; after it the occurrences have been counted, and counting notes none; in a calm device
only the watch, the count and the store follow. -/
theorem everyCommandAnswersAndIsCounted : Obligations.EveryCommandAnswersAndIsCounted := by
  refine ⟨⟨fun c s => ?_, fun s t none hstep => ?_⟩, fun v calm off => ?_⟩
  · obtain ⟨may, f, hc⟩ := exec_form c s
    exact ⟨_, hc⟩
  · rcases step_cases hstep with same | ⟨v, settled⟩
    · rw [same]
      exact none
    · rw [settled]
      exact settle_occurs v
  · obtain ⟨d, watched⟩ := watchPairs_changes_diverge v
    rw [settle_of_calm v calm, watched, countNoted_without_control v d off]
    obtain ⟨a, b, k, synced⟩ := syncStore_changes_store
      { v.onBase (fun x => { x with occurs := [] }) with mgt := { v.mgt with diverge := d } }
    exact ⟨d, a, b, k, synced⟩

end Sys2Proof.Proofs
end

section
/-! The tags of the Dock's bays after resets (14 R418). -/

namespace Sys2Proof.Proofs

open Sys2Proof Sys2Proof.Machine Sys2Proof.Laws

/-- The second device has the bays of the first. -/
def SameBays (u v : Device) : Prop := v.dock.bays = u.dock.bays

theorem SameBays.refl (v : Device) : SameBays v v := rfl

theorem SameBays.trans {u v w : Device} (h : SameBays u v) (k : SameBays v w) : SameBays u w := Eq.trans k h

theorem SameBays.bays {u v : Device} (same : SameBays u v) (p : Nat) : v.bays p = u.bays p := by
  rw [Device.bays, Device.bays, same]

/-- A set of bays that holds something is what was set, and the bays of other partitions stay. -/
theorem bays_setBays {v : Device} {p : Nat} {st : BaySt} (held : st ≠ {}) (q : Nat) :
    (v.setBays p st).bays q = if q = p then st else v.bays q := by
  simp only [Device.bays, Device.setBays, if_neg held, map_find_put]
  split <;> rfl

section
variable (v : Device) (p : Nat)

theorem sameBays_onBase (f : Base → Base) : SameBays v (v.onBase f) := rfl

theorem sameBays_withPmc (c : Pmc) : SameBays v { v with pmc := c } := rfl

theorem sameBays_withMgt (m : Mgt) : SameBays v { v with mgt := m } := rfl

theorem sameBays_withMemory (w : Work) (m : MemSys) : SameBays v { v with work := w, mem := m } := rfl

theorem sameBays_withSentAt (l : List (Nat × Nat)) (m : Mgt) : SameBays v { v with dock := { v.dock with sentAt := l }, mgt := m } := rfl

theorem sameBays_counterReset (k : Nat) : SameBays v (v.counterReset k) := by
  unfold Device.counterReset
  exact (sameBays_onBase v _).trans (sameBays_withPmc _ _)

theorem sameBays_countersReset : SameBays v (v.countersReset p) := by
  unfold Device.countersReset
  have reset : SameBays v ((v.base.grantedTo p).foldl (fun (v : Device) k => v.counterReset k) v) :=
    List.foldlRecOn (motive := SameBays v) _ _ (.refl v) fun u same k _ => same.trans (sameBays_counterReset u k)
  exact reset.trans (sameBays_onBase _ _)

theorem sameBays_mbxWithdraw (c d cause : Nat) : SameBays v (v.mbxWithdraw c d cause) := by
  unfold Device.mbxWithdraw
  exact (sameBays_onBase v _).trans (sameBays_withSentAt _ _ _)

/-- A reset of mailboxes leaves the bays. -/
theorem sameBays_mbxReset (channels : List Nat) : SameBays v (v.mbxReset channels) := by
  unfold Device.mbxReset
  refine List.foldlRecOn (motive := SameBays v) _ _ (.refl v) fun u same c _ => ?_
  refine List.foldlRecOn (motive := SameBays v) _ _ (same.trans (sameBays_withMgt u _)) fun w same d _ => ?_
  dsimp only
  split
  · exact same.trans ((sameBays_mbxWithdraw w _ _ _).trans (sameBays_onBase _ _))
  · exact same.trans (sameBays_onBase w _)

theorem sameBays_closeSessions (f : Session → Bool) : SameBays v (v.closeSessions f) := by
  unfold Device.closeSessions
  exact (sameBays_onBase v _).trans (sameBays_withMgt _ _)

/-- The bays of a partition at its reset: no command, and every tag HOST; those of the other partitions stay. -/
theorem partCore_bays (q : Nat) : (v.partCore p).bays q = if q = p then { base := 1 } else v.bays q := by
  unfold Device.partCore
  extract_lets counters units reset set channels mail
  have counted : SameBays v reset := (sameBays_countersReset v p).trans (sameBays_withMemory counters _ _)
  have rest : SameBays set (mail.closeSessions fun s => s.transport == 3 && channels.contains s.channel) :=
    (sameBays_mbxReset set channels).trans (sameBays_closeSessions mail _)
  rw [rest.bays, bays_setBays (by decide), counted.bays]

end

/-- What a partition reset leaves of the bays; one of a partition that is not valid is refused (16 R483). -/
theorem partReset_bays {v : Device} {p : Nat} (valid : v.base.partValid p = true) (q : Nat) :
    (v.partReset p).bays q = if q = p then { base := 1 } else v.bays q := by
  rw [Device.partReset, if_pos valid, (sameBays_onBase ..).bays, partCore_bays]

theorem partReset_bays_of_refused {v : Device} {p : Nat} (invalid : ¬ v.base.partValid p = true) (q : Nat) : (v.partReset p).bays q = v.bays q := by
  rw [Device.partReset, if_neg invalid, Device.resetDeny, (sameBays_onBase ..).bays]

/-- Settles O60: a cold reset keeps the pins alone of the Dock, and a partition reset sets the partition's bays. -/
theorem dockTagsFollowResets : Obligations.DockTagsFollowResets := by
  refine ⟨fun _ _ _ _ _ => rfl, fun v p n bay valid => ?_, fun v p q other => ?_⟩
  · rw [partReset_bays valid, if_pos rfl]
    rfl
  · by_cases valid : v.base.partValid p = true
    · rw [partReset_bays valid, if_neg other]
    · exact partReset_bays_of_refused valid q

end Sys2Proof.Proofs
end

section
/-! Register accesses that their master may not make (14 R405, R411, 04 R102). -/

namespace Sys2Proof.Proofs

open Sys2Proof Sys2Proof.Machine Sys2Proof.Laws

section
variable {v : Device} {m : Nat} {r : RegAt}

/-- A register that a write does not reach refuses it, and the register of doorbells with TOK.DOORBELL too. -/
theorem regStore_not_reached (other : r.reg.spec.block ≠ .mbx) (refused : v.base.reaches m r true = false) (x mask : Nat) :
    v.regStore m r x mask = v.onBase fun b =>
      (if r.reg = .DOCK_QTAIL then b.raise 0x030D (queueSrc (2048 * r.die + r.unit)) (b.partOfQueue (2048 * r.die + r.unit)) else b).regDeny m r.die := by
  simp [Device.regStore, other, refused]

/-- A register that a read does not reach refuses it. -/
theorem regLoad_not_reached (heard : v.base.hears m r) (refused : v.base.reaches m r false = false) (a size : Nat) :
    v.regLoad m r a size = v.onBase fun b => b.regDeny m r.die := by
  simp only [Device.regLoad]
  rw [if_neg ((hears_iff _ _ _).mp heard), if_pos (by simp [refused])]

end

/-- A write that arrives leaves what its register makes of it, reported by its port. -/
theorem registerWrite_leaves_regStore {s : State} {rt : Route} {off size data m a : Nat} {r : RegAt} {v : Device}
    (arrives : s.arrives rt off size 0x70 m a v) (free : s.dev.writeFree rt off data) (place : placeOf a = .reg r) {w : Device}
    (hw : v.regStore m r (accessData a size data) (accessMask a size) = w) : Leaves (.registerWrite rt off size data) s (w.reported rt) := by
  obtain ⟨hrun, hrt, ok, rfl⟩ := arrives
  exact registerWrite_leaves_masterWrite hrun hrt free (by rw [masterWrite_reg ok place, hw])

/-- Settles O12: the register is not reached, so the access leaves the refusal alone. -/
theorem registerAccessIsDenied : Obligations.RegisterAccessIsDenied := by
  intro s rt off size data m a r v place
  refine ⟨fun other arrives free refused reg => ?_, fun other arrives free refused reg => ?_, fun arrives heard refused => ?_⟩
  · exact registerWrite_leaves_regStore arrives free place (by rw [regStore_not_reached other refused]; simp only [if_neg reg])
  · exact registerWrite_leaves_regStore arrives free place (by rw [regStore_not_reached other refused]; simp only [if_pos reg])
  · exact rcRead_leaves_regLoad arrives place (regLoad_not_reached heard refused a size)

end Sys2Proof.Proofs
end

section
/-! STEP processing, and the sizes of the records it writes (11 R326, 12 R358, 13 R378, R382). -/

namespace Sys2Proof.Proofs

open Sys2Proof Sys2Proof.Machine Sys2Proof.Laws

theorem length_noiseRecord (g : NoiseGroup) (n : Nat) : (g.record n).length = 32 := by simp [NoiseGroup.record]

theorem length_verdictRecord (v : Verdict) (n : Nat) (off : Bool) : (v.record n off).length = 64 := by simp [Verdict.record]

@[simp] theorem length_epochs (b : Base) : b.epochs.length = 8 := by simp [Base.epochs]

/-- A Daybook record is 120 bytes, of which eight name the checkpoint or are zero, and their digest. -/
theorem length_dayRecord (b : Base) (p n h : Nat) (a : StepAcc) (v : Verdict) (off : Bool) (f : NoiseFigures) :
    (b.dayRecord p n h a v off f).2.length = 128 := by
  unfold Base.dayRecord
  dsimp only
  split <;> simp

/-- Settles O26: the processing is that of a running STEP whose step was closed for it, in the order in which it is written. -/
theorem stepClosesInItsOrder : Obligations.StepClosesInItsOrder := by
  refine ⟨?_, length_noiseRecord, length_verdictRecord, fun b c p n h a v off f l record => ?_⟩
  · rintro s id q seq p n h x run w w1 b1 b2 b3 b4 b5 f r runs window running step rfl closed rfl rfl rfl rfl rfl rfl noise rfl day rfl rfl
    refine does_of_unitRun rfl runs ?_
    simp only [Work.stepWb, window, closed, running, step, and_self, if_true, noise, day]
  · rw [← length_dayRecord b p n h a v off f, record]

end Sys2Proof.Proofs
end

section
/-! The waybills of the checkpoint engines (13 R388 to R393, R398). -/

namespace Sys2Proof.Proofs

open Sys2Proof Sys2Proof.Machine Sys2Proof.Laws

section
variable {w : Work} {id q seq n : Nat} {x : Wb}

section
variable {mine other : Option (List Byte)} {b1 b2 : Base} (first : w.base.ckRead (w.base.cx id x).req x.part x.ckGen = (b1, mine))
  (second : b1.ckRead (w.base.cx id x).req x.part (1 - x.ckGen) = (b2, other))
include first second

section
variable (ready : w.ckReady id q seq 0x80 = some (x, n)) (opens : x.ckOpen = true)
include ready opens

/-- A generation that is to be kept is not opened (13 R389). -/
theorem ckptOpen_of_kept (kept : ckIsNewest (ckValid mine) (ckValid other) = true ∨ ckValid other = some x.step) :
    w.ckptOpen id q seq = Work.reject { w with base := b2 } id x 0x0C0E := by
  simp [Work.ckptOpen, ready, opens, first, second, kept]

theorem ckptOpen_of_free (older : ckIsNewest (ckValid mine) (ckValid other) = false) (apart : ckValid other ≠ some x.step) :
    w.ckptOpen id q seq = Work.finish { w with
      base := b2.storeBytes (w.base.cx id x).req (b2.ckHeader x.part x.ckGen)
        (b2.ckRecord x.ckGen 0 0 x.step 0 (b2.seedOf x.part) (b2.hstep x.part) 0 b2.epochs) } id x := by
  simp [Work.ckptOpen, ready, opens, first, second, older, apart]

end

section
variable (ready : w.ckReady id q seq 0x81 = some (x, n))
include ready

/-- A generation with no good commit record is not open (13 R391). -/
theorem ckptCommit_of_none (absent : mine = none) : w.ckptCommit id q seq = Work.reject { w with base := b2 } id x 0x0C0F := by
  subst absent
  simp only [Work.ckptCommit, ready, first, second]

section
variable {l : List Byte} (found : mine = some l)
include found

theorem ckptCommit_of_closed (closed : ckState l ≠ 0) : w.ckptCommit id q seq = Work.reject { w with base := b2 } id x 0x0C0F := by
  subst found
  simp only [Work.ckptCommit, ready, first, second, if_pos closed]

section
variable (opened : ckState l = 0)
include opened

theorem ckptCommit_of_same_boundary (same : ckValid other = some (ckBoundary l)) :
    w.ckptCommit id q seq = Work.reject { w with base := b2 } id x 0x0C0E := by
  subst found
  simp only [Work.ckptCommit, ready, first, second, opened, ne_eq, not_true, if_false, if_pos same]

variable (new : ckValid other ≠ some (ckBoundary l)) {b : Base} {m : List Byte} {bad : Bool}
  (manifest : b2.readBytes (w.base.cx id x).req (b2.ckEntry x.part x.ckGen 0) (64 * x.arg) = (b, m, bad))
include new manifest

theorem ckptCommit_of_good
    (good : (!bad && (List.range x.arg).all fun i => ckEntryGood (slice m (64 * i) 64) x.ckGen (ckBoundary l)) = true) :
    w.ckptCommit id q seq = Work.finish { w with
      base := b.storeBytes (w.base.cx id x).req (b.ckHeader x.part x.ckGen)
        (b.ckRecord x.ckGen 1 x.arg (ckBoundary l) (digest m) (fieldAt l 24 8) (fieldAt l 32 4) b.time (slice l 36 8)) } id x := by
  subst found
  simp only [Work.ckptCommit, ready, first, second, opened, ne_eq, not_true, if_false, if_neg new, manifest, good, if_true]

theorem ckptCommit_of_bad
    (broken : (!bad && (List.range x.arg).all fun i => ckEntryGood (slice m (64 * i) 64) x.ckGen (ckBoundary l)) = false) :
    w.ckptCommit id q seq = Work.reject { w with base := b } id x 0x0C10 := by
  subst found
  simp only [Work.ckptCommit, ready, first, second, opened, ne_eq, not_true, if_false, if_neg new, manifest, broken, Bool.false_eq_true]

end
end
end
end

section
variable {a d : Desc} {w1 w2 : Work} {y z : Wb} (ready : w.ckReady id q seq 0x80 = some (x, n)) (stays : x.ckOpen = false)
include ready stays

section
variable (saves : x.ckRestore = false) (source : x.desc 0 = some a) (dest : x.desc 1 = some d)
include saves source dest

/-- A copy on the engine of a fenced stack completes without an entry (13 R393). -/
theorem ckptCopy_of_fenced (fenced : w.base.stackFenced n = true) : w.ckptCopy id q seq = w.setWb id (x.endWith 0x16) := by
  simp only [Work.ckptCopy, ready, stays, saves, source, dest, Bool.or_self, fenced, if_true]

variable (serves : w.base.stackFenced n = false)
include serves

theorem ckptCopy_of_not_open (begins : w.ckCopyBegin id x a d = (w1, none)) : w.ckptCopy id q seq = w1.reject id x 0x0C0F := by
  simp only [Work.ckptCopy, ready, stays, saves, source, dest, Bool.or_self, serves, Bool.false_eq_true, if_false, begins]

/-- The next 4 KiB of a copy that goes on (13 R389, R390). -/
theorem ckptCopy_of_open (begins : w.ckCopyBegin id x a d = (w1, some y)) (moves : w1.ckBlock id n y a.sealchk = (w2, z)) :
    w.ckptCopy id q seq =
      if 4096 * z.next < z.aux.getD 3 0 then w2.setWb id z
      else if z.aux.getD 6 0 = 1 then
        Work.finish { w2 with base := (w2.base.each id z 0x0C12).1.ckLast n (w2.base.each id z 0x0C12).2 } id (w2.base.each id z 0x0C12).2
      else Work.finish { w2.ckListed id z with base := (w2.ckListed id z).base.ckLast n z } id z := by
  simp only [Work.ckptCopy, ready, stays, saves, source, dest, Bool.or_self, serves, Bool.false_eq_true, if_false, begins, moves]

end

section
variable (restores : x.ckRestore = true)
include restores

theorem ckptRestore_of_not_valid (begins : w.ckRestoreBegin id x = (w1, none)) : w.ckptRestore id q seq = w1.reject id x 0x0C0F := by
  simp only [Work.ckptRestore, ready, stays, restores, Bool.not_true, Bool.or_self, Bool.false_eq_true, if_false, begins]

/-- The next 4 KiB of a restore that goes on, and after the last what it reports: poison first, then another digest (13 R389). -/
theorem ckptRestore_of_valid (begins : w.ckRestoreBegin id x = (w1, some y)) (moves : w1.ckBlock id n y false = (w2, z)) :
    w.ckptRestore id q seq =
      if 4096 * z.next < z.aux.getD 3 0 then w2.setWb id z
      else
        let read := if z.aux.getD 6 0 = 1 then w2.base.each id z 0x0C12 else (w2.base, z)
        let same := if digestCfg.finish (z.aux.getD 5 0) = z.aux.getD 7 0 then read else read.1.each id read.2 0x0C11
        Work.finish { w2 with base := same.1 } id same.2 := by
  simp only [Work.ckptRestore, ready, stays, restores, Bool.not_true, Bool.or_self, Bool.false_eq_true, if_false, begins, moves]

end
end
end

/-- An event of a waybill leaves its generation, its entry and its boundary, so DOCK_CK_LAST is the same (13 R398). -/
theorem ckLast_each (b c : Base) (id n code : Nat) (x : Wb) : b.ckLast n (c.each id x code).2 = b.ckLast n x := rfl

/-- Settles O35: each waybill does what its function makes of what it has read. -/
theorem checkpointsOpenCopyCommitRestore : Obligations.CheckpointsOpenCopyCommitRestore := by
  refine ⟨?_, ?_, ?_⟩
  · rintro s id q seq n p x mine other b1 b2 w runs rfl first second rfl
    refine ⟨fun ready opens => ⟨fun kept => ?_, fun older apart => ?_⟩, fun ready => ⟨fun absent => ?_, fun l found => ⟨fun closed => ?_,
      fun opened same => ?_, fun opened new b m bad good manifest entries => ⟨fun ok => ?_, fun broken => ?_⟩⟩⟩⟩
    · exact does_of_unitRun rfl runs (ckptOpen_of_kept first second ready opens kept)
    · exact does_of_unitRun rfl runs (ckptOpen_of_free first second ready opens older apart)
    · exact does_of_unitRun rfl runs (ckptCommit_of_none first second ready absent)
    · exact does_of_unitRun rfl runs (ckptCommit_of_closed first second ready found closed)
    · exact does_of_unitRun rfl runs (ckptCommit_of_same_boundary first second ready found opened same)
    · exact does_of_unitRun rfl runs (ckptCommit_of_good first second ready found opened new manifest (entries.trans ok))
    · exact does_of_unitRun rfl runs (ckptCommit_of_bad first second ready found opened new manifest (entries.trans broken))
  · intro s id q seq n x a d w o runs ready stays saves source dest begins
    refine ⟨fun fenced => ?_, fun serves absent => ?_, fun serves y w1 z begun moves => ?_⟩
    · exact does_of_unitRun rfl runs (ckptCopy_of_fenced ready stays saves source dest fenced)
    · subst absent
      exact does_of_unitRun rfl runs (ckptCopy_of_not_open ready stays saves source dest serves begins)
    · subst begun
      have goes := ckptCopy_of_open ready stays saves source dest serves begins moves
      refine ⟨fun more => ?_, fun past poison b t event => ?_, fun past clean => ?_⟩
      · exact does_of_unitRun rfl runs (goes.trans (if_pos more))
      · rw [if_neg (Nat.not_lt.mpr past), if_pos poison, ckLast_each, event] at goes
        exact does_of_unitRun rfl runs goes
      · exact does_of_unitRun rfl runs (goes.trans ((if_neg (Nat.not_lt.mpr past)).trans (if_neg clean)))
  · intro s id q seq n x w o runs ready stays restores begins
    refine ⟨fun absent => ?_, fun y w1 z begun moves => ?_⟩
    · subst absent
      exact does_of_unitRun rfl runs (ckptRestore_of_not_valid ready stays restores begins)
    · subst begun
      have goes := ckptRestore_of_valid ready stays restores begins moves
      refine ⟨fun more => ?_, fun past clean same => ?_, fun past clean differs b t event => ?_, fun past poison same b t event => ?_,
        fun past poison differs b1 t1 b t event event' => ?_⟩
      · exact does_of_unitRun rfl runs (goes.trans (if_pos more))
      · simp only [if_neg (Nat.not_lt.mpr past), if_neg clean, if_pos same] at goes
        exact does_of_unitRun rfl runs goes
      · simp only [if_neg (Nat.not_lt.mpr past), if_neg clean, if_neg differs, event] at goes
        exact does_of_unitRun rfl runs goes
      · simp only [if_neg (Nat.not_lt.mpr past), if_pos poison, if_pos same, event] at goes
        exact does_of_unitRun rfl runs goes
      · simp only [if_neg (Nat.not_lt.mpr past), if_pos poison, if_neg differs, event, event'] at goes
        exact does_of_unitRun rfl runs goes

end Sys2Proof.Proofs
end

section
/-! Writes of the Daybook's registers, which need the partition quiet (13 R384). -/

namespace Sys2Proof.Proofs

open Sys2Proof Sys2Proof.Machine Sys2Proof.Laws

/-- The step number is the whole of its register's one field (13 R377). -/
theorem newValue_dbStep (v : Device) (d u i j : Nat) {x : Nat} (hx : x < 2 ^ 64) : v.newValue .DOCK_DB_STEP d u i j x = BitVec.ofNat 64 x := by
  have field : (⟨0, 64, .rw, 0⟩ : Fld) ∈ Reg.DOCK_DB_STEP.spec.fields := List.mem_singleton.mpr rfl
  have written : fget (v.newValue .DOCK_DB_STEP d u i j x) 0 64 = x / 2 ^ 0 % 2 ^ 64 :=
    fget_writeFields _ _ (v.base.rd .DOCK_DB_STEP d u i j) x v.base.locked field hx (by decide) (List.pairwise_singleton _ _)
  apply BitVec.eq_of_toNat_eq
  rw [BitVec.toNat_ofNat]
  rwa [fget, pow_zero, Nat.div_one, Nat.div_one, Nat.mod_eq_of_lt (BitVec.isLt _)] at written

section
variable (v : Device) (m p : Nat) {x : Nat} (hx : x < 2 ^ 64)
include hx

/-- A write of DOCK_DB_STEP by a number is the write of that step number. -/
theorem regApply_dbStep_number :
    v.regApply m ⟨.DOCK_DB_STEP, 40, 0, p, 0⟩ (x % 2 ^ 64) (2 ^ 64 - 1) = v.onWork fun w => w.dbStepWrite p (BitVec.ofNat 64 x) := by
  rw [Nat.mod_eq_of_lt hx, regApply_dbStep, newValue_dbStep v 40 0 p 0 hx]

theorem regApply_dbCtl_number :
    v.regApply m ⟨.DOCK_DB_CTL, 40, 0, p, 0⟩ (x % 2 ^ 64) (2 ^ 64 - 1) =
      v.onWork fun w => w.dbCtlWrite p (v.newValue .DOCK_DB_CTL 40 0 p 0 x) := by
  rw [Nat.mod_eq_of_lt hx, regApply_dbCtl]

end

section
variable {w : Work} {p : Nat} (part : p < 8)
include part

section
variable (quiet : w.quiet p = true)
include quiet

theorem dbStepWrite_of_quiet {data : Nat} (hdata : data < 2 ^ 64) {b1 b2 : Base}
    (stored : b1 = (w.base.wr (BitVec.ofNat 64 data) .DOCK_DB_STEP 40 0 p).boundary p)
    (filled : b2 = b1.setStep p (fun a => { a with histfill := decide (b1.unfilled p ≠ 0) })) :
    w.dbStepWrite p (BitVec.ofNat 64 data) = ((Work.poolStep { w with base := b2 } p).ringForget p).foldStepBegin p data := by
  subst stored filled
  simp only [Work.dbStepWrite, part, quiet, if_true, BitVec.toNat_ofNat, Nat.mod_eq_of_lt hdata]

theorem dbCtlWrite_of_quiet (new : Word) :
    w.dbCtlWrite p new = { w with
      base := w.base.wr (fput (fput (fput 0 7 45 (fget new 7 45)) 0 1 (fget (w.base.rd .DOCK_DB_CTL 40 0 p) 0 1)) 0 1 (fget new 0 1))
        .DOCK_DB_CTL 40 0 p } := by
  simp only [Work.dbCtlWrite, part, quiet, if_true]

end

section
variable (busy : w.quiet p = false)
include busy

theorem dbStepWrite_of_busy (data : Word) : w.dbStepWrite p data = { w with base := w.base.psprEvent p 1 0x0C0B io0 } := by
  simp only [Work.dbStepWrite, part, busy, if_true, Bool.false_eq_true, if_false]

theorem dbCtlWrite_of_busy (new : Word) :
    w.dbCtlWrite p new = { w with
      base := (w.base.wr (fput (fput 0 7 45 (fget new 7 45)) 0 1 (fget (w.base.rd .DOCK_DB_CTL 40 0 p) 0 1)) .DOCK_DB_CTL 40 0 p).psprEvent p 1 0x0C0B
        io0 } := by
  simp only [Work.dbCtlWrite, part, busy, if_true, Bool.false_eq_true, if_false]

end
end

/-- Settles O36: each of the two writes does what its register's function makes of it, by whether the partition is quiet. -/
theorem daybookRegistersNeedQuiet : Obligations.DaybookRegistersNeedQuiet := by
  rintro s rt p data m v w part hdata rfl
  refine ⟨fun h => ⟨fun busy => ?_, fun quiet b1 b2 stored filled => ?_⟩, fun h old new kept hold hnew hkept => ?_⟩
  · exact leaves_of_writeReg h rfl (regApply_dbStep_number v m p hdata) (dbStepWrite_of_busy part busy _)
  · exact leaves_of_writeReg h rfl (regApply_dbStep_number v m p hdata) (dbStepWrite_of_quiet part quiet hdata stored filled)
  · subst hold hnew hkept
    have leaves {w : Work} (hw : v.work.dbCtlWrite p (v.newValue .DOCK_DB_CTL 40 0 p 0 data) = w) :
        Leaves (.dbReplayWrite rt p data) s ((v.onWork fun _ => w).answer .ok) :=
      leaves_of_writeReg h rfl (regApply_dbCtl_number v m p hdata) hw
    exact ⟨fun quiet => leaves (dbCtlWrite_of_quiet part quiet _), fun busy => leaves (dbCtlWrite_of_busy part busy _)⟩

end Sys2Proof.Proofs
end

section
/-! The wheel-tap, positions that move, fences, self-tests and cores (13 R364 to R376). -/

namespace Sys2Proof.Proofs

open Sys2Proof Sys2Proof.Machine Sys2Proof.Laws

section
variable {w : Work} {n : Nat}

theorem wheelTap_of_due (due : w.tapDue n = true) : w.wheelTap n = w.tapBegin n := by rw [Work.wheelTap, if_pos due]

/-- The tap of a withdrawn tile is tried again, or given up where the wheel-tap is disabled by now (13 R372, R373). -/
theorem tapRetry_of_on {t : Nat} (withdrawn : (w.tap n).retryAt = some t) (idle : w.base.tapPhase n = 0) (reached : t ≤ w.base.time)
    (runs : w.base.dieRuns (cd n) = true) (on : w.base.tapOn n = true) : w.tapRetry n = w.tapBegin n := by
  simp [Work.tapRetry, withdrawn, idle, reached, runs, on]

theorem tapRetry_of_off {t : Nat} (withdrawn : (w.tap n).retryAt = some t) (idle : w.base.tapPhase n = 0) (reached : t ≤ w.base.time)
    (runs : w.base.dieRuns (cd n) = true) (off : w.base.tapOn n = false) : w.tapRetry n = w.setTap n { w.tap n with retryAt := none } := by
  simp [Work.tapRetry, withdrawn, idle, reached, runs, off]

section
variable {b : Base} {m : Nat} {u : Work} (skipped : b = w.base.tapSkip n 68) (under : m = b.rf 0 7 .DOCK_WT_STATE (cd n))
  (set : u = Work.setTap { w with base := b } n { w.tap n with retryAt := none })
include skipped under set

/-- A spare under the pointer is tested where it is (13 R371). -/
theorem tapBegin_of_spare (spare : b.tileState n m = tSPARE) :
    w.tapBegin n = { u with base := (b.tapMark n m 3 m).tileTo n m tTEST,
                            spare := { u.spare with tests := u.spare.tests ++ [⟨n, 1, m, 3, true, tSPARE⟩] } } := by
  subst skipped under set
  exact if_pos spare

section
variable (active : b.tileState n m = tACTIVE) {p : Nat} (held : b.posOfTile n m = some p)
include active held

/-- An active tile under the pointer waits for its idle boundary, where a spare may take its position (13 R371, R372). -/
theorem tapBegin_of_active {c : Nat} (found : b.spareFor n p = some c) :
    w.tapBegin n = Work.setTap { u with base := b.tapMark n m 1 c } n { u.tap n with retryAt := none, waitFrom := some b.time } := by
  subst skipped under set
  refine (if_neg (by rw [active]; decide)).trans ((if_pos active).trans ?_)
  simp only [held, found]
  rfl

theorem tapBegin_of_no_spare (absent : b.spareFor n p = none) :
    w.tapBegin n = Work.tapEnd { u with base := b.tileSpr n 0 0x0C01 (b.partOfPos n p) } n 0 := by
  subst skipped under set
  refine (if_neg (by rw [active]; decide)).trans ((if_pos active).trans ?_)
  simp only [held, absent]
  rfl

end
end

/-- A tile that has come to its idle boundary is not withdrawn (13 R372). -/
theorem idleWait_of_idle {t : Nat} (waits : (w.tap n).waitFrom = some t) (idle : w.idleBoundary n (w.base.tapTile n) = true) : w.idleWait n = w := by
  simp [Work.idleWait, waits, idle]

/-- A tile whose wait ends before it has come to one is withdrawn (13 R372). -/
theorem idleWait_of_busy {t : Nat} (waits : (w.tap n).waitFrom = some t) (marked : w.base.tapPhase n = 1)
    (past : t + msTicks (w.base.catNum 0x4012 (n + 1)) ≤ w.base.time) (busy : w.idleBoundary n (w.base.tapTile n) = false) {b : Base}
    (hb : b = w.base.wf 8 3 (if w.base.tapOn n then 0 else 4) .DOCK_WT_STATE (cd n)) :
    w.idleWait n = Work.setTap { w with base := b.tileSpr n 0 0x0C01 (b.partOfTile n (w.base.tapTile n)) } n
      { w.tap n with waitFrom := none, retryAt := if b.tapOn n then some (b.time + msTicks (w.base.catNum 0x4012 (n + 1))) else none } := by
  subst hb
  simp only [Work.idleWait, waits]
  rw [if_pos ⟨marked, past, by simp [busy]⟩]

section
variable {m p : Nat} (idle : w.idleBoundary n m = true) (held : w.base.posOfTile n m = some p)
include idle held

/-- A tile that a vacant lead position waits for moves there at its idle boundary (03 R68). -/
theorem positionMove_of_lead {v : Nat} (awaits : w.leadAwaits n m = some v) :
    w.positionMove n m = (w.leadMove n m p v).tapEndIf (w.tapped n m) n := by
  simp [Work.positionMove, idle, held, awaits]

section
variable (stays : w.leadAwaits n m = none)
include stays

section
variable (fenced : w.spare.fencing.contains (tileCode n m) = true)
include fenced

theorem positionMove_of_fence (alone : w.base.donorFor n p w.spare.fencing = none) :
    w.positionMove n m = ((w.fenceMove n p m).fenced n m (w.base.partOfPos n p)).tapEndIf (w.tapped n m) n := by
  simp only [Work.positionMove, idle, held, stays, fenced, alone, Bool.or_true, Bool.true_or, Bool.not_true, Bool.or_self, Bool.false_eq_true, if_false,
    if_true]

theorem positionMove_of_donor {c k : Nat} (donor : w.base.donorFor n p w.spare.fencing = some c) (ready : w.idleBoundary n c = true)
    (from_ : w.base.posOfTile n c = some k) :
    w.positionMove n m = (((w.refill n k c).movePos n p m c).fenced n m (w.base.partOfPos n p)).tapEndIf (w.tapped n m) n := by
  simp only [Work.positionMove, idle, held, stays, fenced, donor, ready, from_, Bool.or_true, Bool.true_or, Bool.not_true, Bool.or_self,
    Bool.false_eq_true, if_false, if_true]

end

section
variable (free : w.spare.fencing.contains (tileCode n m) = false) (taps : w.tapped n m = true)
include free taps

/-- A tapped tile gives its position to a spare, at its idle boundary (13 R371). -/
theorem positionMove_of_tap {c : Nat} (found : w.base.spareFor n p = some c) : w.positionMove n m = w.tapMove n p m c := by
  simp only [Work.positionMove, idle, held, stays, free, taps, found, Bool.true_or, Bool.not_true, Bool.or_self, Bool.false_eq_true, if_false]

theorem positionMove_of_tap_alone (absent : w.base.spareFor n p = none) :
    w.positionMove n m = Work.tapEnd { w with base := w.base.tileSpr n 0 0x0C01 (w.base.partOfPos n p) } n 0 := by
  simp only [Work.positionMove, idle, held, stays, free, taps, absent, Bool.true_or, Bool.not_true, Bool.or_self, Bool.false_eq_true, if_false]

end
end
end

section
variable {t : Nat} (die : n < 8) (tile : t < 68)
include die tile

/-- A tile that holds a position waits for its idle boundary to be fenced (13 R366). -/
theorem tileFence_of_active (active : w.base.tileState n t = tACTIVE) :
    w.tileFence n t = { w with spare := { w.spare with fencing := NSet.add (tileCode n t) w.spare.fencing } } := by
  rw [Work.tileFence, if_neg (by omega), active]
  rfl

theorem tileFence_of_other (other : w.base.tileState n t = tSPARE ∨ w.base.tileState n t = tTEST) :
    w.tileFence n t = { w with base := (w.base.tileTo n t tFENCED).tileSpr n 1 0x0C02 none } := by
  rw [Work.tileFence, if_neg (by omega)]
  rcases other with spare | test
  · rw [spare]; rfl
  · rw [test]; rfl

end

section
variable {d k i : Nat} (kind : k = fget (w.base.rd .DOCK_ST_CMD d) 0 4) (index : i = testIndex k (fget (w.base.rd .DOCK_ST_CMD d) 4 7))
include kind index

/-- A self-test of a unit that may not be tested, of no test, or beside another one is refused (13 R374). -/
theorem selfTestStart_of_refused
    (refused : w.testable d k i = false ∨ fget (w.base.rd .DOCK_ST_CMD d) 11 2 = 0 ∨ w.base.rf 0 2 .DOCK_ST_STATUS d = 1) :
    w.selfTestStart d = { w with base := (w.base.wf 2 1 1 .DOCK_ST_STATUS d).sprEvent d 7 0x0C08 (logic d) none } := by
  subst kind index
  refine if_neg fun all => ?_
  simp only [Bool.and_eq_true, bne_iff_ne] at all
  obtain ⟨⟨may, some⟩, idle⟩ := all
  rcases refused with no | none | busy
  · rw [no] at may
    cases may
  · exact some none
  · exact idle busy

theorem selfTestStart_tests (may : w.testable d k i = true) (some : fget (w.base.rd .DOCK_ST_CMD d) 11 2 ≠ 0)
    (idle : w.base.rf 0 2 .DOCK_ST_STATUS d ≠ 1) :
    (w.selfTestStart d).spare.tests =
      w.spare.tests ++ [⟨d, k, i, fget (w.base.rd .DOCK_ST_CMD d) 11 2, false, if k = 1 then w.base.tileState d i else 0⟩] := by
  subst kind index
  unfold Work.selfTestStart
  extract_lets v kind index tests
  rw [if_pos (by simp only [Bool.and_eq_true, bne_iff_ne]; exact ⟨⟨may, some⟩, idle⟩)]

end

/-- A test that its die returns is reported and concluded, and ends the tap whose test it is (13 R371, R375). -/
theorem selfTestEnd_of_found {d : Nat} {tap : Bool} {sl sm : Nat} {t : TestRun}
    (found : (w.spare.tests.find? fun t => t.die == d && t.tap == tap) = some t) :
    w.selfTestEnd d tap sl sm =
      let u : Work := { w with
        base := w.base.testReported t sl sm
        spare := { w.spare with tests := w.spare.tests.filter fun u => !(u.die == d && u.tap == tap) } }
      let bad := w.base.testBadL t sl || w.base.testBadM t sm
      if t.tap then (u.testConcludes t bad).tapEnd d 1 else u.testConcludes t bad := by
  simp only [Work.selfTestEnd, found]

section
variable {k : Nat} (die : n < 8) (core : k < 9) {x : Word} (hx : x = w.base.rd .DOCK_WT_CORE (cd n)) (works : bget x (9 + k) = false) {b : Base}
  (hb : b = w.base.coreLost (9 * n + k)) {id : Nat} (hid : id = if k < 8 then k else fget x 18 4)
include die core hx works hb hid

/-- The spare core takes the identity of one that failed, while it is free and works (13 R369). -/
theorem coreFail_of_spare (own : k < 8) (free : fget x 18 4 = 15) (good : bget x 17 = false) :
    w.coreFail n k = { w with
      base := ((b.wr (fput (fput (fput (fput x (9 + k) 1 1) k 1 0) 8 1 1) 18 4 k) .DOCK_WT_CORE (cd n)).sprEvent (cd n) 4 0x0C05 (logic (cd n))
        (b.partOfCore n id)).sparedStep (b.partOfCore n id) } := by
  subst hx hb hid
  rw [Work.coreFail, if_neg (by omega)]
  simp only [works, Bool.false_eq_true, if_false]
  rw [if_pos ⟨own, free, by rw [good]; rfl⟩]

theorem coreFail_of_none (taken : fget x 18 4 ≠ 15 ∨ bget x 17 = true) (carried : id < 8) :
    w.coreFail n k = { w with
      base := (b.wr (fput (fput x (9 + k) 1 1) k 1 0) .DOCK_WT_CORE (cd n)).sprEvent (cd n) 5 0x0C06 (logic (cd n)) (b.partOfCore n id) } := by
  subst hx hb hid
  have noSpare : ¬ (k < 8 ∧ fget (w.base.rd .DOCK_WT_CORE (cd n)) 18 4 = 15 ∧ (!bget (w.base.rd .DOCK_WT_CORE (cd n)) 17) = true) := by
    rintro ⟨-, free, good⟩
    rcases taken with other | lost
    · exact other free
    · rw [lost] at good
      cases good
  rw [Work.coreFail, if_neg (by omega)]
  simp only [works, Bool.false_eq_true, if_false]
  rw [if_neg noSpare, if_pos carried]

end
end

/-- Settles O47: each command does what its function makes of the work, clause by clause. -/
theorem sparesMoveAndAreTested : Obligations.SparesMoveAndAreTested := by
  refine ⟨fun s n runs free => ⟨fun due => ?tap, fun t withdrawn idle reached awake => ⟨fun on => ?retry, fun off => ?gone⟩⟩,
    ?begin, ?wait, ?move, ?fence, ?start, ?starts, ?ends, ?core⟩
  case tap =>
    have hc : exec (.wheelTap n) s = s.run (s.dev.dieRuns n && !s.dev.holds 7 n 0) fun v => v.doWork fun w => w.wheelTap n := rfl
    exact does_of_doWork hc (by simp [runs, free]) (wheelTap_of_due due)
  case retry => exact does_of_doWork rfl (by simp [runs, free]) (tapRetry_of_on withdrawn idle reached awake on)
  case gone => exact does_of_doWork rfl (by simp [runs, free]) (tapRetry_of_off withdrawn idle reached awake off)
  case begin =>
    intro w0 w n m b skipped under set
    exact ⟨fun spare => tapBegin_of_spare skipped under set spare, fun active p held => ⟨fun c found => tapBegin_of_active skipped under set active held found,
      fun absent => tapBegin_of_no_spare skipped under set active held absent⟩⟩
  case wait =>
    rintro s n t lim b runs rfl waits marked rfl past
    refine ⟨fun idle => passes_of_doWork rfl runs (idleWait_of_idle waits idle), ?_⟩
    rintro busy on b1 rfl hb1
    exact does_of_doWork rfl runs (idleWait_of_busy waits marked past busy hb1)
  case move =>
    rintro s n m p tapped w runs rfl idle held rfl
    have does {u : Work} (h : s.work.positionMove n m = u) : Does (.positionMove n m) s u := does_of_doWork rfl runs h
    exact ⟨fun v awaits => does (positionMove_of_lead idle held awaits),
      fun stays fenced => ⟨fun alone => does (positionMove_of_fence idle held stays fenced alone),
        fun c k donor ready leaves => does (positionMove_of_donor idle held stays fenced donor ready leaves)⟩,
      fun stays free taps => ⟨fun c found => does (positionMove_of_tap idle held stays free taps found),
        fun absent => does (positionMove_of_tap_alone idle held stays free taps absent)⟩⟩
  case fence =>
    intro s rt n t m v h die tile
    have go : (t + 2 ^ 7) % 2 ^ 64 = t + 2 ^ 7 := by omega
    have bit : (t + 2 ^ 7).testBit 7 = true := by interval_cases t <;> rfl
    have number : nget (t + 2 ^ 7) 0 7 = t := by simp [nget]; omega
    have effect : v.regApply m ⟨.DOCK_WT_FENCE, n, 0, 0, 0⟩ ((t + 2 ^ 7) % 2 ^ 64) (2 ^ 64 - 1) = v.onWork fun w => w.tileFence n t := by
      rw [go, regApply_fence, if_pos bit, number]
    exact ⟨fun active => leaves_of_writeReg h rfl effect (tileFence_of_active die tile active),
      fun other => leaves_of_writeReg h rfl effect (tileFence_of_other die tile other)⟩
  case start =>
    rintro s rt d data m x v h rfl starts
    exact leaves_of_writeReg (f := fun w => Work.selfTestStart { w with
      base := v.base.wr (v.newValue .DOCK_ST_CMD d 0 0 0 ((data ||| 2 ^ 13) % 2 ^ 64)) .DOCK_ST_CMD d } d) h rfl
      (by rw [regApply_stCmd, if_pos starts]; rfl) rfl
  case starts =>
    rintro w d k i b rfl kind index
    exact ⟨selfTestStart_of_refused kind index, selfTestStart_tests kind index⟩
  case ends =>
    intro s d tap sl sm runs
    refine ⟨fun absent => passes_of_doWork rfl runs (by simp only [Work.selfTestEnd, absent]), ?_⟩
    rintro t w bad found rfl rfl
    exact does_of_doWork rfl runs (selfTestEnd_of_found found)
  case core =>
    intro s n k id x b runs die core hx works hb hid
    exact ⟨fun own free good => does_of_doWork rfl runs (coreFail_of_spare die core hx works hb hid own free good),
      fun taken carried => does_of_doWork rfl runs (coreFail_of_none die core hx works hb hid taken carried)⟩

end Sys2Proof.Proofs
end

section
/-! Configuration requests of the hosts, accesses through BAR2, and the bays with their commands (14 R401, R403, R405, R410, R414 to R417). -/

namespace Sys2Proof.Proofs

open Sys2Proof Sys2Proof.Machine Sys2Proof.Laws

section
variable {v : Device} {L : Nat} (link : L < 8) (up : v.base.rf 0 3 .DOCK_PCIE_LNK (io (L / 2)) 0 (L % 2) ≠ 0) (enabled : (v.base.link L).disabled = false)
  (active : (v.base.link L).l2 = false)
include link up enabled active

/-- A link that is up, enabled and out of L2 answers its configuration requests. -/
theorem config_answers :
    ¬(v.base.rf 0 3 .DOCK_PCIE_LNK (io (L / 2)) 0 (L % 2) = 0 ∨ (v.base.link L).disabled = true ∨ (v.base.link L).l2 = true ∨ 8 ≤ L) := by
  simp [link, up, enabled, active]

/-- A link that is up answers with retry status before the lock (14 R410). -/
theorem config_of_unlocked (unlocked : v.base.locked = false) (r : CfgReq) : v.config L r = v.answer .retry := by
  rw [Device.config.eq_def, if_neg (config_answers link up enabled active), if_pos (by simp [unlocked])]

section
variable {p : Nat} (locked : v.base.locked = true) (bound : v.base.partOfLink L = some p) {l : LinkSt} (state : l = v.base.link L)
include locked bound state

/-- What the function of a bound link reads as after the lock, its identity apart (14 R403, R405). -/
theorem config_reads :
    (∀ i size ty, barShape i = some (size, ty) →
      v.config L (.readBar i) = v.answer (.value (BitVec.ofNat 64 ((Map.find i l.bars).getD 0 / size * size + ty)))) ∧
    v.config L .readCommand = v.answer (.value (BitVec.ofNat 64 l.command)) ∧
    v.config L .readMsix = v.answer (.value (BitVec.ofNat 64 (2047 + b2n l.msixMask * 2 ^ 14 + b2n l.msixOn * 2 ^ 15))) ∧
    v.config L .readUncorrectable = v.answer (.value (BitVec.ofNat 64 l.aerUncor)) ∧
    v.config L .readCorrectable = v.answer (.value (BitVec.ofNat 64 l.aerCor)) ∧
    v.config L .readCorrectableMask = v.answer (.value (BitVec.ofNat 64 l.aerMask)) := by
  subst state
  have answers := config_answers link up enabled active
  have served := show ¬(!v.base.locked) = true by simp [locked]
  refine ⟨fun i size ty shape => ?bar, ?_, ?_, ?_, ?_, ?_⟩
  case bar => simp only [Device.config, if_neg answers, if_neg served, bound, shape]
  all_goals simp only [Device.config, if_neg answers, if_neg served, bound]

/-- What configuration writes set in it (14 R403, R405, R406). -/
theorem config_writes :
    v.config L .toD3hot = (v.onBase fun b => b.wf 9 1 1 .DOCK_PCIE_LNK (io (L / 2)) 0 (L % 2)).answer .ok ∧
    ∀ x, v.config L (.writeCommand x) = (v.onBase fun b => b.setLink L { l with command := x % 65536 }).answer .ok ∧
      v.config L (.clearUncorrectable x) =
        (v.onBase fun b => b.setLink L { l with aerUncor := l.aerUncor &&& (x % 2 ^ 32 ^^^ (2 ^ 32 - 1)) }).answer .ok ∧
      v.config L (.clearCorrectable x) = (v.onBase fun b => b.setLink L { l with aerCor := l.aerCor &&& (x % 2 ^ 32 ^^^ (2 ^ 32 - 1)) }).answer .ok ∧
      v.config L (.writeCorrectableMask x) = (v.onBase fun b => b.setLink L { l with aerMask := x % 2 ^ 16 }).answer .ok := by
  subst state
  have answers := config_answers link up enabled active
  have served := show ¬(!v.base.locked) = true by simp [locked]
  refine ⟨?_, fun x => ⟨?_, ?_, ?_, ?_⟩⟩
  all_goals simp only [Device.config, if_neg answers, if_neg served, bound]

end
end

/-- What a packet can carry (14 R401). -/
theorem packet_of_bounds {off n : Nat} {write : Bool} (bytes : 0 < n) (page : off % 4096 + n ≤ 4096) (window : off < 2 ^ 36)
    (fits : write = true → n ≤ 512) : ¬(n = 0 ∨ 4096 < off % 4096 + n ∨ 2 ^ 36 ≤ off ∨ (write = true ∧ 512 < n)) := by
  rintro (h | h | h | ⟨writes, h⟩)
  · omega
  · omega
  · omega
  · exact absurd (fits writes) (by omega)

section
variable {v : Device} {L off n p : Nat} (serves : v.base.linkServes L = some p) (bytes : 0 < n) (page : off % 4096 + n ≤ 4096) (window : off < 2 ^ 36)
include serves bytes page window

section
variable {write : Bool} (fits : write = true → n ≤ 512)
include fits

/-- An access past the bays is logged, and in error (14 R415). -/
theorem dockCheck_past (past : v.base.dockBays p ≤ off / 2 ^ 21) :
    v.dockCheck L off n write = (none, v.onBase fun b =>
      { (b.dockLog p (off / 2 ^ 21) write L true).hostEvent p 2 0x0D04 (portSrc L) with resp := .error }) := by
  rw [Device.dockCheck, serves]
  simp only
  rw [if_neg (packet_of_bounds bytes page window fits), if_pos past]

/-- One in a bay that is not the host's is logged: a read is poisoned, a write in error (14 R415). -/
theorem dockCheck_own (within : off / 2 ^ 21 < v.base.dockBays p) (own : (v.bays p).tag (L / 2) (off / 2 ^ 21) ≠ 1) :
    v.dockCheck L off n write = (none, v.onBase fun b =>
      { (b.dockLog p (off / 2 ^ 21) write L false).hostEvent p 1 0x0D03 (portSrc L) with
        resp := if write then .error else .bytes (List.replicate n 0) true }) := by
  rw [Device.dockCheck, serves]
  simp only
  rw [if_neg (packet_of_bounds bytes page window fits), if_neg (by omega), if_neg own]

/-- One in a bay of the host's reaches its memory (14 R414). -/
theorem dockCheck_host (within : off / 2 ^ 21 < v.base.dockBays p) (host : (v.bays p).tag (L / 2) (off / 2 ^ 21) = 1) :
    v.dockCheck L off n write = (some (v.base.dockBase p + off), v) := by
  rw [Device.dockCheck, serves]
  simp only
  rw [if_neg (packet_of_bounds bytes page window fits), if_neg (by omega), if_pos host]

end
end

/-- An access that ends without an address is made as it arrives (14 R415). -/
theorem dockArrives_of_none {v u : Device} {L off n : Nat} {write : Bool} (ends : v.dockCheck L off n write = (none, u)) (f : Device → Device) :
    v.dockArrives L off n write f = f v := by
  simp only [Device.dockArrives, ends]

/-- One whose stack does not hold it off too. -/
theorem dockArrives_of_free {v u : Device} {L off n a : Nat} {write : Bool} (goes : v.dockCheck L off n write = (some a, u))
    (free : v.memHeld a = false) (f : Device → Device) : v.dockArrives L off n write f = f v := by
  simp only [Device.dockArrives, goes, free, Bool.false_eq_true, if_false]

/-- A command of the Dock leaves what its access makes of the device. -/
theorem dockHostRead_leaves {s : State} {L off n : Nat} {e : MemErr} {k : Bool} (on : (s.dev.pwr.ready && s.dev.pwr.iordy) = true)
    (made : s.dev.cleared.dockArrives L off n false (fun v => v.hostRead L off n e k) = s.dev.cleared.hostRead L off n e k) {w : Device}
    (hw : s.dev.cleared.hostRead L off n e k = w) : Leaves (.dockHostRead L off n e k) s w :=
  leaves_of_run rfl on (made.trans hw)

theorem dockHostWrite_leaves {s : State} {L off : Nat} {l : List Byte} {bad : Bool} {e : MemErr} {k : Bool}
    (on : (s.dev.pwr.ready && s.dev.pwr.iordy) = true)
    (made : s.dev.cleared.dockArrives L off l.length true (fun v => v.hostWrite L off l bad e k) = s.dev.cleared.hostWrite L off l bad e k) {w : Device}
    (hw : s.dev.cleared.hostWrite L off l bad e k = w) : Leaves (.dockHostWrite L off l bad e k) s w :=
  leaves_of_run rfl on (made.trans hw)

section
variable {v : Device} (L : Nat)

/-- A write that met an error response signals it (14 R405, log entry 166). -/
theorem signalled_of_error (error : v.base.resp = .error) :
    v.signalled L = v.onBase fun b => b.setLink L { b.link L with aerUncor := (b.link L).aerUncor ||| 2 ^ 20 } := if_pos error

/-- A read that met none has nothing to report. -/
theorem advised_of_no_error (fine : v.base.resp ≠ .error) : v.advised L = v := if_neg fine

/-- A read that met one is an advisory error, counted unless it is masked (14 R405, log entry 151). -/
theorem advised_of_error {l : LinkSt} {b : Base} (error : v.base.resp = .error) (state : l = v.base.link L)
    (logged : b = v.base.setLink L { l with aerCor := l.aerCor ||| 2 ^ 13 }) :
    v.advised L = v.setBase (if l.aerMask.testBit 13 then b else b.countSat 1 0 48 .DOCK_PCIE_CERR (io (L / 2)) 0 (L % 2)) := by
  subst state logged
  exact if_pos error

end

/-- A write of a whole register that has a row of its own leaves what that write makes of the device, answered. -/
theorem leaves_of_writeReg_device {c : Instr} {s : State} {rt : Route} {r : RegAt} {data m : Nat} {v w : Device} (h : s.writesReg rt r data m v)
    (hc : exec c s = s.writeReg rt (regAddr r.reg r.die r.unit r.i r.j) data) (hw : v.regApply m r (data % 2 ^ 64) (2 ^ 64 - 1) = w) :
    Leaves c s (w.answer .ok) := by
  obtain ⟨a, ha⟩ := h
  subst hw
  rw [Leaves, hc, writeReg_eq _ _ _ _ _ _ _ _ ha]

/-- The command of a partition that is in front is taken where none runs: refused, answered at once, or begun (14 R416, R417). -/
theorem bayNext_of_waiting {v : Device} {p d k : Nat} {rest : List Nat} {st : BaySt} (bays : v.bays p = st) (idle : st.running = none)
    (front : st.waiting = d :: rest) :
    v.bayNext p (k + 1) =
      if v.base.bayBad p d then
        (((v.setBays p { st with waiting := rest }).bayDone p (2 ^ 34 + 2 ^ 35)).onBase fun b => b.hostEvent p 3 0x0D05 io0).bayNext p k
      else if bayQuery d then
        ((v.setBays p { st with waiting := rest }).bayDone p (st.tag 0 (bayFirst d) * 2 ^ 32 + 2 ^ 34)).bayNext p k
      else v.setBays p { st with waiting := rest, running := some (d, []) } := by
  subst bays
  simp only [Device.bayNext, idle, front]

/-- The command that runs takes force on an I/O die that has not taken it (14 R417). -/
theorem bayInForce_of_running {v : Device} {p n d : Nat} {dies : List Nat} {st after : BaySt} (bays : v.bays p = st)
    (runs : st.running = some (d, dies)) (die : n < 4) (new : dies.contains n = false)
    (hafter : after = (st.hits n d).foldl (fun (t : BaySt) bay => t.setTag n bay (bayNew d)) st) :
    v.bayInForce p n =
      if dies.length = 3 then
        ((v.setBays p { after with running := some (d, n :: dies) }).bayDone p (st.result n d)).bayNext p (st.waiting.length + 1)
      else v.setBays p { after with running := some (d, n :: dies) } := by
  subst bays hafter
  simp only [Device.bayInForce, runs]
  rw [if_neg (by simp only [new, Bool.false_eq_true, or_false]; omega)]

/-- A read of a whole register that has a row of its own leaves what its register makes of it, reported by its port. -/
theorem leaves_of_readReg {c : Instr} {s : State} {rt : Route} {a m x : Nat} {r : RegAt} {v : Device} (hc : exec c s = s.readReg rt a)
    (arrives : s.arrives rt (routeOff rt a) 8 0x71 m x v) (place : placeOf x = .reg r) {w : Device} (hw : v.regLoad m r x 8 = w)
    (fine : w.base.resp ≠ .error) : Leaves c s w := by
  have read := rcRead_leaves_regLoad arrives place hw
  rw [readFailed_of_no_error fine] at read
  exact hc.trans read

section
variable {s : State} {L off n p : Nat} {v : Device} (on : (s.dev.pwr.ready && s.dev.pwr.iordy) = true) (hv : v = s.dev.cleared)
  (serves : v.base.linkServes L = some p) (bytes : 0 < n) (page : off % 4096 + n ≤ 4096) (window : off < 2 ^ 36)
include on hv serves bytes page window

/-- A host's read through BAR2 leaves what the tag or the range of its bay makes of it (14 R405, R415). -/
theorem dockHostRead_past (past : v.base.dockBays p ≤ off / 2 ^ 21) (e : MemErr) (k : Bool) :
    Leaves (.dockHostRead L off n e k) s ((v.onBase fun b =>
      { (b.dockLog p (off / 2 ^ 21) false L true).hostEvent p 2 0x0D04 (portSrc L) with resp := .error }).advised L) := by
  subst hv
  have ends := dockCheck_past (write := false) serves bytes page window (by simp) past
  exact dockHostRead_leaves on (dockArrives_of_none ends _) (by rw [Device.hostRead, ends])

theorem dockHostRead_own (within : off / 2 ^ 21 < v.base.dockBays p) (own : (v.bays p).tag (L / 2) (off / 2 ^ 21) ≠ 1) (e : MemErr) (k : Bool) :
    Leaves (.dockHostRead L off n e k) s (v.onBase fun b =>
      { (b.dockLog p (off / 2 ^ 21) false L false).hostEvent p 1 0x0D03 (portSrc L) with resp := .bytes (List.replicate n 0) true }) := by
  subst hv
  have ends := dockCheck_own (write := false) serves bytes page window (by simp) within own
  exact dockHostRead_leaves on (dockArrives_of_none ends _) (by rw [Device.hostRead, ends]; exact advised_of_no_error L Resp.noConfusion)

theorem dockHostRead_host (within : off / 2 ^ 21 < v.base.dockBays p) (host : (v.bays p).tag (L / 2) (off / 2 ^ 21) = 1)
    (free : v.memHeld (v.base.dockBase p + off) = false) {e : MemErr} {k : Bool} {w : Base × MemSys}
    (hw : w = v.mem.read (v.base.notePort L 0x71 n (v.base.dockBase p + off)) (hostOp ((v.base.partOfLink L).getD 0) L e k) (v.base.dockBase p + off) n) :
    Leaves (.dockHostRead L off n e k) s (Device.advised { v.setBase w.1 with mem := w.2 } L) := by
  subst hv hw
  have goes := dockCheck_host (write := false) serves bytes page window (by simp) within host
  exact dockHostRead_leaves on (dockArrives_of_free goes free _) (by rw [Device.hostRead, goes]; rfl)

section
variable {l : List Byte} (length : l.length = n) (fits : n ≤ 512)
include length fits

/-- The same of a host's write. -/
theorem dockHostWrite_past (past : v.base.dockBays p ≤ off / 2 ^ 21) (bad : Bool) (e : MemErr) (k : Bool) :
    Leaves (.dockHostWrite L off l bad e k) s ((v.onBase fun b =>
      { (b.dockLog p (off / 2 ^ 21) true L true).hostEvent p 2 0x0D04 (portSrc L) with resp := .error }).signalled L) := by
  subst hv length
  have ends := dockCheck_past (write := true) serves bytes page window (fun _ => fits) past
  exact dockHostWrite_leaves on (dockArrives_of_none ends _) (by rw [Device.hostWrite, ends])

theorem dockHostWrite_own (within : off / 2 ^ 21 < v.base.dockBays p) (own : (v.bays p).tag (L / 2) (off / 2 ^ 21) ≠ 1) (bad : Bool) (e : MemErr)
    (k : Bool) :
    Leaves (.dockHostWrite L off l bad e k) s ((v.onBase fun b =>
      { (b.dockLog p (off / 2 ^ 21) true L false).hostEvent p 1 0x0D03 (portSrc L) with resp := .error }).signalled L) := by
  subst hv length
  have ends := dockCheck_own (write := true) serves bytes page window (fun _ => fits) within own
  exact dockHostWrite_leaves on (dockArrives_of_none ends _) (by rw [Device.hostWrite, ends]; rfl)

theorem dockHostWrite_host (within : off / 2 ^ 21 < v.base.dockBays p) (host : (v.bays p).tag (L / 2) (off / 2 ^ 21) = 1)
    (free : v.memHeld (v.base.dockBase p + off) = false) {bad : Bool} {e : MemErr} {k : Bool} {w : Base × MemSys}
    (hw : w = v.mem.write (v.base.notePort L 0x70 n (v.base.dockBase p + off)) (hostOp ((v.base.partOfLink L).getD 0) L e k) (v.base.dockBase p + off)
      l bad) :
    Leaves (.dockHostWrite L off l bad e k) s (Device.signalled { v.setBase w.1 with mem := w.2 } L) := by
  subst hv length hw
  have goes := dockCheck_host (write := true) serves bytes page window (fun _ => fits) within host
  exact dockHostWrite_leaves on (dockArrives_of_free goes free _) (by rw [Device.hostWrite, goes]; rfl)

end
end

/-- Settles O48: each request, access and command leaves what its function makes of the device, by the lock, the bay's tag and the queue of commands. -/
theorem hostsReachTheDock : Obligations.HostsReachTheDock := by
  refine ⟨?config, ?dock, ?errors, fun s rt p d m v => ⟨fun h => ?command, fun h => ?query⟩, fun v p d k rest st => bayNext_of_waiting, ?force, ?result⟩
  case config =>
    rintro s L r b l on link rfl rfl up enabled active
    have leaves {r : CfgReq} {w : Device} (hw : s.dev.cleared.config L r = w) : Leaves (.configRequest L r) s w := leaves_of_run rfl on hw
    refine ⟨fun unlocked => leaves (config_of_unlocked (v := s.dev.cleared) link up enabled active unlocked r), fun p locked bound => ?_⟩
    have answers := config_answers (v := s.dev.cleared) link up enabled active
    have served : ¬(!s.dev.cleared.base.locked) = true := by
      rw [show s.dev.cleared.base.locked = true from locked]
      exact Bool.false_ne_true
    obtain ⟨bar, command, msix, uncor, cor, mask⟩ := config_reads (v := s.dev.cleared) link up enabled active locked bound rfl
    obtain ⟨d3, sets⟩ := config_writes (v := s.dev.cleared) link up enabled active locked bound rfl
    refine ⟨leaves ?identity, fun i size ty shape => leaves (bar i size ty shape), leaves command, fun x => leaves (sets x).1, leaves msix, leaves d3,
      leaves uncor, leaves cor, leaves mask, fun x => ⟨leaves (sets x).2.1, leaves (sets x).2.2.1, leaves (sets x).2.2.2⟩⟩
    -- The identity is rewritten where it stands: in a sum written out here the powers would be Mathlib's and not the model's.
    case identity =>
      rw [Device.config.eq_def, if_neg answers, if_neg served, show s.dev.cleared.base.partOfLink L = some p from bound]
      dsimp only
      rw [show stepping = 0x10 from rfl]
  case dock =>
    rintro s L off n p bay v on hv serves bytes page window rfl
    refine ⟨fun past e k => ⟨dockHostRead_past on hv serves bytes page window past e k, fun l bad length fits =>
        dockHostWrite_past on hv serves bytes page window length fits past bad e k⟩,
      fun within own e k => ⟨dockHostRead_own on hv serves bytes page window within own e k, fun l bad length fits =>
        dockHostWrite_own on hv serves bytes page window length fits within own bad e k⟩, ?_⟩
    rintro within host a q e k rfl rfl free
    exact ⟨fun w hw => dockHostRead_host on hv serves bytes page window within host free hw, fun l bad w length fits hw =>
      dockHostWrite_host on hv serves bytes page window length fits within host free hw⟩
  case errors =>
    refine fun v L => ⟨signalled_of_error L, fun fine => ⟨signalled_of_no_error v L fine, advised_of_no_error L fine⟩, fun l b error state logged => ?_⟩
    have advised := advised_of_error L error state logged
    exact ⟨fun masked => by rw [advised, if_pos masked], fun shown => by rw [advised, if_neg (by simp [shown])]⟩
  case command => exact leaves_of_writeReg_device h rfl (regApply_bayCmd ..)
  case query =>
    have number : (d % 2 ^ 15 + 2 ^ 35) % 2 ^ 64 = d % 2 ^ 15 + 2 ^ 35 := by omega
    exact leaves_of_writeReg_device h rfl ((regApply_bayCmd ..).trans (by rw [number]))
  case force =>
    intro s p n d dies st after on bays runs die new hafter
    have force := bayInForce_of_running bays runs die new hafter
    exact ⟨fun more => leaves_of_run rfl on (force.trans (if_neg more)), fun last => leaves_of_run rfl on (force.trans (if_pos last))⟩
  case result =>
    intro s rt p m a v st arrives place reached bays
    have heard : v.base.hears m ⟨.DOCK_BAYRES, 40, 0, p, 0⟩ := .inl (show Reg.DOCK_BAYRES.spec.block ≠ .mbx by decide)
    have read := regLoad_bayres heard reached rfl a 8
    subst bays
    refine ⟨fun idle empty => ?_, fun x runs => ?_⟩
    · exact leaves_of_readReg rfl arrives place (read.trans (bayRead_answered v p _ idle empty)) Resp.noConfusion
    · exact leaves_of_readReg rfl arrives place (read.trans (bayRead_held v p _ _ (by simp [runs]) (Nat.succ_pos _))) Resp.noConfusion

end Sys2Proof.Proofs
end

section
/-! Resets by links and pins, and the lock request (14 R402, R406, R408, 16 R468, R471, R479). -/

namespace Sys2Proof.Proofs

open Sys2Proof Sys2Proof.Machine Sys2Proof.Laws

/-- A link whose data link is up exists, and is trained and enabled. -/
theorem linkActive_iff (v : Device) (L : Nat) :
    v.linkActive L = true ↔ v.pwr.iordy = true ∧ L < 8 ∧ v.base.rf 0 3 .DOCK_PCIE_LNK (io (L / 2)) 0 (L % 2) ≠ 0 ∧ (v.base.link L).disabled = false := by
  simp [Device.linkActive, and_assoc]

section
variable {v : Device} {L : Nat} (active : v.linkActive L = true) (awake : (v.base.link L).l2 = false)
include active awake

/-- A Function Level Reset of a link in service resets its function and its partition (14 R406). -/
theorem flr_of_active (locked : v.base.locked = true) : v.flr L = (v.onBase fun b => b.functionReset L).linkEvent L :=
  if_pos ⟨active, locked, by simp [awake]⟩

section
variable (asleep : bget (v.base.rd .DOCK_PCIE_LNK (io (L / 2)) 0 (L % 2)) 9 = true)
include asleep

/-- The return of a function from D3hot does the same (14 R401, R406). -/
theorem d3ToD0_of_asleep : v.d3ToD0 L = (v.onBase fun b => b.functionReset L).linkEvent L := if_pos ⟨active, by simp [awake], asleep⟩

/-- Turned off, the link of a function in D3hot enters L2 (14 R406, log entry 93). -/
theorem config_turnOff_of_asleep {p : Nat} (locked : v.base.locked = true) (bound : v.base.partOfLink L = some p) :
    v.config L .turnOff = (v.onBase fun b => (b.linkDrop L).setLink L { (b.linkDrop L).link L with l2 := true }).linkEvent L := by
  obtain ⟨-, link, up, enabled⟩ := (linkActive_iff v L).mp active
  rw [Device.config, if_neg (by simp [link, up, enabled, awake]), if_neg (by simp [locked])]
  simp only [bound, asleep, if_true]

end
end

/-- A hot reset of a link whose port's PERST_N is high: one that was up drops, with its partition's reset, and the link retrains (14 R406). -/
theorem linkHotReset_of_high {v : Device} {L : Nat} (on : v.pwr.iordy = true) (link : L < 8) (high : (v.port (L / 2)).perstHigh = true)
    (t : Option (Nat × Nat × Bool)) :
    v.linkHotReset L t =
      (if v.linkActive L = true then (v.onBase fun b => b.linkDrop L).linkEvent L else v).onBase fun b => b.linkState' L t :=
  if_pos ⟨on, link, high⟩

section
variable {v : Device} {L : Nat}

section
variable {p : Nat} (bound : v.base.partOfLink L = some p)
include bound

/-- The reset of a link is that of its partition, with HOST.LINKRESET (14 R406). -/
theorem linkReset_of_bound : v.linkReset L = (v.partReset p).onBase fun b => b.hostEvent p 10 0x0D0C (portSrc L) := by
  simp only [Device.linkReset, bound]

theorem linkEvent_of_bound : v.linkEvent L = v.resetAsk (.link L) := by rw [Device.linkEvent, bound]; rfl

/-- With no transition under way a link's reset abandons a handshake without a record, and is made (16 R471). -/
theorem linkEvent_of_free {u : Device} (free : v.pwr.trans = none)
    (abandoned : u = { v with pwr := { v.pwr with hs := none, aim := if v.pwr.hs.isSome then none else v.pwr.aim } }) :
    v.linkEvent L = (u.linkReset L).settlePower := by
  subst abandoned
  rw [linkEvent_of_bound bound, Device.resetAsk, free]
  · rfl
  · nofun

/-- Past the point of no return it waits for the rails (16 R471). -/
theorem linkEvent_of_moving (moves : v.pwr.trans.isSome = true) (new : v.pwr.resets.contains (.link L) = false) :
    v.linkEvent L = { v with pwr := { v.pwr with resets := v.pwr.resets ++ [.link L] } } := by
  rw [linkEvent_of_bound bound, Device.resetAsk, moves, new]
  · rfl
  · nofun

end

/-- A link bound to no partition resets none (14 R406). -/
theorem linkReset_of_unbound (unbound : v.base.partOfLink L = none) : v.linkReset L = v := by simp only [Device.linkReset, unbound]

theorem linkEvent_of_unbound (unbound : v.base.partOfLink L = none) : v.linkEvent L = v := by rw [Device.linkEvent, unbound]; rfl

end

section
variable {v : Device} {n : Nat} (port : n < 4) (heeds : v.heeds = true)
include port heeds

/-- PERST_N asserted: a port that had it high, with IORDY high, has its event (14 R406). -/
theorem perstAssert_of_heeding :
    v.perstAssert n = if (v.port n).perstHigh = true ∧ v.pwr.iordy = true then
        (v.setPort n { v.port n with perstHigh := false }).portEvent n
      else v.setPort n { v.port n with perstHigh := false } :=
  if_pos ⟨heeds, port⟩

/-- PERST_N deasserted: the port comes up where IORDY is high, and the edge wakes the device where that is enabled (14 R402, 16 R479). -/
theorem perstDeassert_of_heeding {bi : Bool} {t : List (Option (Nat × Nat × Bool))} {u : Device}
    (comes : u = if v.pwr.iordy then (v.setPort n { perstHigh := true, bifur := some bi, train := t }).portUp n
      else v.setPort n { perstHigh := true, bifur := some bi, train := t }) :
    v.perstDeassert n bi t = if (!(v.port n).perstHigh && bget (u.base.rd .PWR_WAKE 40) (2 + n)) = true then u.woken (2 + n) else u := by
  subst comes
  exact if_pos ⟨heeds, port⟩

end

/-- A port whose pins were set to something has those pins. -/
theorem port_setPort {v : Device} {n : Nat} {p : PortPins} (held : p ≠ {}) : (v.setPort n p).port n = p := by
  simp only [Device.port, Device.setPort, if_neg held, map_find_put, if_true, Option.getD_some]

/-- A port that comes up samples the strap that its pin shows, and its links train (14 R402). -/
theorem portUp_of_high {v : Device} {n : Nat} {bi : Bool} {t : List (Option (Nat × Nat × Bool))}
    (pins : v.port n = { perstHigh := true, bifur := some bi, train := t }) :
    v.portUp n = (v.onBase fun b => b.wf 0 1 (b2n bi) .DOCK_PCIE_CFG (io n)).portTrain n := by
  rw [Device.portUp, pins]
  rfl

/-- One of a port's partitions is reset once, though both its links are bound to it (14 R406). -/
theorem portEvent_eq {v v1 v2 : Device} {n p : Nat} (cold : v1 = [0, 1].foldl (fun (w : Device) h => w.onBase fun b => b.linkCold (2 * n + h)) v)
    (first : v2 = v1.linkEvent (2 * n)) (bound : v1.base.partOfLink (2 * n) = some p) :
    v.portEvent n = if v2.base.partOfLink (2 * n + 1) = some p then v2 else v2.linkEvent (2 * n + 1) := by
  subst first
  rw [← bound, cold]
  rfl

section
variable {v : Device}

theorem lockRequest_of_locked (locked : v.base.locked = true) : v.lockRequest = v := if_pos locked

section
variable (unlocked : v.base.locked = false)
include unlocked

/-- A lock request with no check that fails waits to be set (14 R408, 16 R468). -/
theorem lockRequest_of_good (good : v.base.lockFaults = []) : v.lockRequest = { v with dock := { v.dock with lockWaits := true } }.lockSettle := by
  rw [Device.lockRequest, if_neg (by simp [unlocked]), if_pos (by simp [good])]

/-- One with a check that fails is refused (14 R408). -/
theorem lockRequest_of_fault (fault : v.base.lockFaults ≠ []) : v.lockRequest = v.onBase fun b => b.lockRefuse b.lockFaults := by
  rw [Device.lockRequest, if_neg (by simp [unlocked]), if_neg (by simpa using fault)]

end

/-- The lock that waits is set, where nothing of the power controller is under way and no die that the table holds is parked (16 R468). -/
theorem lockSettle_of_ready (waits : v.dock.lockWaits = true) (hs : v.pwr.hs = none) (trans : v.pwr.trans = none) (bring : v.pwr.bring = none)
    (home : v.pwr.parked.filter v.base.holdsTable = []) (good : v.base.lockFaults = []) :
    v.lockSettle = (({ v with dock := { v.dock with lockWaits := false } }).onBase Base.lockSet).showStates := by
  have set : (if v.base.lockFaults.isEmpty then v.base.lockSet else v.base.lockRefuse v.base.lockFaults) = v.base.lockSet := by rw [good]; rfl
  rw [Device.lockSettle, if_pos (by simp [waits, hs, trans, bring])]
  simp only [home]
  exact congrArg (fun b => (Device.setBase { v with dock := { v.dock with lockWaits := false } } b).showStates) set

end

/-- Settles O49: each event leaves what its function makes of the device, by whether a partition is bound, a transition is under way, the pin was high,
or a check fails. -/
theorem hostResetsReachTheirPartitions : Obligations.HostResetsReachTheirPartitions := by
  refine ⟨?function, ?hot, fun v L p u bound => ⟨linkReset_of_bound bound, linkEvent_of_free bound, linkEvent_of_moving bound⟩,
    fun v L unbound => ⟨linkReset_of_unbound unbound, linkEvent_of_unbound unbound⟩, ?assert, ?port, ?deassert, ?lock,
    fun v => lockSettle_of_ready⟩
  case function =>
    rintro s L v on rfl active awake
    exact ⟨fun locked => leaves_of_run rfl on (flr_of_active active awake locked), fun asleep => ⟨leaves_of_run rfl on (d3ToD0_of_asleep active awake asleep),
      fun p locked bound => leaves_of_run rfl on (config_turnOff_of_asleep active awake asleep locked bound)⟩⟩
  case hot =>
    rintro s L t v on link rfl high
    have reset := linkHotReset_of_high (v := s.dev.cleared) on link high t
    exact ⟨fun up => leaves_of_run rfl on (by rw [reset, if_pos up]), fun down => leaves_of_run rfl on (by rw [reset, if_neg (by simp [down])])⟩
  case assert =>
    rintro s n v v1 port rfl heeds rfl
    have event := perstAssert_of_heeding port heeds
    exact ⟨fun high on => leaves_of_run rfl rfl (event.trans (if_pos ⟨high, on⟩)),
      fun low => leaves_of_run rfl rfl (event.trans (if_neg (by simpa only [not_and_or, Bool.not_eq_true] using low)))⟩
  case port =>
    intro v n p q v1 v2 cold first bound
    have event := portEvent_eq cold first bound
    exact ⟨fun same => event.trans (if_pos same), fun other apart => event.trans (if_neg (by simp [other, apart]))⟩
  case deassert =>
    rintro s n bi wakes t v v1 v2 port rfl heeds rfl hv2 rfl
    rw [← portUp_of_high (port_setPort (by simp))] at hv2
    have event := perstDeassert_of_heeding port heeds hv2
    exact ⟨fun still => leaves_of_run rfl rfl (event.trans (if_neg (by simp only [still, Bool.false_eq_true, not_false_eq_true]))),
      fun wakes => leaves_of_run rfl rfl (event.trans (if_pos wakes))⟩
  case lock =>
    intro s rt m v h
    have leaves {w : Device} (hw : v.lockRequest = w) : Leaves (.ptLockRequest rt) s (w.answer .ok) :=
      leaves_of_writeReg_device h rfl ((regApply_lock ..).trans hw)
    exact ⟨fun locked => leaves (lockRequest_of_locked locked), fun unlocked good => leaves (lockRequest_of_good unlocked good),
      fun unlocked fault => leaves (lockRequest_of_fault unlocked fault)⟩

end Sys2Proof.Proofs
end

section
/-! Mailbox channels (14 R408, R419 to R424). -/

namespace Sys2Proof.Proofs

open Sys2Proof Sys2Proof.Machine Sys2Proof.Laws

/-- A write of a whole mailbox register that has a row of its own leaves what its mailbox makes of it, reported by its port. -/
theorem leaves_of_mails {c : Instr} {s : State} {rt : Route} {r : RegAt} {data m : Nat} {v : Device} (h : s.mails rt r data m v)
    (hc : exec c s = s.writeReg rt (regAddr r.reg r.die r.unit r.i r.j) data) (mbx : r.reg.spec.block = .mbx) {w : Device}
    (hw : v.mbxApply m r (data % 2 ^ 64) (2 ^ 64 - 1) = w) : Leaves c s (w.reported rt) := by
  obtain ⟨a, arrives, free, place⟩ := h
  have writes := registerWrite_leaves_mbxApply arrives free place mbx (w := w) (by rw [accessData_eight, accessMask_eight, hw])
  exact hc.trans writes

section
variable {v : Device} {m c d : Nat}

/-- A channel in use takes what its masters write of its data, send and acknowledge registers (14 R419 to R423). -/
theorem mbxApply_data {w : Nat} (serves : (v.base.mbxInUse c && (v.base.mbxA c == m || v.base.mbxB c == m)) = true) (word : w < 7) (x : Nat) :
    v.mbxApply m ⟨.MBX_DATA, 40, 0, c, 16 * d + w⟩ x (2 ^ 64 - 1) = v.mbxDataWrite m c d w (v.newValue .MBX_DATA 40 0 c (16 * d + w) x) := by
  have dir : (16 * d + w) / 16 = d := by omega
  have place : (16 * d + w) % 16 = w := by omega
  unfold Device.mbxApply
  dsimp only
  rw [if_neg (by simp), if_neg (by simp [serves]), dir, place]
  rfl

theorem mbxApply_send (serves : (v.base.mbxInUse c && (v.base.mbxA c == m || v.base.mbxB c == m)) = true) (x k : Nat) :
    v.mbxApply m ⟨.MBX_SEND, 40, 0, c, d⟩ x k = v.mbxSend m c d x := by
  unfold Device.mbxApply
  dsimp only
  rw [if_neg (by simp), if_neg (by simp [serves])]

theorem mbxApply_ack (serves : (v.base.mbxInUse c && (v.base.mbxA c == m || v.base.mbxB c == m)) = true) (x k : Nat) :
    v.mbxApply m ⟨.MBX_ACK, 40, 0, c, d⟩ x k = v.mbxAck m c d x := by
  unfold Device.mbxApply
  dsimp only
  rw [if_neg (by simp), if_neg (by simp [serves])]

/-- A data word of a channel that is not in use is refused to a master that reaches it (14 R419). -/
theorem mbxApply_data_of_unused {j : Nat} (unused : v.base.mbxInUse c = false) (reached : v.base.reaches m ⟨.MBX_DATA, 40, 0, c, j⟩ true = true)
    (x k : Nat) : v.mbxApply m ⟨.MBX_DATA, 40, 0, c, j⟩ x k = v.onBase fun b => b.mbxRefuse c m 4 0x0D06 := by
  have plain : hasLk .MBX_DATA = false := by decide
  rw [mbxApply_refuses v m x k _ (by simp [unused]) (by simp), reached, plain]
  simp only [Bool.not_false, Bool.or_true, Bool.and_self, if_true]

/-- MBX_BIND is the management's before the lock (14 R408). -/
theorem mbxApply_bind_of_unlocked (unlocked : v.base.locked = false) (host : m ≠ 0) (port : m ≠ 0xF0) (x k : Nat) :
    v.mbxApply m ⟨.MBX_BIND, 40, 0, c, 0⟩ x k = v.onBase fun b => (b.regDeny m 40).mbxRefuse c m 4 0x0D06 := by
  have table : hasLk .MBX_BIND = true := by decide
  rw [mbxApply_refuses v m x k _ (by simp [Base.mbxInUse, unlocked]) (by simp [host, port]), unlocked, table]
  simp only [Bool.not_true, Bool.or_self, Bool.and_false, Bool.false_eq_true, if_false]

section
variable {w : Nat} {x : Word} (sender : m = v.base.mbxSender c d)
include sender

theorem mbxDataWrite_of_pending (pending : v.base.mbxPending c d = true) :
    v.mbxDataWrite m c d w x = v.onBase fun b => b.mbxRefuse c m 5 0x0D07 := by
  rw [Device.mbxDataWrite, if_neg (not_not.mpr sender), if_pos pending]

theorem mbxDataWrite_of_free (free : v.base.mbxPending c d = false) :
    v.mbxDataWrite m c d w x = (v.onBase fun b => b.wr x .MBX_DATA 40 0 c (16 * d + w)).answer .ok := by
  rw [Device.mbxDataWrite, if_neg (not_not.mpr sender), if_neg (by simp [free])]

end

/-- The sends that 14 R421 refuses first. -/
theorem mbxSend_of_wrong {x : Nat} (wrong : m ≠ v.base.mbxSender c d ∨ 56 < mbxLen x) :
    v.mbxSend m c d x = v.onBase fun b => b.mbxRefuse c m 4 0x0D06 := by
  unfold Device.mbxSend
  dsimp only
  by_cases sender : m ≠ v.base.mbxSender c d
  · rw [if_pos sender]
  · rw [if_neg sender, if_pos (wrong.resolve_left sender)]

/-- A send by its sender, of a length within the limit, is judged by what is pending, the check and the receiver's domain (14 R421). -/
theorem mbxSend_of_sender {x k : Nat} (sender : m = v.base.mbxSender c d) (short : mbxLen x ≤ 56)
    (check : k = v.base.mbxCheck c d (mbxLen x) (mbxTag x)) :
    v.mbxSend m c d x =
      if v.base.mbxPending c d then v.onBase fun b => b.mbxRefuse c m 5 0x0D07
      else if mbxDiffers x k then v.onBase fun b => (b.mbxState c d 3 3).mbxRefuse c m 7 0x0D09
      else if v.base.domainDown (v.base.mbxReceiver c d) then v.onBase fun b => (b.mbxState c d 3 1).mbxRefuse c m 6 0x0D08
      else v.mbxDeliver c d (mbxLen x) (mbxTag x) k := by
  subst check
  unfold Device.mbxSend
  dsimp only
  rw [if_neg (not_not.mpr sender), if_neg (by omega)]

/-- An acknowledgement by the receiver of a pending message (14 R423, 15 R440). -/
theorem mbxAck_of_receiver {x : Nat} (receiver : m = v.base.mbxReceiver c d) :
    v.mbxAck m c d x =
      if !v.base.mbxPending c d then v.onBase fun b => b.mbxRefuse c m 9 0x0D0B
      else if v.base.mbxSender c d = 0 then ((v.mbxAcked c d (x % 65536)).outboxSend c).answer .ok
      else v.mbxAcked c d (x % 65536) := by
  unfold Device.mbxAck
  dsimp only
  rw [if_neg (not_not.mpr receiver)]

/-- A message that was sent passes its limit, where the channel has one, at its time (14 R423). -/
theorem mbxTimeout_of_pending {t : Nat} (sent : Map.find (2 * c + d) v.dock.sentAt = some t) (pending : v.base.mbxPending c d = true)
    (limited : v.base.rf 0 32 .MBX_CFG 40 0 c ≠ 0) :
    v.mbxTimeout c d =
      if t + v.base.rf 0 32 .MBX_CFG 40 0 c ≤ v.base.time then (v.mbxWithdraw c d 2).onBase fun b => b.hostEvent (b.mbxPart c) 8 0x0D0A io0 else v := by
  simp only [Device.mbxTimeout, sent, pending, true_and]
  simp only [ne_eq, limited, not_false_eq_true, true_and]

end

/-- Settles O50: each access is judged by its channel, its direction and its message, in the order of the rows of 14 R421. -/
theorem mailboxesCarryMessages : Obligations.MailboxesCarryMessages := by
  refine ⟨?data, ?send, ?ack, fun v c m x k unlocked host port => mbxApply_bind_of_unlocked unlocked host port x k, ?timeout, ?down⟩
  case data =>
    intro s rt c d w x m v h word
    have leaves {u : Device} (hu : v.mbxApply m ⟨.MBX_DATA, 40, 0, c, 16 * d + w⟩ (x % 2 ^ 64) (2 ^ 64 - 1) = u) :
        Leaves (.mbxDataWrite rt c d w x) s (u.reported rt) := leaves_of_mails h rfl (show Reg.MBX_DATA.spec.block = .mbx by decide) hu
    refine ⟨fun serves => ?_, fun unused reached => leaves (mbxApply_data_of_unused unused reached _ _)⟩
    have made := mbxApply_data (d := d) serves word (x % 2 ^ 64)
    refine ⟨fun other => leaves (made.trans (if_pos other)), fun sender pending => leaves (made.trans (mbxDataWrite_of_pending sender pending)),
      fun sender free => ?_⟩
    have stored := leaves (made.trans (mbxDataWrite_of_free sender free))
    rwa [reported_of_no_error Resp.noConfusion] at stored
  case send =>
    rintro s rt c d y x m v h rfl serves
    have leaves {u : Device} (hu : v.mbxSend m c d (y % 2 ^ 64) = u) : Leaves (.mbxSend rt c d y) s (u.reported rt) :=
      leaves_of_mails h rfl (show Reg.MBX_SEND.spec.block = .mbx by decide) ((mbxApply_send serves _ _).trans hu)
    refine ⟨fun wrong => leaves (mbxSend_of_wrong wrong), fun sender short k check => ?_⟩
    have judged := mbxSend_of_sender sender short check
    refine ⟨fun pending => leaves (judged.trans (if_pos pending)), fun free differs => ?_, fun free same down => ?_, fun free same up => ?_⟩
    · simp only [free, differs, Bool.false_eq_true, if_false, if_true] at judged
      exact leaves judged
    · simp only [free, same, down, Bool.false_eq_true, if_false, if_true] at judged
      exact leaves judged
    · simp only [free, same, up, Bool.false_eq_true, if_false] at judged
      have delivered := leaves judged
      rwa [reported_of_no_error Resp.noConfusion] at delivered
  case ack =>
    intro s rt c d y m v h serves
    have leaves {u : Device} (hu : v.mbxAck m c d (y % 2 ^ 64) = u) : Leaves (.mbxAck rt c d y) s (u.reported rt) :=
      leaves_of_mails h rfl (show Reg.MBX_ACK.spec.block = .mbx by decide) ((mbxApply_ack serves _ _).trans hu)
    refine ⟨fun other => leaves (if_pos other), fun receiver free => ?_, fun receiver pending => ⟨fun client => ?_, fun management => ?_⟩⟩
    · exact leaves ((mbxAck_of_receiver receiver).trans (if_pos (by simp [free])))
    · have acked := leaves ((mbxAck_of_receiver receiver).trans ((if_neg (by simp [pending])).trans (if_neg client)))
      rwa [reported_of_no_error Resp.noConfusion] at acked
    · have acked := leaves ((mbxAck_of_receiver receiver).trans ((if_neg (by simp [pending])).trans (if_pos management)))
      rwa [reported_of_no_error Resp.noConfusion] at acked
  case timeout =>
    rintro s c d t v on rfl sent pending limited
    have judged := mbxTimeout_of_pending sent pending limited
    exact ⟨fun past => leaves_of_run rfl on (judged.trans (if_pos past)), fun early => leaves_of_run rfl on (judged.trans (if_neg (by omega)))⟩
  case down =>
    rintro s m v on rfl
    exact ⟨fun down => leaves_of_run rfl on (if_pos down), fun up => leaves_of_run rfl on (if_neg (by simp only [up, Bool.false_eq_true, not_false_eq_true]))⟩

end Sys2Proof.Proofs
end

section
/-! The Catalogue protocol: requests, their answers and the messages that carry them (15 R433, R438 to R446). -/

namespace Sys2Proof.Proofs

open Sys2Proof Sys2Proof.Machine Sys2Proof.Laws

/-- Every command that is a request of the protocol asks the management core for its operation (15 R445). -/
theorem exec_of_requestOf {c : Instr} {h : ReqHead} {op : ReqOp} {env : WriteEnv} (names : requestOf c = some (h, op, env)) (s : State) :
    exec c s = s.request h op env := by
  unfold requestOf at names
  split at names <;> cases names
  all_goals rfl

section
variable {v : Device} {h : ReqHead} {op : ReqOp} {env : WriteEnv}

theorem request_of_unheard (unheard : (v.hears h op && fragsWhole h) = false) : v.request h op env = v := by
  rw [Device.request, unheard]
  rfl

section
variable (heard : (v.hears h op && fragsWhole h) = true)
include heard

theorem request_of_malformed (unfit : v.mgt.fits h op = false) : v.request h op env = (v.mbxTake h).malformed h op := by
  rw [Device.request, heard, unfit]
  rfl

variable (fits : v.mgt.fits h op = true)
include fits

theorem request_hello (hello : op = .hello) : v.request h op env = (v.mbxTake h).hello h := by
  rw [Device.request, heard, fits]
  subst hello
  rfl

theorem request_auth {role : Nat} {cnonce proof : List Byte} (auth : op = .auth role cnonce proof) :
    v.request h op env = (v.mbxTake h).auth h role cnonce proof := by
  rw [Device.request, heard, fits]
  subst auth
  rfl

section
variable (other : op ≠ .hello) (unproven : op.code ≠ 2)
include other unproven

/-- Any operation but HELLO and AUTH needs its open session (15 R444). -/
theorem request_of_no_session (closed : (v.mbxTake h).sessionOf h = none) :
    v.request h op env = (v.mbxTake h).reply h op.code stNOSESSION h.session [] [] := by
  rw [Device.request, heard, fits]
  cases op with
  | hello => exact absurd rfl other
  | auth role cnonce proof => exact absurd rfl unproven
  | _ => simp only [closed, Bool.not_true, Bool.false_eq_true, if_false]

theorem request_of_session {x : Session} (opened : (v.mbxTake h).sessionOf h = some x) :
    v.request h op env = (v.mbxTake h).inSession h x op env := by
  rw [Device.request, heard, fits]
  cases op with
  | hello => exact absurd rfl other
  | auth role cnonce proof => exact absurd rfl unproven
  | _ => simp only [opened, Bool.not_true, Bool.false_eq_true, if_false]

end
end

section
variable {x : Session}

theorem inSession_of_bad_tag (bad : x.tagBad h op = true) : v.inSession h x op env = v.reply h op.code stTAG x.id [] [] := if_pos bad

section
variable (good : x.tagBad h op = false)
include good

/-- The last TXID again gets its answer again, and a lower one is a replay (15 R442). -/
theorem inSession_of_last (last : x.txid = some h.txid) :
    v.inSession h x op env = (v.touch x).reply h op.code x.answer.1 x.id x.answer.2.1 x.answer.2.2 := by
  rw [Device.inSession, if_neg (by simp [good]), if_pos last]

theorem inSession_of_lower {t : Nat} (last : x.txid = some t) (lower : h.txid < t) :
    v.inSession h x op env = (v.touch x).reply h op.code stREPLAY x.id [] (x.tag (op.code + 0x80) h.txid stREPLAY []) := by
  have apart : ¬ some t = some h.txid := fun same => by cases same; exact absurd lower (Nat.lt_irrefl _)
  rw [Device.inSession, if_neg (by simp [good]), last, if_neg apart, if_pos (by simpa using lower)]

/-- A higher one is performed in its session (15 R442, R443). -/
theorem inSession_of_new (new : ∀ t, x.txid = some t → t < h.txid) {y : Session} (heard : y = { x with time := v.base.time }) {v1 : Device} {st : Nat}
    {body : List Byte} (performed : (v.touch x).perform y op env = (v1, st, body)) : v.inSession h x op env = v1.concluded h y op st body := by
  subst heard
  have apart : ¬ x.txid = some h.txid := fun same => absurd (new _ same) (Nat.lt_irrefl _)
  have higher : ¬ x.txid.any (h.txid < ·) = true := by
    simp only [Option.any_eq_true, decide_eq_true_eq, not_exists, not_and, Nat.not_lt]
    exact fun t last => (new t last).le
  rw [Device.inSession, if_neg (by simp [good]), if_neg apart, if_neg higher]
  simp only [performed]

end
end

/-- A malformed request is answered with the TAG of its open session, where it has one (15 R442). -/
theorem malformed_of_no_session (closed : v.sessionOf h = none) : v.malformed h op = v.reply h op.code stMALFORMED h.session [] [] := by
  rw [Device.malformed, closed]

theorem malformed_of_session {x : Session} (opened : v.sessionOf h = some x) :
    v.malformed h op = v.reply h op.code stMALFORMED h.session [] (x.tag (op.code + 0x80) h.txid stMALFORMED []) := by
  rw [Device.malformed, opened]

end

section
variable {v : Device} {h : ReqHead} {op st id : Nat} {body tag : List Byte} {l : List (List Byte)}
  (carried : l = messages (v.mgt.answerLimit h.transport) (op + 0x80) h.txid id st (body ++ tag))
include carried

/-- The answer leaves by the transport of its request: through its channel, or as it is (15 R438 to R440). -/
theorem reply_of_port (port : h.transport ≠ 3) : v.reply h op st id body tag = v.answer (.reply st id body tag l) := by
  rw [Device.reply, if_neg port, carried]

theorem reply_of_mailbox (mailbox : h.transport = 3) :
    v.reply h op st id body tag = (v.mailOut (sourceChannel h.source) l).answer (.reply st id body tag l) := by
  rw [Device.reply, if_pos mailbox, carried]

end

theorem mbxTake_of_port {h : ReqHead} (port : h.transport ≠ 3) (v : Device) : v.mbxTake h = v := by
  rw [Device.mbxTake, if_neg port]

theorem mbxTake_of_mailbox {v : Device} {h : ReqHead} {d : Nat} (mailbox : h.transport = 3) (sends : v.base.mgtSends (sourceChannel h.source) = some d) :
    v.mbxTake h = ({ v with mgt := { v.mgt with inbox := Map.del (sourceChannel h.source) v.mgt.inbox } } : Device).mbxAck 0
      (sourceChannel h.source) (1 - d) 0 := by
  rw [Device.mbxTake, if_pos mailbox, sends]

/-- The fragments of a body are the body, in order (15 R441). -/
theorem flatten_fragments {n : Nat} (room : 0 < n) : ∀ (k : Nat) (l : List Byte), l.length < n * k → (fragments n k l).flatten = l
  | 0, l, short => by omega
  | k + 1, l, short => by
    rw [fragments, List.flatten_cons]
    split
    · next whole => rw [List.take_of_length_le whole, List.flatten_nil, List.append_nil]
    · next more =>
      have rest : (l.drop n).length < n * k := by
        rw [List.length_drop]
        rw [Nat.mul_succ] at short
        omega
      rw [flatten_fragments room k _ rest, List.take_append_drop]

theorem length_fragment_le (n : Nat) : ∀ (k : Nat) (l : List Byte), ∀ f ∈ fragments n k l, f.length ≤ n
  | 0, l, f, hf => by cases hf
  | k + 1, l, f, hf => by
    rw [fragments, List.mem_cons] at hf
    rcases hf with rfl | hf
    · exact List.length_take_le n l
    · split at hf
      · cases hf
      · exact length_fragment_le n k _ f hf

/-- The header of the fragment p.2 of a response, whose fragments are `parts` in number and whose bytes are p.1 (15 R441). -/
def messageHeader (op txid id st parts : Nat) (p : List Byte × Nat) : List Byte :=
  leBytes 1 1 ++ leBytes 1 op ++ leBytes 2 txid ++ leBytes 2 id ++ leBytes 1 st ++ leBytes 1 (b2n (p.2 + 1 < parts)) ++ leBytes 2 p.2
    ++ leBytes 2 p.1.length

theorem length_messageHeader (op txid id st parts : Nat) (p : List Byte × Nat) : (messageHeader op txid id st parts p).length = 12 := by
  simp [messageHeader]

/-- The messages of a response are its fragments behind their headers. -/
theorem messages_eq {limit : Nat} (wide : 12 < limit) (op txid id st : Nat) (body : List Byte) :
    messages limit op txid id st body =
      ((fragments (limit - 12) (body.length / (limit - 12) + 1) body).zipIdx.map fun p =>
        messageHeader op txid id st (fragments (limit - 12) (body.length / (limit - 12) + 1) body).length p ++ p.1) := by
  have room : max 1 (limit - 12) = limit - 12 := by omega
  rw [messages, room]
  rfl

/-- Behind their headers they carry its body, and they fit its transport (15 R438 to R441). -/
theorem messages_carry {limit : Nat} (wide : 12 < limit) (op txid id st : Nat) (body : List Byte) :
    (messages limit op txid id st body).flatMap (List.drop 12) = body ∧
      (messages limit op txid id st body).all (fun l => decide (12 ≤ l.length ∧ l.length ≤ limit)) = true := by
  rw [messages_eq wide]
  generalize hparts : fragments (limit - 12) (body.length / (limit - 12) + 1) body = parts
  have whole : parts.flatten = body := hparts ▸ flatten_fragments (by omega) _ _ (Nat.lt_mul_div_succ _ (by omega))
  have short : ∀ f ∈ parts, f.length ≤ limit - 12 := hparts ▸ length_fragment_le _ _ _
  constructor
  · have behind : (List.drop 12 ∘ fun p => messageHeader op txid id st parts.length p ++ p.1) = Prod.fst :=
      funext fun p => List.drop_left' (length_messageHeader ..)
    rw [List.flatMap_def, List.map_map, behind, List.zipIdx_map_fst, whole]
  · rw [List.all_eq_true]
    intro l hl
    obtain ⟨p, hp, rfl⟩ := List.mem_map.mp hl
    have fragment : p.1.length ≤ limit - 12 := short _ (List.fst_mem_of_mem_zipIdx hp)
    rw [List.length_append, length_messageHeader]
    exact decide_eq_true ⟨by omega, by omega⟩

section
variable {v : Device} {c d : Nat} {l : List Byte}

/-- While an answer of the channel is on its way, a message has to come again (15 R440). -/
theorem mailTake_of_busy (busy : v.base.mbxPending c (1 - d) = true ∨ (Map.find c v.mgt.outbox).isSome = true) :
    v.mailTake c d l = v.mbxAck 0 c d 3 := by
  rw [Device.mailTake, if_pos (by simpa using busy)]

section
variable (free : v.base.mbxPending c (1 - d) = false) (out : Map.find c v.mgt.outbox = none)
include free out

theorem mailTake_of_no_message (bad : ProtoMsg.parse l = none) :
    v.mailTake c d l = (v.mbxAck 0 c d 1).mailOut c
      (messages 56 (fieldAt l 1 1 % 128 + 0x80) (fieldAt l 2 2) (fieldAt l 4 2) stMALFORMED []) := by
  rw [Device.mailTake, if_neg (by simp [free, out])]
  simp only [bad]

section
variable {m : ProtoMsg} (message : ProtoMsg.parse l = some m)
include message

theorem mailTake_of_no_order (lost : v.mailJoin c m = none) :
    v.mailTake c d l = ({ v with mgt := { v.mgt with inbox := Map.del c v.mgt.inbox } } : Device).mbxAck 0 c d 2 := by
  rw [Device.mailTake, if_neg (by simp [free, out])]
  simp only [message, lost]

variable {r : ProtoMsg} (joined : v.mailJoin c m = some r)
include joined

/-- A fragment that is followed by more is kept; the last one of a request that fits stays until the request is served (15 R440). -/
theorem mailTake_of_more (short : r.body.length ≤ 8192) (more : m.more = true) :
    v.mailTake c d l = ({ v with mgt := { v.mgt with inbox := Map.put c r v.mgt.inbox } } : Device).mbxAck 0 c d 0 := by
  rw [Device.mailTake, if_neg (by simp [free, out])]
  simp only [message, joined]
  rw [if_neg (by simp [more, short]), if_pos more]

theorem mailTake_of_last (short : r.body.length ≤ 8192) (last : m.more = false) (fits : bodyFits r.op r.body = true) : v.mailTake c d l = v := by
  rw [Device.mailTake, if_neg (by simp [free, out])]
  simp only [message, joined]
  rw [if_neg (by simp [fits, short]), if_neg (by simp [last])]

theorem mailTake_of_unfit (last : m.more = false) (unfit : bodyFits r.op r.body = false) :
    v.mailTake c d l = (({ v with mgt := { v.mgt with inbox := Map.del c v.mgt.inbox } } : Device).mbxAck 0 c d 0).mailOut c
      (messages 56 (fieldAt l 1 1 % 128 + 0x80) (fieldAt l 2 2) (fieldAt l 4 2) stMALFORMED []) := by
  rw [Device.mailTake, if_neg (by simp [free, out])]
  simp only [message, joined]
  rw [if_pos (by simp [unfit, last])]

end
end
end

/-- Settles O51: a request is judged by its port, its form, its session, its TAG and its TXID, in that order, and its messages carry its answer. -/
theorem requestsAreAnsweredInTheirSession : Obligations.RequestsAreAnsweredInTheirSession := by
  refine ⟨?request, fun v h op => ⟨malformed_of_no_session, fun x => malformed_of_session⟩,
    fun v h op st id body tag l carried => ⟨fun port => ⟨mbxTake_of_port port v, reply_of_port carried port⟩,
      fun mailbox => ⟨reply_of_mailbox carried mailbox, fun d => mbxTake_of_mailbox mailbox⟩⟩,
    fun limit op txid id st body wide => messages_carry wide op txid id st body, fun v c d l => ⟨mailTake_of_busy, fun free out =>
      ⟨mailTake_of_no_message free out, ?mail⟩⟩⟩
  case request =>
    rintro s c h op env v0 names rfl
    have leaves {w : Device} (hw : s.dev.cleared.request h op env = w) : Leaves c s w := leaves_of_run (exec_of_requestOf names s) rfl hw
    refine ⟨fun unheard => leaves (request_of_unheard unheard), fun heard unfit => leaves (request_of_malformed heard unfit), ?_⟩
    rintro heard fits v rfl
    refine ⟨fun hello => leaves (request_hello heard fits hello), fun role cnonce proof auth => leaves (request_auth heard fits auth),
      fun other unproven closed => leaves (request_of_no_session heard fits other unproven closed), fun x other unproven opened => ?_⟩
    have session {w : Device} (hw : (s.dev.cleared.mbxTake h).inSession h x op env = w) : Leaves c s w :=
      leaves ((request_of_session heard fits other unproven opened).trans hw)
    exact ⟨fun bad => session (inSession_of_bad_tag bad), fun good last => session (inSession_of_last good last),
      fun t good last lower => session (inSession_of_lower good last lower),
      fun good new y v1 st body time performed => session (inSession_of_new good new time performed)⟩
  case mail =>
    rintro m v1 message rfl
    exact ⟨mailTake_of_no_order free out message, fun r joined short => ⟨mailTake_of_more free out message joined short,
      mailTake_of_last free out message joined short, mailTake_of_unfit free out message joined⟩⟩

end Sys2Proof.Proofs
end

section
/-! Nonces, sessions and the lockout (15 R443, R444). -/

namespace Sys2Proof.Proofs

open Sys2Proof Sys2Proof.Machine Sys2Proof.Laws

/-- The second device keeps the nonces of the first. -/
def SameNonces (u v : Device) : Prop := v.mgt.nonces = u.mgt.nonces

theorem SameNonces.refl (v : Device) : SameNonces v v := rfl

theorem SameNonces.trans {u v w : Device} (h : SameNonces u v) (k : SameNonces v w) : SameNonces u w := Eq.trans k h

section
variable (v : Device)

theorem sameNonces_setBase (b : Base) : SameNonces v (v.setBase b) := rfl

theorem sameNonces_onBase (f : Base → Base) : SameNonces v (v.onBase f) := rfl

theorem sameNonces_withDock (d : Dock) : SameNonces v { v with dock := d } := rfl

theorem sameNonces_withOutbox (o : List (Nat × List (List Byte))) : SameNonces v { v with mgt := { v.mgt with outbox := o } } := rfl

theorem sameNonces_answer (r : Resp) : SameNonces v (v.answer r) := sameNonces_onBase v _

/-- A message sent, or refused, keeps the nonces. -/
theorem sameNonces_mbxSend (m c d x : Nat) : SameNonces v (v.mbxSend m c d x) := by
  unfold Device.mbxSend
  dsimp only
  split
  · exact sameNonces_onBase v _
  split
  · exact sameNonces_onBase v _
  split
  · exact sameNonces_onBase v _
  split
  · exact sameNonces_onBase v _
  split
  · exact sameNonces_onBase v _
  · exact (sameNonces_onBase v _).trans (sameNonces_withDock _ _)

theorem sameNonces_outboxSend (c : Nat) : SameNonces v (v.outboxSend c) := by
  unfold Device.outboxSend
  split
  · split
    · exact .refl v
    · exact (sameNonces_setBase v _).trans ((sameNonces_mbxSend _ _ _ _ _).trans (sameNonces_withOutbox _ _))
  · exact .refl v

/-- So does an answer, by whatever transport. -/
theorem sameNonces_reply (h : ReqHead) (op st id : Nat) (body tag : List Byte) : SameNonces v (v.reply h op st id body tag) := by
  unfold Device.reply
  dsimp only
  split
  · exact (sameNonces_withOutbox v _).trans ((sameNonces_outboxSend _ _).trans (sameNonces_answer _ _))
  · exact sameNonces_answer v _

/-- HELLO puts a nonce for its source in place of an older one (15 R444). -/
theorem hello_nonces (h : ReqHead) :
    (v.hello h).mgt.nonces = ⟨h.transport, h.source, (List.range 32).map (Config.nonceByte v.base.free), v.base.time⟩ ::
      v.mgt.nonces.filter fun n => !n.isFor h := by
  unfold Device.hello
  exact sameNonces_reply _ _ _ _ _ _ _

end

section
variable {v : Device} {h : ReqHead} {role : Nat} {cnonce proof : List Byte}

theorem auth_of_lockout (out : v.lockedOut = true) : v.auth h role cnonce proof = v.reply h 2 stLOCKOUT 0 [] [] := if_pos out

section
variable (free : v.lockedOut = false)
include free

/-- AUTH without a nonce, or for a role without a key, fails (15 R435, R444). -/
theorem auth_of_missing (missing : v.nonceOf h = none ∨ v.base.roleKey role = none) :
    v.auth h role cnonce proof = (v.nonceUsed h).authFailed.reply h 2 stAUTHFAIL 0 [] [] := by
  rw [Device.auth, if_neg (by simp [free])]
  rcases missing with nonce | key
  · simp only [nonce]
  · cases hn : v.nonceOf h <;> simp only [key]

variable {n : Nonce} {key : List Byte} (nonce : v.nonceOf h = some n) (secret : v.base.roleKey role = some key)
include nonce secret

theorem auth_of_wrong (wrong : proof ≠ authProof key n.value cnonce role h) :
    v.auth h role cnonce proof = (v.nonceUsed h).authFailed.reply h 2 stAUTHFAIL 0 [] [] := by
  rw [Device.auth, if_neg (by simp [free])]
  simp only [nonce, secret]
  rw [if_neg wrong]

/-- The right proof opens a session, unless the transport has as many as it may (15 R443). -/
theorem auth_of_right (right : proof = authProof key n.value cnonce role h) :
    v.auth h role cnonce proof =
      if v.mgt.full h then (v.nonceUsed h).reply h 2 stBUSY 0 [] [] else (v.nonceUsed h).authOpens h role key n.value cnonce := by
  rw [Device.auth, if_neg (by simp [free])]
  simp only [nonce, secret]
  rw [if_pos right]

end

/-- A nonce is used once, and kept for 10 s (15 R444). -/
theorem nonceOf_nonceUsed : (v.nonceUsed h).nonceOf h = none := by
  refine List.find?_eq_none.mpr fun n kept => ?_
  have other : n.isFor h = false := by simpa using (List.mem_filter.mp kept).2
  rw [other]
  nofun

theorem nonceOf_kept {n : Nonce} (nonce : v.nonceOf h = some n) : v.base.time < n.time + sTicks 10 := by
  have found := List.find?_some nonce
  simp only [Bool.and_eq_true, decide_eq_true_eq] at found
  exact found.2

end

/-- Settles O52: AUTH is judged by the lockout, the nonce and the key, the proof and the limit, in that order; each expiry by its time. -/
theorem sessionsOpenAndExpire : Obligations.SessionsOpenAndExpire := by
  refine ⟨fun v h role cnonce proof => ⟨auth_of_lockout, auth_of_missing, fun free n key nonce secret => ⟨auth_of_wrong free nonce secret,
      fun right full => ?_, fun right room => ?_⟩⟩, fun v h n => ⟨nonceOf_nonceUsed, nonceOf_kept⟩, fun v h => ?hello, ?idle,
    fun s tr src v hv => ?nonce, ?lockout⟩
  · exact (auth_of_right free nonce secret right).trans (if_pos full)
  · exact (auth_of_right free nonce secret right).trans (if_neg (by simp [room]))
  case hello =>
    refine ⟨_, by rw [hello_nonces]; rfl, by simp [Nonce.isFor], by simp, ?_⟩
    rw [hello_nonces, List.drop_one, List.tail_cons, List.all_filter]
    exact List.all_eq_true.mpr fun n _ => by simp
  case idle =>
    rintro s id v rfl f rfl
    exact ⟨fun old => leaves_of_run rfl rfl (if_pos old),
      fun none => leaves_of_run rfl rfl (if_neg (by simp only [none, Bool.false_eq_true, not_false_eq_true]))⟩
  case nonce =>
    subst hv
    exact leaves_of_run rfl rfl rfl
  case lockout =>
    rintro s t v rfl out
    have judged : s.dev.cleared.lockoutExpiry =
        if t + sTicks 60 ≤ s.dev.cleared.base.time then { s.dev.cleared with mgt := { s.dev.cleared.mgt with lockout := none } } else s.dev.cleared := by
      rw [Device.lockoutExpiry, out]
    exact ⟨fun past => leaves_of_run rfl rfl (judged.trans (if_pos past)),
      fun early => leaves_of_run rfl rfl (judged.trans (if_neg (Nat.not_le.mpr early)))⟩

end Sys2Proof.Proofs
end

section
/-! Reads and writes of entries, requested unit states, and firmware updates (15 R431 to R437, R451, R457 to R459). -/

namespace Sys2Proof.Proofs

open Sys2Proof Sys2Proof.Machine Sys2Proof.Laws

section
variable {v : Device} {x : Session} {i k o m : Nat}

/-- An entry that does not exist is neither read nor described (15 R431). -/
theorem readEntry_of_none (absent : v.entry i k = none) : v.readEntry x i k o m = (stNOENTRY, []) := by simp only [Device.readEntry, absent]

theorem describe_of_none (absent : v.entry i k = none) : v.describe x i k = (stNOENTRY, []) := by simp only [Device.describe, absent]

section
variable {e : CatInfo} (exists_ : v.entry i k = some e)
include exists_

theorem describe_of_denied (denied : v.mayRead x e = false) : v.describe x i k = (stDENIED, []) := by
  simp only [Device.describe, exists_, denied, Bool.not_false, if_true]

/-- An existing entry is read by whom it may be, unless it is write-only (15 R436, R437). -/
theorem readEntry_of_some :
    v.readEntry x i k o m =
      if !v.mayRead x e then (stDENIED, [])
      else if e.acc = .wo then (stWRITEONLY, [])
      else (stOK, [typeByte e.type] ++ leBytes 3 0 ++ leBytes 4 (v.catValue i k).length ++ ((v.catValue i k).drop o).take m) := by
  simp only [Device.readEntry, exists_]

end

section
variable {t : CatType} {l : List Byte} {env : WriteEnv}

theorem writeEntry_of_none (absent : v.entry i k = none) : v.writeEntry x i k t l env = (v, stNOENTRY) := by
  simp only [Device.writeEntry, absent]

/-- A write of an existing entry is checked for its role, its access, its type and its range, in that order (15 R433 to R437). -/
theorem writeEntry_of_some {e : CatInfo} (exists_ : v.entry i k = some e) :
    v.writeEntry x i k t l env =
      if v.mgt.recovery || !v.mayWrite x e then (v, stDENIED)
      else if e.acc = .ro then (v, stREADONLY)
      else if t ≠ e.type ∨ !e.lengthOk l.length then (v, stTYPE)
      else if !v.inRange i k e l then (v, stRANGE)
      else if e.persist && !env.flashOk then (v.onBase fun b => b.mgtEvent 5 0x0E06, stFLASH)
      else (v.entryWrite i k e l env, stOK) := by
  simp only [Device.writeEntry, exists_]

/-- A write that is refused changes nothing (15 R433). -/
theorem writeEntry_refused {v1 : Device} {st : Nat} (written : v.writeEntry x i k t l env = (v1, st)) (ok : st ≠ stOK) (flash : st ≠ stFLASH) :
    v1 = v := by
  cases found : v.entry i k with
  | none =>
    rw [writeEntry_of_none found] at written
    exact (congrArg Prod.fst written).symm
  | some e =>
    rw [writeEntry_of_some found] at written
    have state := congrArg Prod.fst written
    have status := congrArg Prod.snd written
    split at written
    · exact (congrArg Prod.fst written).symm
    split at written
    · exact (congrArg Prod.fst written).symm
    split at written
    · exact (congrArg Prod.fst written).symm
    split at written
    · exact (congrArg Prod.fst written).symm
    split at written
    · exact absurd (congrArg Prod.snd written).symm flash
    · exact absurd (congrArg Prod.snd written).symm ok

end

/-- A mailbox session writes entries of its own partition (15 R437). -/
theorem part_of_mayWrite {e : CatInfo} (mailbox : x.transport = 3) (may : v.mayWrite x e = true) : e.part = some (v.sessionPart x) := by
  simpa [Device.mayWrite, mailbox] using (Bool.and_eq_true_iff.mp may).2

end

section
variable {v v1 : Device} {d k u y : Nat} (stored : v1 = v.unitStored d k u y)
include stored

/-- SERVICE withdraws a request that has not taken effect (15 R457). -/
theorem unitWrite_service (service : y = 0) : v.unitWrite d k u y = v1.unitWithdrawn d k u := by
  subst stored
  exact if_pos service

/-- A unit that is out of service keeps the request alone (15 R459). -/
theorem unitWrite_of_out (asks : y ≠ 0) (out : outOfService (v1.work.unitState d k u) = true) : v.unitWrite d k u y = v1 := by
  subst stored
  exact (if_neg asks).trans (if_pos out)

section
variable (serves : outOfService (v1.work.unitState d k u) = false)
include serves

theorem unitWrite_failed (failed : y = 2) : v.unitWrite d k u y = (v1.unitAsked d k u).unitFails d k u := by
  subst stored
  exact (if_neg (by rw [failed]; decide)).trans ((if_neg (by simp [serves])).trans (if_pos failed))

theorem unitWrite_fenced (fenced : y = 1) :
    v.unitWrite d k u y = if d < 8 ∧ k = 1 then (v1.unitAsked d k u).onWork fun w => w.tileFence d u else v1.unitAsked d k u := by
  subst stored
  exact (if_neg (by rw [fenced]; decide)).trans ((if_neg (by simp [serves])).trans (if_neg (by rw [fenced]; decide)))

end
end

section
variable {v : Device} {x : Session} (may : x.mayUpdate = true) {u : FwUpdate} (under : v.mgt.update = some u)
include may under

/-- An update belongs to the session that began it (15 R451). -/
theorem fwBegin_of_other (other : u.session ≠ x.id) (n : Nat) : v.fwBegin x n = (v, stBUSY, []) := by
  rw [Device.fwBegin, if_neg (by simp [may]), under, if_pos (by simpa using other)]

section
variable (own : u.session = x.id)
include own

/-- It takes data at the next offset, within its length (15 R451). -/
theorem fwData_of_own (o : Nat) (l : List Byte) :
    v.fwData x o l =
      if o ≠ u.data.length ∨ u.length < o + l.length then (v, stRANGE, [])
      else ({ v with mgt := { v.mgt.setSlot u.slot (u.data ++ l) with update := some { u with data := u.data ++ l } } }, stOK, []) := by
  rw [Device.fwData, if_neg (by simp [may]), under]
  simp only
  rw [if_neg (not_not.mpr own)]

/-- It ends with a valid image, which the flash must take as the selected one, or erased (15 R434, R451). -/
theorem fwEnd_of_own (env : WriteEnv) :
    v.fwEnd x env =
      if v.base.imageValid u.data then
        if !env.flashOk then (v.onBase fun b => b.mgtEvent 5 0x0E06, stFLASH, [])
        else ((({ v with mgt := { v.mgt with update := none } } : Device).onBase fun b => b.catSet 0x1005 1 1 u.slot).persist, stOK, leBytes 1 u.slot)
      else (({ v with mgt := ({ v.mgt with update := none } : Mgt).setSlot u.slot [] } : Device).onBase (fun b => b.mgtEvent 3 0x0E04), stVERIFY, []) := by
  rw [Device.fwEnd, if_neg (by simp [may]), under]
  simp only
  rw [if_neg (not_not.mpr own)]

end
end

/-- Settles O53: each operation is judged by its checks in their order. -/
theorem entriesAreReadAndWritten : Obligations.EntriesAreReadAndWritten := by
  refine ⟨fun v x i k o m => ⟨fun absent => ⟨readEntry_of_none absent, describe_of_none absent⟩, fun e found => ?read⟩,
    fun v x i k t l env => ⟨writeEntry_of_none, fun e found => ?write⟩, fun v v1 x i k t l env st => writeEntry_refused,
    fun v x e => part_of_mayWrite, fun v v1 d k u y stored => ⟨unitWrite_service stored, unitWrite_of_out stored, fun serves => ?unit⟩,
    fun w d k u y high => ?refuse, fun v x may => ⟨fun u n under other => fwBegin_of_other may under other n, ?next, ?apart, fun u env under own => ?close⟩⟩
  case read =>
    have read := readEntry_of_some (x := x) (o := o) (m := m) found
    exact ⟨fun denied => ⟨read.trans (if_pos (by simp [denied])), describe_of_denied found denied⟩,
      fun reads wo => read.trans ((if_neg (by simp [reads])).trans (if_pos wo)),
      fun reads other => read.trans ((if_neg (by simp [reads])).trans (if_neg other))⟩
  case write =>
    have write := writeEntry_of_some (x := x) (t := t) (l := l) (env := env) found
    refine ⟨fun denied => write.trans (if_pos (by simpa using denied)), fun running may => ?_⟩
    rw [if_neg (by simp [running, may])] at write
    refine ⟨fun ro => write.trans (if_pos ro), fun other wrong => write.trans ((if_neg other).trans (if_pos (by simpa using wrong))),
      fun other type length => ?_⟩
    rw [if_neg other, if_neg (by simp [type, length])] at write
    refine ⟨fun out => write.trans (if_pos (by simp [out])), fun within persists refused => ?_, fun within taken => ?_⟩
    · exact write.trans ((if_neg (by simp [within])).trans (if_pos (by simp [persists, refused])))
    · exact write.trans ((if_neg (by simp [within])).trans (if_neg (by rcases taken with no | ok <;> simp [*])))
  case unit =>
    exact ⟨unitWrite_failed stored serves, fun fenced die kind => (unitWrite_fenced stored serves fenced).trans (if_pos ⟨die, kind⟩),
      fun fenced other => (unitWrite_fenced stored serves fenced).trans (if_neg (by omega))⟩
  case refuse => simp [Work.unitRefuses, high]
  case next =>
    intro u o l under own next fits
    exact (fwData_of_own may under own o l).trans (if_neg (by omega))
  case apart =>
    intro u o l under own apart
    exact (fwData_of_own may under own o l).trans (if_pos (.inl apart))
  case close =>
    have ends := fwEnd_of_own may under own env
    exact ⟨fun bad => ends.trans (if_neg (by simp [bad])), fun good refused => ends.trans ((if_pos good).trans (if_pos (by simp [refused]))),
      fun good taken => ends.trans ((if_pos good).trans (if_neg (by simp [taken])))⟩

end Sys2Proof.Proofs
end

section
/-! The ports of the management core, its notices, and pairs that diverge (15 R438, R439, R455, R460). -/

namespace Sys2Proof.Proofs

open Sys2Proof Sys2Proof.Machine Sys2Proof.Laws

/-- A packet with an extension header is not heard (15 R438). -/
theorem t1sHears_extension (v : Device) (src : List Byte) : v.t1sHears src true = false := by simp [Device.t1sHears]

section
variable {v : Device} {src tgt : List Byte}

/-- The port answers a solicitation of its address, and an echo request to it (15 R438). -/
theorem solicit_of_own (heard : v.t1sHears src false = true) (own : tgt = v.base.t1sAddress) :
    v.solicit src tgt false = v.answer (.message (0x88 :: tgt)) := if_pos (by simp [heard, own])

theorem echo_of_own (heard : v.t1sHears src false = true) (own : tgt = v.base.t1sAddress) (data : List Byte) :
    v.echo src tgt data false = v.answer (.message (0x81 :: data)) := if_pos (by simp [heard, own])

theorem solicit_of_other {ext : Bool} (other : v.t1sHears src ext = false ∨ tgt ≠ v.base.t1sAddress) : v.solicit src tgt ext = v :=
  if_neg (by rcases other with deaf | other <;> simp [*])

theorem echo_of_other {ext : Bool} (other : v.t1sHears src ext = false ∨ tgt ≠ v.base.t1sAddress) (data : List Byte) :
    v.echo src tgt data ext = v := if_neg (by rcases other with deaf | other <;> simp [*])

end

section
variable {v : Device} (up : v.mgt.up = true) (heeds : v.heeds = true) (on : v.base.catNum 0x1011 1 = 1)
include up heeds on

/-- The I3C port takes and loses its dynamic address (15 R439). -/
theorem i3cCcc_rstdaa : v.i3cCcc .rstdaa = (v.onBase fun b => { b with i3cAddr := none }).answer .ok := by
  simp [Device.i3cCcc, up, heeds, on]

theorem i3cCcc_setdasa (free : v.base.i3cAddr = none) (a : Nat) :
    v.i3cCcc (.setdasa (v.base.catNum 0x1011 2) a) = (v.onBase fun b => { b with i3cAddr := some (a % 128) }).answer .ok := by
  simp [Device.i3cCcc, up, heeds, on, free]

/-- It takes its lengths within 256 and reads them at its address (15 R439). -/
theorem i3cCcc_setmwl (n : Nat) : v.i3cCcc (.setmwl none n) = ({ v with mgt := { v.mgt with i3cMwl := min n 256 } } : Device).answer .ok := by
  simp [Device.i3cCcc, up, heeds, on, Base.addressed]

theorem i3cCcc_setmrl (n : Nat) : v.i3cCcc (.setmrl none n) = ({ v with mgt := { v.mgt with i3cMrl := min n 256 } } : Device).answer .ok := by
  simp [Device.i3cCcc, up, heeds, on, Base.addressed]

theorem i3cCcc_getmwl {a : Nat} (own : v.base.i3cAddr = some a) : v.i3cCcc (.getmwl a) = v.answer (.value (BitVec.ofNat 64 v.mgt.i3cMwl)) := by
  simp [Device.i3cCcc, up, heeds, on, own]

theorem i3cCcc_getmrl {a : Nat} (own : v.base.i3cAddr = some a) : v.i3cCcc (.getmrl a) = v.answer (.value (BitVec.ofNat 64 v.mgt.i3cMrl)) := by
  simp [Device.i3cCcc, up, heeds, on, own]

/-- Its in-band interrupts are enabled and disabled by bit 0 (15 R439, log entry 83). -/
theorem i3cCcc_enec {n : Nat} (bit : n.testBit 0 = true) :
    v.i3cCcc (.enec none n) = (v.onBase fun b => { b with inbandOn := true }).answer .ok := by
  rw [Device.i3cCcc, if_neg (by simp [up, heeds, on])]
  exact if_pos (by rw [bit]; rfl)

theorem i3cCcc_disec {n : Nat} (bit : n.testBit 0 = true) :
    v.i3cCcc (.disec none n) = (v.onBase fun b => { b with inbandOn := false }).answer .ok := by
  rw [Device.i3cCcc, if_neg (by simp [up, heeds, on])]
  exact if_pos (by rw [bit]; rfl)

end

/-- One more notice follows 1 µs after a notice, for the records since (15 R455). -/
theorem coalesce_of_signal {b : Base} {p t : Nat} (signal : (b.ring p).lastSignal = some t) :
    b.coalesce p =
      if (b.ring p).pending && decide (t + usTicks 1 ≤ b.time) then
        ({ b with rings := Map.put p { b.ring p with pending := false, lastSignal := some b.time } b.rings }).msixPart p 2032
      else b := by
  simp only [Base.coalesce, signal]

section
variable {v : Device} {i k t : Nat}

/-- A pair that disagrees is reported at its 100 ms (15 R460), and once. -/
theorem divergence_of_watched (watched : Map.find (catKey i k) v.mgt.diverge = some (t, false)) (up : v.mgt.up = true)
    (differs : v.pairAgrees (catKey i k) = false) :
    v.divergence i k =
      if t + msTicks 100 ≤ v.base.time then
        ({ v with mgt := { v.mgt with diverge := Map.put (catKey i k) (t, true) v.mgt.diverge } } : Device).onBase fun b =>
          (((b.wf 0 16 i .PWR_MGT_DIVERGE 40).wf 16 8 k .PWR_MGT_DIVERGE 40).countSat 1 32 32 .PWR_MGT_DIVERGE 40).mgtEvent 0 0x0E01
      else v := by
  simp only [Device.divergence, watched, up, differs, Bool.not_false, true_and, and_true]

theorem divergence_of_reported (reported : Map.find (catKey i k) v.mgt.diverge = some (t, true)) : v.divergence i k = v := by
  simp only [Device.divergence, reported]

end

section
variable {s : State} {src tgt : List Byte} {ext : Bool} {w : Device}

/-- A packet leaves what the port makes of it. -/
theorem solicitation_leaves (hw : s.dev.cleared.solicit src tgt ext = w) : Leaves (.neighborSolicitation src tgt ext) s w :=
  leaves_of_run (f := fun v => v.solicit src tgt ext) rfl rfl hw

theorem echoRequest_leaves {data : List Byte} (hw : s.dev.cleared.echo src tgt data ext = w) : Leaves (.echoRequest src tgt data ext) s w :=
  leaves_of_run (f := fun v => v.echo src tgt data ext) rfl rfl hw

theorem divergenceExpiry_leaves {i k : Nat} (hw : s.dev.cleared.divergence i k = w) : Leaves (.divergenceExpiry i k) s w :=
  leaves_of_run (f := fun v => v.divergence i k) rfl rfl hw

end

/-- Settles O54: each port and each time-out does what its function makes of the device, by the address, the bit or the time. -/
theorem managementPortsAndNotices : Obligations.ManagementPortsAndNotices := by
  refine ⟨?ports, fun s src tgt data => ?extension, ?i3c, ?notice, ?diverge, fun s i k t reported =>
    divergenceExpiry_leaves (divergence_of_reported (v := s.dev.cleared) reported)⟩
  case ports =>
    rintro s src tgt data v rfl heard
    exact ⟨fun own => ⟨solicitation_leaves (solicit_of_own heard own), echoRequest_leaves (echo_of_own heard own _)⟩,
      fun other => ⟨solicitation_leaves (solicit_of_other (.inr other)), echoRequest_leaves (echo_of_other (.inr other) _)⟩⟩
  case extension =>
    exact ⟨solicitation_leaves (solicit_of_other (.inl (t1sHears_extension _ _))),
      echoRequest_leaves (echo_of_other (.inl (t1sHears_extension _ _)) data)⟩
  case i3c =>
    rintro s v a n rfl up heeds on
    have leaves {c : I3cCcc} {w : Device} (hw : s.dev.cleared.i3cCcc c = w) : Leaves (.i3cCcc c) s w := leaves_of_run rfl rfl hw
    exact ⟨leaves (i3cCcc_rstdaa up heeds on), fun free => leaves (i3cCcc_setdasa up heeds on free a), leaves (i3cCcc_setmwl up heeds on n),
      leaves (i3cCcc_setmrl up heeds on n), fun own => ⟨leaves (i3cCcc_getmwl up heeds on own), leaves (i3cCcc_getmrl up heeds on own)⟩,
      fun bit => ⟨leaves (i3cCcc_enec up heeds on bit), leaves (i3cCcc_disec up heeds on bit)⟩⟩
  case notice =>
    rintro s p t b on rfl signal
    have judged := coalesce_of_signal signal
    refine ⟨fun pending past => ?_, fun idle => ?_⟩
    · rw [if_pos (by simp [pending, past])] at judged
      exact does_of_doWork rfl on (congrArg (fun b => { s.work with base := b }) judged)
    · rw [if_neg (by rcases idle with idle | early <;> simp [*])] at judged
      exact passes_of_doWork rfl on (congrArg (fun b => { s.work with base := b }) judged)
  case diverge =>
    rintro s i k t v rfl watched up differs
    have judged := divergence_of_watched watched up differs
    refine ⟨?_, fun early => divergenceExpiry_leaves (judged.trans (if_neg (Nat.not_le.mpr early)))⟩
    rintro past b rfl
    exact divergenceExpiry_leaves (judged.trans (if_pos past))

end Sys2Proof.Proofs
end

section
/-! Rails and bring-up (16 R475 to R478, R483, R485). -/

namespace Sys2Proof.Proofs

open Sys2Proof Sys2Proof.Machine Sys2Proof.Laws

section
variable {v : Device} {k : Nat} {q : RailReq} {l : List RailReq} (bus : v.pwr.bus k = q :: l)
include bus

/-- The first request of a bus is acknowledged, or not, while it waits for that (16 R476). -/
theorem avsResponse_ack (heeds : v.heeds = true) (phase : q.phase = 0) :
    v.avsResponse k .ack = { v with pwr := v.pwr.setBus k ({ q with phase := 2, time := v.base.time } :: l) } := by
  rw [Device.avsResponse, if_pos heeds, bus]
  simp only [phase]

theorem avsResponse_nack (heeds : v.heeds = true) (phase : q.phase = 0) : v.avsResponse k .nack = v.railAgain k q := by
  rw [Device.avsResponse, if_pos heeds, bus]
  simp only [phase]

/-- It is done once it was acknowledged (16 R476). -/
theorem avsResponse_done (heeds : v.heeds = true) (phase : q.phase = 2) : v.avsResponse k .done = (v.railDone k).powerStep := by
  rw [Device.avsResponse, if_pos heeds, bus]
  simp only [phase]

/-- 10 µs without a response are a failure, and 100 µs after one the request is sent again (16 R476). -/
theorem avsResend_of_unanswered (phase : q.phase = 0) (past : q.time + usTicks 10 ≤ v.base.time) : v.avsResend k = v.railAgain k q := by
  rw [Device.avsResend, bus]
  exact if_pos ⟨phase, past⟩

theorem avsResend_of_failed (phase : q.phase = 1) (past : q.time + usTicks 100 ≤ v.base.time) :
    v.avsResend k =
      { v.onBase fun b => b.countSat 1 0 48 .PWR_AVS_ERR 40 with pwr := v.pwr.setBus k ({ q with phase := 0, time := v.base.time } :: l) } := by
  rw [Device.avsResend, bus]
  exact (if_neg (by simp [phase])).trans (if_pos ⟨phase, past⟩)

theorem railDoneExpiry_of_late (phase : q.phase = 2) (past : q.time + msTicks 10 ≤ v.base.time) : v.railDoneExpiry k = v.railFails k := by
  rw [Device.railDoneExpiry, bus]
  exact if_pos ⟨phase, past⟩

end

theorem avsResponse_of_deaf {v : Device} (deaf : v.heeds = false) (k : Nat) (r : AvsReply) : v.avsResponse k r = v := by
  rw [Device.avsResponse, if_neg (by simp [deaf])]

section
variable {v : Device} {k : Nat} {q : RailReq}

theorem railAgain_of_few (few : q.fails < 2) :
    v.railAgain k q = { v with pwr := v.pwr.setBus k ({ q with fails := q.fails + 1, phase := 1, time := v.base.time } :: (v.pwr.bus k).drop 1) } :=
  if_neg (by omega)

/-- The third failure ends a request (16 R476). -/
theorem railAgain_of_third (third : 2 ≤ q.fails) : v.railAgain k q = v.railFails k := if_pos third

end

section
variable {v : Device} {d : Nat} (alive : v.alive = true)
include alive

/-- A memory stage that runs again after a die's reset ends, or is given up with its stack (16 R485). -/
theorem stageReady_of_retraining {t : Nat} (retrains : Map.find d v.pwr.retrain = some t) :
    v.stageReady d = { v with pwr := { v.pwr with retrain := Map.del d v.pwr.retrain } } := by
  rw [Device.stageReady, if_pos (by simp [alive, retrains])]

theorem stageTimeout_of_retraining {t : Nat} (retrains : Map.find d v.pwr.retrain = some t) (past : t + stageLimit d 2 ≤ v.base.time) :
    v.stageTimeout d = (v.onBase fun b => b.stackLost (d - 8)).stageReady d := by
  rw [Device.stageTimeout]
  exact if_pos (by simp [alive, retrains, past])

section
variable (settled : Map.find d v.pwr.retrain = none) (covered : v.pwr.bringing.contains d = true) (begun : 1 ≤ v.pwr.stageOf d)
  (going : v.pwr.stageOf d ≤ 3)
include settled covered begun going

/-- A stage of a bring-up that is ready is completed, and the bring-up ends with its last die (16 R477). -/
theorem stageReady_of_bringing :
    v.stageReady d = if (v.stageDone d).allUp = true then ((v.stageDone d).bringEnd).powerStep else (v.stageDone d).showStates := by
  have inside : (v.alive && v.pwr.bringing.contains d && decide (1 ≤ v.pwr.stageOf d ∧ v.pwr.stageOf d ≤ 3)) = true := by
    simp only [alive, covered, Bool.and_self, Bool.true_and, decide_eq_true_eq]
    exact ⟨begun, going⟩
  rw [Device.stageReady, if_neg (by simp [settled]), if_pos inside]

/-- One past its limit stops bring-up, but a stack that misses its memory stage is fenced (16 R477, R478). -/
theorem stageTimeout_of_bringing :
    v.stageTimeout d =
      if (Map.find d v.pwr.since).getD 0 + stageLimit d (v.pwr.stageOf d) ≤ v.base.time then
        if v.pwr.stageOf d = 2 ∧ 8 ≤ d ∧ d < 40 then (v.onBase fun b => b.stackLost (d - 8)).stageReady d
        else (v.bringStop (v.pwr.stageOf d) d 0).showStates
      else v := by
  have started : ¬ v.pwr.stageOf d = 0 := by omega
  unfold Device.stageTimeout
  dsimp only
  rw [if_neg (by simp [settled]), if_pos (by simp [alive]; simpa using covered), if_neg started]
  simp only [going, true_and]

end
end

/-- A reading of a rail that is on is reported (16 R476). -/
theorem railTelemetry_of_on {v : Device} {r : Nat} (heeds : v.heeds = true) (on : v.pwr.rails.contains r = true) (mv amps : Nat) :
    v.railTelemetry r mv amps = v.onBase fun b => b.catSet 0x2011 (r + 1) 4 (mv % 65536 + amps % 65536 * 65536) :=
  if_pos (by rw [heeds, on]; rfl)

theorem railTelemetry_of_off {v : Device} {r : Nat} (off : v.pwr.rails.contains r = false) (mv amps : Nat) : v.railTelemetry r mv amps = v :=
  if_neg (by rw [off, Bool.and_false]; exact Bool.false_ne_true)

section
variable {s : State} {w : Device} {k d : Nat}

/-- What the frames and times of the rails and stages leave. -/
theorem avsResponse_leaves {r : AvsReply} (hw : s.dev.cleared.avsResponse k r = w) : Leaves (.avsResponse k r) s w :=
  leaves_of_run (f := fun v => v.avsResponse k r) rfl rfl hw

theorem avsResend_leaves (hw : s.dev.cleared.avsResend k = w) : Leaves (.avsResendExpiry k) s w :=
  leaves_of_run (f := fun v => v.avsResend k) rfl rfl hw

theorem railDoneExpiry_leaves (hw : s.dev.cleared.railDoneExpiry k = w) : Leaves (.railDoneExpiry k) s w :=
  leaves_of_run (f := fun v => v.railDoneExpiry k) rfl rfl hw

theorem railTelemetry_leaves {mv amps : Nat} (hw : s.dev.cleared.railTelemetry k mv amps = w) : Leaves (.railTelemetry k mv amps) s w :=
  leaves_of_run (f := fun v => v.railTelemetry k mv amps) rfl rfl hw

theorem stageReady_leaves (hw : s.dev.cleared.stageReady d = w) : Leaves (.bringupStageReady d) s w :=
  leaves_of_run (f := fun v => v.stageReady d) rfl rfl hw

theorem stageTimeout_leaves (hw : s.dev.cleared.stageTimeout d = w) : Leaves (.bringupStageTimeout d) s w :=
  leaves_of_run (f := fun v => v.stageTimeout d) rfl rfl hw

end

/-- Settles O55: each frame and time is judged by the first request of its bus, or by the stage of its die; a cold reset leaves what it keeps. -/
theorem railsBringTheDiesUp : Obligations.RailsBringTheDiesUp := by
  refine ⟨?rails, ?readings, ?again, ?stages, fun s => leaves_of_run (f := Device.powerOn) rfl rfl rfl,
    fun v b => ⟨rfl, rfl, rfl, rfl, rfl, rfl, rfl, rfl, rfl⟩, fun v => rfl⟩
  case rails =>
    rintro s k q l v rfl bus
    exact ⟨fun heeds phase => ⟨avsResponse_leaves (avsResponse_ack bus heeds phase), avsResponse_leaves (avsResponse_nack bus heeds phase)⟩,
      fun heeds phase => avsResponse_leaves (avsResponse_done bus heeds phase), fun deaf r => avsResponse_leaves (avsResponse_of_deaf deaf k r),
      fun phase past => avsResend_leaves (avsResend_of_unanswered bus phase past), fun phase past => avsResend_leaves (avsResend_of_failed bus phase past),
      fun phase past => railDoneExpiry_leaves (railDoneExpiry_of_late bus phase past), railAgain_of_few, railAgain_of_third⟩
  case readings =>
    rintro s r mv amps v rfl heeds
    exact ⟨fun on => railTelemetry_leaves (railTelemetry_of_on heeds on mv amps), fun off => railTelemetry_leaves (railTelemetry_of_off off mv amps)⟩
  case again =>
    rintro s d t v rfl alive retrains
    exact ⟨stageReady_leaves (stageReady_of_retraining alive retrains), fun past => stageTimeout_leaves (stageTimeout_of_retraining alive retrains past)⟩
  case stages =>
    rintro s d v rfl alive settled covered begun going
    have ready := stageReady_of_bringing alive settled covered begun going
    have late := stageTimeout_of_bringing alive settled covered begun going
    refine ⟨fun up => stageReady_leaves (ready.trans (if_pos up)), fun down => stageReady_leaves (ready.trans (if_neg (by simp [down]))),
      fun past => ⟨fun stage lo hi => ?_, fun other => ?_⟩, fun early => stageTimeout_leaves (late.trans (if_neg (by omega)))⟩
    · exact stageTimeout_leaves (late.trans ((if_pos past).trans (if_pos ⟨stage, lo, hi⟩)))
    · exact stageTimeout_leaves (late.trans ((if_pos past).trans (if_neg (by omega))))

end Sys2Proof.Proofs
end

section
/-! Entry handshakes, HOLD, heat and supplies (16 R467, R469 to R471, R473, R479, R480, R482, 19 R523, R526). -/

namespace Sys2Proof.Proofs

open Sys2Proof Sys2Proof.Machine Sys2Proof.Laws

section
variable {v : Device} {h : Handshake}

/-- A block that delayed is asked again after 10 µs (16 R469). -/
theorem hsReask_of_handshake (asks : v.pwr.hs = some h) (cores : List Nat) :
    v.hsReask cores = if h.askedAt + usTicks 10 ≤ v.base.time then (v.askBlocks { h with cores := cores }).powerStep else v := by
  simp only [Device.hsReask, asks]

/-- One that still delays at PWR_HS_TIMEOUT ends the entry (16 R470). -/
theorem hsTimeout_of_delay (asks : v.pwr.hs = some h) {k : Block16} {l : List Block16} {r : Nat}
    (next : (blocksOf h.target h.dies).drop h.granted = k :: l) (delays : v.answerOf h.cores k = .delay r) :
    v.hsTimeout =
      if h.start + v.base.rf 0 32 .PWR_HS_TIMEOUT 40 ≤ v.base.time then (v.abandon h.target k.source r false).powerStep else v := by
  simp only [Device.hsTimeout, asks, next, delays]

/-- The blocks that a list asks, with what each answers. -/
def blockAnswers (v : Device) (cores : List Nat) (l : List Block16) : List (Block16 × Answer) := l.map fun k => (k, v.answerOf cores k)

/-- Those before the first that does not grant. -/
theorem takeWhile_blockAnswers {cores : List Nat} {l rest : List Block16} {k : Block16} (grants : ∀ x ∈ l, v.answerOf cores x = .grant)
    (stops : v.answerOf cores k ≠ .grant) :
    ((blockAnswers v cores (l ++ k :: rest)).takeWhile fun a => a.2 == .grant) = blockAnswers v cores l := by
  rw [blockAnswers, List.map_append, List.takeWhile_append_of_pos, List.map_cons, List.takeWhile_cons_of_neg (by simpa using stops), List.append_nil]
  · rfl
  · simpa using grants

/-- The first that does not grant. -/
theorem find?_blockAnswers {cores : List Nat} {l rest : List Block16} {k : Block16} (grants : ∀ x ∈ l, v.answerOf cores x = .grant)
    (stops : v.answerOf cores k ≠ .grant) :
    ((blockAnswers v cores (l ++ k :: rest)).find? fun a => a.2 != .grant) = some (k, v.answerOf cores k) := by
  have all : ((blockAnswers v cores l).find? fun a => a.2 != .grant) = none := by
    simpa [blockAnswers, List.find?_eq_none] using grants
  rw [blockAnswers, List.map_append, List.find?_append, ← blockAnswers, all, Option.none_or, List.map_cons, List.find?_cons_of_pos (by simpa using stops)]

section
variable {l rest : List Block16} {k : Block16} (asked : (blocksOf h.target h.dies).drop h.granted = l ++ k :: rest)
  (grants : ∀ x ∈ l, v.answerOf h.cores x = .grant)
include asked grants

/-- The first block that does not grant decides: a refusal abandons the entry, and a delay waits (16 R469, R470). -/
theorem askBlocks_of_refusal {r : Nat} (refuses : v.answerOf h.cores k = .refuse r) : v.askBlocks h = v.abandon h.target k.source r true := by
  have first := find?_blockAnswers (rest := rest) grants (by rw [refuses]; nofun)
  rw [refuses] at first
  unfold Device.askBlocks
  dsimp only
  rw [asked, ← blockAnswers, first]

theorem askBlocks_of_delay {r : Nat} (delays : v.answerOf h.cores k = .delay r) :
    v.askBlocks h = { v with pwr := { v.pwr with hs := some { h with granted := h.granted + l.length, askedAt := v.base.time } } } := by
  have stops : v.answerOf h.cores k ≠ .grant := by rw [delays]; nofun
  have first := find?_blockAnswers (rest := rest) grants stops
  rw [delays] at first
  unfold Device.askBlocks
  dsimp only
  rw [asked, ← blockAnswers, first, takeWhile_blockAnswers grants stops]
  simp only [blockAnswers, List.length_map]

end

/-- With every grant the transition begins (16 R471). -/
theorem askBlocks_of_grants (grants : ∀ x ∈ (blocksOf h.target h.dies).drop h.granted, v.answerOf h.cores x = .grant) :
    v.askBlocks h = v.transition h.target h.dies := by
  have all : ((blockAnswers v h.cores ((blocksOf h.target h.dies).drop h.granted)).find? fun a => a.2 != .grant) = none := by
    simpa only [blockAnswers, List.find?_eq_none, List.forall_mem_map, bne_iff_ne, ne_eq, not_not] using grants
  unfold Device.askBlocks
  dsimp only
  rw [← blockAnswers, all]

end

section
variable {v : Device}

theorem holdWake_of_no_source {e : WakeEvent} (no : v.wakeSource e = none) : v.holdWake e = v.wakePins e := by
  simp only [Device.holdWake, no]

/-- A wake source is heeded by a device that is alive, where it is enabled (16 R479). -/
theorem holdWake_of_source {e : WakeEvent} {k : Nat} (source : v.wakeSource e = some k) :
    v.holdWake e = if v.alive && bget (v.base.rd .PWR_WAKE 40) k then (v.wakePins e).woken k else v.wakePins e := by
  simp only [Device.holdWake, source]

section
variable (trans : v.pwr.trans = none) (hs : v.pwr.hs = none) (hold : v.pwr.effective = 3) (bring : v.pwr.bring = none)
include trans hs hold bring

theorem woken_of_hold (k : Nat) : v.woken k = (v.holdExit 5 (some k)).showStates := by
  simp only [Device.woken, trans, hs, hold, bring, Option.isNone_none, and_self, if_true]

/-- Once a bring-up has stopped no wake source starts one (16 R478). -/
theorem woken_of_stopped (stopped : v.pwr.stopped = true) (k : Nat) : v.woken k = v.showStates := by
  rw [woken_of_hold trans hs hold bring, Device.holdExit, if_pos stopped]

theorem woken_of_ready (ready : v.pwr.stopped = false) (k : Nat) {p : Pwr} {u : Device}
    (exits : p = { v.pwr with bring := some 1, exitBit := 5, wake := none, stage := [], since := [] })
    (latched : u = (v.onBase fun b => b.wf 8 6 (2 ^ k) .PWR_WAKE 40)) :
    v.woken k = Device.showStates { u with pwr := p.askAll u.base ioRails true } := by
  subst exits latched
  rw [woken_of_hold trans hs hold bring, Device.holdExit, if_neg (by simp [ready])]
  rfl

end

/-- A requested state is taken up at once, or once what is under way has ended; the state that was requested already starts nothing (16 R467). -/
theorem powerWrite_of_idle (idle : v.pwr.idle = true) (d : Nat) (cores : List Nat) (same : Bool) :
    v.powerWrite d cores same = (v.takeUp d cores).powerStep := if_pos idle

section
variable (busy : v.pwr.idle = false) (d : Nat) (cores : List Nat)
include busy

theorem powerWrite_of_same : v.powerWrite d cores true = v := by
  rw [Device.powerWrite, if_neg (by simp [busy]), if_pos rfl]

theorem powerWrite_of_new : v.powerWrite d cores false =
    Device.showStates { v with pwr := { v.pwr with again := (v.pwr.again.filter fun (a : Nat × List Nat) => a.1 != d) ++ [(d, cores)] } } := by
  rw [Device.powerWrite, if_neg (by simp [busy]), if_neg (by simp)]

end

/-- A tile domain of a die in DOZE that has been gated for the dwell stops its PLL (16 R473). -/
theorem dozeExpiry_of_gated {n k t : Nat} (die : n < 8) (dom : k < 8) (doze : v.dieState n = 1) (runs : v.pwr.doze.contains (8 * n + k) = false)
    (idle : v.work.domainBusy n k = false) (gated : Map.find (8 * n + k) v.pwr.gated = some t) :
    v.dozeExpiry n k =
      if t + v.base.rf 0 32 .PWR_DOZE_DWELL n ≤ v.base.time then { v with pwr := { v.pwr with doze := NSet.add (8 * n + k) v.pwr.doze } } else v := by
  rw [Device.dozeExpiry, if_pos ⟨die, dom, doze, by rw [runs]; rfl, by rw [idle]; rfl⟩, gated]

/-- A temperature is reported and warned of, and trips the device where it is too high (16 R482). -/
theorem temperature_of_alive {d : Nat} {t : Int} (alive : v.alive = true) (die : d < 44) :
    v.temperature d t =
      if (Device.warned (v.onBase fun b => b.sensed d t) d t).trips t then (Device.warned (v.onBase fun b => b.sensed d t) d t).trip
      else Device.warned (v.onBase fun b => b.sensed d t) d t := by
  rw [Device.temperature, if_pos (by simp [alive, die])]

/-- A die is warned of once for its episode (16 R482). -/
theorem warned_of_hot {d : Nat} {t : Int} (high : (v.base.catNum 0x2012 1 : Int) < t) (hot : v.pwr.hot.contains d = true) : v.warned d t = v := by
  rw [Device.warned, if_neg (by omega), if_pos hot]

end

section
variable {b b1 : Base} {d : Nat} {t : Int} (now : b1 = b.wf 0 16 (tc 16 t) .PWR_TEMP d)
include now

/-- PEAK takes the reading where it is higher, or the first since PEAK was read (00 R10). -/
theorem sensed_of_peak (peak : b.peaks.contains d = false ∨ sext 16 (b1.rf 16 16 .PWR_TEMP d) < t) :
    b.sensed d t = { b1.wf 16 16 (tc 16 t) .PWR_TEMP d with peaks := NSet.add d b.peaks } := by
  subst now
  unfold Base.sensed
  dsimp only
  rw [base_wf_peaks, if_pos (by simpa using peak)]

theorem sensed_of_lower (read : b.peaks.contains d = true) (lower : t ≤ sext 16 (b1.rf 16 16 .PWR_TEMP d)) : b.sensed d t = b1 := by
  subst now
  unfold Base.sensed
  dsimp only
  rw [base_wf_peaks, if_neg (by rw [read]; simpa using lower)]

end

section
variable {v : Device}

/-- A low VAUX clears JOIN (19 R526). -/
theorem vaux_of_low {mv : Nat} (low : mv < 3135) :
    v.vaux mv = { v with work := v.work.joinWrite false true, pwr := { v.pwr with vauxLow := true } } := if_pos low

theorem vaux_of_high {mv : Nat} (high : 3135 ≤ mv) : v.vaux mv = { v with pwr := { v.pwr with vauxLow := false } } := if_neg (by omega)

section
variable (alive : v.alive = true)
include alive

/-- With a low VDDIO_MGT the inputs are ignored, and its return is a cold reset (19 R526). -/
theorem ioDrop_of_alive : v.ioDrop = { v with pwr := { v.pwr with ioLow := true } } := if_pos alive

theorem ioReturn_of_low (low : v.pwr.ioLow = true) : v.ioReturn = Device.coldReset { v with pwr := { v.pwr with ioLow := false } } 1 :=
  if_pos (by rw [alive, low]; rfl)

end

/-- Every session is closed by a close of all. -/
theorem closeSessions_all : (v.closeSessions fun _ => true).mgt.sessions = [] := List.filter_false _

end

section
variable {s : State} {w : Device}

/-- What the events and times of the power controller leave. -/
theorem handshakeReask_leaves {cores : List Nat} (hw : s.dev.cleared.hsReask cores = w) : Leaves (.handshakeReask cores) s w :=
  leaves_of_run (f := fun v => v.hsReask cores) rfl rfl hw

theorem handshakeTimeout_leaves (hw : s.dev.cleared.hsTimeout = w) : Leaves .handshakeTimeout s w :=
  leaves_of_run (f := fun v => v.hsTimeout) rfl rfl hw

theorem holdWake_leaves {e : WakeEvent} (hw : s.dev.cleared.holdWake e = w) : Leaves (.holdWake e) s w :=
  leaves_of_run (f := fun v => v.holdWake e) rfl rfl hw

theorem dozeDwellExpiry_leaves {n k : Nat} (hw : s.dev.cleared.dozeExpiry n k = w) : Leaves (.dozeDwellExpiry n k) s w :=
  leaves_of_run (f := fun v => v.dozeExpiry n k) rfl rfl hw

/-- The three commands that bring a temperature bring it alike (16 R482). -/
theorem temperature_leaves {c : Instr} {d : Nat} {t : Int}
    (names : c = .temperatureWarning d t ∨ c = .temperatureWarningEnd d t ∨ c = .thermalTrip d t) (hw : s.dev.cleared.temperature d t = w) :
    Leaves c s w := by
  have hc : exec c s = s.run true fun v => v.temperature d t := by
    rcases names with rfl | rfl | rfl
    · rfl
    · rfl
    · rfl
  exact leaves_of_run hc rfl hw

end

/-- Settles O56: each event is judged by the handshake, the blocks' answers, the power state, the time or the reading. -/
theorem powerControllerActs : Obligations.PowerControllerActs := by
  refine ⟨?handshake, fun v h l rest k asked grants => ⟨fun r => askBlocks_of_refusal asked grants, fun r => askBlocks_of_delay asked grants⟩,
    fun v h => askBlocks_of_grants, ?wake, fun v k trans hs hold bring => ⟨fun stopped => woken_of_stopped trans hs hold bring stopped k,
      fun ready p exits u latched => woken_of_ready trans hs hold bring ready k exits latched⟩,
    fun v d cores same => ⟨fun idle => powerWrite_of_idle idle d cores same, fun busy => powerWrite_of_same busy d cores,
      fun busy => powerWrite_of_new busy d cores⟩, ?doze, ?heat, fun v d t => warned_of_hot,
    fun b b1 d t now => ⟨sensed_of_peak now, sensed_of_lower now⟩, ?vaux, ?io, fun s => leaves_of_run (f := Device.aonLoss) rfl rfl rfl,
    fun v => ⟨rfl, rfl, closeSessions_all, rfl, rfl⟩⟩
  case handshake =>
    rintro s cores h v rfl asks
    have reask := hsReask_of_handshake asks cores
    refine ⟨fun past => handshakeReask_leaves (reask.trans (if_pos past)), fun early => handshakeReask_leaves (reask.trans (if_neg (by omega))),
      fun k l r next delays => ?_⟩
    have judged := hsTimeout_of_delay asks next delays
    exact ⟨fun past => handshakeTimeout_leaves (judged.trans (if_pos past)), fun early => handshakeTimeout_leaves (judged.trans (if_neg (by omega)))⟩
  case wake =>
    rintro s e v rfl
    refine ⟨fun no => holdWake_leaves (holdWake_of_no_source no), fun k source => ?_⟩
    have judged := holdWake_of_source source
    refine ⟨fun off => holdWake_leaves (judged.trans (if_neg ?_)), fun alive on => holdWake_leaves (judged.trans (if_pos (by rw [alive, on]; rfl)))⟩
    rwa [Bool.and_eq_true, not_and_or, Bool.not_eq_true, Bool.not_eq_true]
  case doze =>
    rintro s n k t v rfl die dom doze runs idle gated
    have judged := dozeExpiry_of_gated die dom doze runs idle gated
    exact ⟨fun past => dozeDwellExpiry_leaves (judged.trans (if_pos past)), fun early => dozeDwellExpiry_leaves (judged.trans (if_neg (by omega)))⟩
  case heat =>
    rintro s d t c v w names rfl alive die rfl
    have judged := temperature_of_alive (t := t) alive die
    exact ⟨fun trips => temperature_leaves names (judged.trans (if_pos trips)),
      fun cool => temperature_leaves names (judged.trans (if_neg (by simp only [cool, Bool.false_eq_true, not_false_eq_true])))⟩
  case vaux =>
    rintro s mv v rfl alive
    exact ⟨fun low => leaves_of_run (f := fun v => v.vaux mv) rfl alive (vaux_of_low low),
      fun high => leaves_of_run (f := fun v => v.vaux mv) rfl alive (vaux_of_high high)⟩
  case io =>
    rintro s v rfl alive
    exact ⟨leaves_of_run (f := Device.ioDrop) rfl rfl (ioDrop_of_alive alive),
      fun low => leaves_of_run (f := Device.ioReturn) rfl rfl (ioReturn_of_low alive low)⟩

end Sys2Proof.Proofs
end

section
/-! Reset pins and PWR_RST_CMD, and which resets are made, wait or are refused (16 R471, R483 to R486, R489). -/

namespace Sys2Proof.Proofs

open Sys2Proof Sys2Proof.Machine Sys2Proof.Laws

section
variable {v : Device}

theorem sysReset_of_heeds (heeds : v.heeds = true) : v.sysReset = v.coldReset 1 := if_pos heeds

theorem warmPin_of_heeds (heeds : v.heeds = true) : v.warmPin = v.resetAsk (.warm 3) := if_pos heeds

/-- A device that does not heed its inputs is not reset by them (19 R526). -/
theorem sysReset_of_deaf (deaf : v.heeds = false) : v.sysReset = v := if_neg (by simp [deaf])

theorem warmPin_of_deaf (deaf : v.heeds = false) : v.warmPin = v := if_neg (by simp [deaf])

section
variable {s : State} {w : Device}

theorem sysRstN_leaves (hw : s.dev.cleared.sysReset = w) : Leaves .sysRstN s w := leaves_of_run (f := Device.sysReset) rfl rfl hw

theorem warmRstN_leaves (hw : s.dev.cleared.warmPin = w) : Leaves .warmRstN s w := leaves_of_run (f := Device.warmPin) rfl rfl hw

end

/-- A value of PWR_RST_CMD with GO, bit 19, and nothing above it (16 R489). -/
theorem testBit_go {x : Nat} (go : x < 2 ^ 19) : (x + 2 ^ 19).testBit 19 = true := by
  rw [Nat.testBit_eq_decide_div_mod_eq, decide_eq_true_eq]
  omega

/-- Written with GO, PWR_RST_CMD asks for the reset that it names (16 R483). -/
theorem regApply_rstCmd_go {x m : Nat} {k : ResetKind} (go : x < 2 ^ 19) (names : resetOf (x + 2 ^ 19) = some k) :
    v.regApply m ⟨.PWR_RST_CMD, 40, 0, 0, 0⟩ ((x + 2 ^ 19) % 2 ^ 64) (2 ^ 64 - 1) = v.resetAsk k := by
  rw [Nat.mod_eq_of_lt (by omega), regApply_rstCmd, Device.resetCommand, if_pos (testBit_go go), names]

theorem resetOf_part {p : Nat} (part : p < 8) : resetOf (2 + 8 * p + 2 ^ 19) = some (.part p) := by
  have kind : nget (2 + 8 * p + 2 ^ 19) 0 3 = 2 := by unfold nget; omega
  have number : nget (2 + 8 * p + 2 ^ 19) 3 3 = p := by unfold nget; omega
  simp only [resetOf, kind, number]

theorem resetOf_die {d : Nat} (die : d < 64) : resetOf (3 + 64 * d + 2 ^ 19) = some (.die d) := by
  have kind : nget (3 + 64 * d + 2 ^ 19) 0 3 = 3 := by unfold nget; omega
  have number : nget (3 + 64 * d + 2 ^ 19) 6 6 = d := by unfold nget; omega
  simp only [resetOf, kind, number]

theorem resetOf_tile {n t : Nat} (die : n < 64) (tile : t < 128) : resetOf (4 + 64 * n + 4096 * t + 2 ^ 19) = some (.tile n t) := by
  have kind : nget (4 + 64 * n + 4096 * t + 2 ^ 19) 0 3 = 4 := by unfold nget; omega
  have number : nget (4 + 64 * n + 4096 * t + 2 ^ 19) 6 6 = n := by unfold nget; omega
  have place : nget (4 + 64 * n + 4096 * t + 2 ^ 19) 12 7 = t := by unfold nget; omega
  simp only [resetOf, kind, number, place]

section
variable {k : ResetKind} (other : ∀ b, k ≠ .cold b)
include other

/-- A reset that is not a cold one is refused, waits, or is made (16 R471, R483, R486). -/
theorem resetAsk_of_other :
    v.resetAsk k =
      if v.resetRefused k then v.resetDeny
      else if v.pwr.trans.isSome then
        if v.pwr.resets.contains k then v else { v with pwr := { v.pwr with resets := v.pwr.resets ++ [k] } }
      else
        (Device.resetNow { v with pwr := { v.pwr with hs := none, aim := if v.pwr.hs.isSome then none else v.pwr.aim } } k).settlePower := by
  cases k with
  | cold b => exact absurd rfl (other b)
  | _ => rfl

theorem resetAsk_of_refused (refused : v.resetRefused k = true) : v.resetAsk k = v.resetDeny := by
  rw [resetAsk_of_other other, if_pos refused]

end

/-- What a reset of a tile needs (16 R483). -/
theorem tileMayReset_of_working {b : Base} {n m : Nat} (works : b.tileState n m = tACTIVE ∨ b.tileState n m = tTEST) : b.tileMayReset n m = false := by
  have out : [tSPARE, tFENCED, tRETIRED].contains (b.tileState n m) = false := by
    rcases works with active | test
    · rw [active]; rfl
    · rw [test]; rfl
  rw [Base.tileMayReset, out, Bool.and_false]

/-- The reset of a die, with the memory stage of a memory-side die (16 R485). -/
theorem resetNow_die {d : Nat} (die : d < 44) (other : d ≠ 40) {w : Device}
    (reset : w = ((v.dieCore d true).onBase fun b => (b.wf 18 6 d .PWR_RST_FLAGS 40).resetDone 16 1 1)) :
    v.resetNow (.die d) = w.retrainAll (if 8 ≤ d ∧ d < 40 then [d] else []) := by
  subst reset
  rw [Device.resetNow, Device.dieReset, if_pos ⟨die, other⟩]

theorem resetNow_part {p : Nat} (valid : v.base.partValid p = true) :
    v.resetNow (.part p) = (v.partCore p).onBase fun b => b.resetDone (8 + p) 1 1 := by
  rw [Device.resetNow, Device.partReset, if_pos valid]

/-- A warm reset ends HOLD, or is made while the device is in no deeper state (16 R480, R483). -/
theorem resetNow_warm_of_hold (hold : v.pwr.effective = 3) (bring : v.pwr.bring = none) (b : Nat) : v.resetNow (.warm b) = v.holdExit b none := by
  rw [Device.resetNow, if_pos ⟨hold, by rw [bring]; rfl⟩]

theorem resetNow_warm_of_running (runs : v.pwr.effective < 3) (b : Nat) : v.resetNow (.warm b) = v.warmNow b := by
  rw [Device.resetNow, if_neg (by omega), if_neg (by omega)]

end

/-- Settles O57: a reset is asked for by its pin or its KIND, and is judged by what 16 R483 refuses and by the transition under way. -/
theorem resetsAreMadeOrRefused : Obligations.ResetsAreMadeOrRefused := by
  refine ⟨?pins, ?command, ?asks, ?made, fun v => rfl⟩
  case pins =>
    rintro s v rfl
    exact ⟨fun heeds => ⟨sysRstN_leaves (sysReset_of_heeds heeds), warmRstN_leaves (warmPin_of_heeds heeds)⟩,
      fun deaf => ⟨sysRstN_leaves (sysReset_of_deaf deaf), warmRstN_leaves (warmPin_of_deaf deaf)⟩⟩
  case command =>
    rintro s rt p d n t m v r rfl
    exact ⟨fun h => leaves_of_writeReg_device h rfl (regApply_rstCmd_go (by decide) (by rfl)),
      fun h part => leaves_of_writeReg_device h rfl (regApply_rstCmd_go (by omega) (resetOf_part part)),
      fun h die => leaves_of_writeReg_device h rfl (regApply_rstCmd_go (by omega) (resetOf_die die)),
      fun h die tile => leaves_of_writeReg_device h rfl (regApply_rstCmd_go (by omega) (resetOf_tile die tile)),
      fun h => leaves_of_writeReg_device h rfl (regApply_rstCmd_go (by decide) (by rfl))⟩
  case asks =>
    refine fun v k b => ⟨rfl, fun other => ⟨resetAsk_of_refused other, fun allowed => ?_⟩⟩
    have asked := resetAsk_of_other (v := v) other
    rw [if_neg (by simp [allowed])] at asked
    refine ⟨fun moves again => ?_, fun moves new => ?_, fun free => asked.trans (if_neg (by simp [free]))⟩
    · exact asked.trans ((if_pos (Option.isSome_iff_ne_none.mpr moves)).trans (if_pos again))
    · exact asked.trans ((if_pos (Option.isSome_iff_ne_none.mpr moves)).trans (if_neg (by simpa using new)))
  case made =>
    refine fun v p d n m b => ⟨resetNow_part, fun invalid => ?_, ?_, fun absent => ?_, fun works => ?_,
      fun hold bring => resetNow_warm_of_hold hold bring b, fun runs => resetNow_warm_of_running runs b⟩
    · exact resetAsk_of_refused (by nofun) (by simp only [Device.resetRefused, invalid, Bool.not_false])
    · intro die other w reset
      have made := resetNow_die die other reset
      exact ⟨fun lo hi => by rw [made, if_pos ⟨lo, hi⟩], fun out => by rw [made, if_neg (by omega)]⟩
    · exact resetAsk_of_refused (by nofun) (by simp only [Device.resetRefused, Bool.not_eq_true', decide_eq_false_iff_not]; omega)
    · exact resetAsk_of_refused (by nofun) (by simp only [Device.resetRefused, tileMayReset_of_working works, Bool.not_false])

end Sys2Proof.Proofs
end

section
/-! Performance counters: what a read latches, what is counted, and how a counter wraps (17 R491 to R501). -/

namespace Sys2Proof.Proofs

open Sys2Proof Sys2Proof.Machine Sys2Proof.Laws

/-- A key taken out of a table leaves what the table answers at every other key, whatever the table's order. -/
theorem map_find_del_apart {α : Type} {k l : Nat} (h : l ≠ k) (m : List (Nat × α)) : Map.find l (Map.del k m) = Map.find l m := by
  fun_induction Map.del k m <;> grind [Map.find]

section
variable (b : Base) {d : Nat}

/-- A register keeps its value when a register at another place is written, whatever the order of the file. -/
theorem rd_wr_elsewhere (x : Word) {r r' : Reg} {d' u u' i i' j j' : Nat} (apart : regAddr r' d' u' i' j' ≠ regAddr r d u i j) :
    (b.wr x r d u i j).rd r' d' u' i' j' = b.rd r' d' u' i' j' := by
  refine congrArg (Option.getD · _) ?_
  unfold Base.wr
  dsimp only
  split
  · exact map_find_del_apart apart _
  · exact (map_find_put ..).trans (if_neg apart)

/-- A register written with a value other than its reset value reads it, whatever the order of the file. -/
theorem rd_wr_of_ne_reset {x : Word} {r : Reg} {u i j : Nat} (other : x ≠ r.reset d u) : (b.wr x r d u i j).rd r d u i j = x := by
  unfold Base.rd Base.wr
  rw [if_neg other, map_find_put, if_pos rfl]
  rfl

end

/-! Reads. -/

section
variable {v : Device} {d i : Nat}

theorem counterRead_of_latched {x : Nat} (latched : Map.find (64 * d + i) v.pmc.latched = some x) :
    v.counterRead d i = (BitVec.ofNat 64 x, { v with pmc := { v.pmc with latched := Map.del (64 * d + i) v.pmc.latched } }) := by
  simp only [Device.counterRead, latched]

variable (fresh : Map.find (64 * d + i) v.pmc.latched = none)
include fresh

theorem counterRead_of_alone (alone : v.base.chained d i = false) : v.counterRead d i = (v.base.rd .DOCK_PMC_VAL d 0 i, v) := by
  simp only [Device.counterRead, fresh, alone, Bool.false_eq_true, if_false]

theorem counterRead_of_chained (chained : v.base.chained d i = true) :
    v.counterRead d i = (v.base.rd .DOCK_PMC_VAL d 0 i,
      { v with pmc := { v.pmc with latched := Map.put (64 * d + i + 1) (v.base.rf 0 48 .DOCK_PMC_VAL d 0 (i + 1)) v.pmc.latched } }) := by
  simp only [Device.counterRead, fresh, chained, if_true]

end

/-- A read of a counter's value leaves what the read makes of the latches, and answers its value. -/
theorem pmcValRead_leaves {s : State} {rt : Route} {d i m a : Nat} {v w : Device} {x : Word}
    (arrives : s.arrives rt (routeOff rt (regAddr .DOCK_PMC_VAL d 0 i)) 8 0x71 m a v) (place : placeOf a = .reg ⟨.DOCK_PMC_VAL, d, 0, i, 0⟩)
    (reached : v.base.reaches m ⟨.DOCK_PMC_VAL, d, 0, i, 0⟩ false = true) (read : v.counterRead d i = (x, w)) :
    Leaves (.pmcValRead rt d i) s (w.answer (.value x)) := by
  have heard : v.base.hears m ⟨.DOCK_PMC_VAL, d, 0, i, 0⟩ := .inl (show Reg.DOCK_PMC_VAL.spec.block ≠ .mbx by decide)
  have load := regLoad_pmcVal heard reached rfl a 8
  rw [read] at load
  exact leaves_of_readReg rfl arrives place load Resp.noConfusion

/-! Selection and filters. -/

section
variable {b : Base} {d i unit ev : Nat}

theorem dieSelects_eq_true_iff : b.dieSelects d i unit ev = true ↔
    bget (b.rd .DOCK_PMC_CTL d 0 i) 16 = true ∧ ¬(i % 2 = 1 ∧ b.chained d (i - 1) = true) ∧ fget (b.rd .DOCK_PMC_CTL d 0 i) 0 8 = ev ∧
      (fget (b.rd .DOCK_PMC_CTL d 0 i) 8 8 = 0xFF ∨ fget (b.rd .DOCK_PMC_CTL d 0 i) 8 8 = unit) ∧ bget (b.rd .DOCK_PMC_BAD d) i = false ∧
      ¬(b.counterOwner d i = none ∧ bget (b.rd .DOCK_PMC_GLOBAL d) 0 = true) := by
  unfold Base.dieSelects
  cases h : b.counterOwner d i <;> simp [and_assoc, imp_iff_not_or]

end

section
variable {b : Base} {o : Occur} {i : Nat}

/-- A range filter passes only an occurrence with an address inside the range. -/
theorem passes_outside {priv master mmask lo hi : Nat} (outside : ∀ a, o.addr = some a → a < lo ∨ hi < a) :
    o.passes priv master mmask (some (lo, hi)) = false := by
  unfold Occur.passes
  cases h : o.addr with
  | none => simp
  | some a =>
    have := outside a h
    simp only [Bool.and_eq_false_iff, decide_eq_false_iff_not]
    omega

theorem passesPart_outside {p priv lo hi : Nat} (outside : ∀ a, o.addr = some a → a < lo ∨ hi < a) :
    b.passesPart o p priv (some (lo, hi)) = false := by
  unfold Base.passesPart
  cases h : o.addr with
  | none => simp
  | some a =>
    have := outside a h
    simp only [Bool.and_eq_false_iff, decide_eq_false_iff_not]
    omega

/-- A partition counter counts only what its partition caused, or an occurrence without a cause in one of its units. -/
theorem passesPart_of_other {p priv : Nat} {window : Option (Nat × Nat)} (other : (if o.cls = 6 then b.partOfSrc o else o.part) ≠ some p) :
    b.passesPart o p priv window = false := by
  unfold Base.passesPart
  simp [other]

theorem dieFilters_of_part {p : Nat} (owner : b.counterOwner o.die i = some p) (other : (if o.cls = 6 then b.partOfSrc o else o.part) ≠ some p) :
    b.dieFilters o i = false := by
  simp only [Base.dieFilters, owner]
  exact passesPart_of_other other

theorem dieFilters_of_class (owner : b.counterOwner o.die i = none) (other : (fget (b.rd .DOCK_PMC_CTL o.die 0 i) 25 7).testBit o.cls = false) :
    b.dieFilters o i = false := by
  simp only [Base.dieFilters, owner, Occur.passes, other, Bool.false_and]

theorem dieFilters_of_range {k : Nat} (range : fget (b.rd .DOCK_PMC_CTL o.die 0 i) 48 3 = k) (named : 0 < k)
    (outside : ∀ a, o.addr = some a → a < b.rf 0 52 .DOCK_PMC_RBASE o.die 0 (k - 1) ∨ b.rf 0 52 .DOCK_PMC_RLIMIT o.die 0 (k - 1) < a) :
    b.dieFilters o i = false := by
  simp only [Base.dieFilters, range, if_neg (show ¬k = 0 by omega)]
  cases b.counterOwner o.die i with
  | none => exact passes_outside outside
  | some p => exact passesPart_outside outside

end

/-- An occurrence that no tile counts adds to the die's counters that select it and whose filters it passes. -/
theorem occur_of_die {v : Device} {o : Occur} (counting : v.base.counting = true) (adds : 0 < o.adds) (die : 8 ≤ o.die ∨ 68 ≤ o.unit) :
    v.occur o = v.setBase (v.base.countAll o.die
      (((List.range (dieCounters o.die)).filter fun i => v.base.dieSelects o.die i o.unit o.event && v.base.dieFilters o i).map
        fun i => (i, o.adds))) := by
  unfold Device.occur
  rw [if_pos (by simp [counting, adds]), if_neg (show ¬(o.die < 8 ∧ o.unit < 68) by omega)]
  rfl

/-! Additions of a die's counter. -/

/-- The value that the upper counter of a chain would take: a write of the lower one leaves it. -/
theorem rf_upper_of_wf_lower (b : Base) (d i x : Nat) :
    (b.wf 0 48 x .DOCK_PMC_VAL d 0 i).rf 0 48 .DOCK_PMC_VAL d 0 (i + 1) = b.rf 0 48 .DOCK_PMC_VAL d 0 (i + 1) :=
  congrArg (fget · 0 48) (rd_wr_elsewhere b (r := .DOCK_PMC_VAL) (r' := .DOCK_PMC_VAL) _ (by simp only [regAddr, Reg.spec]; omega))

section
variable {b : Base} {d i n : Nat}

theorem dieAdd_below (below : b.rf 0 48 .DOCK_PMC_VAL d 0 i + n < 2 ^ 48) :
    b.dieAdd d i n = b.wf 0 48 (b.rf 0 48 .DOCK_PMC_VAL d 0 i + n) .DOCK_PMC_VAL d 0 i := if_pos below

variable (full : 2 ^ 48 ≤ b.rf 0 48 .DOCK_PMC_VAL d 0 i + n)
include full

theorem dieAdd_of_sampling (samples : bget (b.rd .DOCK_PMC_CTL d 0 i) 17 = true) :
    b.dieAdd d i n = (b.wf 0 48 (sampleLoad (fget (b.rd .DOCK_PMC_CTL d 0 i) 18 6)) .DOCK_PMC_VAL d 0 i).coreSample d i
      (fget (b.rd .DOCK_PMC_CTL d 0 i) 8 8 - 72) :=
  (if_neg (Nat.not_lt.mpr full)).trans (if_pos samples)

variable (plain : bget (b.rd .DOCK_PMC_CTL d 0 i) 17 = false)
include plain

theorem dieAdd_of_part {p : Nat} (owner : b.counterOwner d i = some p) :
    b.dieAdd d i n = (fun b1 : Base => if bget (b.rd .DOCK_PMC_SAT d) i then b1 else b1.pmcEvent d 1 0x1002 (logic d) (some p))
      ((b.wf 0 48 (2 ^ 48 - 1) .DOCK_PMC_VAL d 0 i).wf i 1 1 .DOCK_PMC_SAT d) := by
  unfold Base.dieAdd
  dsimp only
  rw [if_neg (Nat.not_lt.mpr full), if_neg (by simp [plain]), owner]

variable (owner : b.counterOwner d i = none)
include owner

theorem dieAdd_of_alone (alone : b.chained d i = false) :
    b.dieAdd d i n = b.counterWraps d i ((b.rf 0 48 .DOCK_PMC_VAL d 0 i + n) % 2 ^ 48) := by
  unfold Base.dieAdd
  dsimp only
  rw [if_neg (Nat.not_lt.mpr full), if_neg (by simp [plain]), owner]
  exact if_neg (by simp [alone])

/-- The upper counter of a chain takes one for each wrap of the lower one. -/
theorem dieAdd_of_chained (chained : b.chained d i = true) :
    b.dieAdd d i n = (fun low : Base =>
        if b.rf 0 48 .DOCK_PMC_VAL d 0 (i + 1) + 1 < 2 ^ 48 then low.wf 0 48 (b.rf 0 48 .DOCK_PMC_VAL d 0 (i + 1) + 1) .DOCK_PMC_VAL d 0 (i + 1)
        else low.counterWraps d (i + 1) 0)
      (b.wf 0 48 ((b.rf 0 48 .DOCK_PMC_VAL d 0 i + n) % 2 ^ 48) .DOCK_PMC_VAL d 0 i) := by
  unfold Base.dieAdd
  dsimp only
  rw [if_neg (Nat.not_lt.mpr full), if_neg (by simp [plain]), owner]
  dsimp only
  rw [if_pos chained, rf_upper_of_wf_lower]

end

/-! Freezing. -/

/-- A later state has the die's global control as it was, and the owners of its counters. -/
def KeepsFreeze (b b1 : Base) (d : Nat) : Prop :=
  b1.catVals = b.catVals ∧ b1.rd .DOCK_PMC_GLOBAL d = b.rd .DOCK_PMC_GLOBAL d

theorem keepsFreeze_trans {b b1 b2 : Base} {d : Nat} (h : KeepsFreeze b b1 d) (k : KeepsFreeze b1 b2 d) : KeepsFreeze b b2 d :=
  ⟨k.1.trans h.1, k.2.trans h.2⟩

theorem keepsFreeze_wf (b : Base) (lo w x : Nat) {r : Reg} {d i : Nat} (apart : regAddr .DOCK_PMC_GLOBAL d ≠ regAddr r d 0 i) :
    KeepsFreeze b (b.wf lo w x r d 0 i) d :=
  ⟨rfl, rd_wr_elsewhere b (r := r) (r' := .DOCK_PMC_GLOBAL) _ apart⟩

/-- An event of no partition leaves the registers and the Catalogue. -/
theorem raise_device_keeps (b : Base) (code : Nat) (src : Src) :
    (b.raise code src none).catVals = b.catVals ∧ (b.raise code src none).regs = b.regs := by
  unfold Base.raise
  dsimp only
  split <;> exact ⟨rfl, rfl⟩

theorem keepsFreeze_pmcEvent (b : Base) (d bit code : Nat) (src : Src) : KeepsFreeze b (b.pmcEvent d bit code src none) d := by
  refine keepsFreeze_trans (keepsFreeze_wf b bit 1 1 (r := .DOCK_PMC_STATUS) (i := 0) (by simp [regAddr, Reg.spec, blockOffset])) ?_
  have kept := raise_device_keeps (b.wf bit 1 1 .DOCK_PMC_STATUS d 0 0) code src
  unfold Base.pmcEvent Base.flag
  dsimp only
  split
  · exact ⟨kept.1, congrArg (fun regs => (Map.find _ regs).getD _) kept.2⟩
  · exact ⟨rfl, rfl⟩

/-- Bit 0 of a register that was written 1 reads 1. -/
theorem bget_fput_lowest (v : Word) : bget (fput v 0 1 1) 0 = true := by
  rw [bget, fput_testBit]
  rfl

/-- FREEZE written into a die's global control is read back. -/
theorem frozen_of_wf (b : Base) (d : Nat) : bget ((b.wf 0 1 1 .DOCK_PMC_GLOBAL d).rd .DOCK_PMC_GLOBAL d) 0 = true := by
  have other : fput (b.rd .DOCK_PMC_GLOBAL d) 0 1 1 ≠ Reg.DOCK_PMC_GLOBAL.reset d 0 := by
    intro reset
    have clear : bget (Reg.DOCK_PMC_GLOBAL.reset d 0) 0 = false := by
      rw [show Reg.DOCK_PMC_GLOBAL.reset d 0 = 0 from rfl]
      rfl
    exact absurd (clear.symm.trans ((congrArg (bget · 0) reset).symm.trans (bget_fput_lowest _))) (by decide)
  rw [Base.wf, rd_wr_of_ne_reset b other]
  exact bget_fput_lowest _

/-- The state after a wrap of a device counter is recorded and before the die may freeze (17 R501). -/
def wrapRecorded (b : Base) (d i x : Nat) : Base :=
  ((b.wf 0 48 x .DOCK_PMC_VAL d 0 i).wf i 1 1 .DOCK_PMC_OVF d).pmcEvent d 0 0x1001 (logic d) none

theorem keepsFreeze_wrapRecorded (b : Base) (d : Nat) {i : Nat} (x : Nat) (inside : i < 64) : KeepsFreeze b (wrapRecorded b d i x) d :=
  keepsFreeze_trans
    (keepsFreeze_trans (keepsFreeze_wf b 0 48 x (r := .DOCK_PMC_VAL) (d := d) (i := i) (by simp only [regAddr, Reg.spec, blockOffset]; omega))
      (keepsFreeze_wf _ i 1 1 (r := .DOCK_PMC_OVF) (d := d) (i := 0) (by simp [regAddr, Reg.spec, blockOffset])))
    (keepsFreeze_pmcEvent _ d 0 0x1001 (logic d))

theorem counterWraps_of_armed {b : Base} {d i x : Nat} (arms : bget ((wrapRecorded b d i x).rd .DOCK_PMC_GLOBAL d) 1 = true) :
    b.counterWraps d i x = (wrapRecorded b d i x).wf 0 1 1 .DOCK_PMC_GLOBAL d := if_pos arms

/-- A die is frozen, and its counters' owners are those of an earlier state. -/
def FrozenFrom (b b1 : Base) (d : Nat) : Prop := b1.catVals = b.catVals ∧ bget (b1.rd .DOCK_PMC_GLOBAL d) 0 = true

theorem frozenFrom_wf {b b1 : Base} {d : Nat} (h : KeepsFreeze b b1 d) : FrozenFrom b (b1.wf 0 1 1 .DOCK_PMC_GLOBAL d) d :=
  ⟨h.1, frozen_of_wf b1 d⟩

/-- A wrap of a device counter freezes the die where its wrap freezes it, and leaves the owners. -/
theorem counterWraps_freezes {b : Base} {d i : Nat} (x : Nat) (inside : i < 64) (arms : bget (b.rd .DOCK_PMC_GLOBAL d) 1 = true) :
    FrozenFrom b (b.counterWraps d i x) d := by
  have kept := keepsFreeze_wrapRecorded b d x inside
  rw [counterWraps_of_armed (by rw [kept.2]; exact arms)]
  exact frozenFrom_wf kept

section
variable {b : Base} {d i n : Nat}

theorem freezes_eq_true_iff : b.freezes d i n = true ↔
    bget (b.rd .DOCK_PMC_GLOBAL d) 1 = true ∧ b.counterOwner d i = none ∧ bget (b.rd .DOCK_PMC_CTL d 0 i) 17 = false ∧
      2 ^ 48 ≤ b.rf 0 48 .DOCK_PMC_VAL d 0 i + n ∧ (b.chained d i = true → 2 ^ 48 ≤ b.rf 0 48 .DOCK_PMC_VAL d 0 (i + 1) + 1) := by
  unfold Base.freezes
  cases h : b.chained d i <;> simp [and_assoc]

/-- The lower counter of a chain has an even number. -/
theorem even_of_chained (chained : b.chained d i = true) : i % 2 = 0 := by
  simp only [Base.chained, Bool.and_eq_true, decide_eq_true_eq] at chained
  exact chained.1.1

/-- After an addition that sets FREEZE the die is frozen, and its counters' owners are as they were. -/
theorem dieAdd_freezes (freezes : b.freezes d i n = true) (inside : i < 64) : FrozenFrom b (b.dieAdd d i n) d := by
  obtain ⟨arms, owner, plain, full, upper⟩ := freezes_eq_true_iff.mp freezes
  cases chained : b.chained d i with
  | false =>
    rw [dieAdd_of_alone full plain owner chained]
    exact counterWraps_freezes _ inside arms
  | true =>
    have even := even_of_chained chained
    obtain ⟨cats, global⟩ := keepsFreeze_wf b 0 48 ((b.rf 0 48 .DOCK_PMC_VAL d 0 i + n) % 2 ^ 48) (r := .DOCK_PMC_VAL) (d := d) (i := i)
      (by simp only [regAddr, Reg.spec, blockOffset]; omega)
    rw [dieAdd_of_chained full plain owner chained]
    dsimp only
    rw [if_neg (Nat.not_lt.mpr (upper chained))]
    obtain ⟨cats', frozen⟩ := counterWraps_freezes (b := b.wf 0 48 ((b.rf 0 48 .DOCK_PMC_VAL d 0 i + n) % 2 ^ 48) .DOCK_PMC_VAL d 0 i) (i := i + 1) 0
      (by omega) (by rw [global]; exact arms)
    exact ⟨cats'.trans cats, frozen⟩

/-- One counter alone adds, unless it meets FREEZE. -/
theorem countAll_one : b.countAll d [(i, n)] =
    if (b.counterOwner d i).isNone && bget (b.rd .DOCK_PMC_GLOBAL d) 0 then b else b.dieAdd d i n := by
  unfold Base.countAll
  cases h : b.freezes d i n <;> simp [h]

/-- A counter's addition that sets FREEZE comes first, and another one of the device then adds nothing. -/
theorem countAll_frozen {j m : Nat} (freezes : b.freezes d i n = true) (waits : b.freezes d j m = false) (owner : b.counterOwner d j = none)
    (running : bget (b.rd .DOCK_PMC_GLOBAL d) 0 = false) (inside : i < 64) : b.countAll d [(j, m), (i, n)] = b.dieAdd d i n := by
  have other : (j, m) ≠ (i, n) := by
    rintro same
    cases same
    exact absurd (freezes.symm.trans waits) (by decide)
  have order : ([(j, m), (i, n)].filter fun x => b.freezes d x.1 x.2).take 1 = [(i, n)] := by simp [freezes, waits]
  obtain ⟨cats, frozen⟩ := dieAdd_freezes freezes inside
  have still : (b.dieAdd d i n).counterOwner d j = none := by
    rw [← owner]
    unfold Base.counterOwner Base.cat
    rw [cats]
  unfold Base.countAll
  dsimp only
  rw [order]
  simp [other, running, still, frozen]

end

/-! Additions of a tile's counter. -/

section
variable {v : Device} {n m i k : Nat} (wb : Nat)

theorem tileAdd_below (below : v.base.rf 0 48 .TILE_PMC_VAL (cd n) m i + k < 2 ^ 48) :
    v.tileAdd n m i k wb = v.onBase fun b => b.wf 0 48 (v.base.rf 0 48 .TILE_PMC_VAL (cd n) m i + k) .TILE_PMC_VAL (cd n) m i := if_pos below

variable (full : 2 ^ 48 ≤ v.base.rf 0 48 .TILE_PMC_VAL (cd n) m i + k)
include full

theorem tileAdd_of_sampling (samples : bget (v.base.rd .TILE_PMC_CTL (cd n) m i) 9 = true) :
    v.tileAdd n m i k wb =
      (v.onBase fun b => b.wf 0 48 (sampleLoad (fget (v.base.rd .TILE_PMC_CTL (cd n) m i) 10 6)) .TILE_PMC_VAL (cd n) m i).sample n m wb :=
  (if_neg (Nat.not_lt.mpr full)).trans (if_pos samples)

theorem tileAdd_of_limit (plain : bget (v.base.rd .TILE_PMC_CTL (cd n) m i) 9 = false) :
    v.tileAdd n m i k wb = (fun b1 : Base => v.setBase (if bget (v.base.rd .TILE_PMC_STATUS (cd n) m) i then b1
        else b1.pmcEvent (cd n) 1 0x1002 ⟨cd n, m⟩ (b1.partOfTile n m)))
      ((v.base.wf 0 48 (2 ^ 48 - 1) .TILE_PMC_VAL (cd n) m i).wf i 1 1 .TILE_PMC_STATUS (cd n) m) :=
  (if_neg (Nat.not_lt.mpr full)).trans (if_neg (by simp [plain]))

end

/-- Settles O58: a read answers what it latches or what was latched; an occurrence adds where it is selected and passes; and an addition that
crosses the limit wraps, reloads or stays by the kind of its counter, the one that freezes its die first. -/
theorem countersCountAndAreRead : Obligations.CountersCountAndAreRead := by
  refine ⟨?reads, ?selects, ?filters, ?occurs, ?adds, ?freezes, ?tiles⟩
  case reads =>
    intro s rt d i m a v arrives place reached
    have leaves {w : Device} {x : Word} (read : v.counterRead d i = (x, w)) := pmcValRead_leaves arrives place reached read
    exact ⟨fun x latched => leaves (counterRead_of_latched latched), fun fresh alone => leaves (counterRead_of_alone fresh alone),
      fun fresh chained => leaves (counterRead_of_chained fresh chained)⟩
  case selects =>
    rintro b d i unit ev c rfl
    refine ⟨fun stops => ?_, fun unselected enabled event source good even => ?_⟩
    · rw [← Bool.not_eq_true, dieSelects_eq_true_iff]
      rintro ⟨enabled, upper, event, source, good, frozen⟩
      rcases stops with off | other | ⟨every, one⟩ | bad | chain | stopped
      · exact absurd (off.symm.trans enabled) (by decide)
      · exact other event
      · exact source.elim every one
      · exact absurd (bad.symm.trans good) (by decide)
      · exact upper chain
      · exact frozen stopped
    · by_contra runs
      have selected := dieSelects_eq_true_iff.mpr ⟨enabled, fun odd => by omega, event, source, good, runs⟩
      exact absurd (unselected.symm.trans selected) (by decide)
  case filters =>
    rintro b o i p c rfl
    refine ⟨fun owner => ⟨fun caused other => ?_, fun uncaused other => ?_⟩, dieFilters_of_class, dieFilters_of_range rfl⟩
    · exact dieFilters_of_part owner (by rwa [if_neg caused])
    · exact dieFilters_of_part owner (by rwa [if_pos uncaused])
  case occurs =>
    rintro v o counting adds die b rfl
    exact occur_of_die counting adds die
  case adds =>
    rintro b d i n x c rfl rfl
    refine ⟨dieAdd_below, fun full => ⟨dieAdd_of_sampling full, fun plain => ⟨dieAdd_of_alone full plain, ?chain, ?part⟩⟩⟩
    case chain =>
      rintro owner chained y rfl
      have adds := dieAdd_of_chained full plain owner chained
      exact ⟨fun below => adds.trans (if_pos below), fun past => adds.trans (if_neg (Nat.not_lt.mpr past))⟩
    case part =>
      rintro p b1 owner rfl
      have adds := dieAdd_of_part full plain owner
      exact ⟨fun was => adds.trans (if_pos was), fun first => adds.trans (if_neg (by simp [first]))⟩
  case freezes =>
    refine fun b d i j n m => ⟨fun owner frozen => ?_, fun free => ?_, countAll_frozen⟩
    · rw [countAll_one, if_pos (by simp [owner, frozen])]
    · rw [countAll_one, if_neg]
      rcases free with owned | running
      · simp [owned]
      · simp [running]
  case tiles =>
    rintro v n m i k x wb c rfl rfl
    refine ⟨tileAdd_below wb, tileAdd_of_sampling wb, ?_⟩
    rintro full plain b1 rfl
    have adds := tileAdd_of_limit wb full plain
    exact ⟨fun was => adds.trans (congrArg v.setBase (if_pos was)), fun first => adds.trans (congrArg v.setBase (if_neg (by simp [first])))⟩

end Sys2Proof.Proofs
end
